-- ==== Sys2Proof/Syntax.lean ====
section
/-! DEFINITION. Syntax.lean: the commands of the CL-9616, one constructor for each row of the table of operations and
events, with the row's operands, and the plain types of the operands. A command is what the outside sends (a register
access, a frame, a pin) or an occurrence in the hardware that the specification names as one indivisible step. -/

namespace Sys2Proof

/-- Who sends a control-space access (R38): the host over the abutment link, or a module over VC7. -/
inductive Requester where
  | host
  | vc7 (module : Nat)
  deriving DecidableEq, Repr

/-- A fabric frame (R269), field by field, with its body. -/
structure Frame where
  fkind : Nat
  flags : Nat
  blen : Nat
  skey : Nat
  srcmod : Nat
  dstmod : Nat
  cls : Nat
  hops : Nat
  tag : Nat
  addr : Nat
  len : Nat
  code : Nat
  aop : Nat
  body : List Byte
  deriving DecidableEq, Repr

/-- A flit as it stands on a link (R242): header fields, payload from byte 12, and the CRC it carries. -/
structure Flit where
  ftype : Nat
  vc : Nat
  seq : Nat
  ack : Nat
  crvc0 : Nat
  crn0 : Nat
  crvc1 : Nat
  crn1 : Nat
  plen : Nat
  payload : List Byte
  crc : Nat
  deriving DecidableEq, Repr

/-- A light word as an edge converter sends it (R240), with the CRC it carries. -/
structure LightWord where
  lane : Nat
  rxpwr : Nat
  txpwr : Nat
  flags : Nat
  seq : Nat
  conv : Nat
  crc : Nat
  deriving DecidableEq, Repr

/-- A pattern register set: of a lane of a port (R262), of a mesh bridge or of a servo port (R264). -/
inductive PatSet where
  | lane (port : Fin 11) (lane : Fin 17)
  | mesh (bridge : Fin 11) (set : Fin 8)
  | servo (port : Fin 2)
  deriving DecidableEq, Repr

/-- A control block that a lane receives (R237), with the codewords that its receiver corrected and could not correct since the last
one (R256). -/
structure MarkerBlock where
  block : List Byte
  fixed : Nat
  lost : Nat
  deriving DecidableEq, Repr

/-- What a pylon finds at a boot step: whether the images of the slot in force and of the other one verify (R444). -/
structure BootRead where
  good : Bool
  otherGood : Bool
  deriving DecidableEq, Repr

/-- 66-bit blocks that the port of a servo engine receives (R317). -/
structure ServoBlocks where
  engine : Fin 2
  blocks : List Nat
  deriving DecidableEq, Repr

/-- Bits that reach a pattern checker (R263). -/
structure CheckerBits where
  set : PatSet
  bits : List Bool
  deriving DecidableEq, Repr

/-- The commands of the CL-9616: one constructor for each row of the table of operations and events. -/
inductive Instr where
  /-- CONTROL_REGISTER_WRITE (R35): A write to a control-space register that has no row of its own sets or ignores the field according to its access code. -/
  | controlRegisterWrite (r : Requester) (a : Nat) (v : Word64)
  /-- SUBMISSION_TAIL_DOORBELL (R193): A write of a new submission tail position is checked and either accepted or refused with ERR set. -/
  | submissionTailDoorbell (q : Fin 4096) (v : Fin 65536)
  /-- COMPLETION_HEAD_DOORBELL (R193): A write of a new completion head position is checked and either accepted or refused with ERR set. -/
  | completionHeadDoorbell (q : Fin 4096) (v : Fin 65536)
  /-- MAILBOX_UNKNOWN_COMMAND (R45): A mailbox handed over with GO and an undefined command code completes with STATUS 0x0001. -/
  | mailboxUnknownCommand (n : Fin 8)
  /-- JIG_START (R72): A write of START = 1 begins a jig load by copying the image from JIG_SRC into the staging store. -/
  | jigStart
  /-- JIG_ABORT (R81): A write of ABORT = 1 ends a load in the copy, validate or drain phase with error 0x11. -/
  | jigAbort
  /-- JIG_SEAL (R79): A write of SEAL = 1 seals the jig at once, or when a load in progress reaches Done or Failed. -/
  | jigSeal
  /-- JIG_COPY_COMPLETE (R72): The copy phase ends, or fails on a line that fails after re-read, and validation begins. -/
  | jigCopyComplete
  /-- JIG_VALIDATE_COMPLETE (R573): The validate phase finishes its header, framing and content passes, ending the load at the first error or moving to drain or apply. -/
  | jigValidateComplete
  /-- JIG_DRAIN_COMPLETE (R75): The drain condition of a set or job load is met and the apply phase begins. -/
  | jigDrainComplete
  /-- JIG_DRAIN_LIMIT_EXPIRY (R75): The drain phase reaches JIG_DRAIN_LIMIT with DRAIN = 0 and the load ends with error 0x10, restoring the previous configuration. -/
  | jigDrainLimitExpiry
  /-- JIG_APPLY_COMPLETE (R77): The apply phase finishes writing registers, extends the digest, performs held writes, raises the jig interrupt and logs jig-applied. -/
  | jigApplyComplete
  /-- SPINDLE_QUIESCE (R108): A write of SPN_CTL.QUIESCE stops or allows gangs beginning new groups. -/
  | spindleQuiesce (i : Fin 288) (v : Bool)
  /-- TEST_INJECTION (R571): A write of SPN_CTL.INJECT arms an injected check failure on the spindle's next qualifying DRAM line read. -/
  | testInjection (i : Fin 288) (v : Fin 4)
  /-- GANG_LAUNCH (R87): A gang launches once the spindle has a free gang number and enough allocation units, with x0–x7 written. -/
  | gangLaunch (i : Fin 288)
  /-- RESERVED_OPERATION (R93): An instruction word with a reserved class, operation or IMM encoding faults with code 0x01 at decode. -/
  | reservedOperation (i : Fin 288) (g : Fin 256)
  /-- NOP (R94): Does nothing for one cycle. -/
  | nopI (i : Fin 288) (g : Fin 256)
  /-- BR (R94): Branches to PC plus the sign-extended immediate. -/
  | br (i : Fin 288) (g : Fin 256)
  /-- BRALL (R94): Branches when PRED is 1 in every active thread. -/
  | brall (i : Fin 288) (g : Fin 256)
  /-- BRANY (R94): Branches when PRED is 1 in at least one active thread. -/
  | brany (i : Fin 288) (g : Fin 256)
  /-- MOVI (R94): Writes the sign-extended immediate to DST. -/
  | movi (i : Fin 288) (g : Fin 256)
  /-- MOVHI (R94): Writes the immediate into DST bits 31:16, keeping bits 15:0. -/
  | movhi (i : Fin 288) (g : Fin 256)
  /-- TID (R94): Writes the thread's active-thread index to DST. -/
  | tid (i : Fin 288) (g : Fin 256)
  /-- FTRD (R94): Writes fabric time to the DST pair. -/
  | ftrd (i : Fin 288) (g : Fin 256)
  /-- SETP (R94): Sets a predicate from SRC1 being non-zero. -/
  | setp (i : Fin 288) (g : Fin 256)
  /-- END (R94): Ends the gang and frees its allocation units, ending the request when it is the last gang. -/
  | endG (i : Fin 288) (g : Fin 256)
  /-- FADD (R128): FP32 addition rounded to nearest even. -/
  | fadd (i : Fin 288) (g : Fin 256)
  /-- FMUL (R128): FP32 multiplication rounded to nearest even. -/
  | fmul (i : Fin 288) (g : Fin 256)
  /-- FFMA (R128): FP32 fused multiply-add with one rounding. -/
  | ffma (i : Fin 288) (g : Fin 256)
  /-- FMAX (R129): FP32 maximum with defined zero and NaN handling. -/
  | fmax (i : Fin 288) (g : Fin 256)
  /-- FMIN (R129): FP32 minimum with defined zero and NaN handling. -/
  | fmin (i : Fin 288) (g : Fin 256)
  /-- FEXP2 (R130): Approximate 2 to the power SRC1 within 2 ulp. -/
  | fexp2 (i : Fin 288) (g : Fin 256)
  /-- FLOG2 (R130): Approximate base-2 logarithm within 2 ulp. -/
  | flog2 (i : Fin 288) (g : Fin 256)
  /-- FRCP (R130): Approximate reciprocal within 1 ulp. -/
  | frcp (i : Fin 288) (g : Fin 256)
  /-- FRSQ (R130): Approximate reciprocal square root within 1 ulp. -/
  | frsq (i : Fin 288) (g : Fin 256)
  /-- IADD (R128): INT32 addition wrapping modulo 2^32. -/
  | iadd (i : Fin 288) (g : Fin 256)
  /-- IMUL (R128): Low 32 bits of the INT32 product. -/
  | imul (i : Fin 288) (g : Fin 256)
  /-- AND (R94): Bitwise AND. -/
  | andB (i : Fin 288) (g : Fin 256)
  /-- OR (R94): Bitwise OR. -/
  | orB (i : Fin 288) (g : Fin 256)
  /-- XOR (R94): Bitwise exclusive OR. -/
  | xorB (i : Fin 288) (g : Fin 256)
  /-- SHL (R94): Shift left by SRC2[4:0]. -/
  | shl (i : Fin 288) (g : Fin 256)
  /-- SHR (R94): Logical shift right by SRC2[4:0]. -/
  | shr (i : Fin 288) (g : Fin 256)
  /-- FSETP (R129): Sets a predicate from an FP32 comparison selected by IMM. -/
  | fsetp (i : Fin 288) (g : Fin 256)
  /-- ISETP (R94): Sets a predicate from a signed INT32 comparison selected by IMM. -/
  | isetp (i : Fin 288) (g : Fin 256)
  /-- SHFL (R94): Writes SRC1 of the thread indexed by SRC2, or 0 outside the active set. -/
  | shfl (i : Fin 288) (g : Fin 256)
  /-- CVTF (R131): Converts SRC1 between the formats named in IMM with round to nearest even. -/
  | cvtf (i : Fin 288) (g : Fin 256)
  /-- PACK (R133): Packs 32 threads' values into a scaled pack record in the bowl. -/
  | pack (i : Fin 288) (g : Fin 256)
  /-- UNPACK (R136): Reads a pack record and writes each thread's element times its block scale. -/
  | unpack (i : Fin 288) (g : Fin 256)
  /-- TMMA (R123): Queues a tile matrix multiply-accumulate into an accumulator. -/
  | tmma (i : Fin 288) (g : Fin 256)
  /-- TMV (R94): Queues a matrix-vector multiply-accumulate into row 0 of an accumulator. -/
  | tmv (i : Fin 288) (g : Fin 256)
  /-- TZERO (R94): Clears an accumulator. -/
  | tzero (i : Fin 288) (g : Fin 256)
  /-- TSTORE (R127): Scales an accumulator and stores it converted into the bowl. -/
  | tstore (i : Fin 288) (g : Fin 256)
  /-- TENSOR_INSTRUCTION_COMPLETE (R91): The tensor engine finishes a queued TNS instruction and starts the next in queue order. -/
  | tensorInstructionComplete (i : Fin 288)
  /-- LD (R95): Issues a 32-bit load from a local address. -/
  | ld (i : Fin 288) (g : Fin 256)
  /-- ST (R98): Holds a 32-bit store to a local address in the commit buffer. -/
  | st (i : Fin 288) (g : Fin 256)
  /-- LDBLK (R95): Starts a block copy from DRAM into the bowl. -/
  | ldblk (i : Fin 288) (g : Fin 256)
  /-- STBLK (R95): Starts a block copy from the bowl into DRAM. -/
  | stblk (i : Fin 288) (g : Fin 256)
  /-- WAIT (R94): Waits until the gang has at most the given number of block copies in flight. -/
  | waitI (i : Fin 288) (g : Fin 256)
  /-- GLD (R94): Issues a 32-bit load from a global address. -/
  | gld (i : Fin 288) (g : Fin 256)
  /-- GST (R94): Holds a 32-bit store to a global address. -/
  | gst (i : Fin 288) (g : Fin 256)
  /-- GLDBLK (R288): Starts a block copy from a global address, split into requests within 2 KiB boundaries. -/
  | gldblk (i : Fin 288) (g : Fin 256)
  /-- GSTBLK (R288): Starts a block copy to a global address, split into requests within 2 KiB boundaries. -/
  | gstblk (i : Fin 288) (g : Fin 256)
  /-- AADD (R178): Atomic 32-bit add returning the old value. -/
  | aadd (i : Fin 288) (g : Fin 256)
  /-- AMAX (R178): Atomic unsigned 32-bit maximum returning the old value. -/
  | amax (i : Fin 288) (g : Fin 256)
  /-- ASWAP (R178): Atomic swap returning the old value. -/
  | aswap (i : Fin 288) (g : Fin 256)
  /-- ACAS (R178): Atomic 32-bit compare and swap. -/
  | acas (i : Fin 288) (g : Fin 256)
  /-- AADD64 (R178): Atomic 64-bit add returning the old value. -/
  | aadd64 (i : Fin 288) (g : Fin 256)
  /-- ACAS64 (R178): Atomic 64-bit compare and swap. -/
  | acas64 (i : Fin 288) (g : Fin 256)
  /-- BAR (R105): A gang arrives at the set barrier. -/
  | bar (i : Fin 288) (g : Fin 256)
  /-- RED (R106): A gang contributes to a lane-by-lane reduction across the set. -/
  | red (i : Fin 288) (g : Fin 256)
  /-- REDV (R106): A gang contributes bowl elements to an element-wise reduction across the set. -/
  | redv (i : Fin 288) (g : Fin 256)
  /-- FENCE (R94): The gang waits until its earlier stores, copies, remote writes and atomics reach their point of coherence. -/
  | fenceI (i : Fin 288) (g : Fin 256)
  /-- BAR_RELEASE (R105): The barrier releases once every live gang has arrived and any named fabric time is reached, incrementing EPOCH and attaching or detaching batch requests. -/
  | barRelease (set : Fin 36)
  /-- RED_RESULT (R106): The reduction tree delivers the RED result to every enabled thread. -/
  | redResult (set : Fin 36)
  /-- REDV_RESULT (R106): The reduction tree writes the REDV result into every member spindle's reduction buffer. -/
  | redvResult (set : Fin 36)
  /-- GSUM (R143): Queues on the gouge the writing of a block's summary record. -/
  | gsum (i : Fin 288) (g : Fin 256)
  /-- GSEL (R147): Queues on the gouge a block selection that writes the selection list or returns dense. -/
  | gsel (i : Fin 288) (g : Fin 256)
  /-- GOUGE_INSTRUCTION_COMPLETE (R155): The gouge finishes a GSUM or GSEL, writes its status word and starts the next queued instruction. -/
  | gougeInstructionComplete (lathe : Fin 36)
  /-- SAMPLE (R225): The headstock slice draws a token from DRAM logits and runs the stop tests. -/
  | sample (i : Fin 288) (g : Fin 256)
  /-- EMIT (R223): Appends a given token id to the request and runs the stop tests. -/
  | emit (i : Fin 288) (g : Fin 256)
  /-- KVB (R224): Returns the global address of a KV block, allocating it from the pool when needed. -/
  | kvb (i : Fin 288) (g : Fin 256)
  /-- LOAD_DATA_RETURN (R98): Checked data of a load returns to the spindle and writes its register. -/
  | loadDataReturn (i : Fin 288) (g : Fin 256) (num : Nat)
  /-- BLOCK_COPY_COMPLETE (R103): A block copy finishes, freeing its slot and releasing a waiting WAIT. -/
  | blockCopyComplete (i : Fin 288) (num : Nat)
  /-- REPLAY (R99): A failure status for a consumed line, or remote code 0x07, makes the spindle replay the consumer's replay unit once. -/
  | replay (i : Fin 288) (g : Fin 256)
  /-- HOME_SLICE_ACCESS (R175): An access from any agent reaches a line's home landing-cache slice and is performed atomically there. -/
  | homeSliceAccess (id : Nat) (ecc : Fin 3)
  /-- DRAM_LINE_READ (R169): A data line read from DRAM is checked against its CRC and delivered, or held and re-read. -/
  | dramLineRead (id : Nat) (mask : Nat) (cmask : Nat)
  /-- PIER_REREAD (R169): The pier's re-read of a failed line completes, delivering the line or returning a failure status and logging a detection failure. -/
  | pierReread (id : Nat) (mask : Nat) (cmask : Nat)
  /-- PARTIAL_WRITE_MERGE (R172): The merge reads of a partial write complete, performing the write or dropping it on three failures. -/
  | partialWriteMerge (id : Nat) (masks : List (Nat × Nat))
  /-- DRAM_WRITE_COMPLETE (R176): A write-through DRAM write completes and its kept copy may be evicted. -/
  | dramWriteComplete (line : Nat)
  /-- CODE_BUFFER_TIMEOUT (R167): 1 µs after a code-buffer entry became dirty, its dirty bursts are written with masked writes. -/
  | codeBufferTimeout (group : Nat)
  /-- MR4_READOUT (R162): Every 16 ms the temperature readout of each device is read and the refresh rate follows it. -/
  | mr4Readout (channel : Fin 768) (code : Fin 256)
  /-- PER_BANK_REFRESH (R185): A per-bank refresh falls due and is issued without blocking other banks. -/
  | perBankRefresh (channel : Fin 768) (bank : Fin 16)
  /-- PIER_INIT_GO (R168): A write of PIER_INIT.GO starts initialising every group, or is refused while the jig is loaded. -/
  | pierInitGo (p : Fin 4)
  /-- PIER_INIT_DONE (R168): The pier initialise completes and DONE is set. -/
  | pierInitDone (p : Fin 4)
  /-- ROL_FLUSH (R183): A write of ROLFLUSH begins invalidating every read-only line in the slice. -/
  | rolFlush (p : Fin 4)
  /-- ROL_FLUSH_DONE (R183): The read-only flush ends and ROLBUSY clears. -/
  | rolFlushDone (p : Fin 4)
  /-- ROLWAYS_WRITE (R183): Lowering ROLWAYS invalidates read-only lines in ways at or above the new value. -/
  | rolwaysWrite (p : Fin 4) (v : Fin 32)
  /-- SELF_REFRESH_REENTRY (R508): In M2 a pier's devices re-enter self refresh after 100 µs without access. -/
  | selfRefreshReentry (p : Fin 4)
  /-- QP_ENABLE (R574): A write of EN to a queue pair checks its rings and resets its positions, or disables reading. -/
  | qpEnable (q : Fin 4096) (v : Word64)
  /-- QP_ERR_CLEAR (R193): Clearing HDS_QP_STATUS.ERR resumes reading entries from SQHEAD. -/
  | qpErrClear (q : Fin 4096)
  /-- QP_RING_WRITE_HELD (R196): While HELD = 1 a write of a queue pair's completion ring is accepted and resets its completion positions. -/
  | qpRingWriteHeld (q : Fin 4096) (ctl : Bool) (v : Word64)
  /-- HDS_PROG_WRITE (R206): A write of HDS_PROG with VALID = 1 starts reading and checking the program header. -/
  | hdsProgWrite (n : Fin 64) (v : Word64)
  /-- PROGRAM_CHECK_DONE (R206): The header check ends, setting BAD and logging, or invalidating instruction caches and setting VALID. -/
  | programCheckDone (n : Fin 64)
  /-- KV_RETURN (R212): A write of HDS_KVRET pushes a block address onto the KV pool stack. -/
  | kvReturn (addr : Fin 0x80000000000)
  /-- KV_POOL_SIZE_WRITE (R212): A write of HDS_KVFREE.SIZE takes every pool entry as free, or is ignored while slots are in use. -/
  | kvPoolSizeWrite (v : Fin 16777216)
  /-- NEW (R213): A NEW submission entry is read, checked, and admitted to a set, deferred or completed. -/
  | newC
  /-- EXTEND (R213): An EXTEND submission entry continues a held sequence slot, or is deferred or completed. -/
  | extend
  /-- CANCEL (R199): A CANCEL submission entry ends the matching request of the queue pair. -/
  | cancel
  /-- FREE (R200): A FREE submission entry releases a held sequence slot. -/
  | freeC
  /-- DEFERRED_ADMISSION (R215): A deferred entry is admitted when a set, program or blocks become available. -/
  | deferredAdmission
  /-- DEFER_LIMIT_EXPIRY (R216): A deferred entry that has waited DEFER_LIMIT completes with 0x05. -/
  | deferLimitExpiry (k : Fin 4096)
  /-- DEADLINE_EXPIRY (R216): Fabric time passes an entry's DEADLINE before admission and it completes with 0x06. -/
  | deadlineExpiry (k : Fin 4096)
  /-- PREFIX_LOOKUP (R227): The bucket reads of a prefix lookup complete and the matched run is determined. -/
  | prefixLookup (h : Fin 8192)
  /-- PREFIX_IMPORT (R228): Matched blocks' table entries and summary records are written and MATCHED is set, allowing the first release. -/
  | prefixImport (h : Fin 8192)
  /-- FLUSH_DELAY_EXPIRY (R202): FLUSH µs after a request's oldest pending token arrived, a token entry becomes due. -/
  | flushDelayExpiry (h : Fin 8192)
  /-- COMPLETION_ENTRY_WRITE (R202): A due completion entry is written once its ring has room, raising the completion interrupt as IRQMODE selects. -/
  | completionEntryWrite (q : Fin 4096)
  /-- LINK_EN_ON (R247): Writing LNK_CTL.EN = 1 moves the port from OFF to DETECT. -/
  | linkEnOn (i : Fin 11)
  /-- LINK_EN_OFF (R247): Writing LNK_CTL.EN = 0 turns the port off and drops its flits in flight. -/
  | linkEnOff (i : Fin 11)
  /-- LINK_DRAIN_WRITE (R260): Writing LNK_CTL.DRAIN = 1 acts as a press in ACTIVE and starts a service drain. -/
  | linkDrainWrite (i : Fin 11)
  /-- LINK_DRAIN_CANCEL (R247): Writing LNK_CTL.DRAIN = 0 in DRAIN or SAFE acts as a second press. -/
  | linkDrainCancel (i : Fin 11)
  /-- LINK_TEST_ON (R247): Writing TEST = 1 in an allowed state enters TEST with link layer and FEC bypassed. -/
  | linkTestOn (i : Fin 11)
  /-- LINK_TEST_OFF (R247): Writing TEST = 0 leaves TEST for DETECT. -/
  | linkTestOff (i : Fin 11)
  /-- EQ_SAVE (R250): Writing SAVE = 1 in ACTIVE writes the port's equalisation record. -/
  | eqSave (i : Fin 11)
  /-- PATTERN_INJECT (R267): Writing INJ = 1 inverts one transmitted pattern bit. -/
  | patternInject (p : PatSet)
  /-- PATTERN_CLEAR (R267): Writing CLR = 1 clears the checker's ERRORS and BITS. -/
  | patternClear (p : PatSet)
  /-- SIGNAL_QUALIFIED (R247): Signal present on at least 4 lanes for 1 ms moves DETECT to RESTORE or TRAIN. -/
  | signalQualified (i : Fin 11) (lanes : Nat)
  /-- TRAINING_COMPLETE (R248): Cold training completes on at least 8 lanes and the port enters ALIGN. -/
  | trainingComplete (i : Fin 11) (lanes : Nat) (spare : Fin 17)
  /-- TRAINING_TIMEOUT (R247): 128 ms without training completion returns the port to DETECT, or to FAILED after three attempts. -/
  | trainingTimeout (i : Fin 11)
  /-- RELOCK_COMPLETE (R248): A fast relock completes and the port enters ALIGN. -/
  | relockComplete (i : Fin 11) (lanes : Nat)
  /-- RELOCK_TIMEOUT (R247): 1.5 ms without relock completion marks the record stale and starts cold training. -/
  | relockTimeout (i : Fin 11)
  /-- ALIGN_COMPLETE (R247): FEC lock and deskew on at least 8 lanes move the port to IDENT. -/
  | alignComplete (i : Fin 11) (lanes : Nat)
  /-- IDENT_SEND (R251): Every 1 µs in IDENT the port sends an IDENT flit. -/
  | identSend (i : Fin 11)
  /-- IDENT_FLIT (R251): A received IDENT flit is recorded, and the exchange ends once three identical copies and acknowledgement are held. -/
  | identFlit (i : Fin 11) (f : Flit) (acked : Bool)
  /-- EXPECTED_PEER_WRITE (R253): A write of RTR_PEER repeats the peer comparison and may move the port into or out of MISWIRED. -/
  | expectedPeerWrite (p : Fin 10) (v : Word64)
  /-- SIGNAL_LOST (R247): Signal lost on every lane for 1 ms returns the port to DETECT or OFF. -/
  | signalLost (i : Fin 11)
  /-- DATA_FLIT (R244): A received DATA flit is checked for CRC and sequence, acknowledged or NAKed, and its frame bytes passed to the router. -/
  | dataFlit (i : Fin 11) (f : Flit)
  /-- NULL_FLIT (R243): A received NULL flit delivers its ACK and credit returns. -/
  | nullFlit (i : Fin 11) (f : Flit)
  /-- NAK (R245): A received NAK resends from ACK + 1, taking the link down at the retry limit. -/
  | nak (i : Fin 11) (f : Flit)
  /-- LANECHG (R258): A received LANECHG propose or accept drives the lane change to the new lane map. -/
  | lanechg (i : Fin 11) (f : Flit)
  /-- DRAIN_FLIT (R260): A received DRAIN request, drained or cancel flit drives the service or calibration drain. -/
  | drainFlit (i : Fin 11) (f : Flit)
  /-- DRAIN_BUFFER_EMPTY (R260): Once queued flits are sent and the replay buffer is empty, the end sends DRAIN drained. -/
  | drainBufferEmpty (i : Fin 11)
  /-- LANE_MARKER (R238): A received lane marker deskews the lanes and counts CRC failures toward lane failure. -/
  | laneMarker (i : Fin 11) (lane : Fin 17) (m : MarkerBlock)
  /-- LIGHT_WORD (R241): A good light word on a trunk lane is stored, stamped and passed to the active servo engine. -/
  | lightWord (i : Fin 11) (w : LightWord)
  /-- LIGHT_WORD_TIMEOUT (R241): 100 µs without a good light word clears LNK_LIGHT.VALID. -/
  | lightWordTimeout (i : Fin 11) (lane : Fin 16)
  /-- LANE_FAILURE (R257): A failed active lane triggers a spare swap, width reduction or link down. -/
  | laneFailure (i : Fin 11) (lane : Fin 17)
  /-- SERVICE_PRESS (R259): An accepted service button press acts on the port by state, sets BUTTON, logs and raises the link interrupt. -/
  | servicePress (i : Fin 11)
  /-- RDREQ (R291): A read request frame is routed, or checked and performed at its target with a response. -/
  | rdreq (p : Fin 10)
  /-- RDRSP (R288): A read response frame is routed or completes its remote operation entry. -/
  | rdrsp (p : Fin 10)
  /-- WRREQ (R291): A write request frame is routed, or checked and performed at its target. -/
  | wrreq (p : Fin 10)
  /-- WRACK (R289): A write acknowledgement completes a remote write. -/
  | wrack (p : Fin 10)
  /-- ATREQ (R291): An atomic request frame is routed, or performed at its target's home slice. -/
  | atreq (p : Fin 10)
  /-- ATRSP (R288): An atomic response frame completes its remote operation. -/
  | atrsp (p : Fin 10)
  /-- REMOTE_OPERATION_SEND (R289): A remote operation is sent once its limits, ordering and quench or hold allow it. -/
  | remoteOperationSend (k : Fin 16384)
  /-- REMOTE_TIMEOUT (R290): A remote operation without response for RTR_CTL.TIMEOUT completes with 0x09. -/
  | remoteTimeout (k : Fin 16384)
  /-- NO_ROUTE_TIMEOUT (R280): An originating frame waiting for a usable hop for TIMEOUT completes with 0x08. -/
  | noRouteTimeout (k : Fin 16384)
  /-- TRANSIT_WAIT_EXPIRY (R281): A transit frame without a usable hop for NRWAIT is answered with 0x08 or discarded. -/
  | transitWaitExpiry (k : Nat)
  /-- MGMT_REGISTER_READ (R294): A management register read is served and answered with MOP 0x81. -/
  | mgmtRegisterRead (p : Fin 11)
  /-- MGMT_REGISTER_WRITE (R295): A management register write is accepted or refused and answered with MOP 0x82. -/
  | mgmtRegisterWrite (p : Fin 11)
  /-- READ_RESPONSE (R294): A management read response is delivered to the originating pylon. -/
  | readResponse (p : Fin 11)
  /-- WRITE_RESPONSE (R294): A management write response is delivered to the originating pylon. -/
  | writeResponse (p : Fin 11)
  /-- EVENT_NOTICE (R414): A received event notice is handed to the active pylon's firmware. -/
  | eventNotice (p : Fin 11)
  /-- QUENCH (R297): A QUENCH frame applies a stop or resume to origin frames and is forwarded with TTL − 1. -/
  | quench (p : Fin 10)
  /-- QUENCH_ORIGINATE (R297): Writing RTR_QUENCH.GO originates a QUENCH from the register fields. -/
  | quenchOriginate (v : Word64)
  /-- QUENCH_LAPSE (R297): A stop ends when fabric time reaches its non-zero UNTIL. -/
  | quenchLapse
  /-- SWAP_ARM (R282): Writing ARM = 1 arms a staged-table swap, firing at once and setting LATE when its time has passed. -/
  | swapArm
  /-- SWAP_DISARM (R282): Writing ARM = 0 disarms the swap. -/
  | swapDisarm
  /-- ROUTING_SWAP (R282): At RTR_SWAP_FT the staged entries become active in one cycle and a swap event is logged. -/
  | routingSwap
  /-- TIME_LOAD (R302): A write of FTU_LOAD at the root sets or steps fabric time, or is refused. -/
  | timeLoad (v : Word64)
  /-- FT_ENABLE (R307): Writing FTU_CTL.EN = 1 leaves OFF for UNSYNC or LOCKED. -/
  | ftEnable
  /-- FT_DISABLE (R307): Writing FTU_CTL.EN = 0 enters OFF and stops corrections. -/
  | ftDisable
  /-- ROOT_WRITE (R307): Writing ROOT = 1 makes the module the root, entering LOCKED or waiting for a load. -/
  | rootWrite
  /-- RESYNC (R307): Writing RESYNC = 1 returns to UNSYNC and releases the monotonic bound. -/
  | resync
  /-- TIME_REQUEST_SEND (R303): Every PERIOD µs a TIME request is sent on each carrying port. -/
  | timeRequestSend (i : Fin 11)
  /-- TIME_REQUEST (R303): A received TIME request is answered with a response carrying T2 and T3. -/
  | timeRequest (i : Fin 11) (f : Flit)
  /-- TIME_RESPONSE (R306): A received TIME response yields offset and delay and steers FT through the sync states. -/
  | timeResponse (i : Fin 11) (f : Flit)
  /-- PARENT_LOST (R307): When no parent is eligible a LOCKED non-root module enters HOLDOVER. -/
  | parentLost
  /-- HOLDOVER_TIMEOUT (R309): Holdover beyond HOLDMAX sets OOS and logs out-of-sync. -/
  | holdoverTimeout
  /-- SERVO_TICK (R330): At each tick's start time the engine runs the profile generators and begins the drive frame with the codes of the last evaluation. -/
  | servoTick (v : Fin 2)
  /-- SENSE_FRAME (R331): A good sense frame arrives and the engine begins evaluating the sample. -/
  | senseFrame (v : Fin 2) (blocks : List Nat)
  /-- SAMPLE_DEADLINE (R331): At T + RXDL without a good sense frame the sample is missed and evaluated with zero innovation. -/
  | sampleDeadline (v : Fin 2)
  /-- EVALUATION_COMPLETE (R334): The control-law evaluation of all mirrors completes, yielding the next codes and states. -/
  | evaluationComplete (v : Fin 2)
  /-- SERVO_ENABLE (R327): Writing SRV_CTL.EN starts or stops the engine's drive frames. -/
  | servoEnable (v : Fin 2) (en : Bool)
  /-- SERVO_TEST (R345): Writing SRV_CTL.TEST puts the servo lane into pattern test, unless the instance drives. -/
  | servoTest (v : Fin 2) (on : Bool)
  /-- SRV_TIME_WRITE (R330): A write of SRV_TIME is applied only when its LEAD and RXDL satisfy the bounds. -/
  | srvTimeWrite (v : Fin 2) (w : Word64)
  /-- MODE_WRITE (R341): A write of a mirror's MODE is taken to the next evaluation by the mode handover. -/
  | modeWrite (v : Fin 2) (m : Fin 128) (mode : Fin 8)
  /-- BANK_WRITE (R342): A write of a mirror's BANK switches coefficient banks at the next evaluation. -/
  | bankWrite (v : Fin 2) (m : Fin 128) (b : Fin 2)
  /-- COEFFICIENT_WRITE (R342): A coefficient write to a mirror's bank not in use is stored, otherwise ignored with IGNWR. -/
  | coefficientWrite (v : Fin 2) (b : Fin 2) (m : Fin 128) (o : Fin 256) (w : Word64)
  /-- RC_BUFFER_WRITE (R336): A write of a repetitive-buffer word is stored unless the mirror is in SC40. -/
  | rcBufferWrite (v : Fin 2) (m : Fin 128) (a : Fin 2) (n : Fin 512) (w : Word64)
  /-- CIRC_ARM (R353): Mailbox command 0x0D01 copies and checks a circuit descriptor and arms the port's circuit. -/
  | circArm (n : Fin 8)
  /-- CIRC_CANCEL (R370): Mailbox command 0x0D02 ends the port's running circuit with 0x0A. -/
  | circCancel (n : Fin 8)
  /-- CIRC_STATUS (R355): Mailbox command 0x0D03 returns the port's circuit status word and times. -/
  | circStatus (n : Fin 8)
  /-- CIRCUIT_SWITCH_MOMENT (R357): At START the armed circuit fires and begins its quiesce phase. -/
  | circuitSwitchMoment (k : Fin 4)
  /-- QUIESCE_END (R365): The quiesce phase ends on EMPTY = 1 or at 1 ms and the slew begins. -/
  | quiesceEnd (k : Fin 4)
  /-- CIRCUIT_PHASE_BOUND (R365): A circuit phase reaches its bound, proceeding with enough lanes or failing with the phase's result. -/
  | circuitPhaseBound (k : Fin 4)
  /-- TOKEN_GRANT (R376): The latch grants the free token to a requesting READY pylon, opening its VC7 gate. -/
  | tokenGrant (k : Fin 2)
  /-- PREF_WINDOW_EXPIRY (R379): 2 s after reset the latch begins granting to either pylon. -/
  | prefWindowExpiry
  /-- FORCEREL (R377): Writing PYL_CTL.FORCEREL with the right KEY releases the token with cause 0x2. -/
  | forcerel (k : Fin 2) (v : Word64)
  /-- LOCKSTEP_MISCOMPARE (R377): A lockstep miscompare releases the token with cause 0x3 and faults the pylon. -/
  | lockstepMiscompare (k : Fin 2)
  /-- SRAM_UNCORRECTABLE (R377): An uncorrectable SRAM error releases the token with cause 0x4 and faults the pylon. -/
  | sramUncorrectable (k : Fin 2)
  /-- WATCHDOG_EXPIRY (R377): Watchdog expiry releases the token with cause 0x5, or faults a standby pylon. -/
  | watchdogExpiry (k : Fin 2)
  /-- WATCHDOG_KICK (R401): Writing PYL_WDOG.KICK restarts the watchdog. -/
  | watchdogKick (k : Fin 2)
  /-- PYLON_POWER_CLOCK_FAULT (R377): A power or clock fault in a pylon's island releases the token with cause 0x7. -/
  | pylonPowerClockFault (k : Fin 2) (lost : Bool)
  /-- VC7_GATE_CLOSE (R378): After a planned or forced release the gate closes when the outbox is sent or 5 ms pass. -/
  | vc7GateClose (k : Fin 2)
  /-- SELF_TEST (R382): A periodic pylon self-test runs and updates PASS, FAILSEEN and READY. -/
  | selfTest (k : Fin 2) (n : Fin 10) (pass : Bool)
  /-- HEALTH_PUBLICATION (R383): Each pylon writes PYL_HEALTH and PYL_HEALTH_FT at least every 100 ms. -/
  | healthPublication (k : Fin 2)
  /-- HEARTBEAT_SEND (R385): Every 100 µs a pylon sends a heartbeat over the cross-link. -/
  | heartbeatSend (k : Fin 2)
  /-- HEARTBEAT (R385): A good heartbeat arrives, restoring XLINK after ten in succession. -/
  | heartbeat (k : Fin 2)
  /-- HEARTBEAT_LOSS (R385): 1 ms without a good heartbeat clears XLINK and logs a cross-link loss. -/
  | heartbeatLoss (k : Fin 2)
  /-- CHECKPOINT_WRITE (R386): The active pylon writes a checkpoint into the other slot after a change or at the 10 ms bound. -/
  | checkpointWrite
  /-- CHECKPOINT_NV_COPY (R386): At most once per second the newest slot is copied to NV when its GEN has changed. -/
  | checkpointNvCopy
  /-- CHECKPOINT_LOAD (R390): The incoming pylon finishes loading the chosen checkpoint into its servo instance, or sets CKPTLOST. -/
  | checkpointLoad
  /-- TAKEOVER_COMPLETE (R391): The incoming pylon loads circuits, completes open mailboxes, resumes recording and raises the handover interrupt. -/
  | takeoverComplete
  /-- PYL_HANDOVER (R397): Mailbox command 0x0E01 checks conditions and starts a planned handover. -/
  | pylHandover (n : Fin 8)
  /-- HANDOFF_CHECKPOINT (R398): The final HANDOFF checkpoint is written and checked, and the token is released with cause 0x1. -/
  | handoffCheckpoint (good : Bool)
  /-- PYLON_BOOT_STAGE (R444): A boot stage of a pylon completes its read, signature check and extend, moving to the next stage, STANDBY or recovery. -/
  | pylonBootStage (k : Fin 2) (ring : Bool) (r : BootRead)
  /-- COMPONENT_IMAGE_LOAD (R444): After the first grant a component image is checked, extended and started. -/
  | componentImageLoad (c : Fin 5) (good : Bool)
  /-- OCCURRENCE (R406): An occurrence reaches the event front end, is stamped, rate-limited and queued. -/
  | occurrence (code : Fin 65536) (sev : Fin 5) (src : Nat) (data : List Byte)
  /-- RECORD_WRITE (R410): The writer takes an entry from the FIFO, assigns SEQ and writes the record into its ring. -/
  | recordWrite (good : Bool)
  /-- SUMMARY_PERIOD (R408): At each SUMPERIOD multiple, summary records are queued for codes with counts. -/
  | summaryPeriod
  /-- FREEZE (R409): Writing FREEZE = 1 stops the writer and diverts arrivals to the holding queue. -/
  | freeze (i : Fin 2)
  /-- FREEZE_END (R409): Writing FREEZE = 0 ends the freeze and the held entries and freeze summary are written. -/
  | freezeEnd (i : Fin 2)
  /-- FREEZE_TIMEOUT (R409): A freeze lasting FRZMAX ends as for FREEZE = 0. -/
  | freezeTimeout (i : Fin 2)
  /-- VAULT_COMMIT (R411): The recorder copies uncommitted records to the vault on a period, Critical record, backlog or supply loss. -/
  | vaultCommit (good : Bool)
  /-- NOTICE_SEND (R414): Queued notice records are sent as MGMT frames within the per-ms budget. -/
  | noticeSend
  /-- VAULT_READ (R412): Mailbox command 0x0F01 returns up to three vault records and the commit mark. -/
  | vaultRead (n : Fin 8)
  /-- COUNTER_CLEAR (R421): Writing PMC_CTL.CLR zeroes the bank's cycle counter, counts and overflow bits. -/
  | counterClear (kind : Fin 7) (inst : Nat)
  /-- COUNTER_OVERFLOW (R423): A counter wraps, sets its OVF bit, may freeze the bank and may raise the counter interrupt. -/
  | counterOverflow (kind : Fin 7) (inst : Nat) (n : Fin 6)
  /-- CTR_ENABLE (R437): Writing CTR_CTL.EN = 1 resets HEAD, TAIL and status and starts epochs. -/
  | ctrEnable
  /-- SNAPSHOT_EPOCH (R429): At each epoch the selected banks latch and a snapshot record is written, dropped or missed. -/
  | snapshotEpoch
  /-- MANUAL_SNAPSHOT (R429): Writing CTR_CTL.NOW latches and writes one manual snapshot record. -/
  | manualSnapshot
  /-- INSTRUCTION_TAGGED (R434): The tagging countdown reaches 0 and the issued instruction is tagged. -/
  | instructionTagged (i : Fin 288)
  /-- TAG_RECORD_WRITE (R435): A tagged instruction's record is written to the tag ring or dropped, and a new countdown is drawn. -/
  | tagRecordWrite (i : Fin 288)
  /-- HISTOGRAM_CLEAR (R436): Writing CTR_HIST_CTL.CLR zeroes the set's bins and total. -/
  | histogramClear (h : Fin 17)
  /-- DRIVER_EXTEND (R442): Writing SEC_EXTGO.GO extends MEAS 11–15 by SEC_EXTDATA, or is refused. -/
  | driverExtend (v : Word64)
  /-- ATT_REPORT (R454): Mailbox command 0x1001 queues a signed attestation report written to DRAM. -/
  | attReport (n : Fin 8)
  /-- ATTESTATION_REQUEST (R455): A VC7 attestation request passes the token bucket and is queued, or is refused. -/
  | attestationRequest (p : Fin 11)
  /-- ATTESTATION_REPORT_FRAGMENT (R455): A received report fragment is kept, and the outbox entry completes when all have arrived. -/
  | attestationReportFragment (p : Fin 11)
  /-- RESV_WRITE_COMPLETE (R448): A reservation raise of RESV is written and read back, or fails. -/
  | resvWriteComplete (good : Bool)
  /-- SIGNATURE_COMPLETE (R449): The signer completes a report with index NEXT and may start a background reservation raise. -/
  | signatureComplete
  /-- KEY_REVOKE (R446): Mailbox command 0x1002 checks a revocation record and revokes a fuse key slot. -/
  | keyRevoke (n : Fin 8)
  /-- OWNER_SET (R472): Mailbox command 0x1108 sets the owner root when it is empty. -/
  | ownerSet (n : Fin 8)
  /-- OWNER_RECORD (R472): Mailbox command 0x1109 applies a signed owner record to lock, unlock or replace the root. -/
  | ownerRecord (n : Fin 8)
  /-- UPD_START (R463): Mailbox command 0x1101 takes the update lock and stages a host image after header checks. -/
  | updStart (n : Fin 8) (rivals : List (Fin 11))
  /-- UPD_COMMIT (R475): Mailbox command 0x1102 writes the staged image into the component's inactive slots. -/
  | updCommit (n : Fin 8)
  /-- UPD_ACTIVATE (R476): Mailbox command 0x1103 switches the component to its committed slot. -/
  | updActivate (n : Fin 8)
  /-- UPD_CONFIRM (R478): Mailbox command 0x1104 clears PENDING and frees the previous settings. -/
  | updConfirm (n : Fin 8)
  /-- UPD_REVERT (R478): Mailbox command 0x1105 reactivates the previous slot and settings of a pending component. -/
  | updRevert (n : Fin 8)
  /-- UPD_ABORT (R473): Mailbox command 0x1106 releases the update lock and clears staging. -/
  | updAbort (n : Fin 8)
  /-- FABRIC_UPD_START (R474): An update frame with UOP START takes the lock for its sender and checks the header. -/
  | fabricUpdStart (p : Fin 11) (rivals : List (Fin 11))
  /-- FABRIC_UPD_DATA (R474): An update frame with UOP DATA stages image bytes in offset order. -/
  | fabricUpdData (p : Fin 11)
  /-- FABRIC_UPD_COMMIT (R475): An update frame with UOP COMMIT commits the staged image. -/
  | fabricUpdCommit (p : Fin 11)
  /-- FABRIC_UPD_ACTIVATE (R476): An update frame with UOP ACTIVATE activates the committed slot and is answered at its end. -/
  | fabricUpdActivate (p : Fin 11)
  /-- FABRIC_UPD_CONFIRM (R478): An update frame with UOP CONFIRM confirms a pending component. -/
  | fabricUpdConfirm (p : Fin 11)
  /-- FABRIC_UPD_REVERT (R478): An update frame with UOP REVERT reverts a pending component. -/
  | fabricUpdRevert (p : Fin 11)
  /-- FABRIC_UPD_ABORT (R474): An update frame with UOP ABORT releases the fabric holder's lock. -/
  | fabricUpdAbort (p : Fin 11)
  /-- UPDATE_ANSWER (R474): A received MOP 0x85 update answer is delivered to the originating pylon. -/
  | updateAnswer (p : Fin 11)
  /-- IMAGE_STAGED (R464): Once all image bytes are staged, the body digest and signature are checked. -/
  | imageStaged
  /-- COMMIT_COMPLETE (R475): The slot write completes or fails its read-back, completing COMMIT. -/
  | commitComplete (good : Bool)
  /-- ACTIVATION_COMPLETE (R476): A component's activation ends, setting PENDING, extending its measurement and releasing the lock. -/
  | activationComplete
  /-- ACTIVATION_READY_TIMEOUT (R477): A rebooted pylon not READY within 12.4 s is restored and ACTIVATE ends with 0x10 or 0x11. -/
  | activationReadyTimeout
  /-- LOCK_IDLE_TIMEOUT (R470): IDLE seconds without an accepted command release the update lock and clear staging. -/
  | lockIdleTimeout
  /-- RECOVERY_REQUEST (R482): Writing UPD_RECOV.REQ with the key makes the named pylon enter ROM recovery at its next boot. -/
  | recoveryRequest (v : Word64)
  /-- RECOVERY_DOWNLOAD (R483): Writing UPD_RECOV.GO checks and writes the staged recovery image and resets the pylon. -/
  | recoveryDownload (v : Word64)
  /-- ZONE_SAMPLE (R487): Every 10 ms each zone temperature is sampled and elements that drifted beyond DELTA become due. -/
  | zoneSample (temps : List Byte)
  /-- CALIBRATION_REQUEST (R499): Writing CAL_REQ.GO makes an element due as a request. -/
  | calibrationRequest (e : Fin 128)
  /-- CALIBRATION_START (R489): A due element begins calibration once no blocking condition holds. -/
  | calibrationStart (mem : Bool)
  /-- PORT_CALIBRATION_COMPLETE (R491): The retune in RECAL ends, the port returns to ACTIVE and the run passes or fails. -/
  | portCalibrationComplete (i : Fin 11) (lanes : Nat) (spare : Fin 17)
  /-- MEMORY_CALIBRATION_COMPLETE (R495): A channel group calibration ends, releasing held transactions with a pass or fail. -/
  | memoryCalibrationComplete (pass : Bool)
  /-- STARTUP_CALIBRATION_COMPLETE (R488): Start-up calibration of all channel groups ends and DRAM accesses proceed. -/
  | startupCalibrationComplete (fails : List (Fin 96))
  /-- POWER_SAMPLE (R502): Every 10 µs input power is compared with the envelope limits to throttle, pace or raise the clock. -/
  | powerSample (pin : Nat) (avg : Nat) (vbus : Nat) (estore : Nat)
  /-- THERMAL_TRIP (R503): TJMAX at THROT + 10 °C for 1 ms runs the shutdown sequence with cause 2. -/
  | thermalTrip (tj : Byte) (die : Fin 7)
  /-- ENV_WRITE (R501): A write of PWR_CTL.ENV selects an envelope, clamped to the ceiling. -/
  | envWrite (env : Fin 4)
  /-- ENTER_M2 (R506): Writing GO with REQ = 2 moves the module to drowse, or is refused. -/
  | enterM2
  /-- ENTER_M3 (R506): Writing GO with REQ = 3 moves the module to park, or is refused. -/
  | enterM3
  /-- ENTER_M4 (R509): Writing GO with REQ = 4 commits the vault and NV copy and powers the module off. -/
  | enterM4
  /-- LEAVE_M2_M3 (R506): Writing GO with REQ = 0 returns the module from M2 or M3. -/
  | leaveM2M3
  /-- STATE_TRANSITION_COMPLETE (R507): A module state transition ends and BUSY clears. -/
  | stateTransitionComplete
  /-- POWER_ON (R514): The busbar in range with PWR_EN high starts the power-up sequence. -/
  | powerOn
  /-- MODULE_RESET (R510): RESET_N held low puts the whole module into reset. -/
  | moduleReset
  /-- MODULE_RESET_RELEASE (R553): RESET_N deasserted samples the straps and starts boot and start-up calibration. -/
  | moduleResetRelease (slotId : Fin 64) (pref : Bool)
  /-- LATHE_DIE_RESET (R511): Setting PWR_RST.LDn stops a lathe die and ends requests on sets using it with 0x07. -/
  | latheDieReset (d : Fin 2)
  /-- LATHE_DIE_RESET_RELEASE (R511): Clearing PWR_RST.LDn rewrites the die's jig registers and readies it. -/
  | latheDieResetRelease (d : Fin 2)
  /-- PIER_DIE_RESET (R512): Setting PWR_RST.PDn drains the pier, puts its devices in self refresh and invalidates its slice. -/
  | pierDieReset (d : Fin 4)
  /-- PIER_DIE_RESET_RELEASE (R512): Clearing PWR_RST.PDn starts the pier's return, taking stored calibration settings. -/
  | pierDieResetRelease (d : Fin 4)
  /-- PIER_READY (R512): The pier becomes ready after release and waiting accesses proceed. -/
  | pierReady (d : Fin 4)
  /-- FABRIC_PORT_RESET (R510): Setting PWR_RST.PORTp puts the port OFF and moves its queued frames. -/
  | fabricPortReset (p : Fin 10)
  /-- FABRIC_PORT_RESET_RELEASE (R510): Clearing PWR_RST.PORTp releases the port, which stays OFF, and re-enables its AUX supply. -/
  | fabricPortResetRelease (p : Fin 10)
  /-- PYLON_RESET (R510): Setting PWR_RST.PYLA or PYLB resets the pylon, releasing the token with cause 0x6 when it holds it. -/
  | pylonReset (k : Fin 2)
  /-- PYLON_RESET_RELEASE (R70): Clearing a pylon reset rewrites its servo jig fields and starts its boot. -/
  | pylonResetRelease (k : Fin 2)
  /-- HOST_LINK_RESET (R535): An HRST frame or PWR_RST.HOST resets H and the ABT block and sets HELD. -/
  | hostLinkReset (hrst : Bool)
  /-- HOST_LINK_RESET_RELEASE (R535): The host-link reset releases and the module enables H for cold training. -/
  | hostLinkResetRelease
  /-- SUPPLY_LOSS (R516): The busbar below 36 V for 20 µs starts the shutdown sequence with cause 0. -/
  | supplyLoss
  /-- PWR_EN_LOW (R516): PWR_EN going low starts the shutdown sequence with cause 1. -/
  | pwrEnLow
  /-- SHUTDOWN_NV_COMPLETE (R516): The NV write in progress completes and the emergency vault commit runs before PWR_GOOD falls. -/
  | shutdownNvComplete
  /-- SUPPLY_OUT_OF_RANGE (R557): The busbar leaving 40–60 V sets PWR_FAULT.SUPPLY. -/
  | supplyOutOfRange (vbus : Nat)
  /-- HOLDUP_LOW (R515): The hold-up bank not charged within 3 s, or falling below, sets HOLDUPLOW and logs. -/
  | holdupLow
  /-- SETTINGS_SAVE (R519): Mailbox command 0x1201 writes the settings fields into the current-format region. -/
  | settingsSave (n : Fin 8) (good : Bool)
  /-- SETTINGS_DEFAULT (R519): Mailbox command 0x1202 marks the settings region empty. -/
  | settingsDefault (n : Fin 8)
  /-- MRD (R528): A host read frame is performed and answered with CPL frames. -/
  | mrd
  /-- MWR (R528): A host write frame is performed in arrival order. -/
  | mwr
  /-- MSI_MODERATION_EXPIRY (R533): When a vector's moderation interval ends with its bit pending, one MSI is sent. -/
  | msiModerationExpiry (v : Fin 512)
  /-- HELD_RELEASE (R535): Writing ABT_CTL.RELEASE = 1 clears HELD after a host-link reset. -/
  | heldRelease
  /-- AUX_OVERLOAD (R546): An AUX_3V3 overload turns the port's supply off and takes its link down. -/
  | auxOverload (i : Fin 11)
  /-- MODULE_INFO (R554): Mailbox command 0x1301 returns the serial number, sampled straps, issue and IDCODE. -/
  | moduleInfo (n : Fin 8)
  /-- TAP_RESET (R565): TRST_N low or five TCK cycles with TMS high puts the TAP in Test-Logic-Reset with IDCODE loaded. -/
  | tapReset
  /-- EXTEST (R565): The EXTEST instruction drives the boundary register, only in module reset. -/
  | extest
  /-- IDCODE (R564): The IDCODE instruction selects the 32-bit identification register. -/
  | idcode
  /-- SAMPLE_PRELOAD (R563): The SAMPLE/PRELOAD instruction samples and preloads the boundary register. -/
  | samplePreload (shift : List Bool)
  /-- CLAMP (R565): The CLAMP instruction holds pins from the boundary register with bypass selected, only in module reset. -/
  | clamp
  /-- HIGHZ (R565): The HIGHZ instruction places outputs in high impedance, only in module reset. -/
  | highz
  /-- EXTEST_PULSE (R565): The IEEE 1149.6 EXTEST_PULSE instruction tests AC lanes, only in module reset. -/
  | extestPulse
  /-- EXTEST_TRAIN (R565): The IEEE 1149.6 EXTEST_TRAIN instruction tests AC lanes, only in module reset. -/
  | extestTrain
  /-- BYPASS (R563): The BYPASS instruction selects the 1-bit bypass register. -/
  | bypass (code : Fin 256)
  /-- TEST_ACCESS_UNLOCK (R565): A reserved TAP instruction entering force unlocks test access, extending MEAS 10 and logging. -/
  | testAccessUnlock (code : Fin 256)
  /-- SERVO_BLOCK_LOCK (R317): The servo receiver gains block lock after 64 valid sync headers in succession. -/
  | servoBlockLock (b : ServoBlocks)
  /-- SERVO_BLOCK_LOCK_LOSS (R317): The servo receiver loses block lock when 16 of any 64 headers are invalid, clearing SRV_STATUS.LINK. -/
  | servoBlockLockLoss (b : ServoBlocks)
  /-- CHECKER_LOCK (R263): A pattern checker locks after 128 matching bits, or 4 matching USER words, and begins counting ERRORS and BITS. -/
  | checkerLock (c : CheckerBits)
  /-- CHECKER_LOCK_LOSS (R263): A pattern checker loses lock when more than 1,024 of any 16,384 bits are in error and stops counting. -/
  | checkerLockLoss (p : PatSet) (errs : Nat)
  /-- LATHE_DIE_READY (R511): A released lathe die becomes ready within 1 ms and deferred admissions to its sets may proceed. -/
  | latheDieReady (d : Fin 2)
  /-- HOLDUP_CHARGED (R515): The capacitor bank reaches 40 ms of shutdown energy and PWR_STATUS.HOLDUP becomes 1. -/
  | holdupCharged
  /-- THERMAL_THROTTLE (R503): TJMAX reaching THROT lowers the clock, sets THERMTHROT and logs 0x1105, and falling 2 °C below it ends the hold. -/
  | thermalThrottle (tj : Byte) (die : Fin 7)
  /-- INLET_OVER_TEMPERATURE (R503): The cold-plate inlet sensor reading above 40 °C sets PWR_FAULT.INLETHOT. -/
  | inletOverTemperature (t : Byte)
  /-- PYLON_ISLAND_POWER_RESTORED (R381): A pylon island that lost power is powered again and the pylon enters BOOT. -/
  | pylonIslandPowerRestored (k : Fin 2)
  /-- INSTRUCTION_FETCH_RETURN (R86): A fetch line filled through the landing cache returns to the instruction cache and the waiting gang may issue. -/
  | instructionFetchReturn (i : Fin 288) (g : Fin 256)
  /-- SAMPLE_LOGITS_READ (R225): The headstock slice's read of a SAMPLE's logits completes, the token is drawn, appended and stop-tested, and DST is written. -/
  | sampleLogitsRead (i : Fin 288) (g : Fin 256)
  deriving DecidableEq, Repr

end Sys2Proof
end

