-- ==== Sys2Proof/Config.lean ====
section
/-! DEFINITION. Config.lean: what an implementation fixes and the specification leaves open. Every constant here is
opaque: nothing can be proved of its value, so a claim about the module holds whatever it is. -/

namespace Sys2Proof

/-- Free values (log 1): the value drawn when `State.free` stands at the given count. Used wherever the specification
says that some value results and does not say which: the rounding of an approximate operation within its bound, an
order of addition left to the engine, results of mismatched collectives, and every draw of the hardware random source. -/
opaque Config.freeNat : Nat → Nat

/-- Whether a signature over a digest is good under an XMSS^MT public key (R445, R447): key, message, signature.
The module computes RFC 8391; the model leaves the outcome open (log 2). -/
opaque Config.xmssGood : List Byte → List Byte → List Byte → Bool

/-- The signature that the module's attestation key makes with an index over a message (R447 to R449; log 2). -/
opaque Config.xmssSign : Nat → List Byte → List Byte

/-- The public key of the module's attestation key (R447; log 2). -/
opaque Config.attestationKey : List Byte

/-- What a profile generator holds when a rate or its change leaves 32 bits (R358; log 1). -/
opaque Config.profileOver : Int → Nat

/-- The VMAX, AMAX and JMAX that act on the mirrors of a port on which no circuit has been armed (R358; log 1), each 1 less. -/
opaque Config.profileLimit : Nat → Nat

/-- The 16 bytes, as a number, that the measurement log writes as LABEL for an extend of a KIND and a register other than a
driver's: the specification gives no component's name (R443; log 1). -/
opaque Config.logLabel : Nat → Nat → Nat

/-- The 64-byte digests, as numbers, of the fuse block over its roots and states, whose layout the specification does not give,
and of the boot ROM of a pylon (R440; log 1). -/
opaque Config.fuseDigest : List Nat → Nat
opaque Config.romDigest : Nat → Nat

/-- Whether pylon firmware of one settings format can read a region of an older one, and what it converts the field values to
(R479, R480; log 1). -/
opaque Config.settingsReadable : Nat → Nat → Bool
opaque Config.settingsConvert : Nat → Nat → List Nat → List Nat

/-- What goes wrong in the storage cells during the `n`-th access that an agent makes to a line (log 65): what its slice's array
meets (R180: of the remainder by 3, 1 a single-bit and 2 a double-bit error), and the bits of the line and of its check that come
back wrong in its `k`-th read from the devices (R169). -/
opaque Config.upsetArray : Nat → Nat
opaque Config.upsetRead : Nat → Nat → Nat × Nat

/-- Bits in error among received bits of SSPRQ, a pattern of IEEE 802.3dj (R262; log 75). -/
opaque Config.ssprqErrors : List Bool → Nat

/-- The serial number of the module, 16 bytes (R554; log 3). -/
opaque Config.serial : List Byte

/-- The length in bytes of an image signature (R447). -/
def Config.signatureBytes : Nat := 4963

end Sys2Proof
end

