-- ==== Sys2Proof/Machine/Store.lean ====
section
/-! DEFINITION. Machine/Store.lean: a sparse map from numbers to plain values, in one canonical form: keys
strictly rising, no entry equal to what an unlisted key reads as. Registers, memory bytes and the other large
arrays of the module are held so; two equal contents are then equal lists. -/

namespace Sys2Proof.Machine

/-- Read key `k`; an unlisted key reads `d k`. -/
def smapGet {V : Type} (d : Nat → V) : List (Nat × V) → Nat → V
  | [], k => d k
  | (a, v) :: m, k => if a = k then v else smapGet d m k

/-- Drop key `k`. -/
def smapDrop {V : Type} : List (Nat × V) → Nat → List (Nat × V)
  | [], _ => []
  | (a, v) :: m, k => if a = k then smapDrop m k else (a, v) :: smapDrop m k

/-- Put key `k` at its place in a rising list that does not hold it. -/
def smapInsert {V : Type} : List (Nat × V) → Nat → V → List (Nat × V)
  | [], k, v => [(k, v)]
  | (a, w) :: m, k, v => if a < k then (a, w) :: smapInsert m k v else (k, v) :: (a, w) :: m

/-- Write key `k`; the value an unlisted key reads as leaves no entry. -/
def smapSet {V : Type} [DecidableEq V] (d : Nat → V) (m : List (Nat × V)) (k : Nat) (v : V) :
    List (Nat × V) :=
  if v = d k then smapDrop m k else smapInsert (smapDrop m k) k v

/-- The canonical form: keys strictly rising, no entry equal to the value an unlisted key reads as. -/
def smapWf {V : Type} [DecidableEq V] (d : Nat → V) : List (Nat × V) → Bool
  | [] => true
  | [(a, v)] => decide (v ≠ d a)
  | (a, v) :: (b, w) :: m => decide (a < b) && decide (v ≠ d a) && smapWf d ((b, w) :: m)

/-- Read a key of a small association list; the first entry that names it counts. -/
def alGet {K V : Type} [DecidableEq K] (d : V) : List (K × V) → K → V
  | [], _ => d
  | (a, v) :: m, k => if a = k then v else alGet d m k

/-- Write a key of a small association list: changed in place, or added at the end. -/
def alSet {K V : Type} [DecidableEq K] : List (K × V) → K → V → List (K × V)
  | [], k, v => [(k, v)]
  | (a, w) :: m, k, v => if a = k then (k, v) :: m else (a, w) :: alSet m k v

/-- Element `i` of a list replaced. -/
def setAt {V : Type} (l : List V) (i : Nat) (f : V → V) : List V := l.modify i f

end Sys2Proof.Machine
end

