-- ==== Sys2Proof/Machine/Regs.lean ====
section
/-! DEFINITION. Machine/Regs.lean: the control-space registers (R33 to R35 and the field maps of the chapters).
For every register its address as a function of its instance numbers, for every field its place, and the table
of rows (address pattern, fields, access codes, reset values) from which reads, writes and reset values follow. -/

namespace Sys2Proof.Machine

/-- Access codes of R35. -/
inductive Acc where
  /-- returns the field; a write is ignored -/
  | ro
  /-- returns the field; a write sets it -/
  | rw
  /-- reads 0; a write acts as the owning chapter states -/
  | wo
  /-- returns the field; a written 1 clears the bit -/
  | w1c
  /-- as rw while the jig is unsealed; ignored once sealed -/
  | rws
  deriving DecidableEq, Repr

/-- A field's reset value: a number, or a function of one of the register's instance numbers. -/
inductive Rst where
  | val (n : Nat)
  /-- the index of dimension `d`, times `mul`, divided by `div` -/
  | idx (d mul div : Nat)
  /-- 1 when the index of dimension `d` is at least `k`, else 0 -/
  | ge (d k : Nat)
  /-- `a` when the index of dimension `d` is `k`, else `b` -/
  | sel (d k a b : Nat)
  deriving DecidableEq, Repr

/-- One field of a register: its lowest bit, its width, its access code and its reset value. -/
structure Field where
  lo : Nat
  width : Nat
  acc : Acc
  reset : Rst
  deriving DecidableEq, Repr

/-- One register (or array of registers): its first address, the instance counts and strides, widest stride
first, and its fields. Bits of no field are reserved (R10). -/
structure RegRow where
  name : String
  base : Nat
  dims : List (Nat × Nat)
  fields : List Field
  deriving DecidableEq, Repr

/-- The place of a field in control space: register address, lowest bit, width. -/
structure Loc where
  addr : Nat
  lo : Nat
  width : Nat
  deriving DecidableEq, Repr

def Reg.JIG_CTL : Nat := 0x7f4a0000000
def Reg.JIG_CTL_START : Loc := ⟨Reg.JIG_CTL, 0, 1⟩
def Reg.JIG_CTL_ABORT : Loc := ⟨Reg.JIG_CTL, 1, 1⟩
def Reg.JIG_CTL_DRAIN : Loc := ⟨Reg.JIG_CTL, 4, 1⟩
def Reg.JIG_CTL_SEAL : Loc := ⟨Reg.JIG_CTL, 8, 1⟩
def Reg.JIG_SRC : Nat := 0x7f4a0000008
def Reg.JIG_SRC_ADDR : Loc := ⟨Reg.JIG_SRC, 0, 43⟩
def Reg.JIG_DRAIN_LIMIT : Nat := 0x7f4a0000010
def Reg.JIG_DRAIN_LIMIT_LIMIT : Loc := ⟨Reg.JIG_DRAIN_LIMIT, 0, 32⟩
def Reg.JIG_STATUS : Nat := 0x7f4a0000018
def Reg.JIG_STATUS_PHASE : Loc := ⟨Reg.JIG_STATUS, 0, 3⟩
def Reg.JIG_STATUS_SEALED : Loc := ⟨Reg.JIG_STATUS, 3, 1⟩
def Reg.JIG_STATUS_LOADED : Loc := ⟨Reg.JIG_STATUS, 4, 1⟩
def Reg.JIG_STATUS_ERROR : Loc := ⟨Reg.JIG_STATUS, 8, 8⟩
def Reg.JIG_STATUS_SECTION : Loc := ⟨Reg.JIG_STATUS, 16, 8⟩
def Reg.JIG_STATUS_OFFSET : Loc := ⟨Reg.JIG_STATUS, 32, 24⟩
def Reg.JIG_FULL_ID : Nat := 0x7f4a0000020
def Reg.JIG_FULL_ID_ID : Loc := ⟨Reg.JIG_FULL_ID, 0, 64⟩
def Reg.JIG_JOB_ID : Nat := 0x7f4a0000028
def Reg.JIG_JOB_ID_ID : Loc := ⟨Reg.JIG_JOB_ID, 0, 64⟩
def Reg.JIG_DIGEST (n : Nat) : Nat := 0x7f4a0000040 + n * 8
def Reg.JIG_DIGEST_DIG (n : Nat) : Loc := ⟨(Reg.JIG_DIGEST n), 0, 64⟩
def Reg.JIG_SET_ID (n : Nat) : Nat := 0x7f4a0000100 + n * 8
def Reg.JIG_SET_ID_ID (n : Nat) : Loc := ⟨(Reg.JIG_SET_ID n), 0, 64⟩
def Reg.SPN_ID (s : Nat) : Nat := 0x7f000000000 + s * 0x100000
def Reg.SPN_ID_SPINDLE (s : Nat) : Loc := ⟨(Reg.SPN_ID s), 0, 9⟩
def Reg.SPN_ID_GROUP (s : Nat) : Loc := ⟨(Reg.SPN_ID s), 16, 6⟩
def Reg.SPN_ID_DIE (s : Nat) : Loc := ⟨(Reg.SPN_ID s), 24, 1⟩
def Reg.SPN_CTL (s : Nat) : Nat := 0x7f000000008 + s * 0x100000
def Reg.SPN_CTL_QUIESCE (s : Nat) : Loc := ⟨(Reg.SPN_CTL s), 0, 1⟩
def Reg.SPN_CTL_INJECT (s : Nat) : Loc := ⟨(Reg.SPN_CTL s), 4, 2⟩
def Reg.SPN_STATUS (s : Nat) : Nat := 0x7f000000010 + s * 0x100000
def Reg.SPN_STATUS_GANGS (s : Nat) : Loc := ⟨(Reg.SPN_STATUS s), 0, 9⟩
def Reg.SPN_STATUS_UNITS (s : Nat) : Loc := ⟨(Reg.SPN_STATUS s), 16, 9⟩
def Reg.SPN_STATUS_QUIET (s : Nat) : Loc := ⟨(Reg.SPN_STATUS s), 32, 1⟩
def Reg.SPN_SET (s : Nat) : Nat := 0x7f000000018 + s * 0x100000
def Reg.SPN_SET_SET (s : Nat) : Loc := ⟨(Reg.SPN_SET s), 0, 6⟩
def Reg.SPN_SET_ONEDIE (s : Nat) : Loc := ⟨(Reg.SPN_SET s), 8, 1⟩
def Reg.SPN_SET_EPOCH (s : Nat) : Loc := ⟨(Reg.SPN_SET s), 32, 32⟩
def Reg.SPN_FAULT (s : Nat) : Nat := 0x7f000000020 + s * 0x100000
def Reg.SPN_FAULT_VALID (s : Nat) : Loc := ⟨(Reg.SPN_FAULT s), 0, 1⟩
def Reg.SPN_FAULT_MORE (s : Nat) : Loc := ⟨(Reg.SPN_FAULT s), 1, 1⟩
def Reg.SPN_FAULT_CODE (s : Nat) : Loc := ⟨(Reg.SPN_FAULT s), 8, 8⟩
def Reg.SPN_FAULT_GANG (s : Nat) : Loc := ⟨(Reg.SPN_FAULT s), 16, 8⟩
def Reg.SPN_FAULT_DETAIL (s : Nat) : Loc := ⟨(Reg.SPN_FAULT s), 24, 8⟩
def Reg.SPN_FAULT_PC (s : Nat) : Loc := ⟨(Reg.SPN_FAULT s), 32, 32⟩
def Reg.SPN_FAULT_ADDR (s : Nat) : Nat := 0x7f000000028 + s * 0x100000
def Reg.SPN_FAULT_ADDR_ADDR (s : Nat) : Loc := ⟨(Reg.SPN_FAULT_ADDR s), 0, 64⟩
def Reg.SPN_REPLAY (s : Nat) : Nat := 0x7f000000030 + s * 0x100000
def Reg.SPN_REPLAY_REREAD (s : Nat) : Loc := ⟨(Reg.SPN_REPLAY s), 0, 16⟩
def Reg.SPN_REPLAY_REPLAY (s : Nat) : Loc := ⟨(Reg.SPN_REPLAY s), 16, 16⟩
def Reg.SPN_REPLAY_FAILED (s : Nat) : Loc := ⟨(Reg.SPN_REPLAY s), 32, 16⟩
def Reg.SPN_INFLIGHT (s : Nat) : Nat := 0x7f000000038 + s * 0x100000
def Reg.SPN_INFLIGHT_MEM (s : Nat) : Loc := ⟨(Reg.SPN_INFLIGHT s), 0, 11⟩
def Reg.SPN_INFLIGHT_REMOTE (s : Nat) : Loc := ⟨(Reg.SPN_INFLIGHT s), 16, 8⟩
def Reg.SPN_INFLIGHT_COPIES (s : Nat) : Loc := ⟨(Reg.SPN_INFLIGHT s), 32, 5⟩
def Reg.GGE_ID (g : Nat) : Nat := 0x7f040000000 + g * 0x10000
def Reg.GGE_ID_GROUP (g : Nat) : Loc := ⟨(Reg.GGE_ID g), 0, 6⟩
def Reg.GGE_ID_DIE (g : Nat) : Loc := ⟨(Reg.GGE_ID g), 8, 1⟩
def Reg.GGE_CTL (g : Nat) : Nat := 0x7f040000008 + g * 0x10000
def Reg.GGE_CTL_FORCE_DENSE (g : Nat) : Loc := ⟨(Reg.GGE_CTL g), 0, 1⟩
def Reg.GGE_CTL_KCAP (g : Nat) : Loc := ⟨(Reg.GGE_CTL g), 16, 13⟩
def Reg.GGE_STATUS (g : Nat) : Nat := 0x7f040000010 + g * 0x10000
def Reg.GGE_STATUS_BUSY (g : Nat) : Loc := ⟨(Reg.GGE_STATUS g), 0, 1⟩
def Reg.GGE_STATUS_QUEUED (g : Nat) : Loc := ⟨(Reg.GGE_STATUS g), 2, 2⟩
def Reg.GGE_STATUS_LASTERR (g : Nat) : Loc := ⟨(Reg.GGE_STATUS g), 8, 7⟩
def Reg.GGE_STATUS_LASTCOUNT (g : Nat) : Loc := ⟨(Reg.GGE_STATUS g), 16, 20⟩
def Reg.GGE_SELECTS (g : Nat) : Nat := 0x7f040000018 + g * 0x10000
def Reg.GGE_SELECTS_SEL (g : Nat) : Loc := ⟨(Reg.GGE_SELECTS g), 0, 32⟩
def Reg.GGE_SELECTS_SUMS (g : Nat) : Loc := ⟨(Reg.GGE_SELECTS g), 32, 32⟩
def Reg.GGE_SCORED (g : Nat) : Nat := 0x7f040000020 + g * 0x10000
def Reg.GGE_SCORED_BLOCKS (g : Nat) : Loc := ⟨(Reg.GGE_SCORED g), 0, 48⟩
def Reg.GGE_TIES (g : Nat) : Nat := 0x7f040000028 + g * 0x10000
def Reg.GGE_TIES_BOUNDARY (g : Nat) : Loc := ⟨(Reg.GGE_TIES g), 0, 32⟩
def Reg.GGE_TIES_NANS (g : Nat) : Loc := ⟨(Reg.GGE_TIES g), 32, 32⟩
def Reg.PIER_ID (p : Nat) : Nat := 0x7f080000000 + p * 0x1000000
def Reg.PIER_ID_PIER (p : Nat) : Loc := ⟨(Reg.PIER_ID p), 0, 2⟩
def Reg.PIER_ID_CHFIRST (p : Nat) : Loc := ⟨(Reg.PIER_ID p), 16, 10⟩
def Reg.PIER_CTL (p : Nat) : Nat := 0x7f080000008 + p * 0x1000000
def Reg.PIER_CTL_WINDOW (p : Nat) : Loc := ⟨(Reg.PIER_CTL p), 0, 8⟩
def Reg.PIER_STATUS (p : Nat) : Nat := 0x7f080000010 + p * 0x1000000
def Reg.PIER_STATUS_RATE (p : Nat) : Loc := ⟨(Reg.PIER_STATUS p), 0, 2⟩
def Reg.PIER_STATUS_SREF (p : Nat) : Loc := ⟨(Reg.PIER_STATUS p), 2, 1⟩
def Reg.PIER_STATUS_INITBUSY (p : Nat) : Loc := ⟨(Reg.PIER_STATUS p), 3, 1⟩
def Reg.PIER_STATUS_PAUSED (p : Nat) : Loc := ⟨(Reg.PIER_STATUS p), 16, 8⟩
def Reg.PIER_LC_CTL (p : Nat) : Nat := 0x7f080000018 + p * 0x1000000
def Reg.PIER_LC_CTL_ROLWAYS (p : Nat) : Loc := ⟨(Reg.PIER_LC_CTL p), 0, 5⟩
def Reg.PIER_LC_CTL_ROLFLUSH (p : Nat) : Loc := ⟨(Reg.PIER_LC_CTL p), 8, 1⟩
def Reg.PIER_LC_CTL_ROLBUSY (p : Nat) : Loc := ⟨(Reg.PIER_LC_CTL p), 9, 1⟩
def Reg.PIER_INFLIGHT (p : Nat) : Nat := 0x7f080000020 + p * 0x1000000
def Reg.PIER_INFLIGHT_TXN (p : Nat) : Loc := ⟨(Reg.PIER_INFLIGHT p), 0, 17⟩
def Reg.PIER_INFLIGHT_RESERVED (p : Nat) : Loc := ⟨(Reg.PIER_INFLIGHT p), 32, 13⟩
def Reg.PIER_DET (p : Nat) : Nat := 0x7f080000028 + p * 0x1000000
def Reg.PIER_DET_REREAD_OK (p : Nat) : Loc := ⟨(Reg.PIER_DET p), 0, 16⟩
def Reg.PIER_DET_FAILED (p : Nat) : Loc := ⟨(Reg.PIER_DET p), 16, 16⟩
def Reg.PIER_DET_MERGEFAIL (p : Nat) : Loc := ⟨(Reg.PIER_DET p), 32, 16⟩
def Reg.PIER_DET_LAST (p : Nat) : Nat := 0x7f080000030 + p * 0x1000000
def Reg.PIER_DET_LAST_ADDR (p : Nat) : Loc := ⟨(Reg.PIER_DET_LAST p), 0, 43⟩
def Reg.PIER_DET_LAST_CHAN (p : Nat) : Loc := ⟨(Reg.PIER_DET_LAST p), 43, 10⟩
def Reg.PIER_DET_LAST_VALID (p : Nat) : Loc := ⟨(Reg.PIER_DET_LAST p), 63, 1⟩
def Reg.PIER_LC_ERR (p : Nat) : Nat := 0x7f080000038 + p * 0x1000000
def Reg.PIER_LC_ERR_CORR (p : Nat) : Loc := ⟨(Reg.PIER_LC_ERR p), 0, 16⟩
def Reg.PIER_LC_ERR_UNCORR (p : Nat) : Loc := ⟨(Reg.PIER_LC_ERR p), 16, 16⟩
def Reg.PIER_INIT (p : Nat) : Nat := 0x7f080000040 + p * 0x1000000
def Reg.PIER_INIT_GO (p : Nat) : Loc := ⟨(Reg.PIER_INIT p), 0, 1⟩
def Reg.PIER_INIT_DONE (p : Nat) : Loc := ⟨(Reg.PIER_INIT p), 1, 1⟩
def Reg.HDS_CTL : Nat := 0x7f100000000
def Reg.HDS_CTL_ENABLE : Loc := ⟨Reg.HDS_CTL, 0, 1⟩
def Reg.HDS_CTL_DEFER_LIMIT : Loc := ⟨Reg.HDS_CTL, 16, 16⟩
def Reg.HDS_STATUS : Nat := 0x7f100000008
def Reg.HDS_STATUS_ACTIVE : Loc := ⟨Reg.HDS_STATUS, 0, 12⟩
def Reg.HDS_STATUS_DEFERRED : Loc := ⟨Reg.HDS_STATUS, 16, 13⟩
def Reg.HDS_CTXBASE : Nat := 0x7f100000010
def Reg.HDS_CTXBASE_ADDR : Loc := ⟨Reg.HDS_CTXBASE, 0, 43⟩
def Reg.HDS_SEQTAB : Nat := 0x7f100000018
def Reg.HDS_SEQTAB_ADDR : Loc := ⟨Reg.HDS_SEQTAB, 0, 43⟩
def Reg.HDS_SEQTAB_NSEQ : Loc := ⟨Reg.HDS_SEQTAB, 47, 17⟩
def Reg.HDS_KVPOOL : Nat := 0x7f100000020
def Reg.HDS_KVPOOL_ADDR : Loc := ⟨Reg.HDS_KVPOOL, 0, 43⟩
def Reg.HDS_KVFREE : Nat := 0x7f100000028
def Reg.HDS_KVFREE_SIZE : Loc := ⟨Reg.HDS_KVFREE, 0, 24⟩
def Reg.HDS_KVFREE_FREE : Loc := ⟨Reg.HDS_KVFREE, 24, 24⟩
def Reg.HDS_KVRET : Nat := 0x7f100000030
def Reg.HDS_KVRET_ADDR : Loc := ⟨Reg.HDS_KVRET, 0, 43⟩
def Reg.HDS_ADMIT : Nat := 0x7f100000038
def Reg.HDS_ADMIT_ADMITTED : Loc := ⟨Reg.HDS_ADMIT, 0, 32⟩
def Reg.HDS_ADMIT_NOTADMIT : Loc := ⟨Reg.HDS_ADMIT, 32, 16⟩
def Reg.HDS_PDIR : Nat := 0x7f100000040
def Reg.HDS_PDIR_EN : Loc := ⟨Reg.HDS_PDIR, 0, 1⟩
def Reg.HDS_PDIR_ROL : Loc := ⟨Reg.HDS_PDIR, 1, 1⟩
def Reg.HDS_PDIR_NHOME : Loc := ⟨Reg.HDS_PDIR, 8, 6⟩
def Reg.HDS_PDIR_BKTLOG : Loc := ⟨Reg.HDS_PDIR, 16, 4⟩
def Reg.HDS_PDIRBASE : Nat := 0x7f100000048
def Reg.HDS_PDIRBASE_ADDR : Loc := ⟨Reg.HDS_PDIRBASE, 0, 43⟩
def Reg.HDS_PDIRSTAT : Nat := 0x7f100000050
def Reg.HDS_PDIRSTAT_MATCHED : Loc := ⟨Reg.HDS_PDIRSTAT, 0, 32⟩
def Reg.HDS_PDIRSTAT_FULLBKT : Loc := ⟨Reg.HDS_PDIRSTAT, 32, 16⟩
def Reg.HDS_LASTERR : Nat := 0x7f100000058
def Reg.HDS_LASTERR_QP : Loc := ⟨Reg.HDS_LASTERR, 0, 12⟩
def Reg.HDS_LASTERR_CODE : Loc := ⟨Reg.HDS_LASTERR, 16, 8⟩
def Reg.HDS_LASTERR_POS : Loc := ⟨Reg.HDS_LASTERR, 24, 16⟩
def Reg.HDS_LASTERR_VALID : Loc := ⟨Reg.HDS_LASTERR, 63, 1⟩
def Reg.HDS_PDIRHOME (n : Nat) : Nat := 0x7f100000080 + n * 8
def Reg.HDS_PDIRHOME_HOME0 (n : Nat) : Loc := ⟨(Reg.HDS_PDIRHOME n), 0, 13⟩
def Reg.HDS_PDIRHOME_HOME1 (n : Nat) : Loc := ⟨(Reg.HDS_PDIRHOME n), 16, 13⟩
def Reg.HDS_PDIRHOME_HOME2 (n : Nat) : Loc := ⟨(Reg.HDS_PDIRHOME n), 32, 13⟩
def Reg.HDS_PDIRHOME_HOME3 (n : Nat) : Loc := ⟨(Reg.HDS_PDIRHOME n), 48, 13⟩
def Reg.HDS_PROG (n : Nat) : Nat := 0x7f100000200 + n * 8
def Reg.HDS_PROG_ADDR (n : Nat) : Loc := ⟨(Reg.HDS_PROG n), 0, 43⟩
def Reg.HDS_PROG_VALID (n : Nat) : Loc := ⟨(Reg.HDS_PROG n), 48, 1⟩
def Reg.HDS_PROG_BAD (n : Nat) : Loc := ⟨(Reg.HDS_PROG n), 49, 1⟩
def Reg.HDS_PROG_USERS (n : Nat) : Loc := ⟨(Reg.HDS_PROG n), 50, 13⟩
def Reg.HDS_SET (n : Nat) : Nat := 0x7f100000400 + n * 8
def Reg.HDS_SET_BATCH (n : Nat) : Loc := ⟨(Reg.HDS_SET n), 0, 7⟩
def Reg.HDS_SET_ATTACHED (n : Nat) : Loc := ⟨(Reg.HDS_SET n), 8, 7⟩
def Reg.HDS_SET_BUSY (n : Nat) : Loc := ⟨(Reg.HDS_SET n), 16, 1⟩
def Reg.HDS_QP_SQ (n : Nat) : Nat := 0x7f108000000 + n * 0x40
def Reg.HDS_QP_SQ_ADDR (n : Nat) : Loc := ⟨(Reg.HDS_QP_SQ n), 0, 43⟩
def Reg.HDS_QP_SQ_SQLOG (n : Nat) : Loc := ⟨(Reg.HDS_QP_SQ n), 48, 4⟩
def Reg.HDS_QP_CQ (n : Nat) : Nat := 0x7f108000008 + n * 0x40
def Reg.HDS_QP_CQ_ADDR (n : Nat) : Loc := ⟨(Reg.HDS_QP_CQ n), 0, 64⟩
def Reg.HDS_QP_CTL (n : Nat) : Nat := 0x7f108000010 + n * 0x40
def Reg.HDS_QP_CTL_EN (n : Nat) : Loc := ⟨(Reg.HDS_QP_CTL n), 0, 1⟩
def Reg.HDS_QP_CTL_CQHOST (n : Nat) : Loc := ⟨(Reg.HDS_QP_CTL n), 1, 1⟩
def Reg.HDS_QP_CTL_IRQMODE (n : Nat) : Loc := ⟨(Reg.HDS_QP_CTL n), 2, 2⟩
def Reg.HDS_QP_CTL_CQLOG (n : Nat) : Loc := ⟨(Reg.HDS_QP_CTL n), 8, 4⟩
def Reg.HDS_QP_CTL_FLUSH (n : Nat) : Loc := ⟨(Reg.HDS_QP_CTL n), 16, 16⟩
def Reg.HDS_QP_STATUS (n : Nat) : Nat := 0x7f108000018 + n * 0x40
def Reg.HDS_QP_STATUS_SQHEAD (n : Nat) : Loc := ⟨(Reg.HDS_QP_STATUS n), 0, 16⟩
def Reg.HDS_QP_STATUS_SQTAIL (n : Nat) : Loc := ⟨(Reg.HDS_QP_STATUS n), 16, 16⟩
def Reg.HDS_QP_STATUS_CQTAIL (n : Nat) : Loc := ⟨(Reg.HDS_QP_STATUS n), 32, 16⟩
def Reg.HDS_QP_STATUS_ERR (n : Nat) : Loc := ⟨(Reg.HDS_QP_STATUS n), 48, 1⟩
def Reg.HDS_QP_STATUS_FULL (n : Nat) : Loc := ⟨(Reg.HDS_QP_STATUS n), 49, 1⟩
def Reg.HDS_QP_STATUS2 (n : Nat) : Nat := 0x7f108000020 + n * 0x40
def Reg.HDS_QP_STATUS2_CQHEAD (n : Nat) : Loc := ⟨(Reg.HDS_QP_STATUS2 n), 0, 16⟩
def Reg.HDS_QP_STATUS2_RUNNING (n : Nat) : Loc := ⟨(Reg.HDS_QP_STATUS2 n), 16, 16⟩
def Reg.HDS_SQDB (n : Nat) : Nat := 0x7f110000000 + n * 0x1000
def Reg.HDS_SQDB_INDEX (n : Nat) : Loc := ⟨(Reg.HDS_SQDB n), 0, 16⟩
def Reg.HDS_CQDB (n : Nat) : Nat := 0x7f110000008 + n * 0x1000
def Reg.HDS_CQDB_INDEX (n : Nat) : Loc := ⟨(Reg.HDS_CQDB n), 0, 16⟩
def Reg.LNK_ID (i : Nat) : Nat := 0x7f300000000 + i * 0x100000
def Reg.LNK_ID_PORT (i : Nat) : Loc := ⟨(Reg.LNK_ID i), 0, 8⟩
def Reg.LNK_ID_EPOCH (i : Nat) : Loc := ⟨(Reg.LNK_ID i), 8, 8⟩
def Reg.LNK_ID_FEAT (i : Nat) : Loc := ⟨(Reg.LNK_ID i), 16, 32⟩
def Reg.LNK_ID_NLANES (i : Nat) : Loc := ⟨(Reg.LNK_ID i), 48, 5⟩
def Reg.LNK_CTL (i : Nat) : Nat := 0x7f300000008 + i * 0x100000
def Reg.LNK_CTL_EN (i : Nat) : Loc := ⟨(Reg.LNK_CTL i), 0, 1⟩
def Reg.LNK_CTL_DRAIN (i : Nat) : Loc := ⟨(Reg.LNK_CTL i), 1, 1⟩
def Reg.LNK_CTL_TEST (i : Nat) : Loc := ⟨(Reg.LNK_CTL i), 2, 1⟩
def Reg.LNK_CTL_LOOP (i : Nat) : Loc := ⟨(Reg.LNK_CTL i), 3, 1⟩
def Reg.LNK_CTL_SPAREEN (i : Nat) : Loc := ⟨(Reg.LNK_CTL i), 4, 1⟩
def Reg.LNK_CTL_UCW_LIMIT (i : Nat) : Loc := ⟨(Reg.LNK_CTL i), 8, 8⟩
def Reg.LNK_CTL_RETRY_LIMIT (i : Nat) : Loc := ⟨(Reg.LNK_CTL i), 16, 8⟩
def Reg.LNK_CTL_FASTEN (i : Nat) : Loc := ⟨(Reg.LNK_CTL i), 24, 1⟩
def Reg.LNK_STATUS (i : Nat) : Nat := 0x7f300000010 + i * 0x100000
def Reg.LNK_STATUS_STATE (i : Nat) : Loc := ⟨(Reg.LNK_STATUS i), 0, 4⟩
def Reg.LNK_STATUS_WIDTH (i : Nat) : Loc := ⟨(Reg.LNK_STATUS i), 8, 5⟩
def Reg.LNK_STATUS_SPAREOK (i : Nat) : Loc := ⟨(Reg.LNK_STATUS i), 16, 1⟩
def Reg.LNK_STATUS_RESTORED (i : Nat) : Loc := ⟨(Reg.LNK_STATUS i), 17, 1⟩
def Reg.LNK_STATUS_BUTTON (i : Nat) : Loc := ⟨(Reg.LNK_STATUS i), 18, 1⟩
def Reg.LNK_STATUS_PULLED (i : Nat) : Loc := ⟨(Reg.LNK_STATUS i), 19, 1⟩
def Reg.LNK_STATUS_PEER_EPOCH (i : Nat) : Loc := ⟨(Reg.LNK_STATUS i), 32, 8⟩
def Reg.LNK_PEER (i : Nat) : Nat := 0x7f300000018 + i * 0x100000
def Reg.LNK_PEER_MODNUM (i : Nat) : Loc := ⟨(Reg.LNK_PEER i), 0, 13⟩
def Reg.LNK_PEER_PORT (i : Nat) : Loc := ⟨(Reg.LNK_PEER i), 16, 8⟩
def Reg.LNK_PEER_FEAT (i : Nat) : Loc := ⟨(Reg.LNK_PEER i), 24, 32⟩
def Reg.LNK_LANEMAP (i : Nat) : Nat := 0x7f300000020 + i * 0x100000
def Reg.LNK_LANEMAP_SPARE (i : Nat) : Loc := ⟨(Reg.LNK_LANEMAP i), 0, 5⟩
def Reg.LNK_LANEMAP_ACTIVE (i : Nat) : Loc := ⟨(Reg.LNK_LANEMAP i), 8, 16⟩
def Reg.LNK_EQSAVE (i : Nat) : Nat := 0x7f300000028 + i * 0x100000
def Reg.LNK_EQSAVE_ADDR (i : Nat) : Loc := ⟨(Reg.LNK_EQSAVE i), 0, 43⟩
def Reg.LNK_EQSAVE_SAVE (i : Nat) : Loc := ⟨(Reg.LNK_EQSAVE i), 62, 1⟩
def Reg.LNK_EQSAVE_VALID (i : Nat) : Loc := ⟨(Reg.LNK_EQSAVE i), 63, 1⟩
def Reg.LNK_ERR (i : Nat) : Nat := 0x7f300000030 + i * 0x100000
def Reg.LNK_ERR_CRCERR (i : Nat) : Loc := ⟨(Reg.LNK_ERR i), 0, 16⟩
def Reg.LNK_ERR_REPLAYS (i : Nat) : Loc := ⟨(Reg.LNK_ERR i), 16, 16⟩
def Reg.LNK_ERR_RETRAINS (i : Nat) : Loc := ⟨(Reg.LNK_ERR i), 32, 8⟩
def Reg.LNK_ERR_SWAPS (i : Nat) : Loc := ⟨(Reg.LNK_ERR i), 40, 8⟩
def Reg.LNK_ERR_BADCTL (i : Nat) : Loc := ⟨(Reg.LNK_ERR i), 48, 8⟩
def Reg.LNK_LANE_STATUS (i n : Nat) : Nat := 0x7f300000100 + i * 0x100000 + n * 0x40
def Reg.LNK_LANE_STATUS_SIGNAL (i n : Nat) : Loc := ⟨(Reg.LNK_LANE_STATUS i n), 0, 1⟩
def Reg.LNK_LANE_STATUS_BLOCKLOCK (i n : Nat) : Loc := ⟨(Reg.LNK_LANE_STATUS i n), 1, 1⟩
def Reg.LNK_LANE_STATUS_FECLOCK (i n : Nat) : Loc := ⟨(Reg.LNK_LANE_STATUS i n), 2, 1⟩
def Reg.LNK_LANE_STATUS_FAILED (i n : Nat) : Loc := ⟨(Reg.LNK_LANE_STATUS i n), 3, 1⟩
def Reg.LNK_LANE_STATUS_INTERP (i n : Nat) : Loc := ⟨(Reg.LNK_LANE_STATUS i n), 4, 2⟩
def Reg.LNK_LANE_STATUS_LOGICAL (i n : Nat) : Loc := ⟨(Reg.LNK_LANE_STATUS i n), 8, 8⟩
def Reg.LNK_FEC (i n : Nat) : Nat := 0x7f300000108 + i * 0x100000 + n * 0x40
def Reg.LNK_FEC_CORRECTED (i n : Nat) : Loc := ⟨(Reg.LNK_FEC i n), 0, 32⟩
def Reg.LNK_FEC_UNCORR (i n : Nat) : Loc := ⟨(Reg.LNK_FEC i n), 32, 16⟩
def Reg.LNK_PAT_CTL (i n : Nat) : Nat := 0x7f300000110 + i * 0x100000 + n * 0x40
def Reg.LNK_PAT_CTL_PAT (i n : Nat) : Loc := ⟨(Reg.LNK_PAT_CTL i n), 0, 4⟩
def Reg.LNK_PAT_CTL_GEN (i n : Nat) : Loc := ⟨(Reg.LNK_PAT_CTL i n), 4, 1⟩
def Reg.LNK_PAT_CTL_CHK (i n : Nat) : Loc := ⟨(Reg.LNK_PAT_CTL i n), 5, 1⟩
def Reg.LNK_PAT_CTL_LOCK (i n : Nat) : Loc := ⟨(Reg.LNK_PAT_CTL i n), 6, 1⟩
def Reg.LNK_PAT_CTL_INJ (i n : Nat) : Loc := ⟨(Reg.LNK_PAT_CTL i n), 7, 1⟩
def Reg.LNK_PAT_CTL_CLR (i n : Nat) : Loc := ⟨(Reg.LNK_PAT_CTL i n), 8, 1⟩
def Reg.LNK_PAT_USER (i n : Nat) : Nat := 0x7f300000118 + i * 0x100000 + n * 0x40
def Reg.LNK_PAT_USER_PATTERN (i n : Nat) : Loc := ⟨(Reg.LNK_PAT_USER i n), 0, 64⟩
def Reg.LNK_PAT_ERR (i n : Nat) : Nat := 0x7f300000120 + i * 0x100000 + n * 0x40
def Reg.LNK_PAT_ERR_ERRORS (i n : Nat) : Loc := ⟨(Reg.LNK_PAT_ERR i n), 0, 48⟩
def Reg.LNK_PAT_BITS (i n : Nat) : Nat := 0x7f300000128 + i * 0x100000 + n * 0x40
def Reg.LNK_PAT_BITS_BITS (i n : Nat) : Loc := ⟨(Reg.LNK_PAT_BITS i n), 0, 64⟩
def Reg.LNK_LIGHT (i n : Nat) : Nat := 0x7f300000130 + i * 0x100000 + n * 0x40
def Reg.LNK_LIGHT_RXPWR (i n : Nat) : Loc := ⟨(Reg.LNK_LIGHT i n), 0, 16⟩
def Reg.LNK_LIGHT_TXPWR (i n : Nat) : Loc := ⟨(Reg.LNK_LIGHT i n), 16, 16⟩
def Reg.LNK_LIGHT_FLAGS (i n : Nat) : Loc := ⟨(Reg.LNK_LIGHT i n), 32, 3⟩
def Reg.LNK_LIGHT_SEQ (i n : Nat) : Loc := ⟨(Reg.LNK_LIGHT i n), 40, 8⟩
def Reg.LNK_LIGHT_AGE (i n : Nat) : Loc := ⟨(Reg.LNK_LIGHT i n), 48, 15⟩
def Reg.LNK_LIGHT_VALID (i n : Nat) : Loc := ⟨(Reg.LNK_LIGHT i n), 63, 1⟩
def Reg.RTR_CTL : Nat := 0x7f200000000
def Reg.RTR_CTL_TIMEOUT : Loc := ⟨Reg.RTR_CTL, 0, 16⟩
def Reg.RTR_CTL_MAXHOPS : Loc := ⟨Reg.RTR_CTL, 16, 5⟩
def Reg.RTR_CTL_XSHIFT : Loc := ⟨Reg.RTR_CTL, 24, 1⟩
def Reg.RTR_CTL_NRWAIT : Loc := ⟨Reg.RTR_CTL, 32, 8⟩
def Reg.RTR_SKEY : Nat := 0x7f200000008
def Reg.RTR_SKEY_SKEY : Loc := ⟨Reg.RTR_SKEY, 0, 16⟩
def Reg.RTR_SLICE : Nat := 0x7f200000010
def Reg.RTR_SLICE_OX : Loc := ⟨Reg.RTR_SLICE, 0, 8⟩
def Reg.RTR_SLICE_OY : Loc := ⟨Reg.RTR_SLICE, 8, 8⟩
def Reg.RTR_SLICE_OZ : Loc := ⟨Reg.RTR_SLICE, 16, 8⟩
def Reg.RTR_SLICE_EX : Loc := ⟨Reg.RTR_SLICE, 24, 8⟩
def Reg.RTR_SLICE_EY : Loc := ⟨Reg.RTR_SLICE, 32, 8⟩
def Reg.RTR_SLICE_EZ : Loc := ⟨Reg.RTR_SLICE, 40, 8⟩
def Reg.RTR_SLICE_WRAP : Loc := ⟨Reg.RTR_SLICE, 48, 3⟩
def Reg.RTR_SWAP_FT : Nat := 0x7f200000018
def Reg.RTR_SWAP_FT_FT : Loc := ⟨Reg.RTR_SWAP_FT, 0, 64⟩
def Reg.RTR_SWAP_CTL : Nat := 0x7f200000020
def Reg.RTR_SWAP_CTL_ARM : Loc := ⟨Reg.RTR_SWAP_CTL, 0, 1⟩
def Reg.RTR_SWAP_CTL_DONE : Loc := ⟨Reg.RTR_SWAP_CTL, 1, 1⟩
def Reg.RTR_SWAP_CTL_LATE : Loc := ⟨Reg.RTR_SWAP_CTL, 2, 1⟩
def Reg.RTR_SWAP_CTL_CANCELLED : Loc := ⟨Reg.RTR_SWAP_CTL, 3, 1⟩
def Reg.RTR_SWAP_CTL_COUNT : Loc := ⟨Reg.RTR_SWAP_CTL, 16, 14⟩
def Reg.RTR_QUENCH : Nat := 0x7f200000028
def Reg.RTR_QUENCH_GO : Loc := ⟨Reg.RTR_QUENCH, 0, 1⟩
def Reg.RTR_QUENCH_RESUME : Loc := ⟨Reg.RTR_QUENCH, 1, 1⟩
def Reg.RTR_QUENCH_TTL : Loc := ⟨Reg.RTR_QUENCH, 2, 6⟩
def Reg.RTR_QUENCH_CMASK : Loc := ⟨Reg.RTR_QUENCH, 8, 6⟩
def Reg.RTR_QUENCH_QKEY : Loc := ⟨Reg.RTR_QUENCH, 16, 16⟩
def Reg.RTR_QUENCH_DUR : Loc := ⟨Reg.RTR_QUENCH, 32, 32⟩
def Reg.RTR_QSTATE : Nat := 0x7f200000030
def Reg.RTR_QSTATE_STOPPED : Loc := ⟨Reg.RTR_QSTATE, 0, 6⟩
def Reg.RTR_QSTATE_FROM : Loc := ⟨Reg.RTR_QSTATE, 16, 13⟩
def Reg.RTR_QSTATE_QSEQ : Loc := ⟨Reg.RTR_QSTATE, 32, 16⟩
def Reg.RTR_QSTATE_TIMED : Loc := ⟨Reg.RTR_QSTATE, 48, 1⟩
def Reg.RTR_RSPVC : Nat := 0x7f200000038
def Reg.RTR_RSPVC_RSP0 : Loc := ⟨Reg.RTR_RSPVC, 0, 3⟩
def Reg.RTR_RSPVC_RSP1 : Loc := ⟨Reg.RTR_RSPVC, 3, 3⟩
def Reg.RTR_RSPVC_RSP2 : Loc := ⟨Reg.RTR_RSPVC, 6, 3⟩
def Reg.RTR_RSPVC_RSP3 : Loc := ⟨Reg.RTR_RSPVC, 9, 3⟩
def Reg.RTR_RSPVC_RSP4 : Loc := ⟨Reg.RTR_RSPVC, 12, 3⟩
def Reg.RTR_RSPVC_RSP5 : Loc := ⟨Reg.RTR_RSPVC, 15, 3⟩
def Reg.RTR_VCW : Nat := 0x7f200000040
def Reg.RTR_VCW_W0 : Loc := ⟨Reg.RTR_VCW, 0, 4⟩
def Reg.RTR_VCW_W1 : Loc := ⟨Reg.RTR_VCW, 4, 4⟩
def Reg.RTR_VCW_W2 : Loc := ⟨Reg.RTR_VCW, 8, 4⟩
def Reg.RTR_VCW_W3 : Loc := ⟨Reg.RTR_VCW, 12, 4⟩
def Reg.RTR_VCW_W4 : Loc := ⟨Reg.RTR_VCW, 16, 4⟩
def Reg.RTR_VCW_W5 : Loc := ⟨Reg.RTR_VCW, 20, 4⟩
def Reg.RTR_DROP : Nat := 0x7f200000048
def Reg.RTR_DROP_SKEY : Loc := ⟨Reg.RTR_DROP, 0, 16⟩
def Reg.RTR_DROP_BAD : Loc := ⟨Reg.RTR_DROP, 16, 16⟩
def Reg.RTR_DROP_HOPS : Loc := ⟨Reg.RTR_DROP, 32, 16⟩
def Reg.RTR_DROP_LATE : Loc := ⟨Reg.RTR_DROP, 48, 16⟩
def Reg.RTR_RMT : Nat := 0x7f200000050
def Reg.RTR_RMT_INFLIGHT : Loc := ⟨Reg.RTR_RMT, 0, 15⟩
def Reg.RTR_RMT_TIMEOUTS : Loc := ⟨Reg.RTR_RMT, 16, 16⟩
def Reg.RTR_RMT_NOROUTE : Loc := ⟨Reg.RTR_RMT, 32, 16⟩
def Reg.RTR_RMT_HELD : Loc := ⟨Reg.RTR_RMT, 48, 15⟩
def Reg.RTR_MGMTPEER : Nat := 0x7f200000058
def Reg.RTR_MGMTPEER_PEER0 : Loc := ⟨Reg.RTR_MGMTPEER, 0, 13⟩
def Reg.RTR_MGMTPEER_V0 : Loc := ⟨Reg.RTR_MGMTPEER, 15, 1⟩
def Reg.RTR_MGMTPEER_PEER1 : Loc := ⟨Reg.RTR_MGMTPEER, 16, 13⟩
def Reg.RTR_MGMTPEER_V1 : Loc := ⟨Reg.RTR_MGMTPEER, 31, 1⟩
def Reg.RTR_MGMTPEER_PEER2 : Loc := ⟨Reg.RTR_MGMTPEER, 32, 13⟩
def Reg.RTR_MGMTPEER_V2 : Loc := ⟨Reg.RTR_MGMTPEER, 47, 1⟩
def Reg.RTR_MGMTPEER_PEER3 : Loc := ⟨Reg.RTR_MGMTPEER, 48, 13⟩
def Reg.RTR_MGMTPEER_V3 : Loc := ⟨Reg.RTR_MGMTPEER, 63, 1⟩
def Reg.RTR_PEER (n : Nat) : Nat := 0x7f200000080 + n * 8
def Reg.RTR_PEER_MODNUM (n : Nat) : Loc := ⟨(Reg.RTR_PEER n), 0, 13⟩
def Reg.RTR_PEER_PORT (n : Nat) : Loc := ⟨(Reg.RTR_PEER n), 16, 4⟩
def Reg.RTR_PEER_VALID (n : Nat) : Loc := ⟨(Reg.RTR_PEER n), 24, 1⟩
def Reg.RTR_PEER_OWNED (n : Nat) : Loc := ⟨(Reg.RTR_PEER n), 25, 1⟩
def Reg.RTR_PEER_USABLE (n : Nat) : Loc := ⟨(Reg.RTR_PEER n), 26, 1⟩
def Reg.RTR_PEER_EMPTY (n : Nat) : Loc := ⟨(Reg.RTR_PEER n), 27, 1⟩
def Reg.RTR_ENT_LO (n : Nat) : Nat := 0x7f200100000 + n * 0x10
def Reg.RTR_ENT_LO_VALID (n : Nat) : Loc := ⟨(Reg.RTR_ENT_LO n), 0, 1⟩
def Reg.RTR_ENT_LO_HOLD (n : Nat) : Loc := ⟨(Reg.RTR_ENT_LO n), 1, 1⟩
def Reg.RTR_ENT_LO_STAGE (n : Nat) : Loc := ⟨(Reg.RTR_ENT_LO n), 2, 1⟩
def Reg.RTR_ENT_LO_NH0 (n : Nat) : Loc := ⟨(Reg.RTR_ENT_LO n), 4, 4⟩
def Reg.RTR_ENT_LO_NH1 (n : Nat) : Loc := ⟨(Reg.RTR_ENT_LO n), 8, 4⟩
def Reg.RTR_ENT_LO_NH2 (n : Nat) : Loc := ⟨(Reg.RTR_ENT_LO n), 12, 4⟩
def Reg.RTR_ENT_LO_SPAN (n : Nat) : Loc := ⟨(Reg.RTR_ENT_LO n), 24, 8⟩
def Reg.RTR_ENT_LO_X (n : Nat) : Loc := ⟨(Reg.RTR_ENT_LO n), 32, 8⟩
def Reg.RTR_ENT_LO_Y (n : Nat) : Loc := ⟨(Reg.RTR_ENT_LO n), 40, 8⟩
def Reg.RTR_ENT_LO_Z (n : Nat) : Loc := ⟨(Reg.RTR_ENT_LO n), 48, 8⟩
def Reg.RTR_ENT_HI (n : Nat) : Nat := 0x7f200100008 + n * 0x10
def Reg.RTR_STG_LO (n : Nat) : Nat := 0x7f200200000 + n * 0x10
def Reg.RTR_STG_LO_VALID (n : Nat) : Loc := ⟨(Reg.RTR_STG_LO n), 0, 1⟩
def Reg.RTR_STG_LO_HOLD (n : Nat) : Loc := ⟨(Reg.RTR_STG_LO n), 1, 1⟩
def Reg.RTR_STG_LO_STAGE (n : Nat) : Loc := ⟨(Reg.RTR_STG_LO n), 2, 1⟩
def Reg.RTR_STG_LO_NH0 (n : Nat) : Loc := ⟨(Reg.RTR_STG_LO n), 4, 4⟩
def Reg.RTR_STG_LO_NH1 (n : Nat) : Loc := ⟨(Reg.RTR_STG_LO n), 8, 4⟩
def Reg.RTR_STG_LO_NH2 (n : Nat) : Loc := ⟨(Reg.RTR_STG_LO n), 12, 4⟩
def Reg.RTR_STG_LO_SPAN (n : Nat) : Loc := ⟨(Reg.RTR_STG_LO n), 24, 8⟩
def Reg.RTR_STG_LO_X (n : Nat) : Loc := ⟨(Reg.RTR_STG_LO n), 32, 8⟩
def Reg.RTR_STG_LO_Y (n : Nat) : Loc := ⟨(Reg.RTR_STG_LO n), 40, 8⟩
def Reg.RTR_STG_LO_Z (n : Nat) : Loc := ⟨(Reg.RTR_STG_LO n), 48, 8⟩
def Reg.RTR_STG_HI (n : Nat) : Nat := 0x7f200200008 + n * 0x10
def Reg.FTU_NOW : Nat := 0x7f400000000
def Reg.FTU_NOW_FT : Loc := ⟨Reg.FTU_NOW, 0, 64⟩
def Reg.FTU_LOAD : Nat := 0x7f400000008
def Reg.FTU_LOAD_VALUE : Loc := ⟨Reg.FTU_LOAD, 0, 64⟩
def Reg.FTU_CTL : Nat := 0x7f400000010
def Reg.FTU_CTL_EN : Loc := ⟨Reg.FTU_CTL, 0, 1⟩
def Reg.FTU_CTL_ROOT : Loc := ⟨Reg.FTU_CTL, 1, 1⟩
def Reg.FTU_CTL_RESYNC : Loc := ⟨Reg.FTU_CTL, 2, 1⟩
def Reg.FTU_CTL_PERIOD : Loc := ⟨Reg.FTU_CTL, 8, 8⟩
def Reg.FTU_CTL_BACKMAX : Loc := ⟨Reg.FTU_CTL, 16, 16⟩
def Reg.FTU_CTL_HOLDMAX : Loc := ⟨Reg.FTU_CTL, 32, 16⟩
def Reg.FTU_PARENT : Nat := 0x7f400000018
def Reg.FTU_PARENT_P0 : Loc := ⟨Reg.FTU_PARENT, 0, 4⟩
def Reg.FTU_PARENT_P1 : Loc := ⟨Reg.FTU_PARENT, 4, 4⟩
def Reg.FTU_PARENT_P2 : Loc := ⟨Reg.FTU_PARENT, 8, 4⟩
def Reg.FTU_PARENT_ROOTMOD : Loc := ⟨Reg.FTU_PARENT, 16, 13⟩
def Reg.FTU_STATUS : Nat := 0x7f400000020
def Reg.FTU_STATUS_STATE : Loc := ⟨Reg.FTU_STATUS, 0, 3⟩
def Reg.FTU_STATUS_PARENT : Loc := ⟨Reg.FTU_STATUS, 4, 4⟩
def Reg.FTU_STATUS_DEPTH : Loc := ⟨Reg.FTU_STATUS, 8, 8⟩
def Reg.FTU_STATUS_OOS : Loc := ⟨Reg.FTU_STATUS, 16, 1⟩
def Reg.FTU_STATUS_LATE : Loc := ⟨Reg.FTU_STATUS, 17, 1⟩
def Reg.FTU_STATUS_BACK : Loc := ⟨Reg.FTU_STATUS, 18, 1⟩
def Reg.FTU_STATUS_STEPS : Loc := ⟨Reg.FTU_STATUS, 24, 8⟩
def Reg.FTU_OFFSET : Nat := 0x7f400000028
def Reg.FTU_OFFSET_OFFSET : Loc := ⟨Reg.FTU_OFFSET, 0, 32⟩
def Reg.FTU_OFFSET_DELAY : Loc := ⟨Reg.FTU_OFFSET, 32, 32⟩
def Reg.FTU_RATE : Nat := 0x7f400000030
def Reg.FTU_RATE_RATE : Loc := ⟨Reg.FTU_RATE, 0, 32⟩
def Reg.FTU_PORT (n : Nat) : Nat := 0x7f400000080 + n * 8
def Reg.FTU_PORT_ASYM (n : Nat) : Loc := ⟨(Reg.FTU_PORT n), 0, 16⟩
def Reg.FTU_PORT_DELAY (n : Nat) : Loc := ⟨(Reg.FTU_PORT n), 16, 32⟩
def Reg.FTU_PORT_VALID (n : Nat) : Loc := ⟨(Reg.FTU_PORT n), 48, 1⟩
def Reg.FTU_PORT_PEERLOCK (n : Nat) : Loc := ⟨(Reg.FTU_PORT n), 49, 1⟩
def Reg.SRV_ID (v : Nat) : Nat := 0x7f410000000 + v * 0x1000000
def Reg.SRV_ID_INST (v : Nat) : Loc := ⟨(Reg.SRV_ID v), 0, 1⟩
def Reg.SRV_ID_NMIR (v : Nat) : Loc := ⟨(Reg.SRV_ID v), 8, 8⟩
def Reg.SRV_CTL (v : Nat) : Nat := 0x7f410000008 + v * 0x1000000
def Reg.SRV_CTL_EN (v : Nat) : Loc := ⟨(Reg.SRV_CTL v), 0, 1⟩
def Reg.SRV_CTL_TEST (v : Nat) : Loc := ⟨(Reg.SRV_CTL v), 1, 1⟩
def Reg.SRV_CTL_LOOP (v : Nat) : Loc := ⟨(Reg.SRV_CTL v), 2, 1⟩
def Reg.SRV_CTL_MISSMAX (v : Nat) : Loc := ⟨(Reg.SRV_CTL v), 8, 8⟩
def Reg.SRV_STATUS (v : Nat) : Nat := 0x7f410000010 + v * 0x1000000
def Reg.SRV_STATUS_ACTIVE (v : Nat) : Loc := ⟨(Reg.SRV_STATUS v), 0, 1⟩
def Reg.SRV_STATUS_LINK (v : Nat) : Loc := ⟨(Reg.SRV_STATUS v), 1, 1⟩
def Reg.SRV_STATUS_OVERRUN (v : Nat) : Loc := ⟨(Reg.SRV_STATUS v), 2, 1⟩
def Reg.SRV_STATUS_IGNWR (v : Nat) : Loc := ⟨(Reg.SRV_STATUS v), 3, 1⟩
def Reg.SRV_STATUS_GEN (v : Nat) : Loc := ⟨(Reg.SRV_STATUS v), 16, 16⟩
def Reg.SRV_TIME (v : Nat) : Nat := 0x7f410000018 + v * 0x1000000
def Reg.SRV_TIME_LEAD (v : Nat) : Loc := ⟨(Reg.SRV_TIME v), 0, 16⟩
def Reg.SRV_TIME_RXDL (v : Nat) : Loc := ⟨(Reg.SRV_TIME v), 16, 16⟩
def Reg.SRV_CNT (v : Nat) : Nat := 0x7f410000020 + v * 0x1000000
def Reg.SRV_CNT_SENT (v : Nat) : Loc := ⟨(Reg.SRV_CNT v), 0, 32⟩
def Reg.SRV_CNT_MISSED (v : Nat) : Loc := ⟨(Reg.SRV_CNT v), 32, 16⟩
def Reg.SRV_CNT_SKIPPED (v : Nat) : Loc := ⟨(Reg.SRV_CNT v), 48, 8⟩
def Reg.SRV_CNT_BAD (v : Nat) : Loc := ⟨(Reg.SRV_CNT v), 56, 8⟩
def Reg.SRV_LIMCNT (v : Nat) : Nat := 0x7f410000028 + v * 0x1000000
def Reg.SRV_LIMCNT_RANGE (v : Nat) : Loc := ⟨(Reg.SRV_LIMCNT v), 0, 24⟩
def Reg.SRV_LIMCNT_SLEW (v : Nat) : Loc := ⟨(Reg.SRV_LIMCNT v), 24, 24⟩
def Reg.SRV_LIMCNT_SAT (v : Nat) : Loc := ⟨(Reg.SRV_LIMCNT v), 48, 16⟩
def Reg.SRV_CHASSIS (v : Nat) : Nat := 0x7f410000030 + v * 0x1000000
def Reg.SRV_CHASSIS_CSTAT (v : Nat) : Loc := ⟨(Reg.SRV_CHASSIS v), 0, 8⟩
def Reg.SRV_CHASSIS_TEMP (v : Nat) : Loc := ⟨(Reg.SRV_CHASSIS v), 8, 8⟩
def Reg.SRV_CHASSIS_CHID (v : Nat) : Loc := ⟨(Reg.SRV_CHASSIS v), 16, 16⟩
def Reg.SRV_CHASSIS_GEN (v : Nat) : Loc := ⟨(Reg.SRV_CHASSIS v), 32, 16⟩
def Reg.SRV_PAT_CTL (v : Nat) : Nat := 0x7f410000100 + v * 0x1000000
def Reg.SRV_PAT_CTL_PAT (v : Nat) : Loc := ⟨(Reg.SRV_PAT_CTL v), 0, 4⟩
def Reg.SRV_PAT_CTL_GEN (v : Nat) : Loc := ⟨(Reg.SRV_PAT_CTL v), 4, 1⟩
def Reg.SRV_PAT_CTL_CHK (v : Nat) : Loc := ⟨(Reg.SRV_PAT_CTL v), 5, 1⟩
def Reg.SRV_PAT_CTL_LOCK (v : Nat) : Loc := ⟨(Reg.SRV_PAT_CTL v), 6, 1⟩
def Reg.SRV_PAT_CTL_INJ (v : Nat) : Loc := ⟨(Reg.SRV_PAT_CTL v), 7, 1⟩
def Reg.SRV_PAT_CTL_CLR (v : Nat) : Loc := ⟨(Reg.SRV_PAT_CTL v), 8, 1⟩
def Reg.SRV_PAT_USER (v : Nat) : Nat := 0x7f410000108 + v * 0x1000000
def Reg.SRV_PAT_USER_PATTERN (v : Nat) : Loc := ⟨(Reg.SRV_PAT_USER v), 0, 64⟩
def Reg.SRV_PAT_ERR (v : Nat) : Nat := 0x7f410000110 + v * 0x1000000
def Reg.SRV_PAT_ERR_ERRORS (v : Nat) : Loc := ⟨(Reg.SRV_PAT_ERR v), 0, 48⟩
def Reg.SRV_PAT_BITS (v : Nat) : Nat := 0x7f410000118 + v * 0x1000000
def Reg.SRV_PAT_BITS_BITS (v : Nat) : Loc := ⟨(Reg.SRV_PAT_BITS v), 0, 64⟩
def Reg.SRV_MIR_CFG (v n : Nat) : Nat := 0x7f410010000 + v * 0x1000000 + n * 0x40
def Reg.SRV_MIR_CFG_CHADDR (v n : Nat) : Loc := ⟨(Reg.SRV_MIR_CFG v n), 0, 13⟩
def Reg.SRV_MIR_CFG_EN (v n : Nat) : Loc := ⟨(Reg.SRV_MIR_CFG v n), 16, 1⟩
def Reg.SRV_MIR_LIM0 (v n : Nat) : Nat := 0x7f410010008 + v * 0x1000000 + n * 0x40
def Reg.SRV_MIR_LIM0_DMIN (v n : Nat) : Loc := ⟨(Reg.SRV_MIR_LIM0 v n), 0, 20⟩
def Reg.SRV_MIR_LIM0_DMAX (v n : Nat) : Loc := ⟨(Reg.SRV_MIR_LIM0 v n), 20, 20⟩
def Reg.SRV_MIR_LIM0_SLEW (v n : Nat) : Loc := ⟨(Reg.SRV_MIR_LIM0 v n), 40, 20⟩
def Reg.SRV_MIR_LIM1 (v n : Nat) : Nat := 0x7f410010010 + v * 0x1000000 + n * 0x40
def Reg.SRV_MIR_LIM1_DMIN (v n : Nat) : Loc := ⟨(Reg.SRV_MIR_LIM1 v n), 0, 20⟩
def Reg.SRV_MIR_LIM1_DMAX (v n : Nat) : Loc := ⟨(Reg.SRV_MIR_LIM1 v n), 20, 20⟩
def Reg.SRV_MIR_LIM1_SLEW (v n : Nat) : Loc := ⟨(Reg.SRV_MIR_LIM1 v n), 40, 20⟩
def Reg.SRV_MIR_CTL (v n : Nat) : Nat := 0x7f410010018 + v * 0x1000000 + n * 0x40
def Reg.SRV_MIR_CTL_MODE (v n : Nat) : Loc := ⟨(Reg.SRV_MIR_CTL v n), 0, 3⟩
def Reg.SRV_MIR_CTL_BANK (v n : Nat) : Loc := ⟨(Reg.SRV_MIR_CTL v n), 4, 1⟩
def Reg.SRV_MIR_STATUS (v n : Nat) : Nat := 0x7f410010020 + v * 0x1000000 + n * 0x40
def Reg.SRV_MIR_STATUS_MODE (v n : Nat) : Loc := ⟨(Reg.SRV_MIR_STATUS v n), 0, 3⟩
def Reg.SRV_MIR_STATUS_RANGE0 (v n : Nat) : Loc := ⟨(Reg.SRV_MIR_STATUS v n), 4, 1⟩
def Reg.SRV_MIR_STATUS_SLEW0 (v n : Nat) : Loc := ⟨(Reg.SRV_MIR_STATUS v n), 5, 1⟩
def Reg.SRV_MIR_STATUS_RANGE1 (v n : Nat) : Loc := ⟨(Reg.SRV_MIR_STATUS v n), 6, 1⟩
def Reg.SRV_MIR_STATUS_SLEW1 (v n : Nat) : Loc := ⟨(Reg.SRV_MIR_STATUS v n), 7, 1⟩
def Reg.SRV_MIR_STATUS_SAT (v n : Nat) : Loc := ⟨(Reg.SRV_MIR_STATUS v n), 8, 1⟩
def Reg.SRV_MIR_STATUS_LOST (v n : Nat) : Loc := ⟨(Reg.SRV_MIR_STATUS v n), 9, 1⟩
def Reg.SRV_MIR_STATUS_PARKED (v n : Nat) : Loc := ⟨(Reg.SRV_MIR_STATUS v n), 10, 1⟩
def Reg.SRV_MIR_STATUS_HOLDING (v n : Nat) : Loc := ⟨(Reg.SRV_MIR_STATUS v n), 11, 1⟩
def Reg.SRV_MIR_STATUS_MISSRUN (v n : Nat) : Loc := ⟨(Reg.SRV_MIR_STATUS v n), 16, 8⟩
def Reg.SRV_MIR_OUT (v n : Nat) : Nat := 0x7f410010028 + v * 0x1000000 + n * 0x40
def Reg.SRV_MIR_OUT_CODE0 (v n : Nat) : Loc := ⟨(Reg.SRV_MIR_OUT v n), 0, 20⟩
def Reg.SRV_MIR_OUT_CODE1 (v n : Nat) : Loc := ⟨(Reg.SRV_MIR_OUT v n), 20, 20⟩
def Reg.SRV_MIR_POS (v n : Nat) : Nat := 0x7f410010030 + v * 0x1000000 + n * 0x40
def Reg.SRV_MIR_POS_POS0 (v n : Nat) : Loc := ⟨(Reg.SRV_MIR_POS v n), 0, 18⟩
def Reg.SRV_MIR_POS_POS1 (v n : Nat) : Loc := ⟨(Reg.SRV_MIR_POS v n), 18, 18⟩
def Reg.SRV_MIR_POS_VALID (v n : Nat) : Loc := ⟨(Reg.SRV_MIR_POS v n), 36, 1⟩
def Reg.SRV_MIR_SETPT (v n : Nat) : Nat := 0x7f410010038 + v * 0x1000000 + n * 0x40
def Reg.SRV_MIR_SETPT_R0 (v n : Nat) : Loc := ⟨(Reg.SRV_MIR_SETPT v n), 0, 32⟩
def Reg.SRV_MIR_SETPT_R1 (v n : Nat) : Loc := ⟨(Reg.SRV_MIR_SETPT v n), 32, 32⟩
def Reg.SRV_COEF_A (v n k j : Nat) : Nat := 0x7f410400000 + v * 0x1000000 + n * 0x40000 + k * 0x800 + j * 8
def Reg.SRV_COEF_A_COEF (v n k j : Nat) : Loc := ⟨(Reg.SRV_COEF_A v n k j), 0, 32⟩
def Reg.SRV_COEF_A_SHIFT (v n k j : Nat) : Loc := ⟨(Reg.SRV_COEF_A v n k j), 32, 5⟩
def Reg.SRV_COEF_B (v n k j : Nat) : Nat := 0x7f410400200 + v * 0x1000000 + n * 0x40000 + k * 0x800 + j * 8
def Reg.SRV_COEF_B_COEF (v n k j : Nat) : Loc := ⟨(Reg.SRV_COEF_B v n k j), 0, 32⟩
def Reg.SRV_COEF_B_SHIFT (v n k j : Nat) : Loc := ⟨(Reg.SRV_COEF_B v n k j), 32, 5⟩
def Reg.SRV_COEF_L (v n k j : Nat) : Nat := 0x7f410400280 + v * 0x1000000 + n * 0x40000 + k * 0x800 + j * 8
def Reg.SRV_COEF_L_COEF (v n k j : Nat) : Loc := ⟨(Reg.SRV_COEF_L v n k j), 0, 32⟩
def Reg.SRV_COEF_L_SHIFT (v n k j : Nat) : Loc := ⟨(Reg.SRV_COEF_L v n k j), 32, 5⟩
def Reg.SRV_COEF_K (v n k j : Nat) : Nat := 0x7f410400300 + v * 0x1000000 + n * 0x40000 + k * 0x800 + j * 8
def Reg.SRV_COEF_K_COEF (v n k j : Nat) : Loc := ⟨(Reg.SRV_COEF_K v n k j), 0, 32⟩
def Reg.SRV_COEF_K_SHIFT (v n k j : Nat) : Loc := ⟨(Reg.SRV_COEF_K v n k j), 32, 5⟩
def Reg.SRV_COEF_KB (v n k j : Nat) : Nat := 0x7f410400380 + v * 0x1000000 + n * 0x40000 + k * 0x800 + j * 8
def Reg.SRV_COEF_KB_COEF (v n k j : Nat) : Loc := ⟨(Reg.SRV_COEF_KB v n k j), 0, 32⟩
def Reg.SRV_COEF_KB_SHIFT (v n k j : Nat) : Loc := ⟨(Reg.SRV_COEF_KB v n k j), 32, 5⟩
def Reg.SRV_COEF_NOTCH (v n k j : Nat) : Nat := 0x7f410400400 + v * 0x1000000 + n * 0x40000 + k * 0x800 + j * 8
def Reg.SRV_COEF_NOTCH_COEF (v n k j : Nat) : Loc := ⟨(Reg.SRV_COEF_NOTCH v n k j), 0, 32⟩
def Reg.SRV_COEF_NOTCH_SHIFT (v n k j : Nat) : Loc := ⟨(Reg.SRV_COEF_NOTCH v n k j), 32, 5⟩
def Reg.SRV_COEF_QRC (v n k j : Nat) : Nat := 0x7f4104004a0 + v * 0x1000000 + n * 0x40000 + k * 0x800 + j * 0x10
def Reg.SRV_COEF_QRC_COEF (v n k j : Nat) : Loc := ⟨(Reg.SRV_COEF_QRC v n k j), 0, 32⟩
def Reg.SRV_COEF_QRC_SHIFT (v n k j : Nat) : Loc := ⟨(Reg.SRV_COEF_QRC v n k j), 32, 5⟩
def Reg.SRV_COEF_KRC (v n k j : Nat) : Nat := 0x7f4104004a8 + v * 0x1000000 + n * 0x40000 + k * 0x800 + j * 0x10
def Reg.SRV_COEF_KRC_COEF (v n k j : Nat) : Loc := ⟨(Reg.SRV_COEF_KRC v n k j), 0, 32⟩
def Reg.SRV_COEF_KRC_SHIFT (v n k j : Nat) : Loc := ⟨(Reg.SRV_COEF_KRC v n k j), 32, 5⟩
def Reg.SRV_COEF_PARAM (v n k : Nat) : Nat := 0x7f4104004c0 + v * 0x1000000 + n * 0x40000 + k * 0x800
def Reg.SRV_COEF_PARAM_NPER (v n k : Nat) : Loc := ⟨(Reg.SRV_COEF_PARAM v n k), 0, 11⟩
def Reg.SRV_COEF_PARAM_RCLEAD (v n k : Nat) : Loc := ⟨(Reg.SRV_COEF_PARAM v n k), 16, 10⟩
def Reg.SRV_COEF_PARAM_NOTCHEN (v n k : Nat) : Loc := ⟨(Reg.SRV_COEF_PARAM v n k), 32, 4⟩
def Reg.SRV_COEF_GAP (v n k j : Nat) : Nat := 0x7f410400000 + v * 0x1000000 + n * 0x40000 + k * 0x800 + j * 8
def Reg.SRV_STATE_X (v n k : Nat) : Nat := 0x7f410500000 + v * 0x1000000 + n * 0x100 + k * 8
def Reg.SRV_STATE_X_LO (v n k : Nat) : Loc := ⟨(Reg.SRV_STATE_X v n k), 0, 32⟩
def Reg.SRV_STATE_X_HI (v n k : Nat) : Loc := ⟨(Reg.SRV_STATE_X v n k), 32, 32⟩
def Reg.SRV_STATE_NX (v n k : Nat) : Nat := 0x7f410500020 + v * 0x1000000 + n * 0x100 + k * 0x10
def Reg.SRV_STATE_NX_X1 (v n k : Nat) : Loc := ⟨(Reg.SRV_STATE_NX v n k), 0, 32⟩
def Reg.SRV_STATE_NX_X2 (v n k : Nat) : Loc := ⟨(Reg.SRV_STATE_NX v n k), 32, 32⟩
def Reg.SRV_STATE_NW (v n k : Nat) : Nat := 0x7f410500028 + v * 0x1000000 + n * 0x100 + k * 0x10
def Reg.SRV_STATE_NW_W1 (v n k : Nat) : Loc := ⟨(Reg.SRV_STATE_NW v n k), 0, 32⟩
def Reg.SRV_STATE_NW_W2 (v n k : Nat) : Loc := ⟨(Reg.SRV_STATE_NW v n k), 32, 32⟩
def Reg.SRV_STATE_U (v n : Nat) : Nat := 0x7f410500060 + v * 0x1000000 + n * 0x100
def Reg.SRV_STATE_U_U0 (v n : Nat) : Loc := ⟨(Reg.SRV_STATE_U v n), 0, 32⟩
def Reg.SRV_STATE_U_U1 (v n : Nat) : Loc := ⟨(Reg.SRV_STATE_U v n), 32, 32⟩
def Reg.SRV_STATE_PH (v n : Nat) : Nat := 0x7f410500068 + v * 0x1000000 + n * 0x100
def Reg.SRV_STATE_PH_PHASE (v n : Nat) : Loc := ⟨(Reg.SRV_STATE_PH v n), 0, 10⟩
def Reg.SRV_STATE_GAP (v n k : Nat) : Nat := 0x7f410500000 + v * 0x1000000 + n * 0x100 + k * 8
def Reg.SRV_RC (v n k : Nat) : Nat := 0x7f410600000 + v * 0x1000000 + n * 0x1000 + k * 8
def Reg.SRV_RC_LO (v n k : Nat) : Loc := ⟨(Reg.SRV_RC v n k), 0, 32⟩
def Reg.SRV_RC_HI (v n k : Nat) : Loc := ⟨(Reg.SRV_RC v n k), 32, 32⟩
def Reg.PYL_ID (p : Nat) : Nat := 0x7f420000000 + p * 0x100000
def Reg.PYL_ID_INST (p : Nat) : Loc := ⟨(Reg.PYL_ID p), 0, 1⟩
def Reg.PYL_ID_CORES (p : Nat) : Loc := ⟨(Reg.PYL_ID p), 4, 4⟩
def Reg.PYL_ID_SRAM (p : Nat) : Loc := ⟨(Reg.PYL_ID p), 8, 8⟩
def Reg.PYL_ID_ROMREV (p : Nat) : Loc := ⟨(Reg.PYL_ID p), 16, 8⟩
def Reg.PYL_CTL (p : Nat) : Nat := 0x7f420000008 + p * 0x100000
def Reg.PYL_CTL_FORCEREL (p : Nat) : Loc := ⟨(Reg.PYL_CTL p), 0, 1⟩
def Reg.PYL_CTL_KEY (p : Nat) : Loc := ⟨(Reg.PYL_CTL p), 16, 16⟩
def Reg.PYL_STATUS (p : Nat) : Nat := 0x7f420000010 + p * 0x100000
def Reg.PYL_STATUS_STATE (p : Nat) : Loc := ⟨(Reg.PYL_STATUS p), 0, 3⟩
def Reg.PYL_STATUS_FAULT (p : Nat) : Loc := ⟨(Reg.PYL_STATUS p), 4, 4⟩
def Reg.PYL_STATUS_XLINK (p : Nat) : Loc := ⟨(Reg.PYL_STATUS p), 8, 1⟩
def Reg.PYL_STATUS_CKPTLOST (p : Nat) : Loc := ⟨(Reg.PYL_STATUS p), 9, 1⟩
def Reg.PYL_HEALTH (p : Nat) : Nat := 0x7f420000018 + p * 0x100000
def Reg.PYL_HEALTH_PASS (p : Nat) : Loc := ⟨(Reg.PYL_HEALTH p), 0, 10⟩
def Reg.PYL_HEALTH_READY (p : Nat) : Loc := ⟨(Reg.PYL_HEALTH p), 10, 1⟩
def Reg.PYL_HEALTH_FAILSEEN (p : Nat) : Loc := ⟨(Reg.PYL_HEALTH p), 16, 10⟩
def Reg.PYL_HEALTH_FT (p : Nat) : Nat := 0x7f420000020 + p * 0x100000
def Reg.PYL_HEALTH_FT_FT (p : Nat) : Loc := ⟨(Reg.PYL_HEALTH_FT p), 0, 64⟩
def Reg.PYL_WDOG (p : Nat) : Nat := 0x7f420000028 + p * 0x100000
def Reg.PYL_WDOG_KICK (p : Nat) : Loc := ⟨(Reg.PYL_WDOG p), 0, 1⟩
def Reg.PYL_WDOG_PERIOD (p : Nat) : Loc := ⟨(Reg.PYL_WDOG p), 8, 4⟩
def Reg.PYL_CNT (p : Nat) : Nat := 0x7f420000030 + p * 0x100000
def Reg.PYL_CNT_TAKEOVERS (p : Nat) : Loc := ⟨(Reg.PYL_CNT p), 0, 8⟩
def Reg.PYL_CNT_RELEASES (p : Nat) : Loc := ⟨(Reg.PYL_CNT p), 8, 8⟩
def Reg.PYL_CNT_STFAIL (p : Nat) : Loc := ⟨(Reg.PYL_CNT p), 16, 8⟩
def Reg.PYL_CNT_XLOSS (p : Nat) : Loc := ⟨(Reg.PYL_CNT p), 24, 8⟩
def Reg.AON_TOKEN : Nat := 0x7f4c0000000
def Reg.AON_TOKEN_OWNER : Loc := ⟨Reg.AON_TOKEN, 0, 2⟩
def Reg.AON_TOKEN_PREF : Loc := ⟨Reg.AON_TOKEN, 2, 1⟩
def Reg.AON_TOKEN_LASTCAUSE : Loc := ⟨Reg.AON_TOKEN, 8, 4⟩
def Reg.AON_TOKEN_LASTFROM : Loc := ⟨Reg.AON_TOKEN, 16, 2⟩
def Reg.AON_TOKEN_HANDOVERS : Loc := ⟨Reg.AON_TOKEN, 24, 8⟩
def Reg.AON_HSTORE : Nat := 0x7f4c0000008
def Reg.AON_HSTORE_VALID0 : Loc := ⟨Reg.AON_HSTORE, 0, 1⟩
def Reg.AON_HSTORE_VALID1 : Loc := ⟨Reg.AON_HSTORE, 1, 1⟩
def Reg.AON_HSTORE_NVVALID : Loc := ⟨Reg.AON_HSTORE, 2, 1⟩
def Reg.AON_HSTORE_NEWEST : Loc := ⟨Reg.AON_HSTORE, 3, 1⟩
def Reg.AON_HSTORE_EPOCH : Loc := ⟨Reg.AON_HSTORE, 8, 8⟩
def Reg.AON_HSTORE_GEN : Loc := ⟨Reg.AON_HSTORE, 16, 48⟩
def Reg.AON_HSFT : Nat := 0x7f4c0000010
def Reg.AON_HSFT_FT : Loc := ⟨Reg.AON_HSFT, 0, 64⟩
def Reg.AON_RELFT : Nat := 0x7f4c0000018
def Reg.AON_RELFT_FT : Loc := ⟨Reg.AON_RELFT, 0, 64⟩
def Reg.AON_MSEQ : Nat := 0x7f4c0000020
def Reg.AON_MSEQ_NEXT : Loc := ⟨Reg.AON_MSEQ, 0, 32⟩
def Reg.AON_MGMT : Nat := 0x7f4c0000028
def Reg.AON_MGMT_DUPS : Loc := ⟨Reg.AON_MGMT, 0, 16⟩
def Reg.AON_MGMT_EVICT : Loc := ⟨Reg.AON_MGMT, 16, 16⟩
def Reg.AON_MGMT_HELDDROP : Loc := ⟨Reg.AON_MGMT, 32, 16⟩
def Reg.AON_EVSEQ : Nat := 0x7f4c0000100
def Reg.AON_EVSEQ_NEXT : Loc := ⟨Reg.AON_EVSEQ, 0, 32⟩
def Reg.AON_EVSENT : Nat := 0x7f4c0000108
def Reg.AON_EVSENT_MARK : Loc := ⟨Reg.AON_EVSENT, 0, 16⟩
def Reg.AON_EVSENT_RINGA : Loc := ⟨Reg.AON_EVSENT, 16, 1⟩
def Reg.AON_EVSENT_RINGB : Loc := ⟨Reg.AON_EVSENT, 17, 1⟩
def Reg.AON_EVSENT_VAULT : Loc := ⟨Reg.AON_EVSENT, 18, 1⟩
def Reg.AON_ALERT : Nat := 0x7f4c0000110
def Reg.AON_ALERT_RING : Loc := ⟨Reg.AON_ALERT, 0, 1⟩
def Reg.AON_ALERT_NOPYLON : Loc := ⟨Reg.AON_ALERT, 1, 1⟩
def Reg.AON_ALERT_NOSTANDBY : Loc := ⟨Reg.AON_ALERT, 2, 1⟩
def Reg.AON_ALERT_CKPT : Loc := ⟨Reg.AON_ALERT, 3, 1⟩
def Reg.AON_ALERT_FTFAULT : Loc := ⟨Reg.AON_ALERT, 4, 1⟩
def Reg.AON_ALERT_CRIT : Loc := ⟨Reg.AON_ALERT, 5, 1⟩
def Reg.AON_ALERT_VAULT : Loc := ⟨Reg.AON_ALERT, 6, 1⟩
def Reg.AON_ALERT_LINKHOLD : Loc := ⟨Reg.AON_ALERT, 7, 1⟩
def Reg.AON_ALERT_POWER : Loc := ⟨Reg.AON_ALERT, 8, 1⟩
def Reg.AON_ALERT_RECOVERY : Loc := ⟨Reg.AON_ALERT, 9, 1⟩
def Reg.AON_ALERT_CALFAIL : Loc := ⟨Reg.AON_ALERT, 10, 1⟩
def Reg.AON_ALERT_MASK : Loc := ⟨Reg.AON_ALERT, 32, 11⟩
def Reg.AON_EVINTAKE : Nat := 0x7f4c0000118
def Reg.AON_EVINTAKE_LEVEL : Loc := ⟨Reg.AON_EVINTAKE, 0, 10⟩
def Reg.AON_EVINTAKE_OVERFLOW : Loc := ⟨Reg.AON_EVINTAKE, 16, 32⟩
def Reg.EVR_ID (r : Nat) : Nat := 0x7f430000000 + r * 0x200000
def Reg.EVR_ID_INST (r : Nat) : Loc := ⟨(Reg.EVR_ID r), 0, 1⟩
def Reg.EVR_CTL (r : Nat) : Nat := 0x7f430000008 + r * 0x200000
def Reg.EVR_CTL_FREEZE (r : Nat) : Loc := ⟨(Reg.EVR_CTL r), 0, 1⟩
def Reg.EVR_CTL_FRZMAX (r : Nat) : Loc := ⟨(Reg.EVR_CTL r), 16, 16⟩
def Reg.EVR_CTL_SUMPERIOD (r : Nat) : Loc := ⟨(Reg.EVR_CTL r), 32, 16⟩
def Reg.EVR_STATUS (r : Nat) : Nat := 0x7f430000010 + r * 0x200000
def Reg.EVR_STATUS_FROZEN (r : Nat) : Loc := ⟨(Reg.EVR_STATUS r), 0, 1⟩
def Reg.EVR_STATUS_DEGRADED (r : Nat) : Loc := ⟨(Reg.EVR_STATUS r), 1, 1⟩
def Reg.EVR_STATUS_HELD (r : Nat) : Loc := ⟨(Reg.EVR_STATUS r), 8, 9⟩
def Reg.EVR_RATE (r : Nat) : Nat := 0x7f430000018 + r * 0x200000
def Reg.EVR_RATE_RATE (r : Nat) : Loc := ⟨(Reg.EVR_RATE r), 0, 16⟩
def Reg.EVR_RATE_BURST (r : Nat) : Loc := ⟨(Reg.EVR_RATE r), 16, 16⟩
def Reg.EVR_VAULT (r : Nat) : Nat := 0x7f430000020 + r * 0x200000
def Reg.EVR_VAULT_MARK (r : Nat) : Loc := ⟨(Reg.EVR_VAULT r), 0, 32⟩
def Reg.EVR_VAULT_VPERIOD (r : Nat) : Loc := ⟨(Reg.EVR_VAULT r), 32, 16⟩
def Reg.EVR_VAULT_VFAIL (r : Nat) : Loc := ⟨(Reg.EVR_VAULT r), 48, 1⟩
def Reg.EVR_NOTIFY (r : Nat) : Nat := 0x7f430000028 + r * 0x200000
def Reg.EVR_NOTIFY_MINSEV (r : Nat) : Loc := ⟨(Reg.EVR_NOTIFY r), 0, 3⟩
def Reg.EVR_NOTIFY_HOSTIRQ (r : Nat) : Loc := ⟨(Reg.EVR_NOTIFY r), 3, 1⟩
def Reg.EVR_NOTIFY_NBUDGET (r : Nat) : Loc := ⟨(Reg.EVR_NOTIFY r), 8, 8⟩
def Reg.EVR_NOTIFY_COALESCE (r : Nat) : Loc := ⟨(Reg.EVR_NOTIFY r), 16, 16⟩
def Reg.EVR_NTARGET (r : Nat) : Nat := 0x7f430000030 + r * 0x200000
def Reg.EVR_NTARGET_T0 (r : Nat) : Loc := ⟨(Reg.EVR_NTARGET r), 0, 13⟩
def Reg.EVR_NTARGET_V0 (r : Nat) : Loc := ⟨(Reg.EVR_NTARGET r), 15, 1⟩
def Reg.EVR_NTARGET_T1 (r : Nat) : Loc := ⟨(Reg.EVR_NTARGET r), 16, 13⟩
def Reg.EVR_NTARGET_V1 (r : Nat) : Loc := ⟨(Reg.EVR_NTARGET r), 31, 1⟩
def Reg.EVR_NTARGET_T2 (r : Nat) : Loc := ⟨(Reg.EVR_NTARGET r), 32, 13⟩
def Reg.EVR_NTARGET_V2 (r : Nat) : Loc := ⟨(Reg.EVR_NTARGET r), 47, 1⟩
def Reg.EVR_NTARGET_T3 (r : Nat) : Loc := ⟨(Reg.EVR_NTARGET r), 48, 13⟩
def Reg.EVR_NTARGET_V3 (r : Nat) : Loc := ⟨(Reg.EVR_NTARGET r), 63, 1⟩
def Reg.EVR_LOST (r : Nat) : Nat := 0x7f430000038 + r * 0x200000
def Reg.EVR_LOST_VLOST (r : Nat) : Loc := ⟨(Reg.EVR_LOST r), 0, 16⟩
def Reg.EVR_LOST_BADCODE (r : Nat) : Loc := ⟨(Reg.EVR_LOST r), 16, 16⟩
def Reg.EVR_LOST_RATELIM (r : Nat) : Loc := ⟨(Reg.EVR_LOST r), 32, 32⟩
def Reg.EVR_SEVLOST (r : Nat) : Nat := 0x7f430000040 + r * 0x200000
def Reg.EVR_SEVLOST_S0 (r : Nat) : Loc := ⟨(Reg.EVR_SEVLOST r), 0, 12⟩
def Reg.EVR_SEVLOST_S1 (r : Nat) : Loc := ⟨(Reg.EVR_SEVLOST r), 12, 12⟩
def Reg.EVR_SEVLOST_S2 (r : Nat) : Loc := ⟨(Reg.EVR_SEVLOST r), 24, 12⟩
def Reg.EVR_SEVLOST_S3 (r : Nat) : Loc := ⟨(Reg.EVR_SEVLOST r), 36, 12⟩
def Reg.EVR_SEVLOST_S4 (r : Nat) : Loc := ⟨(Reg.EVR_SEVLOST r), 48, 12⟩
def Reg.EVR_RLOVR (r n : Nat) : Nat := 0x7f430000100 + r * 0x200000 + n * 8
def Reg.EVR_RLOVR_CODE (r n : Nat) : Loc := ⟨(Reg.EVR_RLOVR r n), 0, 16⟩
def Reg.EVR_RLOVR_RATE (r n : Nat) : Loc := ⟨(Reg.EVR_RLOVR r n), 16, 16⟩
def Reg.EVR_RLOVR_BURST (r n : Nat) : Loc := ⟨(Reg.EVR_RLOVR r n), 32, 16⟩
def Reg.EVR_RLOVR_VALID (r n : Nat) : Loc := ⟨(Reg.EVR_RLOVR r n), 48, 1⟩
def Reg.EVR_RING (r n k : Nat) : Nat := 0x7f430100000 + r * 0x200000 + n * 0x40 + k * 8
def Reg.EVR_RING_W (r n k : Nat) : Loc := ⟨(Reg.EVR_RING r n k), 0, 64⟩
def Reg.CTR_CTL : Nat := 0x7f440000000
def Reg.CTR_CTL_EN : Loc := ⟨Reg.CTR_CTL, 0, 1⟩
def Reg.CTR_CTL_NOW : Loc := ⟨Reg.CTR_CTL, 1, 1⟩
def Reg.CTR_CTL_WRAP : Loc := ⟨Reg.CTR_CTL, 2, 1⟩
def Reg.CTR_PERIOD : Nat := 0x7f440000008
def Reg.CTR_PERIOD_PERIOD : Loc := ⟨Reg.CTR_PERIOD, 0, 32⟩
def Reg.CTR_PERIOD_PHASE : Loc := ⟨Reg.CTR_PERIOD, 32, 32⟩
def Reg.CTR_MASK : Nat := 0x7f440000010
def Reg.CTR_MASK_MASK : Loc := ⟨Reg.CTR_MASK, 0, 8⟩
def Reg.CTR_BUF : Nat := 0x7f440000018
def Reg.CTR_BUF_ADDR : Loc := ⟨Reg.CTR_BUF, 0, 43⟩
def Reg.CTR_BUFSZ : Nat := 0x7f440000020
def Reg.CTR_BUFSZ_SIZE : Loc := ⟨Reg.CTR_BUFSZ, 0, 40⟩
def Reg.CTR_HEAD : Nat := 0x7f440000028
def Reg.CTR_HEAD_HEAD : Loc := ⟨Reg.CTR_HEAD, 0, 32⟩
def Reg.CTR_TAIL : Nat := 0x7f440000030
def Reg.CTR_TAIL_TAIL : Loc := ⟨Reg.CTR_TAIL, 0, 32⟩
def Reg.CTR_STATUS : Nat := 0x7f440000038
def Reg.CTR_STATUS_BUSY : Loc := ⟨Reg.CTR_STATUS, 0, 1⟩
def Reg.CTR_STATUS_DROPPED : Loc := ⟨Reg.CTR_STATUS, 16, 16⟩
def Reg.CTR_STATUS_MISSED : Loc := ⟨Reg.CTR_STATUS, 32, 16⟩
def Reg.CTR_SEQ : Nat := 0x7f440000040
def Reg.CTR_SEQ_SEQ : Loc := ⟨Reg.CTR_SEQ, 0, 32⟩
def Reg.CTR_TAGBUF : Nat := 0x7f440000080
def Reg.CTR_TAGBUF_ADDR : Loc := ⟨Reg.CTR_TAGBUF, 0, 43⟩
def Reg.CTR_TAGSZ : Nat := 0x7f440000088
def Reg.CTR_TAGSZ_RECORDS : Loc := ⟨Reg.CTR_TAGSZ, 0, 24⟩
def Reg.CTR_TAGHEAD : Nat := 0x7f440000090
def Reg.CTR_TAGHEAD_HEAD : Loc := ⟨Reg.CTR_TAGHEAD, 0, 24⟩
def Reg.CTR_TAGTAIL : Nat := 0x7f440000098
def Reg.CTR_TAGTAIL_TAIL : Loc := ⟨Reg.CTR_TAGTAIL, 0, 24⟩
def Reg.CTR_TAGSTAT : Nat := 0x7f4400000a0
def Reg.CTR_TAGSTAT_WRITTEN : Loc := ⟨Reg.CTR_TAGSTAT, 0, 32⟩
def Reg.CTR_TAGSTAT_DROPPED : Loc := ⟨Reg.CTR_TAGSTAT, 32, 16⟩
def Reg.CTR_HIST_CTL (n : Nat) : Nat := 0x7f440010000 + n * 0x200
def Reg.CTR_HIST_CTL_EN (n : Nat) : Loc := ⟨(Reg.CTR_HIST_CTL n), 0, 1⟩
def Reg.CTR_HIST_CTL_CLR (n : Nat) : Loc := ⟨(Reg.CTR_HIST_CTL n), 1, 1⟩
def Reg.CTR_HIST_CTL_QUAL (n : Nat) : Loc := ⟨(Reg.CTR_HIST_CTL n), 8, 8⟩
def Reg.CTR_HIST_TOTAL (n : Nat) : Nat := 0x7f440010008 + n * 0x200
def Reg.CTR_HIST_TOTAL_TOTAL (n : Nat) : Loc := ⟨(Reg.CTR_HIST_TOTAL n), 0, 48⟩
def Reg.CTR_HIST_BIN (n k : Nat) : Nat := 0x7f440010100 + n * 0x200 + k * 8
def Reg.CTR_HIST_BIN_COUNT (n k : Nat) : Loc := ⟨(Reg.CTR_HIST_BIN n k), 0, 48⟩
def Reg.SEC_ID : Nat := 0x7f450000000
def Reg.SEC_ID_ROMREV : Loc := ⟨Reg.SEC_ID, 0, 8⟩
def Reg.SEC_ID_NMEAS : Loc := ⟨Reg.SEC_ID, 8, 8⟩
def Reg.SEC_CTL : Nat := 0x7f450000008
def Reg.SEC_CTL_AVC7EN : Loc := ⟨Reg.SEC_CTL, 0, 1⟩
def Reg.SEC_CTL_LOWMARK : Loc := ⟨Reg.SEC_CTL, 32, 21⟩
def Reg.SEC_STATUS : Nat := 0x7f450000010
def Reg.SEC_STATUS_KEYOK : Loc := ⟨Reg.SEC_STATUS, 0, 1⟩
def Reg.SEC_STATUS_LOW : Loc := ⟨Reg.SEC_STATUS, 1, 1⟩
def Reg.SEC_STATUS_EXHAUSTED : Loc := ⟨Reg.SEC_STATUS, 2, 1⟩
def Reg.SEC_STATUS_NVFAIL : Loc := ⟨Reg.SEC_STATUS, 3, 1⟩
def Reg.SEC_STATUS_EXTREF : Loc := ⟨Reg.SEC_STATUS, 4, 1⟩
def Reg.SEC_STATUS_BUSY : Loc := ⟨Reg.SEC_STATUS, 5, 1⟩
def Reg.SEC_STATUS_QUEUED : Loc := ⟨Reg.SEC_STATUS, 8, 5⟩
def Reg.SEC_SIGIDX : Nat := 0x7f450000018
def Reg.SEC_SIGIDX_NEXT : Loc := ⟨Reg.SEC_SIGIDX, 0, 21⟩
def Reg.SEC_SIGIDX_RESV : Loc := ⟨Reg.SEC_SIGIDX, 32, 21⟩
def Reg.SEC_ARATE : Nat := 0x7f450000020
def Reg.SEC_ARATE_RATE : Loc := ⟨Reg.SEC_ARATE, 0, 16⟩
def Reg.SEC_ARATE_BURST : Loc := ⟨Reg.SEC_ARATE, 16, 16⟩
def Reg.SEC_ARATE_LIMITED : Loc := ⟨Reg.SEC_ARATE, 32, 16⟩
def Reg.SEC_SEALCNT : Nat := 0x7f450000028
def Reg.SEC_SEALCNT_COUNT : Loc := ⟨Reg.SEC_SEALCNT, 0, 32⟩
def Reg.SEC_RNG : Nat := 0x7f450000030
def Reg.SEC_RNG_VALUE : Loc := ⟨Reg.SEC_RNG, 0, 64⟩
def Reg.SEC_EXTGO : Nat := 0x7f450000038
def Reg.SEC_EXTGO_MR : Loc := ⟨Reg.SEC_EXTGO, 0, 4⟩
def Reg.SEC_EXTGO_GO : Loc := ⟨Reg.SEC_EXTGO, 4, 1⟩
def Reg.SEC_EXTDATA (n : Nat) : Nat := 0x7f450000040 + n * 8
def Reg.SEC_EXTDATA_DATA (n : Nat) : Loc := ⟨(Reg.SEC_EXTDATA n), 0, 64⟩
def Reg.SEC_KEYSLOT (n : Nat) : Nat := 0x7f450000080 + n * 8
def Reg.SEC_KEYSLOT_STATE (n : Nat) : Loc := ⟨(Reg.SEC_KEYSLOT n), 0, 2⟩
def Reg.SEC_EXTCNT (n : Nat) : Nat := 0x7f450000100 + n * 8
def Reg.SEC_EXTCNT_COUNT (n : Nat) : Loc := ⟨(Reg.SEC_EXTCNT n), 0, 32⟩
def Reg.SEC_LOGSEQ : Nat := 0x7f450000180
def Reg.SEC_LOGSEQ_NEXT : Loc := ⟨Reg.SEC_LOGSEQ, 0, 32⟩
def Reg.SEC_MEAS (n k : Nat) : Nat := 0x7f450001000 + n * 0x40 + k * 8
def Reg.SEC_MEAS_W (n k : Nat) : Loc := ⟨(Reg.SEC_MEAS n k), 0, 64⟩
def Reg.SEC_FUSEROOT (n k : Nat) : Nat := 0x7f450000200 + n * 0x20 + k * 8
def Reg.SEC_FUSEROOT_W (n k : Nat) : Loc := ⟨(Reg.SEC_FUSEROOT n k), 0, 64⟩
def Reg.SEC_LOG (n k : Nat) : Nat := 0x7f450010000 + n * 0x80 + k * 8
def Reg.SEC_LOG_W (n k : Nat) : Loc := ⟨(Reg.SEC_LOG n k), 0, 64⟩
def Reg.UPD_CTL : Nat := 0x7f460000000
def Reg.UPD_CTL_FABEN : Loc := ⟨Reg.UPD_CTL, 0, 1⟩
def Reg.UPD_CTL_IDLE : Loc := ⟨Reg.UPD_CTL, 16, 16⟩
def Reg.UPD_STATUS : Nat := 0x7f460000008
def Reg.UPD_STATUS_LOCK : Loc := ⟨Reg.UPD_STATUS, 0, 2⟩
def Reg.UPD_STATUS_MOVING : Loc := ⟨Reg.UPD_STATUS, 2, 1⟩
def Reg.UPD_STATUS_HOLDUP : Loc := ⟨Reg.UPD_STATUS, 3, 1⟩
def Reg.UPD_STATUS_OWNERLOCK : Loc := ⟨Reg.UPD_STATUS, 4, 1⟩
def Reg.UPD_STATUS_SETUNREAD : Loc := ⟨Reg.UPD_STATUS, 5, 1⟩
def Reg.UPD_STATUS_LASTCODE : Loc := ⟨Reg.UPD_STATUS, 8, 8⟩
def Reg.UPD_STATUS_LOCKMOD : Loc := ⟨Reg.UPD_STATUS, 16, 13⟩
def Reg.UPD_STATUS_PHASE : Loc := ⟨Reg.UPD_STATUS, 32, 3⟩
def Reg.UPD_STATUS_PENDING : Loc := ⟨Reg.UPD_STATUS, 40, 8⟩
def Reg.UPD_STAGE : Nat := 0x7f460000010
def Reg.UPD_STAGE_COMP : Loc := ⟨Reg.UPD_STAGE, 0, 8⟩
def Reg.UPD_STAGE_EPOCH : Loc := ⟨Reg.UPD_STAGE, 8, 8⟩
def Reg.UPD_STAGE_RECEIVED : Loc := ⟨Reg.UPD_STAGE, 16, 25⟩
def Reg.UPD_OWNER : Nat := 0x7f460000018
def Reg.UPD_OWNER_SET : Loc := ⟨Reg.UPD_OWNER, 0, 1⟩
def Reg.UPD_OWNER_LOCKED : Loc := ⟨Reg.UPD_OWNER, 1, 1⟩
def Reg.UPD_OWNER_LOCKSEQ : Loc := ⟨Reg.UPD_OWNER, 32, 32⟩
def Reg.UPD_RECOV : Nat := 0x7f460000020
def Reg.UPD_RECOV_REQ : Loc := ⟨Reg.UPD_RECOV, 0, 1⟩
def Reg.UPD_RECOV_GO : Loc := ⟨Reg.UPD_RECOV, 1, 1⟩
def Reg.UPD_RECOV_PYL : Loc := ⟨Reg.UPD_RECOV, 2, 1⟩
def Reg.UPD_RECOV_ACTA : Loc := ⟨Reg.UPD_RECOV, 3, 1⟩
def Reg.UPD_RECOV_ACTB : Loc := ⟨Reg.UPD_RECOV, 4, 1⟩
def Reg.UPD_RECOV_STATUS : Loc := ⟨Reg.UPD_RECOV, 8, 8⟩
def Reg.UPD_RECOV_KEY : Loc := ⟨Reg.UPD_RECOV, 16, 16⟩
def Reg.UPD_RECOV_LEN : Loc := ⟨Reg.UPD_RECOV, 32, 25⟩
def Reg.UPD_COMP (n : Nat) : Nat := 0x7f460000040 + n * 8
def Reg.UPD_COMP_VERSION (n : Nat) : Loc := ⟨(Reg.UPD_COMP n), 0, 32⟩
def Reg.UPD_COMP_EPOCH (n : Nat) : Loc := ⟨(Reg.UPD_COMP n), 32, 8⟩
def Reg.UPD_COMP_ACTSLOT (n : Nat) : Loc := ⟨(Reg.UPD_COMP n), 40, 1⟩
def Reg.UPD_COMP_PENDING (n : Nat) : Loc := ⟨(Reg.UPD_COMP n), 41, 1⟩
def Reg.UPD_COMP_VALID0 (n : Nat) : Loc := ⟨(Reg.UPD_COMP n), 42, 1⟩
def Reg.UPD_COMP_VALID1 (n : Nat) : Loc := ⟨(Reg.UPD_COMP n), 43, 1⟩
def Reg.UPD_COMP_MIXED (n : Nat) : Loc := ⟨(Reg.UPD_COMP n), 44, 1⟩
def Reg.UPD_DIGW (n : Nat) : Nat := 0x7f460000080 + n * 8
def Reg.UPD_DIGW_DIG (n : Nat) : Loc := ⟨(Reg.UPD_DIGW n), 0, 64⟩
def Reg.UPD_DIGL (n : Nat) : Nat := 0x7f4600000c0 + n * 8
def Reg.UPD_DIGL_DIG (n : Nat) : Loc := ⟨(Reg.UPD_DIGL n), 0, 64⟩
def Reg.UPD_WINDOW (n : Nat) : Nat := 0x7f461000000 + n * 8
def Reg.UPD_WINDOW_W (n : Nat) : Loc := ⟨(Reg.UPD_WINDOW n), 0, 64⟩
def Reg.CAL_CTL : Nat := 0x7f470000000
def Reg.CAL_CTL_AUTOPORT : Loc := ⟨Reg.CAL_CTL, 0, 1⟩
def Reg.CAL_CTL_AUTOMEM : Loc := ⟨Reg.CAL_CTL, 1, 1⟩
def Reg.CAL_CTL_DELTA : Loc := ⟨Reg.CAL_CTL, 8, 5⟩
def Reg.CAL_STATUS : Nat := 0x7f470000008
def Reg.CAL_STATUS_PORTRUN : Loc := ⟨Reg.CAL_STATUS, 0, 7⟩
def Reg.CAL_STATUS_MEMRUN : Loc := ⟨Reg.CAL_STATUS, 8, 7⟩
def Reg.CAL_STATUS_STARTUP : Loc := ⟨Reg.CAL_STATUS, 15, 1⟩
def Reg.CAL_STATUS_RUNS : Loc := ⟨Reg.CAL_STATUS, 16, 16⟩
def Reg.CAL_STATUS_FAILS : Loc := ⟨Reg.CAL_STATUS, 32, 16⟩
def Reg.CAL_REQ : Nat := 0x7f470000010
def Reg.CAL_REQ_ELEM : Loc := ⟨Reg.CAL_REQ, 0, 7⟩
def Reg.CAL_REQ_GO : Loc := ⟨Reg.CAL_REQ, 7, 1⟩
def Reg.CAL_DUE0 : Nat := 0x7f470000018
def Reg.CAL_DUE0_DUE : Loc := ⟨Reg.CAL_DUE0, 0, 64⟩
def Reg.CAL_DUE1 : Nat := 0x7f470000020
def Reg.CAL_DUE1_DUE : Loc := ⟨Reg.CAL_DUE1, 0, 48⟩
def Reg.CAL_FAIL0 : Nat := 0x7f470000028
def Reg.CAL_FAIL0_FAIL : Loc := ⟨Reg.CAL_FAIL0, 0, 64⟩
def Reg.CAL_FAIL1 : Nat := 0x7f470000030
def Reg.CAL_FAIL1_FAIL : Loc := ⟨Reg.CAL_FAIL1, 0, 48⟩
def Reg.CAL_ZONE (n : Nat) : Nat := 0x7f470000100 + n * 8
def Reg.CAL_ZONE_TEMP (n : Nat) : Loc := ⟨(Reg.CAL_ZONE n), 0, 8⟩
def Reg.CAL_ZONE_LASTTEMP (n : Nat) : Loc := ⟨(Reg.CAL_ZONE n), 8, 8⟩
def Reg.CAL_ZONE_STORED (n : Nat) : Loc := ⟨(Reg.CAL_ZONE n), 16, 1⟩
def Reg.PWR_CTL : Nat := 0x7f480000000
def Reg.PWR_CTL_ENV : Loc := ⟨Reg.PWR_CTL, 0, 2⟩
def Reg.PWR_CTL_REQ : Loc := ⟨Reg.PWR_CTL, 8, 3⟩
def Reg.PWR_CTL_GO : Loc := ⟨Reg.PWR_CTL, 11, 1⟩
def Reg.PWR_CTL_THROT : Loc := ⟨Reg.PWR_CTL, 16, 8⟩
def Reg.PWR_STATUS : Nat := 0x7f480000008
def Reg.PWR_STATUS_STATE : Loc := ⟨Reg.PWR_STATUS, 0, 3⟩
def Reg.PWR_STATUS_BUSY : Loc := ⟨Reg.PWR_STATUS, 3, 1⟩
def Reg.PWR_STATUS_ENVNOW : Loc := ⟨Reg.PWR_STATUS, 4, 2⟩
def Reg.PWR_STATUS_CEIL : Loc := ⟨Reg.PWR_STATUS, 6, 2⟩
def Reg.PWR_STATUS_CLAMP : Loc := ⟨Reg.PWR_STATUS, 8, 1⟩
def Reg.PWR_STATUS_HOLDUP : Loc := ⟨Reg.PWR_STATUS, 9, 1⟩
def Reg.PWR_STATUS_THROTTLED : Loc := ⟨Reg.PWR_STATUS, 10, 1⟩
def Reg.PWR_STATUS_PACED : Loc := ⟨Reg.PWR_STATUS, 11, 1⟩
def Reg.PWR_STATUS_REFUSE : Loc := ⟨Reg.PWR_STATUS, 12, 4⟩
def Reg.PWR_STATUS_SPNMHZ : Loc := ⟨Reg.PWR_STATUS, 24, 12⟩
def Reg.PWR_RST : Nat := 0x7f480000010
def Reg.PWR_RST_LD0 : Loc := ⟨Reg.PWR_RST, 0, 1⟩
def Reg.PWR_RST_LD1 : Loc := ⟨Reg.PWR_RST, 1, 1⟩
def Reg.PWR_RST_PD0 : Loc := ⟨Reg.PWR_RST, 2, 1⟩
def Reg.PWR_RST_PD1 : Loc := ⟨Reg.PWR_RST, 3, 1⟩
def Reg.PWR_RST_PD2 : Loc := ⟨Reg.PWR_RST, 4, 1⟩
def Reg.PWR_RST_PD3 : Loc := ⟨Reg.PWR_RST, 5, 1⟩
def Reg.PWR_RST_PORT0 : Loc := ⟨Reg.PWR_RST, 6, 1⟩
def Reg.PWR_RST_PORT1 : Loc := ⟨Reg.PWR_RST, 7, 1⟩
def Reg.PWR_RST_PORT2 : Loc := ⟨Reg.PWR_RST, 8, 1⟩
def Reg.PWR_RST_PORT3 : Loc := ⟨Reg.PWR_RST, 9, 1⟩
def Reg.PWR_RST_PORT4 : Loc := ⟨Reg.PWR_RST, 10, 1⟩
def Reg.PWR_RST_PORT5 : Loc := ⟨Reg.PWR_RST, 11, 1⟩
def Reg.PWR_RST_PORT6 : Loc := ⟨Reg.PWR_RST, 12, 1⟩
def Reg.PWR_RST_PORT7 : Loc := ⟨Reg.PWR_RST, 13, 1⟩
def Reg.PWR_RST_PORT8 : Loc := ⟨Reg.PWR_RST, 14, 1⟩
def Reg.PWR_RST_PORT9 : Loc := ⟨Reg.PWR_RST, 15, 1⟩
def Reg.PWR_RST_HOST : Loc := ⟨Reg.PWR_RST, 16, 1⟩
def Reg.PWR_RST_PYLA : Loc := ⟨Reg.PWR_RST, 17, 1⟩
def Reg.PWR_RST_PYLB : Loc := ⟨Reg.PWR_RST, 18, 1⟩
def Reg.PWR_MEAS : Nat := 0x7f480000018
def Reg.PWR_MEAS_PIN : Loc := ⟨Reg.PWR_MEAS, 0, 16⟩
def Reg.PWR_MEAS_VBUS : Loc := ⟨Reg.PWR_MEAS, 16, 16⟩
def Reg.PWR_MEAS_ESTORE : Loc := ⟨Reg.PWR_MEAS, 32, 16⟩
def Reg.PWR_TEMP : Nat := 0x7f480000020
def Reg.PWR_TEMP_TJMAX : Loc := ⟨Reg.PWR_TEMP, 0, 8⟩
def Reg.PWR_TEMP_DIE : Loc := ⟨Reg.PWR_TEMP, 8, 3⟩
def Reg.PWR_TEMP_INLET : Loc := ⟨Reg.PWR_TEMP, 16, 8⟩
def Reg.PWR_FAULT : Nat := 0x7f480000028
def Reg.PWR_FAULT_SUPPLY : Loc := ⟨Reg.PWR_FAULT, 0, 1⟩
def Reg.PWR_FAULT_INLETHOT : Loc := ⟨Reg.PWR_FAULT, 1, 1⟩
def Reg.PWR_FAULT_THERMTHROT : Loc := ⟨Reg.PWR_FAULT, 2, 1⟩
def Reg.PWR_FAULT_HOLDUPLOW : Loc := ⟨Reg.PWR_FAULT, 3, 1⟩
def Reg.PWR_FAULT_LASTLOSS : Loc := ⟨Reg.PWR_FAULT, 4, 1⟩
def Reg.PWR_FAULT_LASTTRIP : Loc := ⟨Reg.PWR_FAULT, 5, 1⟩
def Reg.ABT_CTL : Nat := 0x7f490000000
def Reg.ABT_CTL_MODER : Loc := ⟨Reg.ABT_CTL, 0, 16⟩
def Reg.ABT_CTL_RELEASE : Loc := ⟨Reg.ABT_CTL, 16, 1⟩
def Reg.ABT_STATUS : Nat := 0x7f490000008
def Reg.ABT_STATUS_UP : Loc := ⟨Reg.ABT_STATUS, 0, 1⟩
def Reg.ABT_STATUS_HELD : Loc := ⟨Reg.ABT_STATUS, 1, 1⟩
def Reg.ABT_STATUS_MRDOUT : Loc := ⟨Reg.ABT_STATUS, 8, 11⟩
def Reg.ABT_STATUS_VPEND : Loc := ⟨Reg.ABT_STATUS, 32, 13⟩
def Reg.ABT_STATUS_QPEND : Loc := ⟨Reg.ABT_STATUS, 48, 9⟩
def Reg.ABT_ERR : Nat := 0x7f490000010
def Reg.ABT_ERR_BAD : Loc := ⟨Reg.ABT_ERR, 0, 16⟩
def Reg.ABT_ERR_RDFAIL : Loc := ⟨Reg.ABT_ERR, 16, 16⟩
def Reg.ABT_ERR_MALF : Loc := ⟨Reg.ABT_ERR, 32, 16⟩
def Reg.ABT_ERR_RESENT : Loc := ⟨Reg.ABT_ERR, 48, 16⟩
def Reg.MBX_CTL (n : Nat) : Nat := 0x7f4b0000000 + n * 0x1000
def Reg.MBX_CTL_GO (n : Nat) : Loc := ⟨(Reg.MBX_CTL n), 0, 1⟩
def Reg.MBX_CTL_DONE (n : Nat) : Loc := ⟨(Reg.MBX_CTL n), 1, 1⟩
def Reg.MBX_CTL_SEQ (n : Nat) : Loc := ⟨(Reg.MBX_CTL n), 8, 8⟩
def Reg.MBX_CTL_CMD (n : Nat) : Loc := ⟨(Reg.MBX_CTL n), 16, 16⟩
def Reg.MBX_CTL_STATUS (n : Nat) : Loc := ⟨(Reg.MBX_CTL n), 32, 16⟩
def Reg.MBX_CTL_RLEN (n : Nat) : Loc := ⟨(Reg.MBX_CTL n), 48, 8⟩
def Reg.MBX_CMDREG (n k : Nat) : Nat := 0x7f4b0000100 + n * 0x1000 + k * 8
def Reg.MBX_CMDREG_V (n k : Nat) : Loc := ⟨(Reg.MBX_CMDREG n k), 0, 64⟩
def Reg.MBX_RSP (n k : Nat) : Nat := 0x7f4b0000200 + n * 0x1000 + k * 8
def Reg.MBX_RSP_V (n k : Nat) : Loc := ⟨(Reg.MBX_RSP n k), 0, 64⟩
def Reg.MSH_PAT_CTL (m n : Nat) : Nat := 0x7f4d0000110 + m * 0x10000 + n * 0x40
def Reg.MSH_PAT_CTL_PAT (m n : Nat) : Loc := ⟨(Reg.MSH_PAT_CTL m n), 0, 4⟩
def Reg.MSH_PAT_CTL_GEN (m n : Nat) : Loc := ⟨(Reg.MSH_PAT_CTL m n), 4, 1⟩
def Reg.MSH_PAT_CTL_CHK (m n : Nat) : Loc := ⟨(Reg.MSH_PAT_CTL m n), 5, 1⟩
def Reg.MSH_PAT_CTL_LOCK (m n : Nat) : Loc := ⟨(Reg.MSH_PAT_CTL m n), 6, 1⟩
def Reg.MSH_PAT_CTL_INJ (m n : Nat) : Loc := ⟨(Reg.MSH_PAT_CTL m n), 7, 1⟩
def Reg.MSH_PAT_CTL_CLR (m n : Nat) : Loc := ⟨(Reg.MSH_PAT_CTL m n), 8, 1⟩
def Reg.MSH_PAT_USER (m n : Nat) : Nat := 0x7f4d0000118 + m * 0x10000 + n * 0x40
def Reg.MSH_PAT_USER_PATTERN (m n : Nat) : Loc := ⟨(Reg.MSH_PAT_USER m n), 0, 64⟩
def Reg.MSH_PAT_ERR (m n : Nat) : Nat := 0x7f4d0000120 + m * 0x10000 + n * 0x40
def Reg.MSH_PAT_ERR_ERRORS (m n : Nat) : Loc := ⟨(Reg.MSH_PAT_ERR m n), 0, 48⟩
def Reg.MSH_PAT_BITS (m n : Nat) : Nat := 0x7f4d0000128 + m * 0x10000 + n * 0x40
def Reg.MSH_PAT_BITS_BITS (m n : Nat) : Loc := ⟨(Reg.MSH_PAT_BITS m n), 0, 64⟩
def Reg.SPN_PMC_ID (s : Nat) : Nat := 0x7f000080000 + s * 0x100000
def Reg.SPN_PMC_ID_KIND (s : Nat) : Loc := ⟨(Reg.SPN_PMC_ID s), 0, 4⟩
def Reg.SPN_PMC_ID_INST (s : Nat) : Loc := ⟨(Reg.SPN_PMC_ID s), 8, 9⟩
def Reg.SPN_PMC_ID_CLKMHZ (s : Nat) : Loc := ⟨(Reg.SPN_PMC_ID s), 32, 12⟩
def Reg.SPN_PMC_ID_NCNT (s : Nat) : Loc := ⟨(Reg.SPN_PMC_ID s), 44, 4⟩
def Reg.SPN_PMC_CTL (s : Nat) : Nat := 0x7f000080008 + s * 0x100000
def Reg.SPN_PMC_CTL_EN (s : Nat) : Loc := ⟨(Reg.SPN_PMC_CTL s), 0, 1⟩
def Reg.SPN_PMC_CTL_CLR (s : Nat) : Loc := ⟨(Reg.SPN_PMC_CTL s), 1, 1⟩
def Reg.SPN_PMC_CTL_OVFFRZ (s : Nat) : Loc := ⟨(Reg.SPN_PMC_CTL s), 2, 1⟩
def Reg.SPN_PMC_CYCLE (s : Nat) : Nat := 0x7f000080010 + s * 0x100000
def Reg.SPN_PMC_CYCLE_CYCLE (s : Nat) : Loc := ⟨(Reg.SPN_PMC_CYCLE s), 0, 64⟩
def Reg.SPN_PMC_OVF (s : Nat) : Nat := 0x7f000080018 + s * 0x100000
def Reg.SPN_PMC_OVF_OVF (s : Nat) : Loc := ⟨(Reg.SPN_PMC_OVF s), 0, 6⟩
def Reg.SPN_PMC_SEL (s n : Nat) : Nat := 0x7f000080040 + s * 0x100000 + n * 8
def Reg.SPN_PMC_SEL_EN (s n : Nat) : Loc := ⟨(Reg.SPN_PMC_SEL s n), 0, 1⟩
def Reg.SPN_PMC_SEL_EDGE (s n : Nat) : Loc := ⟨(Reg.SPN_PMC_SEL s n), 1, 1⟩
def Reg.SPN_PMC_SEL_CHAIN (s n : Nat) : Loc := ⟨(Reg.SPN_PMC_SEL s n), 2, 1⟩
def Reg.SPN_PMC_SEL_OVFIRQ (s n : Nat) : Loc := ⟨(Reg.SPN_PMC_SEL s n), 3, 1⟩
def Reg.SPN_PMC_SEL_EVENT (s n : Nat) : Loc := ⟨(Reg.SPN_PMC_SEL s n), 8, 10⟩
def Reg.SPN_PMC_SEL_QUAL (s n : Nat) : Loc := ⟨(Reg.SPN_PMC_SEL s n), 24, 16⟩
def Reg.SPN_PMC_CNT (s n : Nat) : Nat := 0x7f000080080 + s * 0x100000 + n * 8
def Reg.SPN_PMC_CNT_COUNT (s n : Nat) : Loc := ⟨(Reg.SPN_PMC_CNT s n), 0, 48⟩
def Reg.GGE_PMC_ID (g : Nat) : Nat := 0x7f040008000 + g * 0x10000
def Reg.GGE_PMC_ID_KIND (g : Nat) : Loc := ⟨(Reg.GGE_PMC_ID g), 0, 4⟩
def Reg.GGE_PMC_ID_INST (g : Nat) : Loc := ⟨(Reg.GGE_PMC_ID g), 8, 9⟩
def Reg.GGE_PMC_ID_CLKMHZ (g : Nat) : Loc := ⟨(Reg.GGE_PMC_ID g), 32, 12⟩
def Reg.GGE_PMC_ID_NCNT (g : Nat) : Loc := ⟨(Reg.GGE_PMC_ID g), 44, 4⟩
def Reg.GGE_PMC_CTL (g : Nat) : Nat := 0x7f040008008 + g * 0x10000
def Reg.GGE_PMC_CTL_EN (g : Nat) : Loc := ⟨(Reg.GGE_PMC_CTL g), 0, 1⟩
def Reg.GGE_PMC_CTL_CLR (g : Nat) : Loc := ⟨(Reg.GGE_PMC_CTL g), 1, 1⟩
def Reg.GGE_PMC_CTL_OVFFRZ (g : Nat) : Loc := ⟨(Reg.GGE_PMC_CTL g), 2, 1⟩
def Reg.GGE_PMC_CYCLE (g : Nat) : Nat := 0x7f040008010 + g * 0x10000
def Reg.GGE_PMC_CYCLE_CYCLE (g : Nat) : Loc := ⟨(Reg.GGE_PMC_CYCLE g), 0, 64⟩
def Reg.GGE_PMC_OVF (g : Nat) : Nat := 0x7f040008018 + g * 0x10000
def Reg.GGE_PMC_OVF_OVF (g : Nat) : Loc := ⟨(Reg.GGE_PMC_OVF g), 0, 6⟩
def Reg.GGE_PMC_SEL (g n : Nat) : Nat := 0x7f040008040 + g * 0x10000 + n * 8
def Reg.GGE_PMC_SEL_EN (g n : Nat) : Loc := ⟨(Reg.GGE_PMC_SEL g n), 0, 1⟩
def Reg.GGE_PMC_SEL_EDGE (g n : Nat) : Loc := ⟨(Reg.GGE_PMC_SEL g n), 1, 1⟩
def Reg.GGE_PMC_SEL_CHAIN (g n : Nat) : Loc := ⟨(Reg.GGE_PMC_SEL g n), 2, 1⟩
def Reg.GGE_PMC_SEL_OVFIRQ (g n : Nat) : Loc := ⟨(Reg.GGE_PMC_SEL g n), 3, 1⟩
def Reg.GGE_PMC_SEL_EVENT (g n : Nat) : Loc := ⟨(Reg.GGE_PMC_SEL g n), 8, 10⟩
def Reg.GGE_PMC_SEL_QUAL (g n : Nat) : Loc := ⟨(Reg.GGE_PMC_SEL g n), 24, 16⟩
def Reg.GGE_PMC_CNT (g n : Nat) : Nat := 0x7f040008080 + g * 0x10000 + n * 8
def Reg.GGE_PMC_CNT_COUNT (g n : Nat) : Loc := ⟨(Reg.GGE_PMC_CNT g n), 0, 48⟩
def Reg.PIER_PMC_ID (p : Nat) : Nat := 0x7f080800000 + p * 0x1000000
def Reg.PIER_PMC_ID_KIND (p : Nat) : Loc := ⟨(Reg.PIER_PMC_ID p), 0, 4⟩
def Reg.PIER_PMC_ID_INST (p : Nat) : Loc := ⟨(Reg.PIER_PMC_ID p), 8, 9⟩
def Reg.PIER_PMC_ID_CLKMHZ (p : Nat) : Loc := ⟨(Reg.PIER_PMC_ID p), 32, 12⟩
def Reg.PIER_PMC_ID_NCNT (p : Nat) : Loc := ⟨(Reg.PIER_PMC_ID p), 44, 4⟩
def Reg.PIER_PMC_CTL (p : Nat) : Nat := 0x7f080800008 + p * 0x1000000
def Reg.PIER_PMC_CTL_EN (p : Nat) : Loc := ⟨(Reg.PIER_PMC_CTL p), 0, 1⟩
def Reg.PIER_PMC_CTL_CLR (p : Nat) : Loc := ⟨(Reg.PIER_PMC_CTL p), 1, 1⟩
def Reg.PIER_PMC_CTL_OVFFRZ (p : Nat) : Loc := ⟨(Reg.PIER_PMC_CTL p), 2, 1⟩
def Reg.PIER_PMC_CYCLE (p : Nat) : Nat := 0x7f080800010 + p * 0x1000000
def Reg.PIER_PMC_CYCLE_CYCLE (p : Nat) : Loc := ⟨(Reg.PIER_PMC_CYCLE p), 0, 64⟩
def Reg.PIER_PMC_OVF (p : Nat) : Nat := 0x7f080800018 + p * 0x1000000
def Reg.PIER_PMC_OVF_OVF (p : Nat) : Loc := ⟨(Reg.PIER_PMC_OVF p), 0, 6⟩
def Reg.PIER_PMC_SEL (p n : Nat) : Nat := 0x7f080800040 + p * 0x1000000 + n * 8
def Reg.PIER_PMC_SEL_EN (p n : Nat) : Loc := ⟨(Reg.PIER_PMC_SEL p n), 0, 1⟩
def Reg.PIER_PMC_SEL_EDGE (p n : Nat) : Loc := ⟨(Reg.PIER_PMC_SEL p n), 1, 1⟩
def Reg.PIER_PMC_SEL_CHAIN (p n : Nat) : Loc := ⟨(Reg.PIER_PMC_SEL p n), 2, 1⟩
def Reg.PIER_PMC_SEL_OVFIRQ (p n : Nat) : Loc := ⟨(Reg.PIER_PMC_SEL p n), 3, 1⟩
def Reg.PIER_PMC_SEL_EVENT (p n : Nat) : Loc := ⟨(Reg.PIER_PMC_SEL p n), 8, 10⟩
def Reg.PIER_PMC_SEL_QUAL (p n : Nat) : Loc := ⟨(Reg.PIER_PMC_SEL p n), 24, 16⟩
def Reg.PIER_PMC_CNT (p n : Nat) : Nat := 0x7f080800080 + p * 0x1000000 + n * 8
def Reg.PIER_PMC_CNT_COUNT (p n : Nat) : Loc := ⟨(Reg.PIER_PMC_CNT p n), 0, 48⟩
def Reg.HDS_PMC_ID : Nat := 0x7f101000000
def Reg.HDS_PMC_ID_KIND : Loc := ⟨Reg.HDS_PMC_ID, 0, 4⟩
def Reg.HDS_PMC_ID_INST : Loc := ⟨Reg.HDS_PMC_ID, 8, 9⟩
def Reg.HDS_PMC_ID_CLKMHZ : Loc := ⟨Reg.HDS_PMC_ID, 32, 12⟩
def Reg.HDS_PMC_ID_NCNT : Loc := ⟨Reg.HDS_PMC_ID, 44, 4⟩
def Reg.HDS_PMC_CTL : Nat := 0x7f101000008
def Reg.HDS_PMC_CTL_EN : Loc := ⟨Reg.HDS_PMC_CTL, 0, 1⟩
def Reg.HDS_PMC_CTL_CLR : Loc := ⟨Reg.HDS_PMC_CTL, 1, 1⟩
def Reg.HDS_PMC_CTL_OVFFRZ : Loc := ⟨Reg.HDS_PMC_CTL, 2, 1⟩
def Reg.HDS_PMC_CYCLE : Nat := 0x7f101000010
def Reg.HDS_PMC_CYCLE_CYCLE : Loc := ⟨Reg.HDS_PMC_CYCLE, 0, 64⟩
def Reg.HDS_PMC_OVF : Nat := 0x7f101000018
def Reg.HDS_PMC_OVF_OVF : Loc := ⟨Reg.HDS_PMC_OVF, 0, 6⟩
def Reg.HDS_PMC_SEL (n : Nat) : Nat := 0x7f101000040 + n * 8
def Reg.HDS_PMC_SEL_EN (n : Nat) : Loc := ⟨(Reg.HDS_PMC_SEL n), 0, 1⟩
def Reg.HDS_PMC_SEL_EDGE (n : Nat) : Loc := ⟨(Reg.HDS_PMC_SEL n), 1, 1⟩
def Reg.HDS_PMC_SEL_CHAIN (n : Nat) : Loc := ⟨(Reg.HDS_PMC_SEL n), 2, 1⟩
def Reg.HDS_PMC_SEL_OVFIRQ (n : Nat) : Loc := ⟨(Reg.HDS_PMC_SEL n), 3, 1⟩
def Reg.HDS_PMC_SEL_EVENT (n : Nat) : Loc := ⟨(Reg.HDS_PMC_SEL n), 8, 10⟩
def Reg.HDS_PMC_SEL_QUAL (n : Nat) : Loc := ⟨(Reg.HDS_PMC_SEL n), 24, 16⟩
def Reg.HDS_PMC_CNT (n : Nat) : Nat := 0x7f101000080 + n * 8
def Reg.HDS_PMC_CNT_COUNT (n : Nat) : Loc := ⟨(Reg.HDS_PMC_CNT n), 0, 48⟩
def Reg.LNK_PMC_ID (i : Nat) : Nat := 0x7f300080000 + i * 0x100000
def Reg.LNK_PMC_ID_KIND (i : Nat) : Loc := ⟨(Reg.LNK_PMC_ID i), 0, 4⟩
def Reg.LNK_PMC_ID_INST (i : Nat) : Loc := ⟨(Reg.LNK_PMC_ID i), 8, 9⟩
def Reg.LNK_PMC_ID_CLKMHZ (i : Nat) : Loc := ⟨(Reg.LNK_PMC_ID i), 32, 12⟩
def Reg.LNK_PMC_ID_NCNT (i : Nat) : Loc := ⟨(Reg.LNK_PMC_ID i), 44, 4⟩
def Reg.LNK_PMC_CTL (i : Nat) : Nat := 0x7f300080008 + i * 0x100000
def Reg.LNK_PMC_CTL_EN (i : Nat) : Loc := ⟨(Reg.LNK_PMC_CTL i), 0, 1⟩
def Reg.LNK_PMC_CTL_CLR (i : Nat) : Loc := ⟨(Reg.LNK_PMC_CTL i), 1, 1⟩
def Reg.LNK_PMC_CTL_OVFFRZ (i : Nat) : Loc := ⟨(Reg.LNK_PMC_CTL i), 2, 1⟩
def Reg.LNK_PMC_CYCLE (i : Nat) : Nat := 0x7f300080010 + i * 0x100000
def Reg.LNK_PMC_CYCLE_CYCLE (i : Nat) : Loc := ⟨(Reg.LNK_PMC_CYCLE i), 0, 64⟩
def Reg.LNK_PMC_OVF (i : Nat) : Nat := 0x7f300080018 + i * 0x100000
def Reg.LNK_PMC_OVF_OVF (i : Nat) : Loc := ⟨(Reg.LNK_PMC_OVF i), 0, 6⟩
def Reg.LNK_PMC_SEL (i n : Nat) : Nat := 0x7f300080040 + i * 0x100000 + n * 8
def Reg.LNK_PMC_SEL_EN (i n : Nat) : Loc := ⟨(Reg.LNK_PMC_SEL i n), 0, 1⟩
def Reg.LNK_PMC_SEL_EDGE (i n : Nat) : Loc := ⟨(Reg.LNK_PMC_SEL i n), 1, 1⟩
def Reg.LNK_PMC_SEL_CHAIN (i n : Nat) : Loc := ⟨(Reg.LNK_PMC_SEL i n), 2, 1⟩
def Reg.LNK_PMC_SEL_OVFIRQ (i n : Nat) : Loc := ⟨(Reg.LNK_PMC_SEL i n), 3, 1⟩
def Reg.LNK_PMC_SEL_EVENT (i n : Nat) : Loc := ⟨(Reg.LNK_PMC_SEL i n), 8, 10⟩
def Reg.LNK_PMC_SEL_QUAL (i n : Nat) : Loc := ⟨(Reg.LNK_PMC_SEL i n), 24, 16⟩
def Reg.LNK_PMC_CNT (i n : Nat) : Nat := 0x7f300080080 + i * 0x100000 + n * 8
def Reg.LNK_PMC_CNT_COUNT (i n : Nat) : Loc := ⟨(Reg.LNK_PMC_CNT i n), 0, 48⟩
def Reg.RTR_PMC_ID : Nat := 0x7f200080000
def Reg.RTR_PMC_ID_KIND : Loc := ⟨Reg.RTR_PMC_ID, 0, 4⟩
def Reg.RTR_PMC_ID_INST : Loc := ⟨Reg.RTR_PMC_ID, 8, 9⟩
def Reg.RTR_PMC_ID_CLKMHZ : Loc := ⟨Reg.RTR_PMC_ID, 32, 12⟩
def Reg.RTR_PMC_ID_NCNT : Loc := ⟨Reg.RTR_PMC_ID, 44, 4⟩
def Reg.RTR_PMC_CTL : Nat := 0x7f200080008
def Reg.RTR_PMC_CTL_EN : Loc := ⟨Reg.RTR_PMC_CTL, 0, 1⟩
def Reg.RTR_PMC_CTL_CLR : Loc := ⟨Reg.RTR_PMC_CTL, 1, 1⟩
def Reg.RTR_PMC_CTL_OVFFRZ : Loc := ⟨Reg.RTR_PMC_CTL, 2, 1⟩
def Reg.RTR_PMC_CYCLE : Nat := 0x7f200080010
def Reg.RTR_PMC_CYCLE_CYCLE : Loc := ⟨Reg.RTR_PMC_CYCLE, 0, 64⟩
def Reg.RTR_PMC_OVF : Nat := 0x7f200080018
def Reg.RTR_PMC_OVF_OVF : Loc := ⟨Reg.RTR_PMC_OVF, 0, 6⟩
def Reg.RTR_PMC_SEL (n : Nat) : Nat := 0x7f200080040 + n * 8
def Reg.RTR_PMC_SEL_EN (n : Nat) : Loc := ⟨(Reg.RTR_PMC_SEL n), 0, 1⟩
def Reg.RTR_PMC_SEL_EDGE (n : Nat) : Loc := ⟨(Reg.RTR_PMC_SEL n), 1, 1⟩
def Reg.RTR_PMC_SEL_CHAIN (n : Nat) : Loc := ⟨(Reg.RTR_PMC_SEL n), 2, 1⟩
def Reg.RTR_PMC_SEL_OVFIRQ (n : Nat) : Loc := ⟨(Reg.RTR_PMC_SEL n), 3, 1⟩
def Reg.RTR_PMC_SEL_EVENT (n : Nat) : Loc := ⟨(Reg.RTR_PMC_SEL n), 8, 10⟩
def Reg.RTR_PMC_SEL_QUAL (n : Nat) : Loc := ⟨(Reg.RTR_PMC_SEL n), 24, 16⟩
def Reg.RTR_PMC_CNT (n : Nat) : Nat := 0x7f200080080 + n * 8
def Reg.RTR_PMC_CNT_COUNT (n : Nat) : Loc := ⟨(Reg.RTR_PMC_CNT n), 0, 48⟩
def Reg.SRV_PMC_ID (v : Nat) : Nat := 0x7f410080000 + v * 0x1000000
def Reg.SRV_PMC_ID_KIND (v : Nat) : Loc := ⟨(Reg.SRV_PMC_ID v), 0, 4⟩
def Reg.SRV_PMC_ID_INST (v : Nat) : Loc := ⟨(Reg.SRV_PMC_ID v), 8, 9⟩
def Reg.SRV_PMC_ID_CLKMHZ (v : Nat) : Loc := ⟨(Reg.SRV_PMC_ID v), 32, 12⟩
def Reg.SRV_PMC_ID_NCNT (v : Nat) : Loc := ⟨(Reg.SRV_PMC_ID v), 44, 4⟩
def Reg.SRV_PMC_CTL (v : Nat) : Nat := 0x7f410080008 + v * 0x1000000
def Reg.SRV_PMC_CTL_EN (v : Nat) : Loc := ⟨(Reg.SRV_PMC_CTL v), 0, 1⟩
def Reg.SRV_PMC_CTL_CLR (v : Nat) : Loc := ⟨(Reg.SRV_PMC_CTL v), 1, 1⟩
def Reg.SRV_PMC_CTL_OVFFRZ (v : Nat) : Loc := ⟨(Reg.SRV_PMC_CTL v), 2, 1⟩
def Reg.SRV_PMC_CYCLE (v : Nat) : Nat := 0x7f410080010 + v * 0x1000000
def Reg.SRV_PMC_CYCLE_CYCLE (v : Nat) : Loc := ⟨(Reg.SRV_PMC_CYCLE v), 0, 64⟩
def Reg.SRV_PMC_OVF (v : Nat) : Nat := 0x7f410080018 + v * 0x1000000
def Reg.SRV_PMC_OVF_OVF (v : Nat) : Loc := ⟨(Reg.SRV_PMC_OVF v), 0, 6⟩
def Reg.SRV_PMC_SEL (v n : Nat) : Nat := 0x7f410080040 + v * 0x1000000 + n * 8
def Reg.SRV_PMC_SEL_EN (v n : Nat) : Loc := ⟨(Reg.SRV_PMC_SEL v n), 0, 1⟩
def Reg.SRV_PMC_SEL_EDGE (v n : Nat) : Loc := ⟨(Reg.SRV_PMC_SEL v n), 1, 1⟩
def Reg.SRV_PMC_SEL_CHAIN (v n : Nat) : Loc := ⟨(Reg.SRV_PMC_SEL v n), 2, 1⟩
def Reg.SRV_PMC_SEL_OVFIRQ (v n : Nat) : Loc := ⟨(Reg.SRV_PMC_SEL v n), 3, 1⟩
def Reg.SRV_PMC_SEL_EVENT (v n : Nat) : Loc := ⟨(Reg.SRV_PMC_SEL v n), 8, 10⟩
def Reg.SRV_PMC_SEL_QUAL (v n : Nat) : Loc := ⟨(Reg.SRV_PMC_SEL v n), 24, 16⟩
def Reg.SRV_PMC_CNT (v n : Nat) : Nat := 0x7f410080080 + v * 0x1000000 + n * 8
def Reg.SRV_PMC_CNT_COUNT (v n : Nat) : Loc := ⟨(Reg.SRV_PMC_CNT v n), 0, 48⟩
def Reg.SPN_PMC_TAG (s : Nat) : Nat := 0x7f000080100 + s * 0x100000
def Reg.SPN_PMC_TAG_EN (s : Nat) : Loc := ⟨(Reg.SPN_PMC_TAG s), 0, 1⟩
def Reg.SPN_PMC_TAG_BUSY (s : Nat) : Loc := ⟨(Reg.SPN_PMC_TAG s), 1, 1⟩
def Reg.SPN_PMC_TAG_NLOG (s : Nat) : Loc := ⟨(Reg.SPN_PMC_TAG s), 8, 5⟩

/-- The rows of the SPN block. -/
def Reg.rowsSPN : List RegRow :=
  [⟨"SPN_ID", 0x7f000000000, [(288, 0x100000)], [⟨0, 9, .ro, .idx 0 1 1⟩, ⟨16, 6, .ro, .idx 0 1 8⟩, ⟨24, 1, .ro, .ge 0 144⟩]⟩,
   ⟨"SPN_CTL", 0x7f000000008, [(288, 0x100000)], [⟨0, 1, .rw, .val 0⟩, ⟨4, 2, .rw, .val 0⟩]⟩,
   ⟨"SPN_STATUS", 0x7f000000010, [(288, 0x100000)], [⟨0, 9, .ro, .val 0⟩, ⟨16, 9, .ro, .val 0⟩, ⟨32, 1, .ro, .val 1⟩]⟩,
   ⟨"SPN_SET", 0x7f000000018, [(288, 0x100000)], [⟨0, 6, .ro, .val 0x3f⟩, ⟨8, 1, .ro, .val 0⟩, ⟨32, 32, .ro, .val 0⟩]⟩,
   ⟨"SPN_FAULT", 0x7f000000020, [(288, 0x100000)], [⟨0, 1, .w1c, .val 0⟩, ⟨1, 1, .w1c, .val 0⟩, ⟨8, 8, .ro, .val 0⟩, ⟨16, 8, .ro, .val 0⟩, ⟨24, 8, .ro, .val 0⟩, ⟨32, 32, .ro, .val 0⟩]⟩,
   ⟨"SPN_FAULT_ADDR", 0x7f000000028, [(288, 0x100000)], [⟨0, 64, .ro, .val 0⟩]⟩,
   ⟨"SPN_REPLAY", 0x7f000000030, [(288, 0x100000)], [⟨0, 16, .ro, .val 0⟩, ⟨16, 16, .ro, .val 0⟩, ⟨32, 16, .ro, .val 0⟩]⟩,
   ⟨"SPN_INFLIGHT", 0x7f000000038, [(288, 0x100000)], [⟨0, 11, .ro, .val 0⟩, ⟨16, 8, .ro, .val 0⟩, ⟨32, 5, .ro, .val 0⟩]⟩] ++
  [⟨"SPN_PMC_ID", 0x7f000080000, [(288, 0x100000)], [⟨0, 4, .ro, .val 0⟩, ⟨8, 9, .ro, .idx 0 1 1⟩, ⟨32, 12, .ro, .val 0x7d0⟩, ⟨44, 4, .ro, .val 6⟩]⟩,
   ⟨"SPN_PMC_CTL", 0x7f000080008, [(288, 0x100000)], [⟨0, 1, .rw, .val 0⟩, ⟨1, 1, .wo, .val 0⟩, ⟨2, 1, .rw, .val 0⟩]⟩,
   ⟨"SPN_PMC_CYCLE", 0x7f000080010, [(288, 0x100000)], [⟨0, 64, .ro, .val 0⟩]⟩,
   ⟨"SPN_PMC_OVF", 0x7f000080018, [(288, 0x100000)], [⟨0, 6, .w1c, .val 0⟩]⟩,
   ⟨"SPN_PMC_SEL", 0x7f000080040, [(288, 0x100000), (6, 8)], [⟨0, 1, .rw, .val 0⟩, ⟨1, 1, .rw, .val 0⟩, ⟨2, 1, .rw, .val 0⟩, ⟨3, 1, .rw, .val 0⟩, ⟨8, 10, .rw, .val 0⟩, ⟨24, 16, .rw, .val 0⟩]⟩,
   ⟨"SPN_PMC_CNT", 0x7f000080080, [(288, 0x100000), (6, 8)], [⟨0, 48, .rw, .val 0⟩]⟩,
   ⟨"SPN_PMC_TAG", 0x7f000080100, [(288, 0x100000)], [⟨0, 1, .rw, .val 0⟩, ⟨1, 1, .ro, .val 0⟩, ⟨8, 5, .rw, .val 0xa⟩]⟩]

/-- The rows of the GGE block. -/
def Reg.rowsGGE : List RegRow :=
  [⟨"GGE_ID", 0x7f040000000, [(36, 0x10000)], [⟨0, 6, .ro, .idx 0 1 1⟩, ⟨8, 1, .ro, .ge 0 18⟩]⟩,
   ⟨"GGE_CTL", 0x7f040000008, [(36, 0x10000)], [⟨0, 1, .rw, .val 0⟩, ⟨16, 13, .rw, .val 0x1000⟩]⟩,
   ⟨"GGE_STATUS", 0x7f040000010, [(36, 0x10000)], [⟨0, 1, .ro, .val 0⟩, ⟨2, 2, .ro, .val 0⟩, ⟨8, 7, .ro, .val 0⟩, ⟨16, 20, .ro, .val 0⟩]⟩,
   ⟨"GGE_SELECTS", 0x7f040000018, [(36, 0x10000)], [⟨0, 32, .ro, .val 0⟩, ⟨32, 32, .ro, .val 0⟩]⟩,
   ⟨"GGE_SCORED", 0x7f040000020, [(36, 0x10000)], [⟨0, 48, .ro, .val 0⟩]⟩,
   ⟨"GGE_TIES", 0x7f040000028, [(36, 0x10000)], [⟨0, 32, .ro, .val 0⟩, ⟨32, 32, .ro, .val 0⟩]⟩,
   ⟨"GGE_PMC_ID", 0x7f040008000, [(36, 0x10000)], [⟨0, 4, .ro, .val 1⟩, ⟨8, 9, .ro, .idx 0 1 1⟩, ⟨32, 12, .ro, .val 0x7d0⟩, ⟨44, 4, .ro, .val 6⟩]⟩,
   ⟨"GGE_PMC_CTL", 0x7f040008008, [(36, 0x10000)], [⟨0, 1, .rw, .val 0⟩, ⟨1, 1, .wo, .val 0⟩, ⟨2, 1, .rw, .val 0⟩]⟩] ++
  [⟨"GGE_PMC_CYCLE", 0x7f040008010, [(36, 0x10000)], [⟨0, 64, .ro, .val 0⟩]⟩,
   ⟨"GGE_PMC_OVF", 0x7f040008018, [(36, 0x10000)], [⟨0, 6, .w1c, .val 0⟩]⟩,
   ⟨"GGE_PMC_SEL", 0x7f040008040, [(36, 0x10000), (6, 8)], [⟨0, 1, .rw, .val 0⟩, ⟨1, 1, .rw, .val 0⟩, ⟨2, 1, .rw, .val 0⟩, ⟨3, 1, .rw, .val 0⟩, ⟨8, 10, .rw, .val 0⟩, ⟨24, 16, .rw, .val 0⟩]⟩,
   ⟨"GGE_PMC_CNT", 0x7f040008080, [(36, 0x10000), (6, 8)], [⟨0, 48, .rw, .val 0⟩]⟩]

/-- The rows of the PIER block. -/
def Reg.rowsPIER : List RegRow :=
  [⟨"PIER_ID", 0x7f080000000, [(4, 0x1000000)], [⟨0, 2, .ro, .idx 0 1 1⟩, ⟨16, 10, .ro, .idx 0 192 1⟩]⟩,
   ⟨"PIER_CTL", 0x7f080000008, [(4, 0x1000000)], [⟨0, 8, .rw, .val 0xc8⟩]⟩,
   ⟨"PIER_STATUS", 0x7f080000010, [(4, 0x1000000)], [⟨0, 2, .ro, .val 0⟩, ⟨2, 1, .ro, .val 0⟩, ⟨3, 1, .ro, .val 0⟩, ⟨16, 8, .ro, .val 0xff⟩]⟩,
   ⟨"PIER_LC_CTL", 0x7f080000018, [(4, 0x1000000)], [⟨0, 5, .rw, .val 4⟩, ⟨8, 1, .wo, .val 0⟩, ⟨9, 1, .ro, .val 0⟩]⟩,
   ⟨"PIER_INFLIGHT", 0x7f080000020, [(4, 0x1000000)], [⟨0, 17, .ro, .val 0⟩, ⟨32, 13, .ro, .val 0⟩]⟩,
   ⟨"PIER_DET", 0x7f080000028, [(4, 0x1000000)], [⟨0, 16, .ro, .val 0⟩, ⟨16, 16, .ro, .val 0⟩, ⟨32, 16, .ro, .val 0⟩]⟩,
   ⟨"PIER_DET_LAST", 0x7f080000030, [(4, 0x1000000)], [⟨0, 43, .ro, .val 0⟩, ⟨43, 10, .ro, .val 0⟩, ⟨63, 1, .w1c, .val 0⟩]⟩,
   ⟨"PIER_LC_ERR", 0x7f080000038, [(4, 0x1000000)], [⟨0, 16, .ro, .val 0⟩, ⟨16, 16, .ro, .val 0⟩]⟩] ++
  [⟨"PIER_INIT", 0x7f080000040, [(4, 0x1000000)], [⟨0, 1, .rw, .val 0⟩, ⟨1, 1, .w1c, .val 0⟩]⟩,
   ⟨"PIER_PMC_ID", 0x7f080800000, [(4, 0x1000000)], [⟨0, 4, .ro, .val 2⟩, ⟨8, 9, .ro, .idx 0 1 1⟩, ⟨32, 12, .ro, .val 0x535⟩, ⟨44, 4, .ro, .val 6⟩]⟩,
   ⟨"PIER_PMC_CTL", 0x7f080800008, [(4, 0x1000000)], [⟨0, 1, .rw, .val 0⟩, ⟨1, 1, .wo, .val 0⟩, ⟨2, 1, .rw, .val 0⟩]⟩,
   ⟨"PIER_PMC_CYCLE", 0x7f080800010, [(4, 0x1000000)], [⟨0, 64, .ro, .val 0⟩]⟩,
   ⟨"PIER_PMC_OVF", 0x7f080800018, [(4, 0x1000000)], [⟨0, 6, .w1c, .val 0⟩]⟩,
   ⟨"PIER_PMC_SEL", 0x7f080800040, [(4, 0x1000000), (6, 8)], [⟨0, 1, .rw, .val 0⟩, ⟨1, 1, .rw, .val 0⟩, ⟨2, 1, .rw, .val 0⟩, ⟨3, 1, .rw, .val 0⟩, ⟨8, 10, .rw, .val 0⟩, ⟨24, 16, .rw, .val 0⟩]⟩,
   ⟨"PIER_PMC_CNT", 0x7f080800080, [(4, 0x1000000), (6, 8)], [⟨0, 48, .rw, .val 0⟩]⟩]

/-- The rows of the HDS block. -/
def Reg.rowsHDS : List RegRow :=
  [⟨"HDS_CTL", 0x7f100000000, [], [⟨0, 1, .rw, .val 0⟩, ⟨16, 16, .rw, .val 0x3e8⟩]⟩,
   ⟨"HDS_STATUS", 0x7f100000008, [], [⟨0, 12, .ro, .val 0⟩, ⟨16, 13, .ro, .val 0⟩]⟩,
   ⟨"HDS_CTXBASE", 0x7f100000010, [], [⟨0, 43, .rw, .val 0⟩]⟩,
   ⟨"HDS_SEQTAB", 0x7f100000018, [], [⟨0, 43, .rw, .val 0⟩, ⟨47, 17, .rw, .val 0⟩]⟩,
   ⟨"HDS_KVPOOL", 0x7f100000020, [], [⟨0, 43, .rw, .val 0⟩]⟩,
   ⟨"HDS_KVFREE", 0x7f100000028, [], [⟨0, 24, .rw, .val 0⟩, ⟨24, 24, .ro, .val 0⟩]⟩,
   ⟨"HDS_KVRET", 0x7f100000030, [], [⟨0, 43, .wo, .val 0⟩]⟩,
   ⟨"HDS_ADMIT", 0x7f100000038, [], [⟨0, 32, .ro, .val 0⟩, ⟨32, 16, .ro, .val 0⟩]⟩] ++
  [⟨"HDS_PDIR", 0x7f100000040, [], [⟨0, 1, .rw, .val 0⟩, ⟨1, 1, .rw, .val 0⟩, ⟨8, 6, .rw, .val 0⟩, ⟨16, 4, .rw, .val 0⟩]⟩,
   ⟨"HDS_PDIRBASE", 0x7f100000048, [], [⟨0, 43, .rw, .val 0⟩]⟩,
   ⟨"HDS_PDIRSTAT", 0x7f100000050, [], [⟨0, 32, .ro, .val 0⟩, ⟨32, 16, .ro, .val 0⟩]⟩,
   ⟨"HDS_LASTERR", 0x7f100000058, [], [⟨0, 12, .ro, .val 0⟩, ⟨16, 8, .ro, .val 0⟩, ⟨24, 16, .ro, .val 0⟩, ⟨63, 1, .w1c, .val 0⟩]⟩,
   ⟨"HDS_PDIRHOME", 0x7f100000080, [(16, 8)], [⟨0, 13, .rw, .val 0⟩, ⟨16, 13, .rw, .val 0⟩, ⟨32, 13, .rw, .val 0⟩, ⟨48, 13, .rw, .val 0⟩]⟩,
   ⟨"HDS_PROG", 0x7f100000200, [(64, 8)], [⟨0, 43, .rw, .val 0⟩, ⟨48, 1, .rw, .val 0⟩, ⟨49, 1, .ro, .val 0⟩, ⟨50, 13, .ro, .val 0⟩]⟩,
   ⟨"HDS_SET", 0x7f100000400, [(36, 8)], [⟨0, 7, .rw, .val 8⟩, ⟨8, 7, .ro, .val 0⟩, ⟨16, 1, .ro, .val 0⟩]⟩,
   ⟨"HDS_QP_SQ", 0x7f108000000, [(4096, 0x40)], [⟨0, 43, .rw, .val 0⟩, ⟨48, 4, .rw, .val 0⟩]⟩] ++
  [⟨"HDS_QP_CQ", 0x7f108000008, [(4096, 0x40)], [⟨0, 64, .rw, .val 0⟩]⟩,
   ⟨"HDS_QP_CTL", 0x7f108000010, [(4096, 0x40)], [⟨0, 1, .rw, .val 0⟩, ⟨1, 1, .rw, .val 0⟩, ⟨2, 2, .rw, .val 0⟩, ⟨8, 4, .rw, .val 0⟩, ⟨16, 16, .rw, .val 0⟩]⟩,
   ⟨"HDS_QP_STATUS", 0x7f108000018, [(4096, 0x40)], [⟨0, 16, .ro, .val 0⟩, ⟨16, 16, .ro, .val 0⟩, ⟨32, 16, .ro, .val 0⟩, ⟨48, 1, .w1c, .val 0⟩, ⟨49, 1, .ro, .val 0⟩]⟩,
   ⟨"HDS_QP_STATUS2", 0x7f108000020, [(4096, 0x40)], [⟨0, 16, .ro, .val 0⟩, ⟨16, 16, .ro, .val 0⟩]⟩,
   ⟨"HDS_SQDB", 0x7f110000000, [(4096, 0x1000)], [⟨0, 16, .wo, .val 0⟩]⟩,
   ⟨"HDS_CQDB", 0x7f110000008, [(4096, 0x1000)], [⟨0, 16, .wo, .val 0⟩]⟩,
   ⟨"HDS_PMC_ID", 0x7f101000000, [], [⟨0, 4, .ro, .val 3⟩, ⟨8, 9, .ro, .val 0⟩, ⟨32, 12, .ro, .val 0x640⟩, ⟨44, 4, .ro, .val 6⟩]⟩,
   ⟨"HDS_PMC_CTL", 0x7f101000008, [], [⟨0, 1, .rw, .val 0⟩, ⟨1, 1, .wo, .val 0⟩, ⟨2, 1, .rw, .val 0⟩]⟩] ++
  [⟨"HDS_PMC_CYCLE", 0x7f101000010, [], [⟨0, 64, .ro, .val 0⟩]⟩,
   ⟨"HDS_PMC_OVF", 0x7f101000018, [], [⟨0, 6, .w1c, .val 0⟩]⟩,
   ⟨"HDS_PMC_SEL", 0x7f101000040, [(6, 8)], [⟨0, 1, .rw, .val 0⟩, ⟨1, 1, .rw, .val 0⟩, ⟨2, 1, .rw, .val 0⟩, ⟨3, 1, .rw, .val 0⟩, ⟨8, 10, .rw, .val 0⟩, ⟨24, 16, .rw, .val 0⟩]⟩,
   ⟨"HDS_PMC_CNT", 0x7f101000080, [(6, 8)], [⟨0, 48, .rw, .val 0⟩]⟩]

/-- The rows of the RTR block. -/
def Reg.rowsRTR : List RegRow :=
  [⟨"RTR_CTL", 0x7f200000000, [], [⟨0, 16, .rw, .val 0x7d0⟩, ⟨16, 5, .rw, .val 0x18⟩, ⟨24, 1, .rw, .val 1⟩, ⟨32, 8, .rw, .val 0x64⟩]⟩,
   ⟨"RTR_SKEY", 0x7f200000008, [], [⟨0, 16, .ro, .val 0⟩]⟩,
   ⟨"RTR_SLICE", 0x7f200000010, [], [⟨0, 8, .ro, .val 0⟩, ⟨8, 8, .ro, .val 0⟩, ⟨16, 8, .ro, .val 0⟩, ⟨24, 8, .ro, .val 0⟩, ⟨32, 8, .ro, .val 0⟩, ⟨40, 8, .ro, .val 0⟩, ⟨48, 3, .ro, .val 0⟩]⟩,
   ⟨"RTR_SWAP_FT", 0x7f200000018, [], [⟨0, 64, .rw, .val 0⟩]⟩,
   ⟨"RTR_SWAP_CTL", 0x7f200000020, [], [⟨0, 1, .rw, .val 0⟩, ⟨1, 1, .w1c, .val 0⟩, ⟨2, 1, .w1c, .val 0⟩, ⟨3, 1, .w1c, .val 0⟩, ⟨16, 14, .ro, .val 0⟩]⟩,
   ⟨"RTR_QUENCH", 0x7f200000028, [], [⟨0, 1, .wo, .val 0⟩, ⟨1, 1, .wo, .val 0⟩, ⟨2, 6, .wo, .val 0⟩, ⟨8, 6, .wo, .val 0⟩, ⟨16, 16, .wo, .val 0⟩, ⟨32, 32, .wo, .val 0⟩]⟩,
   ⟨"RTR_QSTATE", 0x7f200000030, [], [⟨0, 6, .ro, .val 0⟩, ⟨16, 13, .ro, .val 0⟩, ⟨32, 16, .ro, .val 0⟩, ⟨48, 1, .ro, .val 0⟩]⟩,
   ⟨"RTR_RSPVC", 0x7f200000038, [], [⟨0, 3, .rw, .val 1⟩, ⟨3, 3, .rw, .val 1⟩, ⟨6, 3, .rw, .val 3⟩, ⟨9, 3, .rw, .val 3⟩, ⟨12, 3, .rw, .val 5⟩, ⟨15, 3, .rw, .val 5⟩]⟩] ++
  [⟨"RTR_VCW", 0x7f200000040, [], [⟨0, 4, .rw, .val 1⟩, ⟨4, 4, .rw, .val 1⟩, ⟨8, 4, .rw, .val 1⟩, ⟨12, 4, .rw, .val 1⟩, ⟨16, 4, .rw, .val 1⟩, ⟨20, 4, .rw, .val 1⟩]⟩,
   ⟨"RTR_DROP", 0x7f200000048, [], [⟨0, 16, .ro, .val 0⟩, ⟨16, 16, .ro, .val 0⟩, ⟨32, 16, .ro, .val 0⟩, ⟨48, 16, .ro, .val 0⟩]⟩,
   ⟨"RTR_RMT", 0x7f200000050, [], [⟨0, 15, .ro, .val 0⟩, ⟨16, 16, .ro, .val 0⟩, ⟨32, 16, .ro, .val 0⟩, ⟨48, 15, .ro, .val 0⟩]⟩,
   ⟨"RTR_MGMTPEER", 0x7f200000058, [], [⟨0, 13, .rw, .val 0⟩, ⟨15, 1, .rw, .val 0⟩, ⟨16, 13, .rw, .val 0⟩, ⟨31, 1, .rw, .val 0⟩, ⟨32, 13, .rw, .val 0⟩, ⟨47, 1, .rw, .val 0⟩, ⟨48, 13, .rw, .val 0⟩, ⟨63, 1, .rw, .val 0⟩]⟩,
   ⟨"RTR_PEER", 0x7f200000080, [(10, 8)], [⟨0, 13, .rw, .val 0⟩, ⟨16, 4, .rw, .val 0⟩, ⟨24, 1, .rw, .val 0⟩, ⟨25, 1, .rw, .val 0⟩, ⟨26, 1, .ro, .val 0⟩, ⟨27, 1, .ro, .val 1⟩]⟩,
   ⟨"RTR_ENT_LO", 0x7f200100000, [(8192, 0x10)], [⟨0, 1, .rw, .val 0⟩, ⟨1, 1, .rw, .val 0⟩, ⟨2, 1, .rw, .val 0⟩, ⟨4, 4, .rw, .val 0xf⟩, ⟨8, 4, .rw, .val 0xf⟩, ⟨12, 4, .rw, .val 0xf⟩, ⟨24, 8, .rw, .val 0⟩, ⟨32, 8, .rw, .val 0⟩, ⟨40, 8, .rw, .val 0⟩, ⟨48, 8, .rw, .val 0⟩]⟩,
   ⟨"RTR_ENT_HI", 0x7f200100008, [(8192, 0x10)], []⟩,
   ⟨"RTR_STG_LO", 0x7f200200000, [(8192, 0x10)], [⟨0, 1, .rw, .val 0⟩, ⟨1, 1, .rw, .val 0⟩, ⟨2, 1, .rw, .val 0⟩, ⟨4, 4, .rw, .val 0xf⟩, ⟨8, 4, .rw, .val 0xf⟩, ⟨12, 4, .rw, .val 0xf⟩, ⟨24, 8, .rw, .val 0⟩, ⟨32, 8, .rw, .val 0⟩, ⟨40, 8, .rw, .val 0⟩, ⟨48, 8, .rw, .val 0⟩]⟩] ++
  [⟨"RTR_STG_HI", 0x7f200200008, [(8192, 0x10)], []⟩,
   ⟨"RTR_PMC_ID", 0x7f200080000, [], [⟨0, 4, .ro, .val 5⟩, ⟨8, 9, .ro, .val 0⟩, ⟨32, 12, .ro, .val 0x640⟩, ⟨44, 4, .ro, .val 6⟩]⟩,
   ⟨"RTR_PMC_CTL", 0x7f200080008, [], [⟨0, 1, .rw, .val 0⟩, ⟨1, 1, .wo, .val 0⟩, ⟨2, 1, .rw, .val 0⟩]⟩,
   ⟨"RTR_PMC_CYCLE", 0x7f200080010, [], [⟨0, 64, .ro, .val 0⟩]⟩,
   ⟨"RTR_PMC_OVF", 0x7f200080018, [], [⟨0, 6, .w1c, .val 0⟩]⟩,
   ⟨"RTR_PMC_SEL", 0x7f200080040, [(6, 8)], [⟨0, 1, .rw, .val 0⟩, ⟨1, 1, .rw, .val 0⟩, ⟨2, 1, .rw, .val 0⟩, ⟨3, 1, .rw, .val 0⟩, ⟨8, 10, .rw, .val 0⟩, ⟨24, 16, .rw, .val 0⟩]⟩,
   ⟨"RTR_PMC_CNT", 0x7f200080080, [(6, 8)], [⟨0, 48, .rw, .val 0⟩]⟩]

/-- The rows of the LNK block. -/
def Reg.rowsLNK : List RegRow :=
  [⟨"LNK_ID", 0x7f300000000, [(11, 0x100000)], [⟨0, 8, .ro, .idx 0 1 1⟩, ⟨8, 8, .ro, .val 3⟩, ⟨16, 32, .ro, .val 0x3f⟩, ⟨48, 5, .ro, .sel 0 10 0x05 0x11⟩]⟩,
   ⟨"LNK_CTL", 0x7f300000008, [(11, 0x100000)], [⟨0, 1, .rw, .val 0⟩, ⟨1, 1, .rw, .val 0⟩, ⟨2, 1, .rw, .val 0⟩, ⟨3, 1, .rw, .val 0⟩, ⟨4, 1, .rw, .val 1⟩, ⟨8, 8, .rw, .val 0x10⟩, ⟨16, 8, .rw, .val 8⟩, ⟨24, 1, .rw, .val 1⟩]⟩,
   ⟨"LNK_STATUS", 0x7f300000010, [(11, 0x100000)], [⟨0, 4, .ro, .val 0⟩, ⟨8, 5, .ro, .val 0⟩, ⟨16, 1, .ro, .val 0⟩, ⟨17, 1, .ro, .val 0⟩, ⟨18, 1, .w1c, .val 0⟩, ⟨19, 1, .w1c, .val 0⟩, ⟨32, 8, .ro, .val 0⟩]⟩,
   ⟨"LNK_PEER", 0x7f300000018, [(11, 0x100000)], [⟨0, 13, .ro, .val 0⟩, ⟨16, 8, .ro, .val 0⟩, ⟨24, 32, .ro, .val 0⟩]⟩,
   ⟨"LNK_LANEMAP", 0x7f300000020, [(11, 0x100000)], [⟨0, 5, .rw, .sel 0 10 0x04 0x10⟩, ⟨8, 16, .ro, .val 0⟩]⟩,
   ⟨"LNK_EQSAVE", 0x7f300000028, [(11, 0x100000)], [⟨0, 43, .rw, .val 0⟩, ⟨62, 1, .wo, .val 0⟩, ⟨63, 1, .ro, .val 0⟩]⟩,
   ⟨"LNK_ERR", 0x7f300000030, [(11, 0x100000)], [⟨0, 16, .ro, .val 0⟩, ⟨16, 16, .ro, .val 0⟩, ⟨32, 8, .ro, .val 0⟩, ⟨40, 8, .ro, .val 0⟩, ⟨48, 8, .ro, .val 0⟩]⟩,
   ⟨"LNK_LANE_STATUS", 0x7f300000100, [(11, 0x100000), (17, 0x40)], [⟨0, 1, .ro, .val 0⟩, ⟨1, 1, .ro, .val 0⟩, ⟨2, 1, .ro, .val 0⟩, ⟨3, 1, .ro, .val 0⟩, ⟨4, 2, .ro, .val 0⟩, ⟨8, 8, .ro, .val 0xff⟩]⟩] ++
  [⟨"LNK_FEC", 0x7f300000108, [(11, 0x100000), (17, 0x40)], [⟨0, 32, .ro, .val 0⟩, ⟨32, 16, .ro, .val 0⟩]⟩,
   ⟨"LNK_PAT_CTL", 0x7f300000110, [(11, 0x100000), (17, 0x40)], [⟨0, 4, .rw, .val 0⟩, ⟨4, 1, .rw, .val 0⟩, ⟨5, 1, .rw, .val 0⟩, ⟨6, 1, .ro, .val 0⟩, ⟨7, 1, .wo, .val 0⟩, ⟨8, 1, .wo, .val 0⟩]⟩,
   ⟨"LNK_PAT_USER", 0x7f300000118, [(11, 0x100000), (17, 0x40)], [⟨0, 64, .rw, .val 0⟩]⟩,
   ⟨"LNK_PAT_ERR", 0x7f300000120, [(11, 0x100000), (17, 0x40)], [⟨0, 48, .ro, .val 0⟩]⟩,
   ⟨"LNK_PAT_BITS", 0x7f300000128, [(11, 0x100000), (17, 0x40)], [⟨0, 64, .ro, .val 0⟩]⟩,
   ⟨"LNK_LIGHT", 0x7f300000130, [(11, 0x100000), (17, 0x40)], [⟨0, 16, .ro, .val 0x8000⟩, ⟨16, 16, .ro, .val 0x8000⟩, ⟨32, 3, .ro, .val 0⟩, ⟨40, 8, .ro, .val 0⟩, ⟨48, 15, .ro, .val 0x7fff⟩, ⟨63, 1, .ro, .val 0⟩]⟩,
   ⟨"LNK_PMC_ID", 0x7f300080000, [(11, 0x100000)], [⟨0, 4, .ro, .val 4⟩, ⟨8, 9, .ro, .idx 0 1 1⟩, ⟨32, 12, .ro, .val 0x30d⟩, ⟨44, 4, .ro, .val 6⟩]⟩,
   ⟨"LNK_PMC_CTL", 0x7f300080008, [(11, 0x100000)], [⟨0, 1, .rw, .val 0⟩, ⟨1, 1, .wo, .val 0⟩, ⟨2, 1, .rw, .val 0⟩]⟩] ++
  [⟨"LNK_PMC_CYCLE", 0x7f300080010, [(11, 0x100000)], [⟨0, 64, .ro, .val 0⟩]⟩,
   ⟨"LNK_PMC_OVF", 0x7f300080018, [(11, 0x100000)], [⟨0, 6, .w1c, .val 0⟩]⟩,
   ⟨"LNK_PMC_SEL", 0x7f300080040, [(11, 0x100000), (6, 8)], [⟨0, 1, .rw, .val 0⟩, ⟨1, 1, .rw, .val 0⟩, ⟨2, 1, .rw, .val 0⟩, ⟨3, 1, .rw, .val 0⟩, ⟨8, 10, .rw, .val 0⟩, ⟨24, 16, .rw, .val 0⟩]⟩,
   ⟨"LNK_PMC_CNT", 0x7f300080080, [(11, 0x100000), (6, 8)], [⟨0, 48, .rw, .val 0⟩]⟩]

/-- The rows of the FTU block. -/
def Reg.rowsFTU : List RegRow :=
  [⟨"FTU_NOW", 0x7f400000000, [], [⟨0, 64, .ro, .val 0⟩]⟩,
   ⟨"FTU_LOAD", 0x7f400000008, [], [⟨0, 64, .wo, .val 0⟩]⟩,
   ⟨"FTU_CTL", 0x7f400000010, [], [⟨0, 1, .rw, .val 0⟩, ⟨1, 1, .rw, .val 0⟩, ⟨2, 1, .wo, .val 0⟩, ⟨8, 8, .rw, .val 0xa⟩, ⟨16, 16, .rw, .val 0xa⟩, ⟨32, 16, .rw, .val 0x64⟩]⟩,
   ⟨"FTU_PARENT", 0x7f400000018, [], [⟨0, 4, .rw, .val 0xf⟩, ⟨4, 4, .rw, .val 0xf⟩, ⟨8, 4, .rw, .val 0xf⟩, ⟨16, 13, .rw, .val 0⟩]⟩,
   ⟨"FTU_STATUS", 0x7f400000020, [], [⟨0, 3, .ro, .val 0⟩, ⟨4, 4, .ro, .val 0xf⟩, ⟨8, 8, .ro, .val 0xff⟩, ⟨16, 1, .ro, .val 0⟩, ⟨17, 1, .w1c, .val 0⟩, ⟨18, 1, .w1c, .val 0⟩, ⟨24, 8, .ro, .val 0⟩]⟩,
   ⟨"FTU_OFFSET", 0x7f400000028, [], [⟨0, 32, .ro, .val 0⟩, ⟨32, 32, .ro, .val 0⟩]⟩,
   ⟨"FTU_RATE", 0x7f400000030, [], [⟨0, 32, .ro, .val 0⟩]⟩,
   ⟨"FTU_PORT", 0x7f400000080, [(10, 8)], [⟨0, 16, .rw, .val 0⟩, ⟨16, 32, .ro, .val 0⟩, ⟨48, 1, .ro, .val 0⟩, ⟨49, 1, .ro, .val 0⟩]⟩]

/-- The rows of the SRV block. -/
def Reg.rowsSRV : List RegRow :=
  [⟨"SRV_ID", 0x7f410000000, [(2, 0x1000000)], [⟨0, 1, .ro, .idx 0 1 1⟩, ⟨8, 8, .ro, .val 0x80⟩]⟩,
   ⟨"SRV_CTL", 0x7f410000008, [(2, 0x1000000)], [⟨0, 1, .rw, .val 0⟩, ⟨1, 1, .rw, .val 0⟩, ⟨2, 1, .rw, .val 0⟩, ⟨8, 8, .rw, .val 8⟩]⟩,
   ⟨"SRV_STATUS", 0x7f410000010, [(2, 0x1000000)], [⟨0, 1, .ro, .val 0⟩, ⟨1, 1, .ro, .val 0⟩, ⟨2, 1, .w1c, .val 0⟩, ⟨3, 1, .w1c, .val 0⟩, ⟨16, 16, .ro, .val 0⟩]⟩,
   ⟨"SRV_TIME", 0x7f410000018, [(2, 0x1000000)], [⟨0, 16, .rw, .val 0x3e8⟩, ⟨16, 16, .rw, .val 0x2ee0⟩]⟩,
   ⟨"SRV_CNT", 0x7f410000020, [(2, 0x1000000)], [⟨0, 32, .ro, .val 0⟩, ⟨32, 16, .ro, .val 0⟩, ⟨48, 8, .ro, .val 0⟩, ⟨56, 8, .ro, .val 0⟩]⟩,
   ⟨"SRV_LIMCNT", 0x7f410000028, [(2, 0x1000000)], [⟨0, 24, .ro, .val 0⟩, ⟨24, 24, .ro, .val 0⟩, ⟨48, 16, .ro, .val 0⟩]⟩,
   ⟨"SRV_CHASSIS", 0x7f410000030, [(2, 0x1000000)], [⟨0, 8, .ro, .val 0⟩, ⟨8, 8, .ro, .val 0⟩, ⟨16, 16, .ro, .val 0⟩, ⟨32, 16, .ro, .val 0⟩]⟩,
   ⟨"SRV_PAT_CTL", 0x7f410000100, [(2, 0x1000000)], [⟨0, 4, .rw, .val 0⟩, ⟨4, 1, .rw, .val 0⟩, ⟨5, 1, .rw, .val 0⟩, ⟨6, 1, .ro, .val 0⟩, ⟨7, 1, .wo, .val 0⟩, ⟨8, 1, .wo, .val 0⟩]⟩] ++
  [⟨"SRV_PAT_USER", 0x7f410000108, [(2, 0x1000000)], [⟨0, 64, .rw, .val 0⟩]⟩,
   ⟨"SRV_PAT_ERR", 0x7f410000110, [(2, 0x1000000)], [⟨0, 48, .ro, .val 0⟩]⟩,
   ⟨"SRV_PAT_BITS", 0x7f410000118, [(2, 0x1000000)], [⟨0, 64, .ro, .val 0⟩]⟩,
   ⟨"SRV_MIR_CFG", 0x7f410010000, [(2, 0x1000000), (128, 0x40)], [⟨0, 13, .rws, .val 0⟩, ⟨16, 1, .rws, .val 0⟩]⟩,
   ⟨"SRV_MIR_LIM0", 0x7f410010008, [(2, 0x1000000), (128, 0x40)], [⟨0, 20, .rws, .val 0⟩, ⟨20, 20, .rws, .val 0⟩, ⟨40, 20, .rws, .val 0⟩]⟩,
   ⟨"SRV_MIR_LIM1", 0x7f410010010, [(2, 0x1000000), (128, 0x40)], [⟨0, 20, .rws, .val 0⟩, ⟨20, 20, .rws, .val 0⟩, ⟨40, 20, .rws, .val 0⟩]⟩,
   ⟨"SRV_MIR_CTL", 0x7f410010018, [(2, 0x1000000), (128, 0x40)], [⟨0, 3, .rw, .val 0⟩, ⟨4, 1, .rw, .val 0⟩]⟩,
   ⟨"SRV_MIR_STATUS", 0x7f410010020, [(2, 0x1000000), (128, 0x40)], [⟨0, 3, .ro, .val 0⟩, ⟨4, 1, .w1c, .val 0⟩, ⟨5, 1, .w1c, .val 0⟩, ⟨6, 1, .w1c, .val 0⟩, ⟨7, 1, .w1c, .val 0⟩, ⟨8, 1, .w1c, .val 0⟩, ⟨9, 1, .w1c, .val 0⟩, ⟨10, 1, .ro, .val 0⟩, ⟨11, 1, .ro, .val 0⟩, ⟨16, 8, .ro, .val 0⟩]⟩] ++
  [⟨"SRV_MIR_OUT", 0x7f410010028, [(2, 0x1000000), (128, 0x40)], [⟨0, 20, .ro, .val 0⟩, ⟨20, 20, .ro, .val 0⟩]⟩,
   ⟨"SRV_MIR_POS", 0x7f410010030, [(2, 0x1000000), (128, 0x40)], [⟨0, 18, .ro, .val 0⟩, ⟨18, 18, .ro, .val 0⟩, ⟨36, 1, .ro, .val 0⟩]⟩,
   ⟨"SRV_MIR_SETPT", 0x7f410010038, [(2, 0x1000000), (128, 0x40)], [⟨0, 32, .ro, .val 0⟩, ⟨32, 32, .ro, .val 0⟩]⟩,
   ⟨"SRV_COEF_A", 0x7f410400000, [(2, 0x1000000), (2, 0x40000), (128, 0x800), (64, 8)], [⟨0, 32, .rw, .val 0⟩, ⟨32, 5, .rw, .val 0⟩]⟩,
   ⟨"SRV_COEF_B", 0x7f410400200, [(2, 0x1000000), (2, 0x40000), (128, 0x800), (16, 8)], [⟨0, 32, .rw, .val 0⟩, ⟨32, 5, .rw, .val 0⟩]⟩,
   ⟨"SRV_COEF_L", 0x7f410400280, [(2, 0x1000000), (2, 0x40000), (128, 0x800), (16, 8)], [⟨0, 32, .rw, .val 0⟩, ⟨32, 5, .rw, .val 0⟩]⟩,
   ⟨"SRV_COEF_K", 0x7f410400300, [(2, 0x1000000), (2, 0x40000), (128, 0x800), (16, 8)], [⟨0, 32, .rw, .val 0⟩, ⟨32, 5, .rw, .val 0⟩]⟩,
   ⟨"SRV_COEF_KB", 0x7f410400380, [(2, 0x1000000), (2, 0x40000), (128, 0x800), (2, 8)], [⟨0, 32, .rw, .val 0⟩, ⟨32, 5, .rw, .val 0⟩]⟩] ++
  [⟨"SRV_COEF_NOTCH", 0x7f410400400, [(2, 0x1000000), (2, 0x40000), (128, 0x800), (20, 8)], [⟨0, 32, .rw, .val 0⟩, ⟨32, 5, .rw, .val 0⟩]⟩,
   ⟨"SRV_COEF_QRC", 0x7f4104004a0, [(2, 0x1000000), (2, 0x40000), (128, 0x800), (2, 0x10)], [⟨0, 32, .rw, .val 0⟩, ⟨32, 5, .rw, .val 0⟩]⟩,
   ⟨"SRV_COEF_KRC", 0x7f4104004a8, [(2, 0x1000000), (2, 0x40000), (128, 0x800), (2, 0x10)], [⟨0, 32, .rw, .val 0⟩, ⟨32, 5, .rw, .val 0⟩]⟩,
   ⟨"SRV_COEF_PARAM", 0x7f4104004c0, [(2, 0x1000000), (2, 0x40000), (128, 0x800)], [⟨0, 11, .rw, .val 0x400⟩, ⟨16, 10, .rw, .val 0⟩, ⟨32, 4, .rw, .val 0⟩]⟩,
   ⟨"SRV_STATE_X", 0x7f410500000, [(2, 0x1000000), (128, 0x100), (4, 8)], [⟨0, 32, .ro, .val 0⟩, ⟨32, 32, .ro, .val 0⟩]⟩,
   ⟨"SRV_STATE_NX", 0x7f410500020, [(2, 0x1000000), (128, 0x100), (4, 0x10)], [⟨0, 32, .ro, .val 0⟩, ⟨32, 32, .ro, .val 0⟩]⟩,
   ⟨"SRV_STATE_NW", 0x7f410500028, [(2, 0x1000000), (128, 0x100), (4, 0x10)], [⟨0, 32, .ro, .val 0⟩, ⟨32, 32, .ro, .val 0⟩]⟩,
   ⟨"SRV_STATE_U", 0x7f410500060, [(2, 0x1000000), (128, 0x100)], [⟨0, 32, .ro, .val 0⟩, ⟨32, 32, .ro, .val 0⟩]⟩] ++
  [⟨"SRV_STATE_PH", 0x7f410500068, [(2, 0x1000000), (128, 0x100)], [⟨0, 10, .ro, .val 0⟩]⟩,
   ⟨"SRV_RC", 0x7f410600000, [(2, 0x1000000), (256, 0x1000), (512, 8)], [⟨0, 32, .rw, .val 0⟩, ⟨32, 32, .rw, .val 0⟩]⟩,
   ⟨"SRV_PMC_ID", 0x7f410080000, [(2, 0x1000000)], [⟨0, 4, .ro, .val 6⟩, ⟨8, 9, .ro, .idx 0 1 1⟩, ⟨32, 12, .ro, .val 0x4b0⟩, ⟨44, 4, .ro, .val 6⟩]⟩,
   ⟨"SRV_PMC_CTL", 0x7f410080008, [(2, 0x1000000)], [⟨0, 1, .rw, .val 0⟩, ⟨1, 1, .wo, .val 0⟩, ⟨2, 1, .rw, .val 0⟩]⟩,
   ⟨"SRV_PMC_CYCLE", 0x7f410080010, [(2, 0x1000000)], [⟨0, 64, .ro, .val 0⟩]⟩,
   ⟨"SRV_PMC_OVF", 0x7f410080018, [(2, 0x1000000)], [⟨0, 6, .w1c, .val 0⟩]⟩,
   ⟨"SRV_PMC_SEL", 0x7f410080040, [(2, 0x1000000), (6, 8)], [⟨0, 1, .rw, .val 0⟩, ⟨1, 1, .rw, .val 0⟩, ⟨2, 1, .rw, .val 0⟩, ⟨3, 1, .rw, .val 0⟩, ⟨8, 10, .rw, .val 0⟩, ⟨24, 16, .rw, .val 0⟩]⟩,
   ⟨"SRV_PMC_CNT", 0x7f410080080, [(2, 0x1000000), (6, 8)], [⟨0, 48, .rw, .val 0⟩]⟩] ++
  [⟨"SRV_COEF_GAP", 0x7f410400000, [(2, 0x1000000), (2, 0x40000), (128, 0x800), (256, 8)], []⟩,
   ⟨"SRV_STATE_GAP", 0x7f410500000, [(2, 0x1000000), (128, 0x100), (32, 8)], []⟩]

/-- The rows of the PYL block. -/
def Reg.rowsPYL : List RegRow :=
  [⟨"PYL_ID", 0x7f420000000, [(2, 0x100000)], [⟨0, 1, .ro, .idx 0 1 1⟩, ⟨4, 4, .ro, .val 4⟩, ⟨8, 8, .ro, .val 4⟩, ⟨16, 8, .ro, .val 3⟩]⟩,
   ⟨"PYL_CTL", 0x7f420000008, [(2, 0x100000)], [⟨0, 1, .wo, .val 0⟩, ⟨16, 16, .wo, .val 0⟩]⟩,
   ⟨"PYL_STATUS", 0x7f420000010, [(2, 0x100000)], [⟨0, 3, .ro, .val 1⟩, ⟨4, 4, .ro, .val 0⟩, ⟨8, 1, .ro, .val 0⟩, ⟨9, 1, .w1c, .val 0⟩]⟩,
   ⟨"PYL_HEALTH", 0x7f420000018, [(2, 0x100000)], [⟨0, 10, .ro, .val 0⟩, ⟨10, 1, .ro, .val 0⟩, ⟨16, 10, .w1c, .val 0⟩]⟩,
   ⟨"PYL_HEALTH_FT", 0x7f420000020, [(2, 0x100000)], [⟨0, 64, .ro, .val 0⟩]⟩,
   ⟨"PYL_WDOG", 0x7f420000028, [(2, 0x100000)], [⟨0, 1, .wo, .val 0⟩, ⟨8, 4, .rw, .val 4⟩]⟩,
   ⟨"PYL_CNT", 0x7f420000030, [(2, 0x100000)], [⟨0, 8, .ro, .val 0⟩, ⟨8, 8, .ro, .val 0⟩, ⟨16, 8, .ro, .val 0⟩, ⟨24, 8, .ro, .val 0⟩]⟩]

/-- The rows of the EVR block. -/
def Reg.rowsEVR : List RegRow :=
  [⟨"EVR_ID", 0x7f430000000, [(2, 0x200000)], [⟨0, 1, .ro, .idx 0 1 1⟩]⟩,
   ⟨"EVR_CTL", 0x7f430000008, [(2, 0x200000)], [⟨0, 1, .rw, .val 0⟩, ⟨16, 16, .rw, .val 0x64⟩, ⟨32, 16, .rw, .val 0x3e8⟩]⟩,
   ⟨"EVR_STATUS", 0x7f430000010, [(2, 0x200000)], [⟨0, 1, .ro, .val 0⟩, ⟨1, 1, .ro, .val 0⟩, ⟨8, 9, .ro, .val 0⟩]⟩,
   ⟨"EVR_RATE", 0x7f430000018, [(2, 0x200000)], [⟨0, 16, .rw, .val 8⟩, ⟨16, 16, .rw, .val 0x20⟩]⟩,
   ⟨"EVR_VAULT", 0x7f430000020, [(2, 0x200000)], [⟨0, 32, .ro, .val 0⟩, ⟨32, 16, .rw, .val 0x3e8⟩, ⟨48, 1, .ro, .val 0⟩]⟩,
   ⟨"EVR_NOTIFY", 0x7f430000028, [(2, 0x200000)], [⟨0, 3, .rw, .val 2⟩, ⟨3, 1, .rw, .val 0⟩, ⟨8, 8, .rw, .val 0x10⟩, ⟨16, 16, .rw, .val 0xa⟩]⟩,
   ⟨"EVR_NTARGET", 0x7f430000030, [(2, 0x200000)], [⟨0, 13, .rw, .val 0⟩, ⟨15, 1, .rw, .val 0⟩, ⟨16, 13, .rw, .val 0⟩, ⟨31, 1, .rw, .val 0⟩, ⟨32, 13, .rw, .val 0⟩, ⟨47, 1, .rw, .val 0⟩, ⟨48, 13, .rw, .val 0⟩, ⟨63, 1, .rw, .val 0⟩]⟩,
   ⟨"EVR_LOST", 0x7f430000038, [(2, 0x200000)], [⟨0, 16, .ro, .val 0⟩, ⟨16, 16, .ro, .val 0⟩, ⟨32, 32, .ro, .val 0⟩]⟩] ++
  [⟨"EVR_SEVLOST", 0x7f430000040, [(2, 0x200000)], [⟨0, 12, .ro, .val 0⟩, ⟨12, 12, .ro, .val 0⟩, ⟨24, 12, .ro, .val 0⟩, ⟨36, 12, .ro, .val 0⟩, ⟨48, 12, .ro, .val 0⟩]⟩,
   ⟨"EVR_RLOVR", 0x7f430000100, [(2, 0x200000), (64, 8)], [⟨0, 16, .rw, .val 0⟩, ⟨16, 16, .rw, .val 8⟩, ⟨32, 16, .rw, .val 0x20⟩, ⟨48, 1, .rw, .val 0⟩]⟩,
   ⟨"EVR_RING", 0x7f430100000, [(2, 0x200000), (16384, 0x40), (8, 8)], [⟨0, 64, .ro, .val 0⟩]⟩]

/-- The rows of the CTR block. -/
def Reg.rowsCTR : List RegRow :=
  [⟨"CTR_CTL", 0x7f440000000, [], [⟨0, 1, .rw, .val 0⟩, ⟨1, 1, .wo, .val 0⟩, ⟨2, 1, .rw, .val 0⟩]⟩,
   ⟨"CTR_PERIOD", 0x7f440000008, [], [⟨0, 32, .rw, .val 0x3e8⟩, ⟨32, 32, .rw, .val 0⟩]⟩,
   ⟨"CTR_MASK", 0x7f440000010, [], [⟨0, 8, .rw, .val 0⟩]⟩,
   ⟨"CTR_BUF", 0x7f440000018, [], [⟨0, 43, .rw, .val 0⟩]⟩,
   ⟨"CTR_BUFSZ", 0x7f440000020, [], [⟨0, 40, .rw, .val 0⟩]⟩,
   ⟨"CTR_HEAD", 0x7f440000028, [], [⟨0, 32, .ro, .val 0⟩]⟩,
   ⟨"CTR_TAIL", 0x7f440000030, [], [⟨0, 32, .rw, .val 0⟩]⟩,
   ⟨"CTR_STATUS", 0x7f440000038, [], [⟨0, 1, .ro, .val 0⟩, ⟨16, 16, .ro, .val 0⟩, ⟨32, 16, .ro, .val 0⟩]⟩] ++
  [⟨"CTR_SEQ", 0x7f440000040, [], [⟨0, 32, .ro, .val 0⟩]⟩,
   ⟨"CTR_TAGBUF", 0x7f440000080, [], [⟨0, 43, .rw, .val 0⟩]⟩,
   ⟨"CTR_TAGSZ", 0x7f440000088, [], [⟨0, 24, .rw, .val 0⟩]⟩,
   ⟨"CTR_TAGHEAD", 0x7f440000090, [], [⟨0, 24, .ro, .val 0⟩]⟩,
   ⟨"CTR_TAGTAIL", 0x7f440000098, [], [⟨0, 24, .rw, .val 0⟩]⟩,
   ⟨"CTR_TAGSTAT", 0x7f4400000a0, [], [⟨0, 32, .ro, .val 0⟩, ⟨32, 16, .ro, .val 0⟩]⟩,
   ⟨"CTR_HIST_CTL", 0x7f440010000, [(17, 0x200)], [⟨0, 1, .rw, .val 0⟩, ⟨1, 1, .wo, .val 0⟩, ⟨8, 8, .rw, .val 0⟩]⟩,
   ⟨"CTR_HIST_TOTAL", 0x7f440010008, [(17, 0x200)], [⟨0, 48, .ro, .val 0⟩]⟩] ++
  [⟨"CTR_HIST_BIN", 0x7f440010100, [(17, 0x200), (32, 8)], [⟨0, 48, .ro, .val 0⟩]⟩]

/-- The rows of the SEC block. -/
def Reg.rowsSEC : List RegRow :=
  [⟨"SEC_ID", 0x7f450000000, [], [⟨0, 8, .ro, .val 3⟩, ⟨8, 8, .ro, .val 0x10⟩]⟩,
   ⟨"SEC_CTL", 0x7f450000008, [], [⟨0, 1, .rw, .val 1⟩, ⟨32, 21, .rw, .val 0x4000⟩]⟩,
   ⟨"SEC_STATUS", 0x7f450000010, [], [⟨0, 1, .ro, .val 0⟩, ⟨1, 1, .ro, .val 0⟩, ⟨2, 1, .ro, .val 0⟩, ⟨3, 1, .w1c, .val 0⟩, ⟨4, 1, .w1c, .val 0⟩, ⟨5, 1, .ro, .val 0⟩, ⟨8, 5, .ro, .val 0⟩]⟩,
   ⟨"SEC_SIGIDX", 0x7f450000018, [], [⟨0, 21, .ro, .val 0⟩, ⟨32, 21, .ro, .val 0⟩]⟩,
   ⟨"SEC_ARATE", 0x7f450000020, [], [⟨0, 16, .rw, .val 8⟩, ⟨16, 16, .rw, .val 0x10⟩, ⟨32, 16, .ro, .val 0⟩]⟩,
   ⟨"SEC_SEALCNT", 0x7f450000028, [], [⟨0, 32, .ro, .val 0⟩]⟩,
   ⟨"SEC_RNG", 0x7f450000030, [], [⟨0, 64, .ro, .val 0⟩]⟩,
   ⟨"SEC_EXTGO", 0x7f450000038, [], [⟨0, 4, .wo, .val 0⟩, ⟨4, 1, .wo, .val 0⟩]⟩] ++
  [⟨"SEC_EXTDATA", 0x7f450000040, [(8, 8)], [⟨0, 64, .rw, .val 0⟩]⟩,
   ⟨"SEC_KEYSLOT", 0x7f450000080, [(4, 8)], [⟨0, 2, .ro, .val 0⟩]⟩,
   ⟨"SEC_EXTCNT", 0x7f450000100, [(16, 8)], [⟨0, 32, .ro, .val 0⟩]⟩,
   ⟨"SEC_LOGSEQ", 0x7f450000180, [], [⟨0, 32, .ro, .val 0⟩]⟩,
   ⟨"SEC_MEAS", 0x7f450001000, [(16, 0x40), (8, 8)], [⟨0, 64, .ro, .val 0⟩]⟩,
   ⟨"SEC_FUSEROOT", 0x7f450000200, [(4, 0x20), (4, 8)], [⟨0, 64, .ro, .val 0⟩]⟩,
   ⟨"SEC_LOG", 0x7f450010000, [(512, 0x80), (16, 8)], [⟨0, 64, .ro, .val 0⟩]⟩]

/-- The rows of the UPD block. -/
def Reg.rowsUPD : List RegRow :=
  [⟨"UPD_CTL", 0x7f460000000, [], [⟨0, 1, .rw, .val 1⟩, ⟨16, 16, .rw, .val 0x3c⟩]⟩,
   ⟨"UPD_STATUS", 0x7f460000008, [], [⟨0, 2, .ro, .val 0⟩, ⟨2, 1, .ro, .val 0⟩, ⟨3, 1, .ro, .val 0⟩, ⟨4, 1, .ro, .val 0⟩, ⟨5, 1, .ro, .val 0⟩, ⟨8, 8, .ro, .val 0⟩, ⟨16, 13, .ro, .val 0⟩, ⟨32, 3, .ro, .val 0⟩, ⟨40, 8, .ro, .val 0⟩]⟩,
   ⟨"UPD_STAGE", 0x7f460000010, [], [⟨0, 8, .ro, .val 0⟩, ⟨8, 8, .ro, .val 0⟩, ⟨16, 25, .ro, .val 0⟩]⟩,
   ⟨"UPD_OWNER", 0x7f460000018, [], [⟨0, 1, .ro, .val 0⟩, ⟨1, 1, .ro, .val 0⟩, ⟨32, 32, .ro, .val 0⟩]⟩,
   ⟨"UPD_RECOV", 0x7f460000020, [], [⟨0, 1, .wo, .val 0⟩, ⟨1, 1, .wo, .val 0⟩, ⟨2, 1, .rw, .val 0⟩, ⟨3, 1, .ro, .val 0⟩, ⟨4, 1, .ro, .val 0⟩, ⟨8, 8, .ro, .val 0⟩, ⟨16, 16, .wo, .val 0⟩, ⟨32, 25, .rw, .val 0⟩]⟩,
   ⟨"UPD_COMP", 0x7f460000040, [(8, 8)], [⟨0, 32, .ro, .val 0⟩, ⟨32, 8, .ro, .val 0⟩, ⟨40, 1, .ro, .val 0⟩, ⟨41, 1, .ro, .val 0⟩, ⟨42, 1, .ro, .val 0⟩, ⟨43, 1, .ro, .val 0⟩, ⟨44, 1, .ro, .val 0⟩]⟩,
   ⟨"UPD_DIGW", 0x7f460000080, [(8, 8)], [⟨0, 64, .ro, .val 0⟩]⟩,
   ⟨"UPD_DIGL", 0x7f4600000c0, [(8, 8)], [⟨0, 64, .ro, .val 0⟩]⟩] ++
  [⟨"UPD_WINDOW", 0x7f461000000, [(2097152, 8)], [⟨0, 64, .wo, .val 0⟩]⟩]

/-- The rows of the CAL block. -/
def Reg.rowsCAL : List RegRow :=
  [⟨"CAL_CTL", 0x7f470000000, [], [⟨0, 1, .rw, .val 1⟩, ⟨1, 1, .rw, .val 1⟩, ⟨8, 5, .rw, .val 8⟩]⟩,
   ⟨"CAL_STATUS", 0x7f470000008, [], [⟨0, 7, .ro, .val 0x7f⟩, ⟨8, 7, .ro, .val 0x7f⟩, ⟨15, 1, .ro, .val 1⟩, ⟨16, 16, .ro, .val 0⟩, ⟨32, 16, .ro, .val 0⟩]⟩,
   ⟨"CAL_REQ", 0x7f470000010, [], [⟨0, 7, .wo, .val 0⟩, ⟨7, 1, .wo, .val 0⟩]⟩,
   ⟨"CAL_DUE0", 0x7f470000018, [], [⟨0, 64, .ro, .val 0⟩]⟩,
   ⟨"CAL_DUE1", 0x7f470000020, [], [⟨0, 48, .ro, .val 0⟩]⟩,
   ⟨"CAL_FAIL0", 0x7f470000028, [], [⟨0, 64, .w1c, .val 0⟩]⟩,
   ⟨"CAL_FAIL1", 0x7f470000030, [], [⟨0, 48, .w1c, .val 0⟩]⟩,
   ⟨"CAL_ZONE", 0x7f470000100, [(112, 8)], [⟨0, 8, .ro, .val 0⟩, ⟨8, 8, .ro, .val 0⟩, ⟨16, 1, .ro, .val 0⟩]⟩]

/-- The rows of the PWR block. -/
def Reg.rowsPWR : List RegRow :=
  [⟨"PWR_CTL", 0x7f480000000, [], [⟨0, 2, .rw, .val 2⟩, ⟨8, 3, .rw, .val 0⟩, ⟨11, 1, .wo, .val 0⟩, ⟨16, 8, .rw, .val 0x64⟩]⟩,
   ⟨"PWR_STATUS", 0x7f480000008, [], [⟨0, 3, .ro, .val 1⟩, ⟨3, 1, .ro, .val 0⟩, ⟨4, 2, .ro, .val 2⟩, ⟨6, 2, .ro, .val 2⟩, ⟨8, 1, .w1c, .val 0⟩, ⟨9, 1, .ro, .val 0⟩, ⟨10, 1, .ro, .val 0⟩, ⟨11, 1, .ro, .val 0⟩, ⟨12, 4, .ro, .val 0⟩, ⟨24, 12, .ro, .val 0x44c⟩]⟩,
   ⟨"PWR_RST", 0x7f480000010, [], [⟨0, 1, .rw, .val 0⟩, ⟨1, 1, .rw, .val 0⟩, ⟨2, 1, .rw, .val 0⟩, ⟨3, 1, .rw, .val 0⟩, ⟨4, 1, .rw, .val 0⟩, ⟨5, 1, .rw, .val 0⟩, ⟨6, 1, .rw, .val 0⟩, ⟨7, 1, .rw, .val 0⟩, ⟨8, 1, .rw, .val 0⟩, ⟨9, 1, .rw, .val 0⟩, ⟨10, 1, .rw, .val 0⟩, ⟨11, 1, .rw, .val 0⟩, ⟨12, 1, .rw, .val 0⟩, ⟨13, 1, .rw, .val 0⟩, ⟨14, 1, .rw, .val 0⟩, ⟨15, 1, .rw, .val 0⟩, ⟨16, 1, .rw, .val 0⟩, ⟨17, 1, .rw, .val 0⟩, ⟨18, 1, .rw, .val 0⟩]⟩,
   ⟨"PWR_MEAS", 0x7f480000018, [], [⟨0, 16, .ro, .val 0⟩, ⟨16, 16, .ro, .val 0⟩, ⟨32, 16, .ro, .val 0⟩]⟩,
   ⟨"PWR_TEMP", 0x7f480000020, [], [⟨0, 8, .ro, .val 0⟩, ⟨8, 3, .ro, .val 0⟩, ⟨16, 8, .ro, .val 0⟩]⟩,
   ⟨"PWR_FAULT", 0x7f480000028, [], [⟨0, 1, .w1c, .val 0⟩, ⟨1, 1, .w1c, .val 0⟩, ⟨2, 1, .w1c, .val 0⟩, ⟨3, 1, .w1c, .val 0⟩, ⟨4, 1, .w1c, .val 0⟩, ⟨5, 1, .w1c, .val 0⟩]⟩]

/-- The rows of the ABT block. -/
def Reg.rowsABT : List RegRow :=
  [⟨"ABT_CTL", 0x7f490000000, [], [⟨0, 16, .rw, .val 0⟩, ⟨16, 1, .wo, .val 0⟩]⟩,
   ⟨"ABT_STATUS", 0x7f490000008, [], [⟨0, 1, .ro, .val 0⟩, ⟨1, 1, .ro, .val 0⟩, ⟨8, 11, .ro, .val 0⟩, ⟨32, 13, .ro, .val 0⟩, ⟨48, 9, .ro, .val 0⟩]⟩,
   ⟨"ABT_ERR", 0x7f490000010, [], [⟨0, 16, .ro, .val 0⟩, ⟨16, 16, .ro, .val 0⟩, ⟨32, 16, .ro, .val 0⟩, ⟨48, 16, .ro, .val 0⟩]⟩]

/-- The rows of the JIG block. -/
def Reg.rowsJIG : List RegRow :=
  [⟨"JIG_CTL", 0x7f4a0000000, [], [⟨0, 1, .rw, .val 0⟩, ⟨1, 1, .wo, .val 0⟩, ⟨4, 1, .rw, .val 0⟩, ⟨8, 1, .rw, .val 0⟩]⟩,
   ⟨"JIG_SRC", 0x7f4a0000008, [], [⟨0, 43, .rw, .val 0⟩]⟩,
   ⟨"JIG_DRAIN_LIMIT", 0x7f4a0000010, [], [⟨0, 32, .rw, .val 0x186a0⟩]⟩,
   ⟨"JIG_STATUS", 0x7f4a0000018, [], [⟨0, 3, .ro, .val 0⟩, ⟨3, 1, .ro, .val 0⟩, ⟨4, 1, .ro, .val 0⟩, ⟨8, 8, .ro, .val 0⟩, ⟨16, 8, .ro, .val 0⟩, ⟨32, 24, .ro, .val 0⟩]⟩,
   ⟨"JIG_FULL_ID", 0x7f4a0000020, [], [⟨0, 64, .ro, .val 0⟩]⟩,
   ⟨"JIG_JOB_ID", 0x7f4a0000028, [], [⟨0, 64, .ro, .val 0⟩]⟩,
   ⟨"JIG_DIGEST", 0x7f4a0000040, [(8, 8)], [⟨0, 64, .ro, .val 0⟩]⟩,
   ⟨"JIG_SET_ID", 0x7f4a0000100, [(36, 8)], [⟨0, 64, .ro, .val 0⟩]⟩]

/-- The rows of the MBX block. -/
def Reg.rowsMBX : List RegRow :=
  [⟨"MBX_CTL", 0x7f4b0000000, [(8, 0x1000)], [⟨0, 1, .rw, .val 0⟩, ⟨1, 1, .w1c, .val 0⟩, ⟨8, 8, .rw, .val 0⟩, ⟨16, 16, .rw, .val 0⟩, ⟨32, 16, .ro, .val 0⟩, ⟨48, 8, .ro, .val 0⟩]⟩,
   ⟨"MBX_CMDREG", 0x7f4b0000100, [(8, 0x1000), (32, 8)], [⟨0, 64, .rw, .val 0⟩]⟩,
   ⟨"MBX_RSP", 0x7f4b0000200, [(8, 0x1000), (32, 8)], [⟨0, 64, .ro, .val 0⟩]⟩]

/-- The rows of the AON block. -/
def Reg.rowsAON : List RegRow :=
  [⟨"AON_TOKEN", 0x7f4c0000000, [], [⟨0, 2, .ro, .val 0⟩, ⟨2, 1, .ro, .val 0⟩, ⟨8, 4, .ro, .val 0⟩, ⟨16, 2, .ro, .val 0⟩, ⟨24, 8, .ro, .val 0⟩]⟩,
   ⟨"AON_HSTORE", 0x7f4c0000008, [], [⟨0, 1, .ro, .val 0⟩, ⟨1, 1, .ro, .val 0⟩, ⟨2, 1, .ro, .val 0⟩, ⟨3, 1, .ro, .val 0⟩, ⟨8, 8, .ro, .val 0⟩, ⟨16, 48, .ro, .val 0⟩]⟩,
   ⟨"AON_HSFT", 0x7f4c0000010, [], [⟨0, 64, .ro, .val 0⟩]⟩,
   ⟨"AON_RELFT", 0x7f4c0000018, [], [⟨0, 64, .ro, .val 0⟩]⟩,
   ⟨"AON_MSEQ", 0x7f4c0000020, [], [⟨0, 32, .ro, .val 0⟩]⟩,
   ⟨"AON_MGMT", 0x7f4c0000028, [], [⟨0, 16, .ro, .val 0⟩, ⟨16, 16, .ro, .val 0⟩, ⟨32, 16, .ro, .val 0⟩]⟩,
   ⟨"AON_EVSEQ", 0x7f4c0000100, [], [⟨0, 32, .ro, .val 0⟩]⟩,
   ⟨"AON_EVSENT", 0x7f4c0000108, [], [⟨0, 16, .ro, .val 0⟩, ⟨16, 1, .w1c, .val 0⟩, ⟨17, 1, .w1c, .val 0⟩, ⟨18, 1, .ro, .val 0⟩]⟩] ++
  [⟨"AON_ALERT", 0x7f4c0000110, [], [⟨0, 1, .ro, .val 0⟩, ⟨1, 1, .ro, .val 0⟩, ⟨2, 1, .ro, .val 0⟩, ⟨3, 1, .ro, .val 0⟩, ⟨4, 1, .ro, .val 0⟩, ⟨5, 1, .w1c, .val 0⟩, ⟨6, 1, .ro, .val 0⟩, ⟨7, 1, .ro, .val 0⟩, ⟨8, 1, .ro, .val 0⟩, ⟨9, 1, .ro, .val 0⟩, ⟨10, 1, .ro, .val 0⟩, ⟨32, 11, .rw, .val 0⟩]⟩,
   ⟨"AON_EVINTAKE", 0x7f4c0000118, [], [⟨0, 10, .ro, .val 0⟩, ⟨16, 32, .ro, .val 0⟩]⟩]

/-- The rows of the MSH block. -/
def Reg.rowsMSH : List RegRow :=
  [⟨"MSH_PAT_CTL", 0x7f4d0000110, [(11, 0x10000), (8, 0x40)], [⟨0, 4, .rw, .val 0⟩, ⟨4, 1, .rw, .val 0⟩, ⟨5, 1, .rw, .val 0⟩, ⟨6, 1, .ro, .val 0⟩, ⟨7, 1, .wo, .val 0⟩, ⟨8, 1, .wo, .val 0⟩]⟩,
   ⟨"MSH_PAT_USER", 0x7f4d0000118, [(11, 0x10000), (8, 0x40)], [⟨0, 64, .rw, .val 0⟩]⟩,
   ⟨"MSH_PAT_ERR", 0x7f4d0000120, [(11, 0x10000), (8, 0x40)], [⟨0, 48, .ro, .val 0⟩]⟩,
   ⟨"MSH_PAT_BITS", 0x7f4d0000128, [(11, 0x10000), (8, 0x40)], [⟨0, 64, .ro, .val 0⟩]⟩]

/-- The rows of the block whose address range holds `a` (R33): no block extends beyond the next block's base. -/
def Reg.rowsAt (a : Nat) : List RegRow :=
  if 0x7f4d0000000 ≤ a then Reg.rowsMSH else
  if 0x7f4c0000000 ≤ a then Reg.rowsAON else
  if 0x7f4b0000000 ≤ a then Reg.rowsMBX else
  if 0x7f4a0000000 ≤ a then Reg.rowsJIG else
  if 0x7f490000000 ≤ a then Reg.rowsABT else
  if 0x7f480000000 ≤ a then Reg.rowsPWR else
  if 0x7f470000000 ≤ a then Reg.rowsCAL else
  if 0x7f460000000 ≤ a then Reg.rowsUPD else
  if 0x7f450000000 ≤ a then Reg.rowsSEC else
  if 0x7f440000000 ≤ a then Reg.rowsCTR else
  if 0x7f430000000 ≤ a then Reg.rowsEVR else
  if 0x7f420000000 ≤ a then Reg.rowsPYL else
  if 0x7f410000000 ≤ a then Reg.rowsSRV else
  if 0x7f400000000 ≤ a then Reg.rowsFTU else
  if 0x7f300000000 ≤ a then Reg.rowsLNK else
  if 0x7f200000000 ≤ a then Reg.rowsRTR else
  if 0x7f100000000 ≤ a then Reg.rowsHDS else
  if 0x7f080000000 ≤ a then Reg.rowsPIER else
  if 0x7f040000000 ≤ a then Reg.rowsGGE else
  if 0x7f000000000 ≤ a then Reg.rowsSPN else
  []

/-- The instance numbers that put `off` on a row with these dimensions, when there are any. -/
def Reg.indices : List (Nat × Nat) → Nat → Option (List Nat)
  | [], off => if off = 0 then some [] else none
  | (n, st) :: ds, off =>
    if off / st < n then (Reg.indices ds (off % st)).map (off / st :: ·) else none

/-- The first row of the list whose pattern holds `a`, with the instance numbers. -/
def Reg.findIn (a : Nat) : List RegRow → Option (RegRow × List Nat)
  | [] => none
  | r :: rs =>
    if r.base ≤ a then
      match Reg.indices r.dims (a - r.base) with
      | some is => some (r, is)
      | none => Reg.findIn a rs
    else Reg.findIn a rs

/-- The register at address `a`; none where the address is unmapped (R33). -/
def Reg.find (a : Nat) : Option (RegRow × List Nat) := Reg.findIn a (Reg.rowsAt a)

/-- The reset value of a field in the instance `is`. -/
def Rst.value (is : List Nat) : Rst → Nat
  | .val n => n
  | .idx d mul div => is.getD d 0 * mul / div
  | .ge d k => if k ≤ is.getD d 0 then 1 else 0
  | .sel d k a b => if is.getD d 0 = k then a else b

/-- The reset value of a register from its fields. -/
def Reg.resetOf (is : List Nat) (fs : List Field) : Nat :=
  fs.foldl (fun acc f => acc + f.reset.value is % 2 ^ f.width * 2 ^ f.lo) 0

/-- What the register at address `a` holds at reset (R35, every field map): 0 outside every row. -/
def Reg.resetVal (a : Nat) : BitVec 64 :=
  match Reg.find a with
  | some (r, is) => BitVec.ofNat 64 (Reg.resetOf is r.fields)
  | none => 0

/-- The bits of the fields of a row that `p` picks, as a mask. -/
def Reg.maskOf (p : Acc → Bool) (fs : List Field) : Nat :=
  fs.foldl (fun acc f => if p f.acc then acc + (2 ^ f.width - 1) * 2 ^ f.lo else acc) 0

end Sys2Proof.Machine
end

