-- ==== Sys2Proof/Machine/State.lean ====
section
/-! DEFINITION. Machine/State.lean: everything the specification gives the module, as plain data, and its value right
after reset. The control-space registers are in `regs` (an unlisted register reads its reset value); what the
specification keeps outside registers is in one structure for each chapter.
The choices of the model here: logs 4, 16, 34, 40 and 41. -/

namespace Sys2Proof.Machine

/-! ### Event recorder (chapter 15) -/

/-- An occurrence on its way to a record (R406): stamped at arrival. -/
structure Occ where
  code : Nat
  sev : Nat
  ft : Nat
  src : Nat
  count : Nat
  summary : Bool
  data : List Byte
  deriving DecidableEq, Repr

/-- An event record (R402); `flags` as the record's byte 3. -/
structure EvRecord where
  occ : Occ
  seq : Nat
  flags : Nat
  deriving DecidableEq, Repr

/-- The two counts the front end keeps for a code, with the times of the first and last occurrence counted
and the severity of the last (R408). -/
structure Suppressed where
  sev : Nat
  rl : Nat
  ov : Nat
  first : Nat
  last : Nat
  deriving DecidableEq, Repr

/-- State of the event recorders outside their registers (R406 to R414). -/
structure EventState where
  /-- the intake FIFO of 512 entries, head first -/
  fifo : List Occ
  /-- the holding queue of 256 entries, head first (R409) -/
  held : List Occ
  /-- when each instance was last frozen (R409) -/
  frozenAt : List Nat
  /-- per code: token level in 10⁻⁹ tokens and the time it was last brought up to date; an unlisted code is full (R407) -/
  buckets : List (Nat × (Nat × Nat))
  /-- per code with a count that is not 0, ascending (R408) -/
  supp : List (Nat × Suppressed)
  /-- the rings of recorders A and B: place to record (R410) -/
  ringA : List (Nat × EvRecord)
  ringB : List (Nat × EvRecord)
  /-- the vault in the NV device: place to record (R411) -/
  vault : List (Nat × EvRecord)
  /-- vault commits that failed in succession (R411) -/
  failRun : Nat
  /-- records queued for notice (R414) -/
  notices : List EvRecord
  /-- notice-drop counts of the classes 0 to 4 (R414) -/
  drops : List Nat
  /-- the 1 ms window of FT whose budget is in use, and the notice frames sent in it (R414) -/
  budgetMs : Nat
  budgetUsed : Nat
  /-- FT of the last summary period taken (R408) -/
  sumFt : Option Nat
  /-- the notice frame being sent: its records, and the targets still to be sent to (R414) -/
  sending : List EvRecord
  sendTo : List Nat
  deriving DecidableEq, Repr

/-! ### Jig (chapter 03) -/

/-- An MREG entry (R56). -/
structure Mreg where
  base : Nat
  size : Nat
  kind : Nat
  peer : Nat
  deriving DecidableEq, Repr

/-- A spindle set as SSET binds it (R58): number, mode, lathe groups as bits. -/
structure SetDef where
  set : Nat
  mode : Nat
  groups : Nat
  deriving DecidableEq, Repr

/-- A BOWL entry (R60), in units of 4 KiB. -/
structure BowlPart where
  use : Nat
  base : Nat
  size : Nat
  deriving DecidableEq, Repr

/-- An FMT entry (R62). -/
structure FmtSlot where
  slot : Nat
  wfmt : Nat
  afmt : Nat
  kvfmt : Nat
  wscale : Nat
  deriving DecidableEq, Repr

/-- A QMAP entry (R65). -/
structure QmapEntry where
  first : Nat
  qcnt : Nat
  prog : Nat
  prio : Nat
  sets : Nat
  deriving DecidableEq, Repr

/-- A SERVO entry (R69). -/
structure ServoEntry where
  mirror : Nat
  en : Nat
  chaddr : Nat
  dmin0 : Nat
  dmax0 : Nat
  slew0 : Nat
  dmin1 : Nat
  dmax1 : Nat
  slew1 : Nat
  deriving DecidableEq, Repr

/-- A CGRANT entry (R71). -/
structure CgrantEntry where
  first : Nat
  qcnt : Nat
  view : Nat
  deriving DecidableEq, Repr

/-- The IDENT section (R54). -/
structure Ident where
  modnum : Nat
  span : Nat
  x : Nat
  y : Nat
  z : Nat
  dx : Nat
  dy : Nat
  dz : Nat
  deriving DecidableEq, Repr

/-- State of the jig outside its registers: the staging store of a load, and the deck die's shadow of what the applied
loads configured (R511). -/
structure JigState where
  /-- the 2 MiB staging store, as far as the copy phase filled it (R72) -/
  staging : List Byte
  /-- a seal that waits for the load in progress (R79) -/
  sealPending : Bool
  /-- control-space writes held during the apply phase, oldest first (R74) -/
  held : List (Requester × Nat × Word64)
  ident : Option Ident
  mregs : List Mreg
  sets : List SetDef
  bowls : List (Nat × List BowlPart)
  fmts : List (Nat × List FmtSlot)
  qmap : List QmapEntry
  servo : List ServoEntry
  cgrant : List CgrantEntry
  /-- when the drain phase began (R75) -/
  drainAt : Nat
  deriving DecidableEq, Repr

/-! ### Memory and landing cache (chapter 07) -/

/-- What a way of a landing-cache set holds (R174, R182). -/
inductive Way where
  | empty
  /-- a local line, by line number; its bytes are those of `State.mem` (the cache is write-through) -/
  | localLine (line : Nat)
  /-- a read-only line of another module, with the 64 bytes it had when it was fetched -/
  | rol (module line : Nat) (data : List Byte)
  deriving DecidableEq, Repr

/-- A landing-cache set: its 16 ways and its 15 replacement bits, bit n of `tree` being b n (R577). -/
structure LcSet where
  ways : List Way
  tree : Nat
  deriving DecidableEq, Repr

/-- A code-buffer entry (R167): the group, the checks of its 31 data lines as the entry holds them (R165), per data line, whether it was
written since the entry became dirty, and when it became dirty. -/
structure CodeEntry where
  group : Nat
  checks : List Nat
  written : Nat
  dirtyAt : Nat
  deriving DecidableEq, Repr

/-- Atomic operations (R94, R178). -/
inductive AtomicOp where
  | add32 | max32 | swap32 | cas32 | add64 | cas64
  deriving DecidableEq, Repr

/-- Who a memory transaction in flight belongs to: one thread of a load or atomic of a gang, by the pending-load
number, or a store that a group has released (R98, R103). -/
inductive TxnOwner where
  | load (spindle gang load thread : Nat)
  | store (spindle gang : Nat) (pc : Int)
  deriving DecidableEq, Repr

/-- What a transaction does at its home slice. -/
inductive TxnOp where
  | read (len : Nat)
  | write (data : List Byte)
  | atomic (op : AtomicOp) (a b : Nat)
  deriving DecidableEq, Repr

/-- How far a transaction has come (R169, R172). -/
inductive TxnStage where
  | atSlice | dram | reread | merge
  deriving DecidableEq, Repr

/-- A memory transaction in flight (R186): one access within one line. -/
structure Txn where
  id : Nat
  owner : TxnOwner
  addr : Nat
  nal : Bool
  /-- ORD of a global address of this module (R31, R289) -/
  ord : Bool
  op : TxnOp
  stage : TxnStage
  /-- the test injection that this access took: 0 none, else INJECT (R571) -/
  inject : Nat
  /-- when the pier accepted it, for the latency histograms (R436) and its age (R185) -/
  since : Nat
  /-- PIER_CTL.WINDOW as it stood when the transaction arrived (R185, R190) -/
  window : Nat
  /-- issued before the last write of SPN_CTL.INJECT, which it therefore does not take (R571) -/
  early : Bool
  deriving DecidableEq, Repr

/-- State of the piers and the landing cache outside their registers. -/
structure MemState where
  /-- per pier, how many of its groups, from the first, an initialise has written (R168, R512) -/
  initUpTo : List Nat
  /-- the 16-bit checks in the code lines of the devices, by line number, where they differ from those after power-on or an
  initialise (R165, R168) -/
  checks : List (Nat × Nat)
  /-- landing-cache sets, slice × 49,152 + set -/
  lc : List (Nat × LcSet)
  /-- lines whose DRAM write is pending, oldest first (R176) -/
  wbuf : List Nat
  /-- code buffers: channel to entries, most recently used first (R167) -/
  code : List (Nat × List CodeEntry)
  /-- the open row of each bank, by channel × 16 + bank (R185) -/
  rows : List (Nat × Nat)
  /-- transactions in flight, oldest first -/
  txns : List Txn
  nextTxn : Nat
  /-- refresh-rate code that each device last reported (R162) -/
  mr4 : List (Nat × Nat)
  /-- per-bank refreshes issued, by channel × 16 + bank (R162) -/
  refreshed : List (Nat × Nat)
  deriving DecidableEq, Repr

/-! ### Spindles (chapters 04 and 05) -/

/-- A store held in a gang's commit buffer (R98): 4 bytes of one thread, to a local or a global address. -/
structure HeldStore where
  pc : Int
  global : Bool
  addr : Nat
  data : List Byte
  deriving DecidableEq, Repr

/-- What has come back for one thread of a load. -/
inductive LoadResult where
  | waiting
  | value (v : Nat)
  /-- the line failed after the pier's re-read, or a remote target answered 0x07 (R99) -/
  | failed
  /-- a remote target refused with this completion code (fault 0x09) -/
  | refused (code : Nat)
  deriving DecidableEq, Repr

/-- A load or atomic in flight (R103). -/
structure PendingLoad where
  num : Nat
  dst : Nat
  pair : Bool
  /-- an ATM instruction: replayed alone, not with its group (R99) -/
  atomic : Option AtomicOp
  /-- the atomic was issued again -/
  replayed : Bool
  pc : Int
  /-- thread × 128 + register of its destinations that a later instruction has written: the load does not write them -/
  dead : List Nat
  results : List (Nat × LoadResult)
  /-- thread, address (with attributes when global), whether it is global, and the two operands of an atomic -/
  args : List (Nat × Nat × Bool × Nat × Nat)
  deriving DecidableEq, Repr

/-- What a gang waits for. -/
inductive GangWait where
  | running
  | bar (ft : Option Nat)
  | red (op dst src : Nat) (enabled : List Nat)
  | redv (op off count : Nat)
  /-- a gouge or service instruction of the gang is executing, and will write this register (R155, R222) -/
  | unit
  deriving DecidableEq, Repr

/-- A gang of up to 32 threads (R87 to R101). -/
structure Gang where
  gang : Nat
  set : Nat
  active : Nat
  nregs : Nat
  progAddr : Nat
  ninstr : Nat
  pc : Int
  /-- thread registers, thread × 128 + number, and predicates, thread × 8 + number; an unlisted one reads 0 -/
  regs : List (Nat × Nat)
  preds : List (Nat × Bool)
  /-- the instruction group: first instruction, registers and predicates (128 + n) read before written, and written -/
  groupStart : Int
  groupReads : List Nat
  groupWrites : List Nat
  /-- instructions the group has issued, by slot S, M, V0, V1, T (R428) -/
  groupIssued : List Nat
  /-- registers and predicates at the group's start, to which a replay returns (R100) -/
  savedRegs : List (Nat × Nat)
  savedPreds : List (Nat × Bool)
  /-- the group has ended and waits for its loads (R98) -/
  closed : Bool
  /-- the group is in replay (R101) -/
  replaying : Bool
  held : List HeldStore
  loads : List PendingLoad
  wait : GangWait
  /-- upper halves of counter registers that a view read latched (R433) -/
  latched : List (Nat × Nat)
  /-- collectives met so far (R572) -/
  met : Nat
  /-- number of its last issue on the spindle; 0 before the first (R90) -/
  lastIssue : Nat
  deriving DecidableEq, Repr

/-- A queued tensor instruction with the operands it took at issue (R91, R94). -/
structure TensorOp where
  /-- its gang; 256 more once the gang's instance has ended -/
  gang : Nat
  pc : Int
  /-- 0 TMMA, 1 TMV, 2 TZERO, 3 TSTORE -/
  kind : Nat
  acc : Nat
  /-- the format slot as it stood at issue -/
  slot : FmtSlot
  aOff : Nat
  wAddr : Nat
  sAddr : Nat
  k : Nat
  fromDram : Bool
  scale : Nat
  fmt : Nat
  /-- the DRAM ranges and the bowl ranges that it reads or writes: address or offset, and length -/
  reads : List (Nat × Nat)
  bowl : List (Nat × Nat)
  /-- as `Txn.early`, for its reads -/
  early : Bool
  deriving DecidableEq, Repr

/-- A block copy in flight (R103). -/
structure BlockCopy where
  num : Nat
  /-- its place in the order of transactions, and ORD of a global address of this module (R31, R289) -/
  id : Nat
  ord : Bool
  /-- as `Txn.early`, for its reads -/
  early : Bool
  /-- its gang; 256 more once the gang's instance has ended -/
  gang : Nat
  pc : Int
  toBowl : Bool
  /-- it goes to another module -/
  global : Bool
  nal : Bool
  bowl : Nat
  /-- local address, or global address with its attributes -/
  addr : Nat
  size : Nat
  /-- remote requests still unanswered, or to be replayed -/
  waiting : Nat
  /-- offsets of requests answered 0x07, to be replayed, and of those that were replayed (R99) -/
  failed : List Nat
  replayed : List Nat
  deriving DecidableEq, Repr

/-- What is kept of a tagged instruction for its record (R435). -/
structure TagInfo where
  gang : Nat
  pc : Int
  slot : Nat
  word : Nat
  ft : Nat
  deriving DecidableEq, Repr

/-- A spindle outside its registers and its bowl (R86); the bowl is in `State.mem`. -/
structure Spindle where
  gangs : List Gang
  /-- accumulators a0 to a3: a × 4096 + row × 64 + column; an unlisted element is 0 -/
  acc : List (Nat × Nat)
  tensorQ : List TensorOp
  copies : List BlockCopy
  /-- number of the next load or block copy -/
  nextNum : Nat
  /-- instruction cache: line addresses and bytes, oldest first -/
  icache : List (Nat × List Byte)
  /-- an injection of kind 3 that acts on the replay of the access that took it, by gang and line (R571) -/
  injectReplay : Option (Nat × Nat)
  /-- tag countdown of PMC_TAG and the gang whose instruction is tagged (R434) -/
  tagCount : Nat
  tagged : Option TagInfo
  /-- instructions issued so far, and when and by which gang an instruction last took the slot V0 (R90) -/
  issueNo : Nat
  vecAt : Option (Nat × Nat)
  deriving DecidableEq, Repr

def Spindle.empty : Spindle :=
  { gangs := [], acc := [], tensorQ := [], copies := [], nextNum := 0, icache := [], injectReplay := none,
    tagCount := 0, tagged := none, issueNo := 0, vecAt := none }

/-! ### Gouge (chapter 06) -/

/-- A gouge instruction executing or queued (R155), with what it took at issue. -/
structure GougeOp where
  spindle : Nat
  gang : Nat
  pc : Int
  select : Bool
  desc : Nat
  block : Nat
  fslot : Nat
  dst : Nat
  enabled : List Nat
  descBytes : List Byte
  /-- GGE_CTL as it stood when the instruction began: KCAP and FORCE_DENSE (R159) -/
  begun : Option (Nat × Bool)
  deriving DecidableEq, Repr

/-! ### Power and resets (chapter 20) -/

/-- A region of the settings store (R479): SETFMT, write counter, whether its CRC is right, and the values of the fields of R518
in their order, none when it is marked empty (R519). -/
structure Region where
  fmt : Nat
  count : Nat
  good : Bool
  values : Option (List Nat)
  deriving DecidableEq, Repr

/-- State of the power controller and the pins outside its registers. -/
structure PowerState where
  /-- the sideband pins PWR_EN, RESET_N and PWR_GOOD (R555) -/
  pwrEn : Bool
  resetN : Bool
  pwrGood : Bool
  /-- when PWR_GOOD was asserted (R555), and SLOT_ID as sampled (R553) -/
  goodAt : Nat
  /-- when RESET_N was last deasserted (R379) -/
  startAt : Nat
  slotId : Nat
  /-- the busbar lies within 40 to 60 V (R514) -/
  busbar : Bool
  /-- the target of a transition in progress (R506) -/
  target : Option Nat
  /-- cause and step of the shutdown sequence in progress; step 5: the module is off (R516) -/
  shutdown : Option (Nat × Nat)
  /-- a RESET_N asserted, or a PWR_EN raised, during the shutdown sequence (R513, R555) -/
  resetWaits : Bool
  powerWaits : Bool
  /-- PWR_RST writes that wait for a transition to end (R513) -/
  rstWaits : List Word64
  /-- lathe dies and pier dies ready after their reset (R510) -/
  latheReady : List Bool
  pierReady : List Bool
  /-- the two regions of the settings store (R479) -/
  regions : List Region
  /-- thermal throttling holds the lower clock (R503) -/
  thermal : Bool
  /-- the number of 10 µs intervals since the last rise of the clock, and time the average stayed low (R502) -/
  calm : Nat
  /-- pier pacing: the present 10 µs interval gives the spindles no new DRAM credit (R502) -/
  paceOff : Bool
  /-- when each pier was last accessed in M2 (R508) -/
  usedAt : List Nat
  deriving DecidableEq, Repr

/-! ### Abutment link (chapter 21) -/

/-- An abutment frame (R526). -/
structure HostFrame where
  akind : Nat
  cstat : Nat
  len : Nat
  atag : Nat
  addr : Nat
  body : List Byte
  deriving DecidableEq, Repr

/-- State of the abutment link outside its registers. -/
structure HostState where
  /-- VC1 frames created and not yet acknowledged, oldest first (R528, R534) -/
  vc1 : List HostFrame
  /-- how many of them have begun to be sent, bytes of the first of them acknowledged, and frames still to be resent -/
  vc1Begun : Nat
  vc1Acked : Nat
  resend : Nat
  /-- VC0 frames accepted and not yet performed -/
  vc0 : List HostFrame
  /-- pending vectors (R533) and the time each last sent an MSI -/
  pendingVec : List Nat
  lastMsi : List (Nat × Nat)
  /-- HELD since a host-link reset, and until RELEASE is written (R535) -/
  heldByReset : Bool
  /-- MRD frames outstanding (R528) -/
  mrdOut : Nat
  deriving DecidableEq, Repr

/-! ### Control space (chapter 02) -/

/-- The shadows and staged halves of values that span two registers (R39), by requester and address. -/
structure ControlState where
  shadow : List (Requester × Nat × Word64)
  staged : List (Requester × Nat × Word64)
  deriving DecidableEq, Repr

/-! ### Headstock (chapter 08) -/

/-- A submission entry as read (R197). -/
structure SubEntry where
  opc : Nat
  flags : Nat
  tag : Nat
  seq : Nat
  prompt : Nat
  plen : Nat
  maxnew : Nat
  temp : Nat
  topp : Nat
  topk : Nat
  nstop : Nat
  stop : List Nat
  deadline : Nat
  raw : List Byte
  deriving DecidableEq, Repr

/-- Where a request stands with the hall prefix directory (R227, R228). -/
inductive PrefixPhase where
  /-- no lookup, or lookup and import finished and MATCHED written -/
  | done
  /-- the lookup has still to begin -/
  | toLook
  /-- bucket reads in flight -/
  | looking
  /-- summary bundles in flight -/
  | importing
  deriving DecidableEq, Repr

/-- A step of publishing one block (R229): bundle write, bucket read, claim, fields, state. -/
inductive PubStep where
  | bundle | bucket | claim | fields | state
  deriving DecidableEq, Repr

/-- The header of a turning program as the check read it (R205). -/
structure ProgHeader where
  addr : Nat
  modes : Nat
  regs : Nat
  gangs : Nat
  threads : Nat
  ninstr : Nat
  model : Nat
  layers : Nat
  kvh : Nat
  dcode : Nat
  kvbytes : Nat
  deriving DecidableEq, Repr

/-- A running request (R209 to R229). -/
structure Request where
  handle : Nat
  qp : Nat
  /-- global read order of its submission entry (R199, R202) -/
  order : Nat
  entry : SubEntry
  set : Nat
  /-- program slot, and the header it runs under -/
  prog : Nat
  hdr : ProgHeader
  slot : Nat
  prior : Nat
  ntok : Nat
  gen : Nat
  matched : Nat
  /-- blocks reserved and not yet allocated (R213) -/
  reserved : Nat
  btaddr : Nat
  sumbase : Nat
  btmax : Nat
  /-- pending tokens with the time each arrived, oldest first (R202) -/
  pending : List (Nat × Nat)
  /-- the final code and detail, once a cause of ending has arisen, and the REASON that SAMPLE and EMIT return (R576) -/
  cause : Option (Nat × Nat × Nat)
  /-- the stop was reported by a status word (R223) -/
  reported : Bool
  /-- a CANCEL is pending on it (R223) -/
  cancel : Bool
  /-- its final entry is due, and what remains is publication (R229) -/
  ended : Bool
  /-- throughput mode: its place in the batch table, and whether it is attached yet (R218) -/
  batch : Option Nat
  attached : Bool
  phase : PrefixPhase
  /-- HDS_PDIR as its lookup or publication began (R232), and the keys of its prompt blocks (R226) -/
  pdir : Nat
  keys : List (List Byte)
  /-- bucket or bundle reads answered: block and data, none for a remote error -/
  answers : List (Nat × Option (List Byte))
  asked : Nat
  /-- BLOCK and SUMS of the matched directory entries, block 0 first (R227) -/
  found : List (Nat × Nat)
  /-- blocks imported from the directory (R228) -/
  imported : Nat
  /-- publication in progress: block, step, and the address of the claimed bucket entry at the home (R229) -/
  publishing : Option (Nat × PubStep × Nat)
  deriving DecidableEq, Repr

/-- A deferred submission entry (R215, R216). -/
structure Deferred where
  qp : Nat
  order : Nat
  entry : SubEntry
  time : Nat
  deriving DecidableEq, Repr

/-- A completion entry due and tied to no running request, or a final entry (R201, R202). -/
structure DueEntry where
  qp : Nat
  order : Nat
  /-- when it became due (R202) -/
  since : Nat
  /-- a KIND 0 entry of this running request, whose tokens are taken when it is written -/
  handle : Option Nat
  tag : Nat
  kind : Nat
  code : Nat
  detail : Nat
  seq : Nat
  gen : Nat
  toks : List Nat
  matched : Nat
  deriving DecidableEq, Repr

/-- A turning-program instance on a spindle set (R217, R218). -/
structure Inst where
  set : Nat
  /-- program slot, and its header as checked -/
  prog : Nat
  hdr : ProgHeader
  /-- the request of a latency-mode instance; none in throughput mode -/
  request : Option Nat
  /-- no barrier of the instance has released yet (R219) -/
  first : Bool
  /-- gangs launched so far, by spindle (R87, R208) -/
  launched : List (Nat × Nat)
  /-- its gangs stop at their next group boundary, and no more are launched (R75, R101, R199) -/
  stopping : Bool
  deriving DecidableEq, Repr

/-- A SAMPLE whose logits are being read (R222, R225). -/
structure SampleOp where
  spindle : Nat
  gang : Nat
  pc : Int
  handle : Nat
  addr : Nat
  v : Nat
  dst : Nat
  enabled : List Nat
  deriving DecidableEq, Repr

/-- State of the headstock outside its registers. -/
structure HdsState where
  requests : List Request
  deferred : List Deferred
  /-- completion entries due, in the order they arose -/
  due : List DueEntry
  /-- queue pairs whose completion ring was replaced while HELD = 1 (R196) -/
  replaced : List Nat
  /-- completion phase per queue pair; an unlisted one is 1 (R195, R201) -/
  phase : List (Nat × Nat)
  /-- the queue pair last read (R214) and the read order of the next entry -/
  lastQp : Nat
  nextOrder : Nat
  /-- entries on the pool stack, and the sum of the reservations (R212, R213) -/
  poolTop : Nat
  /-- blocks of each sequence slot: block index, address, and whether it returns to the pool (R200, R224, R229) -/
  blocks : List (Nat × List (Nat × Nat × Bool))
  programs : List (Nat × ProgHeader)
  /-- header checks in progress (R206) -/
  checking : List Nat
  insts : List Inst
  samples : List SampleOp
  deriving DecidableEq, Repr

/-! ### Router and remote operations (chapter 10) -/

/-- Who a remote operation completes to (R287 to R292). -/
inductive RemoteOwner where
  | load (spindle gang load thread : Nat)
  | store (spindle gang : Nat) (pc : Int)
  /-- a request of a block copy, at this offset of the copy -/
  | copy (spindle copy offset : Nat)
  /-- the headstock's bucket read and bundle read of a request's block (R227, R228) -/
  | lookup (handle order block : Nat)
  | bundle (handle order block : Nat)
  /-- a publication step of a request's block (R229); `order` tells requests of one handle apart -/
  | publish (handle order block : Nat)
  deriving DecidableEq, Repr

/-- A live entry of the remote operation table (R287 to R290). -/
structure RemoteOp where
  index : Nat
  gen : Nat
  owner : RemoteOwner
  frame : Frame
  /-- issue order, which ORD compares (R289) -/
  order : Nat
  /-- sent, and not waiting under R280 or R289 -/
  sent : Bool
  /-- when it was issued, and once it is sent, when it was sent (R280, R290) -/
  since : Nat
  deriving DecidableEq, Repr

/-- Where a frame of another module came in: port and VC, and the CLS it arrived with (R274). -/
structure Via where
  port : Nat
  vc : Nat
  cls : Nat
  deriving DecidableEq, Repr

/-- A frame queued for an output port, not yet begun (R279). A body shorter than BLEN is still arriving (R268). -/
structure QueuedFrame where
  port : Nat
  vc : Nat
  /-- where it came in; none for one that originated here -/
  via : Option Via
  frame : Frame
  deriving DecidableEq, Repr

/-- A frame that waits for a usable hop (R281), and since when. -/
structure WaitingFrame where
  via : Option Via
  frame : Frame
  since : Nat
  deriving DecidableEq, Repr

/-- State of the router outside its registers. -/
structure RtrState where
  /-- the remote operation table's live entries, oldest first -/
  ops : List RemoteOp
  /-- generation last used of each table index; an unlisted index has none used (R288) -/
  gens : List (Nat × Nat)
  nextOrder : Nat
  /-- operations issued before this one and not sent yet go in their original order: a job load that held them has failed (R75) -/
  inOrder : Nat
  /-- frames queued for a port, oldest first -/
  queued : List QueuedFrame
  /-- frames that wait for a usable hop (R281) -/
  transit : List WaitingFrame
  /-- frames delivered to the module and waiting for their step, with the port each arrived on -/
  arrived : List (Nat × Nat × Frame)
  /-- the 1 ms window of the last foreign-key event (R284) -/
  foreignMs : Option Nat
  /-- the quench in force: class mask, key, module, sequence number and end (R296, R297) -/
  quench : Option (Nat × Nat × Nat × Nat × Nat)
  /-- number of the next quench originated here (R296) -/
  quenchSeq : Nat
  /-- quench frames seen: source, sequence number and time (R297) -/
  quenchSeen : List (Nat × Nat × Nat)
  deriving DecidableEq, Repr

/-! ### Links (chapter 09) -/

/-- An IDENT payload (R251). -/
structure IdentInfo where
  modnum : Nat
  port : Nat
  epoch : Nat
  feat : Nat
  serial : List Byte
  span : Nat
  width : Nat
  spareok : Nat
  deriving DecidableEq, Repr

/-- A lane change in progress (R258). -/
structure LaneChange where
  num : Nat
  spare : Nat
  mask : Nat
  /-- proposed by this end, and accepted by the other -/
  mine : Bool
  accepted : Bool
  failed : Nat
  deriving DecidableEq, Repr

/-- A port outside its registers. -/
structure LinkPort where
  /-- when it entered the state that it is in (R247) -/
  enteredAt : Nat
  /-- cold trainings that failed in succession (R247) -/
  attempts : Nat
  /-- a training has begun that LNK_ERR.RETRAINS has not yet taken into account (R265) -/
  trainedOnce : Bool
  /-- addresses whose equalisation record is marked stale (R247, R250) -/
  stale : List Nat
  /-- physical lanes trained, as bits -/
  trained : Nat
  /-- the drain is a calibration drain (R491) -/
  calDrain : Bool
  /-- SAFE was entered from DRAIN (R260) -/
  safeFromDrain : Bool
  drainedSent : Bool
  drainedGot : Bool
  /-- next SEQ to send, flits sent and not acknowledged, next SEQ expected, NAK sent for it -/
  txSeq : Nat
  /-- with the time each was first sent (R436) -/
  replay : List (Flit × Nat)
  rxSeq : Nat
  nakSent : Bool
  /-- NAKs for one SEQ: the SEQ, and when those of the last ms came (R245) -/
  naks : Nat × List Nat
  /-- a replay runs: the place in the replay buffer of the flit to send again next (R245, R258) -/
  replayAt : Option Nat
  /-- credits held and credits owed, per VC (R246) -/
  credits : List Nat
  owed : List Nat
  /-- the flit last sent without a SEQ -/
  lastSent : Option Flit
  /-- received bytes of a frame not yet complete, per VC (R268) -/
  stream : List (Nat × List Byte)
  /-- body bytes still to arrive of a frame whose header the router has taken, per VC (R268) -/
  cut : List (Nat × Nat)
  /-- bytes of frames begun and not yet in a flit, per VC (R268) -/
  tx : List (Nat × List Byte)
  /-- VCs whose stream goes on with bytes that have not arrived: the port and VC they come from (R268) -/
  txOpen : List (Nat × Nat × Nat)
  /-- LANECHG and DRAIN flits to send: type and payload -/
  ctlQ : List (Nat × List Byte)
  /-- per VC, frames begun in the present round and bytes of its turn not yet sent; and the VCs of the last 63 flit times, 8 for
  none (R273) -/
  turn : List Nat
  left : List Nat
  recent : List Nat
  /-- identical IDENT copies received, and the copy (R251) -/
  identCount : Nat
  identLast : Option IdentInfo
  change : Option LaneChange
  changeNum : Nat
  /-- markers that failed in succession, and the marker count of the last good one, per physical lane (R238) -/
  markerFails : List (Nat × Nat)
  markers : List (Nat × Nat)
  /-- uncorrectable codewords of the last ms: physical lane, time and how many (R256) -/
  ucw : List (Nat × Nat × Nat)
  /-- a fast relock brought the port to IDENT; peer module and port of its record (R250) -/
  fastPeer : Option (Nat × Nat)
  /-- a press during RECAL waits for calibration to end (R259) -/
  pressWaits : Bool
  /-- AUX_3V3 of the port is on (R546) -/
  aux : Bool
  /-- time of the last good light word, per physical lane (R241) -/
  lightAt : List (Nat × Nat)
  deriving DecidableEq, Repr

def LinkPort.reset : LinkPort :=
  { enteredAt := 0, attempts := 0, trainedOnce := false, stale := [], cut := [], tx := [], txOpen := [], ctlQ := [], trained := 0, calDrain := false, safeFromDrain := false, drainedSent := false,
    drainedGot := false, txSeq := 0, replay := [], rxSeq := 0, nakSent := false, naks := (0, []), replayAt := none,
    credits := [0, 0, 0, 0, 0, 0, 0, 0], owed := [0, 0, 0, 0, 0, 0, 0, 0], lastSent := none, stream := [],
    turn := [0, 0, 0, 0, 0, 0, 0, 0], left := [0, 0, 0, 0, 0, 0, 0, 0], recent := [], identCount := 0, identLast := none, change := none, changeNum := 0,
    markerFails := [], markers := [], ucw := [], fastPeer := none, pressWaits := false, aux := true, lightAt := [] }

/-! ### Fabric time (chapter 11) -/

/-- What the module knows of the time peer of a port (R303, R307). -/
structure TimePort where
  tseq : Nat
  /-- T1 of the last request, in 1/256 ns; none before the first -/
  t1 : Option Nat
  /-- when the last request was sent (R303) -/
  reqAt : Option Nat
  /-- when the last response of the peer arrived, and its flags, root and depth -/
  respAt : Option Nat
  tflags : Nat
  rootmod : Nat
  depth : Nat
  deriving DecidableEq, Repr

/-- State of the fabric-time unit outside its registers. -/
structure FtState where
  /-- FT in 1/256 ns (R305) -/
  ft256 : Nat
  /-- the part of the rate adjustment not yet carried into FT -/
  rateAcc : Int
  /-- FT has been locked since the last clear (R301), and was loaded while OFF (R302) -/
  wasLocked : Bool
  loadedOff : Bool
  /-- FTU_PARENT as it stood at the last response received: the one in force (R316) -/
  parents : List Nat
  rootmod : Nat
  /-- the last 8 offsets of the parent in use, newest first, and how many filtered offsets in succession lay below 8 ns -/
  thetas : List Int
  good : Nat
  ports : List (Nat × TimePort)
  /-- when HOLDOVER was entered (R309) -/
  holdSince : Nat
  deriving DecidableEq, Repr

/-! ### Servo engine (chapter 12) and profiles (chapter 13) -/

/-- A drive entry (R320). -/
structure DriveEntry where
  chaddr : Nat
  park : Bool
  code0 : Nat
  code1 : Nat
  deriving DecidableEq, Repr

/-- A drive frame (R319). -/
structure DriveFrame where
  active : Bool
  gen : Nat
  seq : Nat
  ft : Nat
  modnum : Nat
  pylon : Nat
  entries : List DriveEntry
  deriving DecidableEq, Repr

/-- A sense entry of a sense frame (R322), positions as 18-bit patterns. -/
structure SenseEntry where
  chaddr : Nat
  valid : Bool
  parked : Bool
  holding : Bool
  rng : Nat
  pos0 : Nat
  pos1 : Nat
  code0 : Nat
  code1 : Nat
  deriving DecidableEq, Repr

/-- What a good sense frame says (R321). -/
structure SenseFrame where
  cstat : Nat
  gen : Nat
  seq : Nat
  temp : Nat
  chid : Nat
  entries : List SenseEntry
  deriving DecidableEq, Repr

/-- A mode handover waiting or running on a mirror (R371): the target mode, the number of the next attempt, 0 to 8, or 8 more than that of the next ramp sample, and the codes sent before the forced
evaluation. -/
structure ModeMove where
  target : Nat
  attempts : Nat
  base0 : Nat
  base1 : Nat
  deriving DecidableEq, Repr

/-- A profile generator of one axis (R358): target, and the set-point, its rate and its change of rate. -/
structure Profile where
  p : Int
  r : Int
  v : Int
  a : Int
  deriving DecidableEq, Repr

/-- A mirror of one servo engine outside the registers; its mode in force, its codes last sent and its observer, notch and
repetitive states are registers (R343, R344, R347). -/
structure Mirror where
  /-- the coefficient bank in force (R342) -/
  bank : Nat
  /-- a mode change to come or a ramp that runs (R371 to R373) -/
  move : Option ModeMove
  /-- MODE was written since the evaluation in progress began (R341) -/
  written : Bool
  /-- it dropped to HOLD after MISSMAX misses (R331), and no sample has been good and no MODE written since -/
  dropped : Bool
  /-- the set-points delivered for the present tick (R334) -/
  rk0 : Int
  rk1 : Int
  prof0 : Profile
  prof1 : Profile
  deriving DecidableEq, Repr

def Profile.reset : Profile := { p := 0, r := 0, v := 0, a := 0 }

def Mirror.reset : Mirror :=
  { bank := 0, move := none, written := false, dropped := false, rk0 := 0, rk1 := 0, prof0 := Profile.reset, prof1 := Profile.reset }

/-- An evaluation in progress (R330, R331): its sample, the sense entries, none for a missed sample, and the engine's
registers and mirrors as they stood when it began, since later writes wait for the next one (R341, R342, R348). -/
structure Evaluation where
  sample : Nat
  entries : Option (List SenseEntry)
  snap : List (Nat × Word64)
  mirrors : List (Nat × Mirror)
  since : Nat
  deriving DecidableEq, Repr

/-- A servo engine outside its registers. -/
structure SrvState where
  /-- mirrors that differ from their reset state -/
  mirrors : List (Nat × Mirror)
  /-- number of the last tick at which a drive frame was begun, that frame, and its blocks on the line (R317, R318) -/
  tick : Option Nat
  lastFrame : Option DriveFrame
  sent : List Nat
  /-- codes of the evaluation that ended since the last frame, mirror to the two codes -/
  next : Option (List (Nat × Nat × Nat))
  evaluating : Option Evaluation
  /-- the sample last evaluated or taken into evaluation -/
  sampled : Option Nat
  /-- the last good sense frame, and when it arrived -/
  sense : Option SenseFrame
  senseAt : Nat
  /-- a servo takeover that waits for a sense frame (R328), with the SRVGEN of the checkpoint loaded -/
  takeover : Option (Option Nat)
  /-- the takeover is done: frames carry ACTIVE = 1 while the token is held (R328) -/
  ready : Bool
  /-- an ACTIVE = 1 frame has been sent since the grant (R329) -/
  activeSent : Bool
  /-- the receiver of the port (R317, R318): block lock, whether each of the last 64 sync headers was valid, newest first, the last 58 bits
  of the line, and the bytes of a frame that has begun -/
  locked : Bool
  headers : List Bool
  line : Nat
  rx : Option (List Byte)
  deriving DecidableEq, Repr

def SrvState.reset : SrvState :=
  { mirrors := [], tick := none, lastFrame := none, sent := [], next := none, evaluating := none, sampled := none,
    sense := none, senseAt := 0, takeover := none, ready := false, activeSent := false, locked := false, headers := [],
    line := 0, rx := none }

/-! ### Circuits (chapter 13) -/

/-- One lane of an armed circuit (R351, R362 to R364). -/
structure CircLane where
  lt0 : Int
  lt1 : Int
  ht0 : Int
  ht1 : Int
  used : Bool
  /-- spiral point and own ticks it has been held for (R364) -/
  point : Nat
  dwell : Nat
  /-- outer-loop sums per dithered axis, count and sum of the powers that entered (R362) -/
  g : List Int
  n : Nat
  pow : Int
  /-- updates in succession at which the lane was converged, and its power at the last update (R363) -/
  conv : Nat
  lastPow : Option Int
  /-- the last light word showed LOS: the lane does not track (R368) -/
  los : Bool
  deriving DecidableEq, Repr

/-- A circuit: the descriptor as CIRC_ARM copied it (R350) and where its sequence stands (R355, R365). -/
structure Circuit where
  kind : Nat
  peermod : Nat
  peerport : Nat
  divlog : Nat
  spdwell : Nat
  dlag : Nat
  setn : Nat
  spring : Nat
  track : Bool
  start : Nat
  eqaddr : Nat
  vmax0 : Nat
  amax0 : Nat
  jmax0 : Nat
  vmax1 : Nat
  amax1 : Nat
  jmax1 : Nat
  settol : Nat
  spstep : Nat
  damp : Nat
  stepmax : Nat
  gain : Nat
  acqpwr : Int
  rxmin : Int
  pktol : Nat
  lanes : List CircLane
  /-- PHASE, RESULT, LATE, ACQ and LIT of the status word, and the times of registers 2 and 3 (R355) -/
  phase : Nat
  result : Nat
  late : Bool
  acq : Nat
  lit : Nat
  phaseFt : Nat
  endFt : Nat
  /-- the exit condition of the phase has held: the next phase begins at the following servo tick (R365) -/
  leaving : Bool
  /-- successive samples within SETTOL (R365) -/
  settled : Nat
  deriving DecidableEq, Repr

/-! ### Pylons (chapter 14) -/

/-- A checkpoint (R387, R388): the header fields and the sections. Register sections hold addresses, as offsets from the
block of the writing pylon, and values; FIRMWARE is opaque and is not kept (log 32). -/
structure Checkpoint where
  /-- MAGIC, FORMAT, LEN and CRC are right -/
  valid : Bool
  epoch : Nat
  fromPylon : Nat
  gen : Nat
  ft : Nat
  handoff : Bool
  srvgen : Nat
  coef : List (Nat × Word64)
  mirrorRegs : List (Nat × Word64)
  mirrors : List (Nat × Mirror)
  circuits : List (Nat × Circuit)
  /-- per mailbox: GO seen, CMD, SEQ -/
  mailbox : List (Bool × Nat × Nat)
  recorder : List (Nat × Word64)
  deriving DecidableEq, Repr

def Checkpoint.none : Checkpoint :=
  { valid := false, epoch := 0, fromPylon := 0, gen := 0, ft := 0, handoff := false, srvgen := 0, coef := [],
    mirrorRegs := [], mirrors := [], circuits := [], mailbox := [], recorder := [] }

/-- An outbox entry (R393): the frame, FT of its first send, its state (0 free, 1 written, 2 sent, 3 answered), and the report
fragments held for it (R455). -/
structure OutEntry where
  frame : Frame
  first : Nat
  st : Nat
  frags : List (Nat × List Byte)
  deriving DecidableEq, Repr

/-- A heartbeat (R385). -/
structure Beat where
  state : Nat
  pass : Nat
  ready : Nat
  gen : Nat
  deriving DecidableEq, Repr

/-- A pylon outside its registers. -/
structure Pylon where
  /-- boot steps of R444 done since the last reset, 0 to 4 -/
  stage : Nat
  /-- in ROM recovery mode, or asked to enter it at the next boot (R482) -/
  recovery : Bool
  recoverNext : Bool
  /-- the watchdog runs, since this time, with this period in ms (R401) -/
  kicked : Option Nat
  period : Nat
  /-- good heartbeats received in succession, and the last of them (R385) -/
  beats : Nat
  beat : Option Beat
  /-- when a good heartbeat last arrived, or the pylon last began to wait for one, and when it last sent one -/
  beatAt : Nat
  sentAt : Option Nat
  /-- heartbeats sent and not yet received by the other pylon -/
  sent : List Beat
  deriving DecidableEq, Repr

def Pylon.reset : Pylon :=
  { stage := 0, recovery := false, recoverNext := false, kicked := none, period := 4, beats := 0, beat := none, beatAt := 0, sentAt := none,
    sent := [] }

/-- How far a takeover has come (R391). -/
inductive Takeover where
  /-- step 3 is done and the checkpoint is being loaded -/
  | loading
  /-- the checkpoint is loaded, none when no slot qualified -/
  | loaded (c : Option Checkpoint)
  deriving DecidableEq, Repr

/-- State of the pylons and of what they share, outside registers. -/
structure PylState where
  pylons : List Pylon
  /-- handover store: the two slots and the NV copy (R386), and when the NV copy was last written -/
  slots : List Checkpoint
  nv : Checkpoint
  nvAt : Option Nat
  /-- outbox entries by place, and the place of the next one (R393) -/
  outbox : List (Nat × OutEntry)
  outNext : Nat
  /-- the VC7 transmit gates (R378) -/
  gates : List Bool
  /-- the management intake: SRCMOD, MOP, TAG and time of frames accepted (R395) -/
  intake : List (Nat × Nat × Nat × Nat)
  /-- management frames that wait while OWNER is none, oldest first (R396) -/
  heldQ : List Frame
  /-- management frames handed to firmware (R294, R414) -/
  inbox : List Frame
  /-- the 2 s of R379 are over -/
  prefOver : Bool
  /-- a pylon has been granted the token since power-on or module reset -/
  granted : Bool
  /-- a takeover in progress -/
  takeover : Option Takeover
  /-- a planned handover in progress (R398): the mailbox that asked for it, none inside an activation (R477), and whether the
  release has been made -/
  handover : Option (Option Nat × Bool)
  deriving DecidableEq, Repr

/-! ### Counters (chapter 16) -/

/-- State of the central counter reader outside its registers. -/
structure CtrState where
  /-- the last epoch taken (R429); none after a backward step of FT (R314) -/
  epoch : Option Nat
  /-- FT from which epochs are taken again after a step of FT (R312, R314) -/
  resume : Nat
  /-- epochs missed and records dropped since the last record (R431) -/
  missed : Nat
  dropped : Nat
  /-- when a drop and a miss were last logged (R430) -/
  dropLog : Option Nat
  missLog : Option Nat
  /-- counters, by the address of PMC_CNT, whose event had a value other than 0 in the last cycle counted (R422) -/
  high : List Nat
  deriving DecidableEq, Repr

/-! ### Measurement and attestation (chapter 17) -/

/-- Who a report or an update answers to: a mailbox, a module over VC7 by SRCMOD and TAG, or nobody any more. -/
inductive Asker where
  | mailbox (n : Nat)
  | vc7 (src tag : Nat)
  | gone
  deriving DecidableEq, Repr

/-- A request in the signer's queue (R451). -/
structure SignReq where
  who : Asker
  nonce : List Byte
  addr : Nat
  deriving DecidableEq, Repr

/-- State of the security block outside its registers. -/
structure SecState where
  /-- the attestation key is provisioned (R456, R458) -/
  keyed : Bool
  /-- the two NV copies of RESV: write counter, value, CRC right (R448) -/
  resv : List (Nat × Nat × Bool)
  /-- a raise of RESV in progress: the value, and how many of its writes failed (R448, R449) -/
  raising : Option (Nat × Nat)
  /-- the last raise failed its read-back twice, and no write has succeeded since (R449) -/
  raiseFailed : Bool
  /-- the signer's queue, the request being signed first (R451) -/
  queue : List SignReq
  /-- the message latched for the signature in progress (R453) -/
  signing : Option (List Byte)
  /-- level of the bucket of R452 in tokens / (3,600 × 10⁹), none when full, and when it was last brought up to date -/
  bucket : Option (Nat × Nat)
  /-- the last four signed reports, newest first: SRCMOD, TAG, bytes, and whether every fragment has been sent (R455) -/
  reports : List (Nat × Nat × List Byte × Bool)
  /-- when a refusal of each ASTAT was last logged (R456) -/
  refusedAt : List (Nat × Nat)
  deriving DecidableEq, Repr

/-! ### Update (chapter 18) -/

/-- An image slot: what the running machine takes from its image (R460, R462). -/
structure Slot where
  valid : Bool
  version : Nat
  epoch : Nat
  setfmt : Nat
  hemin : Nat
  hemax : Nat
  linkep : Nat
  /-- REQ bytes 0 to 6 -/
  req : List Nat
  /-- the root that the signer's key hashes to (R445), and the image digest (R441) -/
  root : List Byte
  digest : List Byte
  deriving DecidableEq, Repr

def Slot.none : Slot :=
  { valid := false, version := 0, epoch := 0, setfmt := 0, hemin := 0, hemax := 0, linkep := 0, req := [], root := [],
    digest := [] }

/-- The two slots of a component in one place that holds them, the two copies of its boot record (write counter, slot, CRC right), the
slot that runs, and the running image as it was when it was started (R460, R461). -/
structure Comp where
  slots : List Slot
  bootA : Nat × Nat × Bool
  bootB : Nat × Nat × Bool
  running : Nat
  image : Slot
  /-- the running image has been started (R444) -/
  started : Bool
  deriving DecidableEq, Repr

/-- The second of two NV copies is in force: the one with the higher counter among those whose CRC is right (R448, R460). -/
def laterCopy (a b : Nat × Nat × Bool) : Bool := b.2.2 && (!a.2.2 || decide (a.1 < b.1))

/-- The slot that the boot record in force names (R460). -/
def Comp.boot (x : Comp) : Nat := if laterCopy x.bootA x.bootB then x.bootB.2.1 else x.bootA.2.1

/-- A write of the boot record goes into the copy that is not in force, so that a write cut short leaves the other (R460, R481). -/
def Comp.setBoot (x : Comp) (slot : Nat) : Comp :=
  let c := (max x.bootA.1 x.bootB.1 + 1, slot, true)
  if laterCopy x.bootA x.bootB then { x with bootA := c } else { x with bootB := c }

/-- An activation in progress (R476, R477): its component, whether it is a revert, the part being switched (a pier, a port, a
set), or the step of R477 for pylon firmware, the standby pylon it began with, who is answered, when the part began, and since when
the write of a boot record waits for hold-up energy (R481). -/
structure Activation where
  comp : Nat
  revert : Bool
  part : Nat
  standby : Nat
  who : Asker
  since : Nat
  lowSince : Option Nat
  deriving DecidableEq, Repr

/-- State of the update block outside its registers. -/
structure UpdState where
  /-- COMP 1 of pylon A, of pylon B, COMP 2 of A, of B, COMP 3 to 7 -/
  comps : List Comp
  /-- components pending confirmation (R476) -/
  pending : List Nat
  owner : List Byte
  /-- component images tried since the first grant, COMP 3 first (R444) -/
  loads : Nat
  /-- a module that held the lock when recovery took it (R482) -/
  lost : Option Nat
  /-- the staging store, as far as it is filled (R470) -/
  staging : List Byte
  /-- when the lock holder's last command or frame was accepted (R470) -/
  lockAt : Nat
  /-- who waits for the checks of R464 and for COMMIT -/
  starter : Option Asker
  committing : Option Asker
  act : Option Activation
  deriving DecidableEq, Repr

/-! ### Calibration (chapter 19) -/

/-- State of calibration outside its registers (chapter 19). -/
structure CalState where
  /-- elements requested through CAL_REQ, in order (R489), and those that run, as 128 + e when requested and 256 + e when not -/
  requested : List Nat
  /-- calibration records in the NV device: element, LASTTEMP, and whether the record passes its check (R496) -/
  records : List (Nat × Nat × Bool)
  /-- ports whose peer declined a calibration drain, with the time (R490, R492) -/
  declined : List (Nat × Nat)
  deriving DecidableEq, Repr

/-! ### Test access port (chapter 23) -/

/-- What the pins and lanes follow (R563, R565). -/
inductive PinMode where
  | function | extest | clamp | highz | pulse | train
  deriving DecidableEq, Repr

/-- The register between TDI and TDO (R563). -/
inductive TapReg where
  | boundary | identification | bypass
  deriving DecidableEq, Repr

/-- The test access port. -/
structure TapState where
  /-- the instruction register, the register it selects, and what it does to the pins -/
  ir : Nat
  sel : TapReg
  pins : PinMode
  /-- the boundary register's latched contents (SAMPLE/PRELOAD), and the identification register -/
  boundary : List Bool
  ident : Nat
  /-- a reserved instruction has entered force since the port was last reset (R565) -/
  unlocked : Bool
  deriving DecidableEq, Repr

/-! ### The module -/

/-- Why the module stops. -/
inductive Fault where
  /-- Raised by no meaning of this model: the specification names no occurrence after which the module as a whole stops
  without a next state (a module that is off, or held in reset, is a state). Safe. -/
  | halted
  deriving DecidableEq, Repr

/-- Why a command has no meaning here. -/
inductive Refusal where
  /-- A command of the table whose meaning is not written. Safe. -/
  | notModelled (mnemonic : String)
  deriving DecidableEq, Repr

/-- The CL-9616 module: the commands that wait, and everything the specification gives it. -/
structure State where
  /-- commands waiting, first in, first out -/
  pending : List Instr
  /-- ns since the state of reset; the model's own clock, from which intervals are taken -/
  now : Nat
  /-- the model's own counter of free values drawn so far -/
  free : Nat
  /-- control-space registers that differ from their reset values, by address -/
  regs : List (Nat × Word64)
  /-- bytes of DRAM and of the bowls that are not 0, by local address -/
  mem : List Host.Cell
  ctl : ControlState
  jig : JigState
  lm : MemState
  /-- spindles that differ from an empty one -/
  spn : List (Nat × Spindle)
  /-- per lathe group, the gouge's instructions, the executing one first (R155) -/
  gge : List (Nat × List GougeOp)
  hds : HdsState
  /-- ports that differ from their reset state -/
  lnk : List (Nat × LinkPort)
  /-- pattern checkers that have received bits, by their control register: matching bits in succession, and the bits that the next one is
  predicted from, newest first (R263) -/
  chk : List (Nat × Nat × List Bool)
  rtr : RtrState
  ftu : FtState
  srv : List (Nat × SrvState)
  circ : List (Nat × Circuit)
  pyl : PylState
  ev : EventState
  ctr : CtrState
  sec : SecState
  upd : UpdState
  cal : CalState
  pwr : PowerState
  host : HostState
  tap : TapState
  deriving DecidableEq, Repr

/-! ### Reset

The module right after the RESET_N of its first power-up is deasserted (R514 step 3): powered, both pylons in BOOT, start-up
calibration running. Each chapter's part has its own reset value, from which the resets of chapter 20 take what they clear. -/

def EventState.reset : EventState :=
  { fifo := [], held := [], frozenAt := [0, 0], buckets := [], supp := [], ringA := [], ringB := [], vault := [], failRun := 0, notices := [],
    drops := [0, 0, 0, 0, 0], budgetMs := 0, budgetUsed := 0, sumFt := none, sending := [], sendTo := [] }

def JigState.reset : JigState :=
  { staging := [], sealPending := false, held := [], ident := none, mregs := [], sets := [], bowls := [], fmts := [], qmap := [],
    servo := [], cgrant := [], drainAt := 0 }

def MemState.reset : MemState :=
  { initUpTo := [0, 0, 0, 0], checks := [], lc := [], wbuf := [], code := [], rows := [], txns := [], nextTxn := 0, mr4 := [], refreshed := [] }

def HostState.reset : HostState :=
  { vc1 := [], vc1Begun := 0, vc1Acked := 0, resend := 0, vc0 := [], pendingVec := [], lastMsi := [], heldByReset := false, mrdOut := 0 }

def HdsState.reset : HdsState :=
  { requests := [], deferred := [], due := [], phase := [], lastQp := 0, nextOrder := 0, poolTop := 0, blocks := [], programs := [],
    checking := [], insts := [], samples := [], replaced := [] }

def RtrState.reset : RtrState :=
  { ops := [], gens := [], nextOrder := 0, queued := [], transit := [], arrived := [], foreignMs := none, quench := none,
    quenchSeq := 0, quenchSeen := [], inOrder := 0 }

def FtState.reset : FtState :=
  { ft256 := 0, rateAcc := 0, wasLocked := false, loadedOff := false, parents := [15, 15, 15], rootmod := 0, thetas := [],
    good := 0, ports := [], holdSince := 0 }

def PylState.reset : PylState :=
  { pylons := [Pylon.reset, Pylon.reset], slots := [Checkpoint.none, Checkpoint.none], nv := Checkpoint.none, nvAt := none,
    outbox := [], outNext := 0, gates := [false, false], intake := [], heldQ := [], inbox := [], prefOver := false, granted := false,
    takeover := none, handover := none }

def CtrState.reset : CtrState := { epoch := none, resume := 0, missed := 0, dropped := 0, dropLog := none, missLog := none, high := [] }

/-- The attestation key is provisioned, and no index of it has been used or reserved (log 40). -/
def SecState.reset : SecState :=
  { keyed := true, resv := [(0, 0, true), (0, 0, true)], raising := none, raiseFailed := false, queue := [], signing := none,
    bucket := none, reports := [], refusedAt := [] }

/-- The image in the factory's slots (log 40). -/
def Slot.factory (linkep : Nat) : Slot :=
  { valid := true, version := 1, epoch := 1, setfmt := 1, hemin := 1, hemax := 1, linkep, req := [0, 0, 0, 0, 0, 0, 0],
    root := List.replicate 32 0, digest := List.replicate 64 0 }

def Comp.factory (linkep : Nat) : Comp :=
  { slots := [Slot.factory linkep, Slot.none], bootA := (1, 0, true), bootB := (0, 0, true), running := 0, image := Slot.factory linkep, started := false }

def UpdState.reset : UpdState :=
  { comps := [Comp.factory 0, Comp.factory 0, Comp.factory 0, Comp.factory 0, Comp.factory 0, Comp.factory 0, Comp.factory 0,
              Comp.factory 3, Comp.factory 0],
    pending := [], owner := List.replicate 32 0, loads := 0, lost := none, staging := [], lockAt := 0, starter := none,
    committing := none, act := none }

def CalState.reset : CalState := { requested := [], records := [], declined := [] }

/-- An empty region of the settings store (R479). -/
def Region.empty : Region := { fmt := 0, count := 0, good := false, values := none }

/-- The chassis holds the straps open: SLOT_ID reads all ones (R549; log 40). -/
def PowerState.reset : PowerState :=
  { pwrEn := true, resetN := true, pwrGood := true, goodAt := 0, startAt := 0, slotId := 63, busbar := true, target := none, shutdown := none,
    resetWaits := false, powerWaits := false, rstWaits := [], latheReady := [true, true], pierReady := [true, true, true, true],
    regions := [Region.empty, Region.empty], thermal := false, calm := 0, paceOff := false, usedAt := [0, 0, 0, 0] }

/-- Test-Logic-Reset (R565). -/
def TapState.reset : TapState :=
  { ir := 1, sel := .identification, pins := .function, boundary := [], ident := 0x3961634f, unlocked := false }

/-- The module has enabled H by itself (R514 step 3, R523): LNK_CTL.EN of port 10 is 1, and the port is in DETECT. -/
def hostEnabled : List (Nat × Word64) := [(Reg.LNK_CTL 10, 0x1081011), (Reg.LNK_STATUS 10, 1)]

/-- The registers whose value at reset comes from fuses or from the NV device, where it differs from the value the register
table shows for it (log 40): key slot 0 is active. -/
def factoryRegs : List (Nat × Word64) := [(Reg.SEC_KEYSLOT 0, 1)]

/-- The module right after reset. -/
def State.reset : State :=
  { pending := [], now := 0, free := 0, regs := hostEnabled ++ factoryRegs, mem := [], ctl := { shadow := [], staged := [] }, jig := JigState.reset,
    lm := MemState.reset, spn := [], gge := [], hds := HdsState.reset, lnk := [], chk := [], rtr := RtrState.reset, ftu := FtState.reset,
    srv := [], circ := [], pyl := PylState.reset, ev := EventState.reset, ctr := CtrState.reset, sec := SecState.reset,
    upd := UpdState.reset, cal := CalState.reset, pwr := PowerState.reset, host := HostState.reset, tap := TapState.reset }

end Sys2Proof.Machine
end

