-- ==== Sys2Proof/Machine/Float.lean ====
section
/-! DEFINITION. Machine/Float.lean: the number formats of chapter 05 and their exact arithmetic: decoding, rounding to
nearest even, FP32 operations, conversions (R110 to R116, R128 to R132). -/

namespace Sys2Proof.Machine

/-- The exact value of an encoding: not a number, an infinity, or a sign with a fraction `n / d`, `d` not 0. -/
inductive FVal where
  | nan
  | inf (neg : Bool)
  | fin (neg : Bool) (n d : Nat)
  deriving DecidableEq, Repr

/-- How the encodings with all exponent bits set are used (R111). -/
inductive TopKind where
  /-- infinities and NaN, as IEEE 754 has them -/
  | ieee
  /-- FP8 E4M3: one NaN pattern, no infinity -/
  | oneNan
  /-- FP6 and FP4: every encoding is a number -/
  | finite
  deriving DecidableEq, Repr

/-- The parameters of a floating-point format (R111). -/
structure FloatFmt where
  e : Nat
  m : Nat
  bias : Nat
  top : TopKind
  deriving DecidableEq, Repr

def fp32 : FloatFmt := ⟨8, 23, 127, .ieee⟩
def bf16 : FloatFmt := ⟨8, 7, 127, .ieee⟩
def fp16 : FloatFmt := ⟨5, 10, 15, .ieee⟩
def e4m3 : FloatFmt := ⟨4, 3, 7, .oneNan⟩
def e5m2 : FloatFmt := ⟨5, 2, 15, .ieee⟩
def e3m2 : FloatFmt := ⟨3, 2, 3, .finite⟩
def e2m3 : FloatFmt := ⟨2, 3, 1, .finite⟩
def e2m1 : FloatFmt := ⟨2, 1, 1, .finite⟩

/-- The floating-point format of a format code (R63). -/
def floatFmt (code : Nat) : Option FloatFmt :=
  match code with
  | 0 => some fp32
  | 1 => some bf16
  | 2 => some fp16
  | 3 => some e4m3
  | 4 => some e5m2
  | 5 => some e3m2
  | 6 => some e2m3
  | 7 => some e2m1
  | _ => none

/-- Width in bits of the elements of a format code (R63, R114); TR5 counts apart (R115). -/
def fmtWidth (code : Nat) : Nat :=
  match code with
  | 0 => 32
  | 1 => 16
  | 2 => 16
  | 3 => 8
  | 4 => 8
  | 5 => 6
  | 6 => 6
  | 7 => 4
  | 8 => 8
  | _ => 4

/-- `n / d` times a power of two. -/
def scale2 (n d : Nat) (k : Int) : Nat × Nat := if 0 ≤ k then (n * 2 ^ k.toNat, d) else (n, d * 2 ^ (-k).toNat)

/-- The value of an encoding (R110, R111). -/
def FloatFmt.decode (f : FloatFmt) (code : Nat) : FVal :=
  let neg := code.testBit (f.e + f.m)
  let ex := bits code f.m f.e
  let mant := bits code 0 f.m
  let v : FVal :=
    let k : Int := (max ex 1 : Nat) - (f.bias : Int) - f.m
    let nd := scale2 (if ex = 0 then mant else 2 ^ f.m + mant) 1 k
    .fin neg nd.1 nd.2
  match f.top with
  | .ieee => if ex = 2 ^ f.e - 1 then (if mant = 0 then .inf neg else .nan) else v
  | .oneNan => if ex = 2 ^ f.e - 1 ∧ mant = 2 ^ f.m - 1 then .nan else v
  | .finite => v

/-- Magnitude code of the largest finite value. -/
def FloatFmt.maxCode (f : FloatFmt) : Nat :=
  match f.top with
  | .ieee => (2 ^ f.e - 1) * 2 ^ f.m - 1
  | .oneNan => 2 ^ (f.e + f.m) - 2
  | .finite => 2 ^ (f.e + f.m) - 1

/-- `n / d` rounded to an integer, to nearest, ties to even. -/
def rneDiv (n d : Nat) : Nat :=
  let q := n / d
  let r := n % d
  if 2 * r < d then q else if d < 2 * r then q + 1 else if q % 2 = 0 then q else q + 1

/-- The exponent of the binade of `n / d`, for `n` not 0. -/
def log2Frac (n d : Nat) : Int :=
  let k : Int := (Nat.log2 n : Int) - Nat.log2 d
  let ab := scale2 n d (-k)
  if ab.2 ≤ ab.1 then k else k - 1

/-- The exponent of the quantum of a format at `n / d`. -/
def FloatFmt.quantum (f : FloatFmt) (n d : Nat) : Int := max (log2Frac n d) (1 - (f.bias : Int)) - f.m

/-- The magnitude code for `r` quanta of exponent `q`; it may lie beyond the largest finite value. -/
def FloatFmt.magCode (f : FloatFmt) (r : Nat) (q : Int) : Nat :=
  if r < 2 ^ f.m then r else (q + f.m + f.bias).toNat * 2 ^ f.m + (r - 2 ^ f.m)

/-- The magnitude code nearest `n / d`, ties to even, before any overflow rule. -/
def FloatFmt.roundMag (f : FloatFmt) (n d : Nat) : Nat :=
  if n = 0 then 0 else
    let q := f.quantum n d
    let ab := scale2 n d (-q)
    f.magCode (rneDiv ab.1 ab.2) q

/-- The sign bit of a format. -/
def FloatFmt.sign (f : FloatFmt) (neg : Bool) : Nat := if neg then 2 ^ (f.e + f.m) else 0

/-- Infinity, or the largest finite value where the format has none (R131). -/
def FloatFmt.infCode (f : FloatFmt) (neg : Bool) : Nat :=
  match f.top with
  | .ieee => f.sign neg + (2 ^ f.e - 1) * 2 ^ f.m
  | _ => f.sign neg + f.maxCode

/-- The canonical NaN (R111, R113); +0 in a format without NaN (R131). -/
def FloatFmt.nanCode (f : FloatFmt) : Nat :=
  match f.top with
  | .ieee => (2 ^ f.e - 1) * 2 ^ f.m + 2 ^ (f.m - 1)
  | .oneNan => 2 ^ (f.e + f.m) - 1
  | .finite => 0

/-- The encoding of a value rounded to nearest even, with the outcomes of R131 beyond the range. -/
def FloatFmt.encode (f : FloatFmt) (v : FVal) : Nat :=
  match v with
  | .nan => f.nanCode
  | .inf neg => f.infCode neg
  | .fin neg n d =>
    let c := f.roundMag n d
    if c ≤ f.maxCode then f.sign neg + c else f.infCode neg

/-- As `encode`, but every value beyond the range saturates (R134, R135). -/
def FloatFmt.encodeSat (f : FloatFmt) (v : FVal) : Nat :=
  match v with
  | .fin neg n d =>
    let c := f.roundMag n d
    f.sign neg + min c f.maxCode
  | .inf neg => f.sign neg + f.maxCode
  | .nan => f.nanCode

/-! ### Exact arithmetic -/

/-- The numerator with its sign. -/
def signedNum (neg : Bool) (n : Nat) : Int := if neg then -(n : Int) else n

/-- Exact sum; the sum of opposite infinities is NaN, and an exact zero is negative only where both terms are. -/
def FVal.add (a b : FVal) : FVal :=
  match a, b with
  | .nan, _ => .nan
  | _, .nan => .nan
  | .inf x, .inf y => if x = y then .inf x else .nan
  | .inf x, _ => .inf x
  | _, .inf y => .inf y
  | .fin x n d, .fin y m e =>
    let t := signedNum x n * e + signedNum y m * d
    if t = 0 then .fin (x && y) 0 1 else .fin (decide (t < 0)) t.natAbs (d * e)

/-- Exact product; zero times infinity is NaN. -/
def FVal.mul (a b : FVal) : FVal :=
  match a, b with
  | .nan, _ => .nan
  | _, .nan => .nan
  | .inf x, .inf y => .inf (x ^^ y)
  | .inf x, .fin y m _ => if m = 0 then .nan else .inf (x ^^ y)
  | .fin x n _, .inf y => if n = 0 then .nan else .inf (x ^^ y)
  | .fin x n d, .fin y m e => .fin (x ^^ y) (n * m) (d * e)

/-- Exact quotient of two finite values, the divisor not 0; otherwise as IEEE 754 divides. -/
def FVal.div (a b : FVal) : FVal :=
  match a, b with
  | .nan, _ => .nan
  | _, .nan => .nan
  | .inf _, .inf _ => .nan
  | .inf x, .fin y _ _ => .inf (x ^^ y)
  | .fin x _ _, .inf y => .fin (x ^^ y) 0 1
  | .fin x n d, .fin y m e => if m = 0 then (if n = 0 then .nan else .inf (x ^^ y)) else .fin (x ^^ y) (n * e) (d * m)

/-- The value without its sign. -/
def FVal.abs (a : FVal) : FVal :=
  match a with
  | .nan => .nan
  | .inf _ => .inf false
  | .fin _ n d => .fin false n d

/-- Less than, for values that are numbers; the two zeros are equal. -/
def FVal.lt (a b : FVal) : Bool :=
  match a, b with
  | .nan, _ => false
  | _, .nan => false
  | .inf x, .inf y => x && !y
  | .inf x, .fin _ _ _ => x
  | .fin _ _ _, .inf y => !y
  | .fin x n d, .fin y m e => decide (signedNum x n * e < signedNum y m * d)

/-- Equal as numbers; the two zeros are equal, and NaN equals nothing. -/
def FVal.eqv (a b : FVal) : Bool :=
  match a, b with
  | .nan, _ => false
  | _, .nan => false
  | x, y => !x.lt y && !y.lt x

/-- The value is NaN. -/
def FVal.isNan (a : FVal) : Bool := a == .nan

/-- The value is negative, or the zero with a negative sign. -/
def FVal.isNeg (a : FVal) : Bool :=
  match a with
  | .nan => false
  | .inf x => x
  | .fin x _ _ => x

/-- A value that an integer has. -/
def FVal.ofInt (i : Int) : FVal := .fin (decide (i < 0)) i.natAbs 1

/-- A value rounded to an integer, ties to even, and held within bounds; NaN gives 0 (R131). -/
def FVal.toIntSat (lo hi : Int) (a : FVal) : Int :=
  match a with
  | .nan => 0
  | .inf x => if x then lo else hi
  | .fin x n d => clampInt lo hi (signedNum x (rneDiv n d))

/-! ### FP32 -/

/-- The value of an FP32 register (R116). -/
def f32 (v : Nat) : FVal := fp32.decode (v % 2 ^ 32)

/-- FADD (R128). -/
def fadd32 (a b : Nat) : Nat := fp32.encode ((f32 a).add (f32 b))

/-- FMUL (R128). -/
def fmul32 (a b : Nat) : Nat := fp32.encode ((f32 a).mul (f32 b))

/-- FFMA, rounded once (R128). -/
def ffma32 (a b c : Nat) : Nat := fp32.encode (((f32 a).mul (f32 b)).add (f32 c))

/-- FMAX (R129): −0 below +0; one NaN gives the other operand. -/
def fmax32 (a b : Nat) : Nat :=
  match (f32 a).isNan, (f32 b).isNan with
  | true, true => fp32.nanCode
  | true, false => b
  | false, true => a
  | false, false =>
    if (f32 a).lt (f32 b) then b else if (f32 b).lt (f32 a) then a else if (f32 a).isNeg then b else a

/-- FMIN (R129). -/
def fmin32 (a b : Nat) : Nat :=
  match (f32 a).isNan, (f32 b).isNan with
  | true, true => fp32.nanCode
  | true, false => b
  | false, true => a
  | false, false =>
    if (f32 a).lt (f32 b) then a else if (f32 b).lt (f32 a) then b else if (f32 a).isNeg then a else b

/-- A subnormal result replaced by the zero of its sign (R123). -/
def flushSub (v : Nat) : Nat := if bits v 23 8 = 0 then v / 2 ^ 31 * 2 ^ 31 else v

/-- An addition of the tensor engine's float path (R123): nearest even, subnormal results replaced by zero. -/
def tensorAdd (a b : FVal) : FVal := f32 (flushSub (fp32.encode (a.add b)))

/-- A sum in an order of the engine's own choosing (R123): each addition joins two terms that free values pick. -/
def freeSum (add : FVal → FVal → FVal) : Nat → Nat → List FVal → FVal × Nat
  | 0, c, l => (l.headD (.fin false 0 1), c)
  | fuel + 1, c, l =>
    match l with
    | [] => (.fin false 0 1, c)
    | [x] => (x, c)
    | _ =>
      let i := Config.freeNat c % l.length
      let x := l.getD i .nan
      let r := l.eraseIdx i
      let j := Config.freeNat (c + 1) % r.length
      let y := r.getD j .nan
      freeSum add fuel (c + 2) (add x y :: r.eraseIdx j)

/-! ### Approximate operations (R130) -/

/-- Bits of the fixed-point fractions in which 2^x and log2 x are computed. -/
def fixBits : Nat := 160

/-- The largest integer whose square is at most `n`, by bits from `k` down. -/
def isqrtBits (n : Nat) : Nat → Nat → Nat
  | 0, r => r
  | k + 1, r => isqrtBits n k (if (r + 2 ^ k) * (r + 2 ^ k) ≤ n then r + 2 ^ k else r)

/-- Integer square root of a number below 2^512. -/
def isqrt (n : Nat) : Nat := isqrtBits n 256 0

/-- 2^(f / 2^j) in fixed point for the low `j` bits of `f`: `root` is 2^(1/2), 2^(1/4), ... in turn. -/
def pow2Frac (f : Nat) : Nat → Nat → Nat → Nat
  | 0, _, acc => acc
  | j + 1, root, acc =>
    let acc := if f.testBit j then acc * root / 2 ^ fixBits else acc
    pow2Frac f j (isqrt (root * 2 ^ fixBits)) acc

/-- 2 to the power of a fraction of one given on `fixBits` bits, in fixed point. -/
def pow2Fix (f : Nat) : Nat := pow2Frac f fixBits (isqrt (2 ^ (2 * fixBits + 1))) (2 ^ fixBits)

/-- Bits of log2 of a fixed-point number in [1, 2), by repeated squaring. -/
def log2Fix : Nat → Nat → Nat → Nat
  | 0, _, acc => acc
  | k + 1, x, acc =>
    let y := x * x / 2 ^ fixBits
    if 2 * 2 ^ fixBits ≤ y then log2Fix k (y / 2) (2 * acc + 1) else log2Fix k y (2 * acc)

/-- The positive FP32 codes within `k` ulp of `n / d`, the ulp being the quantum at `n / d`; the code of infinity stands for 2^128. -/
def ulpCodes (k n d : Nat) : List Nat :=
  let q := fp32.quantum n d
  let ab := scale2 n d (-q)
  let b := fp32.magCode (ab.1 / ab.2) q
  (((List.range (2 * k + 4)).map fun i => b + i - k - 1).eraseDups).filter fun c =>
    decide (c ≤ fp32.maxCode + 1) &&
      match (if c = fp32.maxCode + 1 then .fin false (2 ^ 128) 1 else fp32.decode c) with
      | .fin _ cn cd =>
        let v := scale2 cn cd (-q)
        let dist := ((v.1 * ab.2 : Nat) : Int) - ((ab.1 * v.2 : Nat) : Int)
        decide (dist.natAbs ≤ k * (v.2 * ab.2))
      | _ => false

/-- A free pick among the codes within `k` ulp of a value (R130); above them all lies infinity (DEDUCED, log 72). -/
def ulpPick (free k : Nat) (neg : Bool) (n d : Nat) : Nat :=
  let l := ulpCodes k n d
  if l.isEmpty then fp32.infCode neg else fp32.sign neg + l.getD (free % l.length) 0

/-- FEXP2 (R130). -/
def fexp2 (free x : Nat) : Nat :=
  match f32 x with
  | .nan => fp32.nanCode
  | .inf neg => if neg then 0 else fp32.infCode false
  | .fin neg n d =>
    let fl : Int := if neg then -(((n + d - 1) / d : Nat) : Int) else ((n / d : Nat) : Int)
    if 128 ≤ fl then fp32.infCode false
    else if fl < -200 then ulpPick free 2 false 1 (2 ^ 200)
    else
      -- the fraction x − fl, truncated to fixBits bits
      let fr := (signedNum neg n - fl * d).toNat * 2 ^ fixBits / d
      let nd := scale2 (pow2Fix fr) (2 ^ fixBits) fl
      ulpPick free 2 false nd.1 nd.2

/-- FLOG2 (R130). -/
def flog2 (free x : Nat) : Nat :=
  match f32 x with
  | .nan => fp32.nanCode
  | .inf neg => if neg then fp32.nanCode else fp32.infCode false
  | .fin neg n d =>
    if n = 0 then fp32.infCode true
    else if neg then fp32.nanCode
    else if n = d then 0
    else
      let k := log2Frac n d
      let ab := scale2 n d (-k)
      let fr : Int := log2Fix fixBits (ab.1 * 2 ^ fixBits / ab.2) 0
      let t := k * 2 ^ fixBits + fr
      ulpPick free 2 (decide (t < 0)) t.natAbs (2 ^ fixBits)

/-- FRCP (R130). -/
def frcp (free x : Nat) : Nat :=
  match f32 x with
  | .nan => fp32.nanCode
  | .inf neg => fp32.sign neg
  | .fin neg n d => if n = 0 then fp32.infCode neg else ulpPick free 1 neg d n

/-- FRSQ (R130). -/
def frsq (free x : Nat) : Nat :=
  match f32 x with
  | .nan => fp32.nanCode
  | .inf neg => if neg then fp32.nanCode else 0
  | .fin neg n d =>
    if n = 0 then fp32.infCode neg
    else if neg then fp32.nanCode
    else ulpPick free 1 false (isqrt (d * 2 ^ 100 * 2 ^ 100 / n * 2 ^ 100)) (2 ^ 150)

/-! ### Conversion (R116, R131, R132) -/

/-- The value of the low bits of a register in a format code 0x00 to 0x09. -/
def decodeFmt (code v : Nat) : FVal :=
  match floatFmt code with
  | some f => f.decode (v % 2 ^ (1 + f.e + f.m))
  | none => .ofInt (signed (fmtWidth code) v)

/-- The bounds of an integer format. -/
def intLo (code : Nat) : Int := if code = 8 then -128 else -8
def intHi (code : Nat) : Int := if code = 8 then 127 else 7

/-- A value converted to a format code 0x00 to 0x09, on the width of the format. -/
def encodeFmt (code : Nat) (v : FVal) : Nat :=
  match floatFmt code with
  | some f => f.encode v
  | none => unsigned (fmtWidth code) (v.toIntSat (intLo code) (intHi code))

/-- The same, as a 32-bit register holds it: integers sign-extended (R116). -/
def encodeReg (code : Nat) (v : FVal) : Nat :=
  match floatFmt code with
  | some f => f.encode v
  | none => unsigned 32 (v.toIntSat (intLo code) (intHi code))

/-- CVTF (R131, R132). -/
def cvtf (src dst v : Nat) : Nat := encodeReg dst (decodeFmt src v)

/-- Elements `count` of a format packed as R117 states, on `bytes` bytes. -/
def packElems (w : Nat) (l : List Nat) (bytes : Nat) : List Byte :=
  leBytes bytes (l.zipIdx.foldl (fun acc p => acc + p.1 % 2 ^ w * 2 ^ (w * p.2)) 0)

/-- Element `i` of a packed run that starts at a byte list's head (R117). -/
def elemAt (w : Nat) (l : List Byte) (i : Nat) : Nat := bits (leNat ((l.drop (w * i / 8)).take 5)) (w * i % 8) w

/-- The trit `i` of a TR5 byte as a weight; codes above 242 hold zeros (R115). -/
def tritOf (b i : Nat) : Int := if 242 < b then 0 else ((b / 3 ^ i % 3 : Nat) : Int) - 1

/-- Five weights as a TR5 byte (R115). -/
def tr5Byte (ws : List Int) : Nat := ws.zipIdx.foldl (fun acc p => acc + (p.1 + 1).toNat * 3 ^ p.2) 0

end Sys2Proof.Machine
end

