-- ==== Sys2Proof/Machine/Codes.lean ====
section
/-! DEFINITION. Machine/Codes.lean: the check codes and the digest of the module: CRC-32C (Castagnoli), the CRC-16 of a
data line (R166) and SHAKE256 (FIPS 202). -/

namespace Sys2Proof.Machine

/-- One bit step of a reflected CRC-32C. -/
def crc32cBit (c : BitVec 32) : BitVec 32 :=
  if c.getLsbD 0 then (c >>> 1) ^^^ 0x82f63b78#32 else c >>> 1

/-- One byte of CRC-32C. -/
def crc32cByte (c : BitVec 32) (b : Byte) : BitVec 32 :=
  Nat.repeat crc32cBit 8 (c ^^^ b.setWidth 32)

/-- CRC-32C with initial and final value all ones, bits reflected. -/
def crc32c (l : List Byte) : Nat := ((l.foldl crc32cByte 0xffffffff#32) ^^^ 0xffffffff#32).toNat

/-- One bit step of the CRC-16 of R166: most significant bit first, generator 0x8BB7. -/
def crc16Bit (c : BitVec 16) : BitVec 16 :=
  if c.getLsbD 15 then (c <<< 1) ^^^ 0x8bb7#16 else c <<< 1

/-- One byte of CRC-16. -/
def crc16Byte (c : BitVec 16) (b : Byte) : BitVec 16 :=
  Nat.repeat crc16Bit 8 (c ^^^ (b.setWidth 16 <<< 8))

/-- The CRC-16 of a data line (R166): initial value 0xFFFF, no reflection, no final inversion. -/
def crc16 (l : List Byte) : Nat := (l.foldl crc16Byte 0xffff#16).toNat

/-- Rotation amounts of Keccak's step rho, lane x + 5y. -/
def keccakRho : List Nat :=
  [0, 1, 62, 28, 27, 36, 44, 6, 55, 20, 3, 10, 43, 25, 39, 41, 45, 15, 21, 8, 18, 2, 61, 56, 14]

/-- Round constants of Keccak's step iota. -/
def keccakRc : List Word64 :=
  [0x0000000000000001, 0x0000000000008082, 0x800000000000808a, 0x8000000080008000, 0x000000000000808b,
   0x0000000080000001, 0x8000000080008081, 0x8000000000008009, 0x000000000000008a, 0x0000000000000088,
   0x0000000080008009, 0x000000008000000a] ++
  [0x000000008000808b, 0x800000000000008b, 0x8000000000008089, 0x8000000000008003, 0x8000000000008002,
   0x8000000000000080, 0x000000000000800a, 0x800000008000000a, 0x8000000080008081, 0x8000000000008080,
   0x0000000080000001, 0x8000000080008008]

/-- A lane of a Keccak state. -/
def keccakLane (a : List Word64) (i : Nat) : Word64 := a.getD i 0

/-- One round of Keccak-f[1600]. -/
def keccakRound (a : List Word64) (rc : Word64) : List Word64 :=
  let c := (List.range 5).map fun x =>
    keccakLane a x ^^^ keccakLane a (x + 5) ^^^ keccakLane a (x + 10) ^^^ keccakLane a (x + 15) ^^^ keccakLane a (x + 20)
  let d := (List.range 5).map fun x => keccakLane c ((x + 4) % 5) ^^^ (keccakLane c ((x + 1) % 5)).rotateLeft 1
  let th := (List.range 25).map fun i => keccakLane a i ^^^ keccakLane d (i % 5)
  -- lane (x, y) of the result of pi is lane ((x + 3y) mod 5, x) rotated
  let b := (List.range 25).map fun i =>
    let x := i % 5
    let y := i / 5
    let j := (x + 3 * y) % 5 + 5 * x
    (keccakLane th j).rotateLeft (keccakRho.getD j 0)
  let ch := (List.range 25).map fun i =>
    let x := i % 5
    let y := i / 5
    keccakLane b i ^^^ (~~~ keccakLane b ((x + 1) % 5 + 5 * y) &&& keccakLane b ((x + 2) % 5 + 5 * y))
  match ch with
  | [] => []
  | l :: ls => (l ^^^ rc) :: ls

/-- The permutation Keccak-f[1600]. -/
def keccakF (a : List Word64) : List Word64 := keccakRc.foldl keccakRound a

/-- The 17 lanes of a block of 136 bytes. -/
def keccakLanes (block : List Byte) : List Word64 :=
  (List.range 17).map fun i => BitVec.ofNat 64 (leAt block (8 * i) 8)

/-- Absorb `n` blocks. -/
def shakeAbsorb : Nat → List Byte → List Word64 → List Word64
  | 0, _, a => a
  | n + 1, m, a =>
    shakeAbsorb n (m.drop 136) (keccakF (List.zipWith (· ^^^ ·) a (keccakLanes (m.take 136) ++ List.replicate 8 0)))

/-- The message with SHAKE's suffix and padding. -/
def shakePad (m : List Byte) : List Byte :=
  let r := 136 - m.length % 136
  m ++ (if r = 1 then [0x9f#8] else 0x1f#8 :: List.replicate (r - 2) 0#8 ++ [0x80#8])

/-- SHAKE256 with an output of `n` bytes, at most 136 (FIPS 202). -/
def shake256 (n : Nat) (m : List Byte) : List Byte :=
  let p := shakePad m
  let a := shakeAbsorb (p.length / 136) p (List.replicate 25 0)
  ((a.flatMap fun l => leBytes 8 l.toNat).take n)

end Sys2Proof.Machine
end

