-- ==== Sys2Proof/Machine/Ops.lean ====
section
/-! DEFINITION. Machine/Ops.lean: the operations every chapter uses: registers and their fields, free values, bytes of
memory, fabric time, the interrupt vectors (R532, R533), counter banks (R422, R423), latency histograms (R436), the event
front end (R404 to R407) and mailbox completion (R44 to R46).
The choices of the model here: logs 1, 5, 6, 7, 9, 10 and 63. -/

namespace Sys2Proof.Machine

/-- What a command answers. -/
abbrev Out := Host.Outcome State Fault Refusal

/-! ### Registers -/

/-- The register at an address, as it is stored; an unlisted one holds its reset value. -/
def State.reg (s : State) (a : Nat) : Word64 := smapGet Reg.resetVal s.regs a

/-- Store a register whole. -/
def State.setReg (s : State) (a : Nat) (v : Word64) : State := { s with regs := smapSet Reg.resetVal s.regs a v }

/-- A word with one field replaced. -/
def Loc.put (l : Loc) (w : Word64) (n : Nat) : Word64 :=
  BitVec.ofNat 64 (w.toNat / 2 ^ (l.lo + l.width) * 2 ^ (l.lo + l.width) + n % 2 ^ l.width * 2 ^ l.lo + w.toNat % 2 ^ l.lo)

/-- The value of a field. -/
def State.get (s : State) (l : Loc) : Nat := bits (s.reg l.addr).toNat l.lo l.width

/-- Write a field; the register's other bits keep their values. -/
def State.set (s : State) (l : Loc) (n : Nat) : State := s.setReg l.addr (l.put (s.reg l.addr) n)

/-- A field of one bit read as a truth value. -/
def State.flag (s : State) (l : Loc) : Bool := s.get l != 0

/-- Add to a field, wrapping at its width. -/
def State.inc (s : State) (l : Loc) (n : Nat) : State := s.set l (s.get l + n)

/-- Add to a field, saturating at its width. -/
def State.sat (s : State) (l : Loc) (n : Nat) : State := s.set l (satAdd l.width (s.get l) n)

/-- Do something when a condition holds. -/
def State.when (s : State) (c : Bool) (f : State → State) : State := if c then f s else s

/-- Do something for each element of a list, in order. -/
def State.forEach {α : Type} (s : State) (l : List α) (f : State → α → State) : State := l.foldl f s

/-- A register returned to its reset value. -/
def State.clearReg (s : State) (a : Nat) : State := s.setReg a (Reg.resetVal a)

/-- Every register of an address range returned to its reset value. -/
def State.clearRange (s : State) (lo hi : Nat) : State :=
  { s with regs := s.regs.filter fun e => !(decide (lo ≤ e.1) && decide (e.1 < hi)) }

/-! ### Registers of dies that are off -/

/-- A register of a die that the module state gates reads all ones, and a write of it is dropped (R505, R508). -/
def State.gated (s : State) (a : Nat) : Bool :=
  let st := s.get Reg.PWR_STATUS_STATE
  (st == 2 || st == 3) && decide (a < 0x7f080000000) || st == 3 && decide (a < 0x7f100000000)

/-- A block that a PWR_RST bit holds in reset takes no write (R510). -/
def State.blockHeld (s : State) (a : Nat) : Bool :=
  let off := fun (base size : Nat) => (a - base) / size
  let bitNo : Option Nat :=
    if a < 0x7f040000000 then some (off 0x7f000000000 0x100000 / 144)
    else if a < 0x7f080000000 then some (off 0x7f040000000 0x10000 / 18)
    else if a < 0x7f100000000 then some (2 + off 0x7f080000000 0x1000000)
    else if a < 0x7f300000000 then none
    else if a < 0x7f400000000 then some (6 + off 0x7f300000000 0x100000)
    else if a < 0x7f410000000 then none
    else if a < 0x7f420000000 then some (17 + off 0x7f410000000 0x1000000)
    else if a < 0x7f430000000 then some (17 + off 0x7f420000000 0x100000)
    else if a < 0x7f440000000 then some (17 + off 0x7f430000000 0x200000)
    else none
  bitNo.any fun n => (s.reg Reg.PWR_RST).toNat.testBit n

/-- A control-space write reaches the register at `a` (R508, R510). -/
def State.reaches (s : State) (a : Nat) : Bool := !s.gated a && !s.blockHeld a

/-- What a write of the register at `a` does, if it reaches it. -/
def State.writeTo (s : State) (a : Nat) (f : State → State) : State := if s.reaches a then f s else s

/-! ### The module runs -/

/-- The module has power and is not held in module reset: anything but a power or pin event needs this (R510, R514). -/
def State.running (s : State) : Bool := s.pwr.pwrGood && s.pwr.resetN

/-- `t` with what no operation of the module reaches as it was in `s`: the commands that wait, the model's clock, and the test
access port, which has its own pins (R563). -/
def State.keeping (s t : State) : State := { t with pending := s.pending, now := s.now, tap := s.tap }

/-- A command's answer: its effect while the module runs; without power or in reset nothing happens. -/
def State.run (s : State) (f : State → State) : Out := .next (if s.running then s.keeping (f s) else s)

/-! ### Free values and time -/

/-- The free value drawn next (log 1). -/
def State.fresh (s : State) : Nat := Config.freeNat s.free

/-- One free value has been drawn. -/
def State.drawn (s : State) : State := { s with free := s.free + 1 }

/-- A list of `n` free values. -/
def State.freshList (s : State) (n : Nat) : List Nat := (List.range n).map fun i => Config.freeNat (s.free + i)

/-- `n` free values have been drawn. -/
def State.drawnBy (s : State) (n : Nat) : State := { s with free := s.free + n }

/-- Fabric time in ns (R300, R305). -/
def State.ft (s : State) : Nat := s.ftu.ft256 / 256

/-! ### Memory bytes -/

/-- What an unlisted byte reads as (log 5). -/
def memByte (_ : Nat) : Byte := 0

/-- The memory is in its canonical form. -/
abbrev Memory.wf (m : List Host.Cell) : Bool := smapWf memByte m

/-- The byte at a local address of DRAM or of a bowl. -/
def State.byte (s : State) (a : Nat) : Byte := smapGet memByte s.mem a

/-- `n` bytes from a local address. -/
def State.bytes (s : State) (a n : Nat) : List Byte := (List.range n).map fun i => s.byte (a + i)

/-- A little-endian number of `n` bytes at a local address. -/
def State.num (s : State) (a n : Nat) : Nat := leNat (s.bytes a n)

/-- Write bytes from a local address up. -/
def memPut (m : List Host.Cell) (a : Nat) : List Byte → List Host.Cell
  | [] => m
  | b :: bs => memPut (smapSet memByte m a b) (a + 1) bs

/-- Write bytes at a local address. -/
def State.putBytes (s : State) (a : Nat) (l : List Byte) : State := { s with mem := memPut s.mem a l }

/-- Write a little-endian number of `n` bytes at a local address. -/
def State.putNum (s : State) (a n v : Nat) : State := s.putBytes a (leBytes n v)

/-- Usable DRAM ends here (R26). -/
def dramEnd : Nat := 0x2e800000000
/-- The bowl windows begin here (R26, R27). -/
def bowlBase : Nat := 0x60000000000
/-- Control space begins here (R26). -/
def ctlBase : Nat := 0x7f000000000
/-- Bytes of a bowl (R27). -/
def bowlBytes : Nat := 0x180000

/-- The kinds of place a local address can name (R26, R27). -/
inductive Place where
  | dram
  /-- a mapped byte of a bowl window: spindle and offset -/
  | bowl (spindle off : Nat)
  | control
  | unmapped
  deriving DecidableEq, Repr

/-- What a local address names (R26, R27). Whether a control-space address is mapped is a question of `Reg.find`. -/
def placeOf (a : Nat) : Place :=
  if a < dramEnd then .dram
  else if bowlBase ≤ a ∧ a < bowlBase + 288 * 0x200000 then
    let off := (a - bowlBase) % 0x200000
    if off < bowlBytes then .bowl ((a - bowlBase) / 0x200000) off else .unmapped
  else if ctlBase ≤ a ∧ a < 0x80000000000 then .control
  else .unmapped

/-- The local address of a bowl offset (R27). -/
def bowlAddr (spindle off : Nat) : Nat := bowlBase + spindle * 0x200000 + off

/-! ### Interrupts -/

/-- An MSI frame (R526). -/
def msiFrame (v : Nat) : HostFrame := { akind := 5, cstat := 0, len := 0, atag := 0, addr := v, body := [] }

/-- The host link holds completions and interrupts (R534, R535): H is not ACTIVE, or a host-link reset waits for RELEASE. -/
def State.abtHeld (s : State) : Bool :=
  s.host.heldByReset || s.get (Reg.LNK_STATUS_STATE 10) != 6

/-- Send one MSI for a vector and clear its pending bit (R533). -/
def State.sendMsi (s : State) (v : Nat) : State :=
  { s with host := { s.host with vc1 := s.host.vc1 ++ [msiFrame v],
                                 pendingVec := s.host.pendingVec.filter (· != v),
                                 lastMsi := alSet s.host.lastMsi v s.now } }

/-- No MSI for the vector was sent within the last MODER µs (R533). -/
def State.msiFree (s : State) (v : Nat) : Bool :=
  match s.host.lastMsi.find? (·.1 == v) with
  | none => true
  | some (_, t) => decide (t + 1000 * s.get Reg.ABT_CTL_MODER ≤ s.now)

/-- A cause sets its vector's pending bit; the MSI goes at once when moderation and the host link allow it
(R532 to R534). -/
def State.raiseVec (s : State) (v : Nat) : State :=
  let s1 := { s with host := { s.host with
    pendingVec := if s.host.pendingVec.contains v then s.host.pendingVec else s.host.pendingVec ++ [v] } }
  if !s1.abtHeld && s1.msiFree v then s1.sendMsi v else s1

/-! ### Counter banks -/

/-- First register of a counter bank, by kind and instance (R419). -/
def bankBase (kind inst : Nat) : Nat :=
  match kind with
  | 0 => Reg.SPN_PMC_ID inst
  | 1 => Reg.GGE_PMC_ID inst
  | 2 => Reg.PIER_PMC_ID inst
  | 3 => Reg.HDS_PMC_ID
  | 4 => Reg.LNK_PMC_ID inst
  | 5 => Reg.RTR_PMC_ID
  | _ => Reg.SRV_PMC_ID inst

/-- Banks of each kind (R419). -/
def bankCount : List (Nat × Nat) := [(0, 288), (1, 36), (2, 4), (3, 1), (4, 11), (5, 1), (6, 2)]

def pmcEn (b : Nat) : Loc := ⟨b + 0x8, 0, 1⟩
def pmcOvfFrz (b : Nat) : Loc := ⟨b + 0x8, 2, 1⟩
def pmcCycle (b : Nat) : Loc := ⟨b + 0x10, 0, 64⟩
def pmcOvf (b n : Nat) : Loc := ⟨b + 0x18, n, 1⟩
def pmcSelEn (b n : Nat) : Loc := ⟨b + 0x40 + 8 * n, 0, 1⟩
def pmcSelEdge (b n : Nat) : Loc := ⟨b + 0x40 + 8 * n, 1, 1⟩
def pmcSelChain (b n : Nat) : Loc := ⟨b + 0x40 + 8 * n, 2, 1⟩
def pmcSelOvfIrq (b n : Nat) : Loc := ⟨b + 0x40 + 8 * n, 3, 1⟩
def pmcSelEvent (b n : Nat) : Loc := ⟨b + 0x40 + 8 * n, 8, 10⟩
def pmcSelQual (b n : Nat) : Loc := ⟨b + 0x40 + 8 * n, 24, 16⟩
def pmcCnt (b n : Nat) : Loc := ⟨b + 0x80 + 8 * n, 0, 48⟩

/-- Counter `n` overflows: its OVF bit, a freeze of the bank, the counter interrupt (R421, R423). -/
def State.pmcOverflow (s : State) (b n : Nat) : State :=
  let s := s.set (pmcOvf b n) 1
  let s := if s.flag (pmcOvfFrz b) then s.set (pmcEn b) 0 else s
  if s.flag (pmcSelOvfIrq b n) then s.raiseVec 12 else s

/-- Add `v` to counter `n` of a bank, with its carry (R422, R423). -/
def State.pmcAdd (s : State) (b n v : Nat) : State :=
  let t := s.get (pmcCnt b n) + v
  let s := s.set (pmcCnt b n) t
  if t < 2 ^ 48 then s
  else if n % 2 = 0 ∧ s.flag (pmcSelChain b (n + 1)) then
    if s.flag (pmcSelEn b (n + 1)) then
      let t1 := s.get (pmcCnt b (n + 1)) + t / 2 ^ 48
      let s := s.set (pmcCnt b (n + 1)) t1
      if t1 < 2 ^ 48 then s else s.pmcOverflow b (n + 1)
    else s
  else s.pmcOverflow b n

/-- Counter `n` counts events of this code: enabled with its bank, and not chained (R421, R423). -/
def State.pmcCounts (s : State) (b n code : Nat) : Bool :=
  s.flag (pmcEn b) && s.flag (pmcSelEn b n) && s.get (pmcSelEvent b n) == code
    && !(n % 2 == 1 && s.flag (pmcSelChain b n))

/-- An event of a bank in one cycle of its clock, with its value as a function of the qualifier (R422). -/
def State.countQ (s : State) (kind inst code : Nat) (v : Nat → Nat) : State :=
  let b := bankBase kind inst
  (List.range 6).foldl (fun s n =>
    let x := v (s.get (pmcSelQual b n))
    if s.pmcCounts b n code && x != 0 then s.pmcAdd b n (if s.flag (pmcSelEdge b n) then 1 else x) else s) s

/-- An event of a bank without a qualifier. -/
def State.count (s : State) (kind inst code v : Nat) : State := s.countQ kind inst code fun _ => v

/-! ### Latency histograms -/

/-- The bin of a value in ns (R436). -/
def histBin (v : Nat) : Nat := if v ≤ 1 then 0 else if v < 2 ^ 31 then Nat.log2 v else 31

/-- A value enters a histogram set (R436). -/
def State.histEnter (s : State) (h v : Nat) : State :=
  if s.flag (Reg.CTR_HIST_CTL_EN h) then
    (s.sat (Reg.CTR_HIST_BIN_COUNT h (histBin v)) 1).sat (Reg.CTR_HIST_TOTAL_TOTAL h) 1
  else s

/-! ### The event front end (chapter 15) -/

/-- The severity that the owning chapter fixes for a hardware code (R404, R405 and the code tables of the chapters). -/
def evSev (code : Nat) : Nat :=
  match code with
  | 0x0002 => 1 | 0x0003 => 4 | 0x0004 => 3 | 0x0005 => 2 | 0x0101 => 2 | 0x0102 => 2 | 0x0201 => 0 | 0x0202 => 3
  | 0x0501 => 3 | 0x0502 => 2 | 0x0601 => 2 | 0x0602 => 3 | 0x0701 => 2 | 0x0702 => 3 | 0x0703 => 3 | 0x0704 => 0
  | 0x0705 => 2 | 0x0706 => 3 | 0x0801 => 0 | 0x0802 => 2 | 0x0901 => 2 | 0x0902 => 3 | 0x0903 => 4 | 0x0a01 => 2
  | 0x0a02 => 3 | 0x0b01 => 0 | 0x0b02 => 3 | 0x0b03 => 2 | 0x0c01 => 3 | 0x0c02 => 3 | 0x0c03 => 4 | 0x0c04 => 2
  | 0x0d01 => 1 | 0x0d02 => 1 | 0x0e01 => 3 | 0x0e02 => 0 | 0x0e03 => 2 | 0x0e04 => 4 | 0x0e05 => 3 | 0x0e06 => 4
  | 0x0e07 => 1 | 0x0e08 => 3 | 0x0f01 => 2 | 0x0f02 => 1 | 0x0f03 => 2 | 0x0f04 => 1 | 0x0f05 => 0 | 0x0f06 => 2
  | 0x0f07 => 3 | 0x0f08 => 4 | 0x0f09 => 3 | 0x0f0a => 2 | 0x1001 => 0 | 0x1002 => 3 | 0x1003 => 2 | 0x1101 => 2
  | 0x1102 => 0 | 0x1103 => 1 | 0x1104 => 4 | 0x1105 => 2 | 0x1107 => 3 | 0x1108 => 3 | 0x1109 => 1 | 0x1201 => 1
  | 0x1202 => 3 | 0x1203 => 3
  | _ => 0

/-- The pylon that holds the token: 0 A, 1 B (R375). -/
def State.holder (s : State) : Option Nat :=
  match s.get Reg.AON_TOKEN_OWNER with
  | 1 => some 0
  | 2 => some 1
  | _ => none

/-- No NV write begins once the shutdown sequence runs (R516 step 2). -/
def State.nvShut (s : State) : Bool := s.pwr.shutdown.isSome

/-- The token holder, while NV writes may begin (R516). -/
def State.nvHolder (s : State) : Option Nat := if s.nvShut then none else s.holder

/-- The recorder whose registers govern the front end: the token holder's, else recorder A's (log 6). -/
def State.evr (s : State) : Nat := s.holder.getD 0

/-- RATE and BURST in force for a code (R407): the lowest valid override that names it, else EVR_RATE; 0 acts as 1. -/
def State.evRate (s : State) (code : Nat) : Nat × Nat :=
  let r := s.evr
  match (List.range 64).find? (fun n => s.flag (Reg.EVR_RLOVR_VALID r n) && s.get (Reg.EVR_RLOVR_CODE r n) == code) with
  | some n => (max 1 (s.get (Reg.EVR_RLOVR_RATE r n)), max 1 (s.get (Reg.EVR_RLOVR_BURST r n)))
  | none => (max 1 (s.get (Reg.EVR_RATE_RATE r)), max 1 (s.get (Reg.EVR_RATE_BURST r)))

/-- One token, in the unit in which levels are kept. -/
def evToken : Nat := 1000000000

/-- The level of a code's token bucket now (R407): it rises by RATE tokens a second up to BURST. -/
def State.evLevel (s : State) (code : Nat) : Nat :=
  let rb := s.evRate code
  match s.ev.buckets.find? (·.1 == code) with
  | none => rb.2 * evToken
  | some (_, lvl, t) => min (lvl + (s.now - t) * rb.1) (rb.2 * evToken)

/-- Add to a code's rate-limited or overflow count, with the times of its first and last occurrence (R408). -/
def suppAdd (l : List (Nat × Suppressed)) (code sev ft rl ov : Nat) : List (Nat × Suppressed) :=
  match l with
  | [] => [(code, ⟨sev, rl, ov, ft, ft⟩)]
  | (c, x) :: m =>
    if c = code then (c, ⟨sev, satAdd 16 x.rl rl, satAdd 16 x.ov ov, x.first, ft⟩) :: m
    else if code < c then (code, ⟨sev, rl, ov, ft, ft⟩) :: (c, x) :: m
    else (c, x) :: suppAdd m code sev ft rl ov

/-- The per-severity loss count of a class (R409, R413). -/
def evSevLost (r sev : Nat) : Loc :=
  match sev with
  | 0 => Reg.EVR_SEVLOST_S0 r
  | 1 => Reg.EVR_SEVLOST_S1 r
  | 2 => Reg.EVR_SEVLOST_S2 r
  | 3 => Reg.EVR_SEVLOST_S3 r
  | _ => Reg.EVR_SEVLOST_S4 r

/-- The writer of the token-holding recorder is frozen (R409). -/
def State.evFrozen (s : State) : Bool :=
  match s.holder with
  | some r => s.flag (Reg.EVR_STATUS_FROZEN r)
  | none => false

/-- The intake FIFO is full (R406). -/
def State.evFull (s : State) : Bool := decide (512 ≤ s.ev.fifo.length)

/-- Steps 3 and 4 of R406: the holding queue while the writer is frozen, else the intake FIFO. -/
def State.evEnqueue (s : State) (o : Occ) : State :=
  if s.evFrozen then
    if s.ev.held.length < 256 then { s with ev := { s.ev with held := s.ev.held ++ [o] } }
    else s.sat (evSevLost s.evr o.sev) 1
  else if s.evFull then
    ({ s with ev := { s.ev with supp := suppAdd s.ev.supp o.code o.sev o.ft 0 1 } }).inc Reg.AON_EVINTAKE_OVERFLOW 1
  else { s with ev := { s.ev with fifo := s.ev.fifo ++ [o] } }

/-- An occurrence at the front end (R404, R406, R407): stamped, rate-limited by code, queued. -/
def State.occurSev (s : State) (code sev src : Nat) (data : List Byte) : State :=
  let g := code / 256 % 256
  if 0x13 ≤ g ∧ g < 0x80 then s.sat (Reg.EVR_LOST_BADCODE s.evr) 1
  else
    let o : Occ := { code, sev, ft := s.ft, src, count := 1, summary := false, data }
    if 1 ≤ code ∧ code ≤ 0xff then s.evEnqueue o
    else
      let lvl := s.evLevel code
      if evToken ≤ lvl then
        ({ s with ev := { s.ev with buckets := alSet s.ev.buckets code (lvl - evToken, s.now) } }).evEnqueue o
      else
        ({ s with ev := { s.ev with buckets := alSet s.ev.buckets code (lvl, s.now),
                                    supp := suppAdd s.ev.supp code sev s.ft 1 0 } }).inc (Reg.EVR_LOST_RATELIM s.evr) 1

/-- An occurrence of a hardware code. -/
def State.occur (s : State) (code src : Nat) (data : List Byte) : State := s.occurSev code (evSev code) src data

/-- Unmapped access (R29): address and requester, 0 spindle, 1 host, 2 VC7. -/
def State.unmapped (s : State) (addr kind who : Nat) : State :=
  s.occur 0x0101 0 (leBytes 8 addr ++ leBytes 1 kind ++ leBytes 2 who)

/-! ### Mailboxes -/

/-- Command register `k` of mailbox `n`. -/
def State.mbxArg (s : State) (n k : Nat) : Nat := s.get (Reg.MBX_CMDREG_V n k)

/-- Mailbox `n` holds command `cmd`, passed to firmware, and a pylon runs that firmware (R44, R375). -/
def State.mbxHas (s : State) (n cmd : Nat) : Bool :=
  s.flag (Reg.MBX_CTL_GO n) && s.get (Reg.MBX_CTL_CMD n) == cmd && s.holder.isSome

/-- Complete mailbox `n` (R44, R46): response registers from 1 up, RLEN, STATUS, the sequence number echoed in response
register 0, DONE set and GO cleared, and the mailbox interrupt raised. -/
def State.mbxDone (s : State) (n status rlen : Nat) (rsp : List Nat) : State :=
  let s := s.forEach rsp.zipIdx fun s v => s.set (Reg.MBX_RSP_V n (v.2 + 1)) v.1
  let s := s.set (Reg.MBX_RSP_V n 0) (s.get (Reg.MBX_CTL_SEQ n))
  let s := s.set (Reg.MBX_CTL_STATUS n) status
  let s := s.set (Reg.MBX_CTL_RLEN n) rlen
  let s := s.set (Reg.MBX_CTL_DONE n) 1
  (s.set (Reg.MBX_CTL_GO n) 0).raiseVec n

/-- Firmware runs a mailbox command when the mailbox holds it; otherwise nothing happens. -/
def State.mbxRun (s : State) (n cmd : Nat) (f : State → State) : State := if s.mbxHas n cmd then f s else s

/-- Complete a mailbox with a status alone: the response is register 0 (R44). -/
def State.mbxFail (s : State) (n status : Nat) : State := s.mbxDone n status 1 []

end Sys2Proof.Machine
end

