-- ==== Sys2Proof/Machine/Memory.lean ====
section
/-! DEFINITION. Machine/Memory.lean: the DRAM address map, the detection code, the landing cache and the accesses that a
home slice performs (R160 to R188, R577). `State.mem` holds the coherent bytes; a way holds the tag of a local line or
the whole of a read-only one.
The choices of the model here: logs 8, 28 and 56. -/

namespace Sys2Proof.Machine

/-! ### Address interleave (R163, R164) -/

def lineOf (a : Nat) : Nat := a / 64
def groupOf (l : Nat) : Nat := l / 31
def slotOf (l : Nat) : Nat := groupOf l % 768
/-- The pier die that holds a line. -/
def pierOf (l : Nat) : Nat := slotOf l % 4
/-- The global channel number of a line. -/
def channelOf (l : Nat) : Nat := 192 * pierOf l + slotOf l / 4
def rowOf (l : Nat) : Nat := groupOf l / 768 / 16
def bankOf (l : Nat) : Nat := (groupOf l / 768 % 16) ^^^ (rowOf l % 16)
/-- The package of a line within its pier. -/
def packageOf (l : Nat) : Nat := channelOf l % 192 / 8
/-- Place of a line's landing-cache set, slice × 49,152 + set (R174). -/
def lcPlace (l : Nat) : Nat := pierOf l * 49152 + (groupOf l / 4 * 31 + l % 31) % 49152
/-- The bank key of a local DRAM address (R164). -/
def bankKey (a : Nat) : Nat := channelOf (lineOf a) * 2 ^ 21 + bankOf (lineOf a) * 2 ^ 17 + rowOf (lineOf a)
/-- Groups on one pier. -/
def groupsPerPier : Nat := 402653184

/-! ### The state of one line -/

/-- A set with nothing in it. -/
def lcEmpty : LcSet := { ways := List.replicate 16 Way.empty, tree := 0 }

def State.lcSet (s : State) (p : Nat) : LcSet := smapGet (fun _ => lcEmpty) s.lm.lc p

def State.setLcSet (s : State) (p : Nat) (x : LcSet) : State :=
  { s with lm := { s.lm with lc := smapSet (fun _ => lcEmpty) s.lm.lc p x } }

/-- The way of a set that holds a tag. -/
def LcSet.find (x : LcSet) (p : Way → Bool) : Option Nat := x.ways.findIdx? p

def Way.isLocal (l : Nat) (w : Way) : Bool := w == .localLine l

def Way.isRol (w : Way) : Bool := match w with | .rol _ _ _ => true | _ => false

def Way.isRolOf (m l : Nat) (w : Way) : Bool :=
  match w with
  | .rol m' l' _ => m' == m && l' == l
  | _ => false

/-- A local line is in its slice. -/
def State.cached (s : State) (l : Nat) : Bool := ((s.lcSet (lcPlace l)).find (Way.isLocal l)).isSome

/-- A line's DRAM write is pending, so its write buffer holds it (R176). -/
def State.writePending (s : State) (l : Nat) : Bool := s.lm.wbuf.contains l

/-- The 64 bytes of a line. -/
def State.lineBytes (s : State) (l : Nat) : List Byte := s.bytes (64 * l) 64

/-- The check of 64 bytes at a line's address (R166). -/
def lineCheck (l : Nat) (data : List Byte) : Nat := crc16 (data ++ leBytes 8 (64 * l))

/-- The check of a line in the devices after power-on, which does not match its contents, or after an initialise, which wrote zero
data with valid checks (R168). -/
def State.checkByInit (s : State) (l : Nat) : Nat :=
  let c := lineCheck l (List.replicate 64 0)
  if groupOf l / 4 < s.lm.initUpTo.getD (pierOf l) 0 then c else c ^^^ 1

/-- The check of a line as its group's code line holds it in the devices (R165). -/
def State.dramCheck (s : State) (l : Nat) : Nat := smapGet s.checkByInit s.lm.checks l

/-- The code line of a group (R165): the checks of its 31 data lines, and two bytes of 0. -/
def State.codeLine (s : State) (g : Nat) : List Byte :=
  ((List.range 31).flatMap fun j => leBytes 2 (s.dramCheck (31 * g + j))) ++ [0, 0]

/-- The code-buffer entry of a line's group. -/
def State.codeEntry (s : State) (l : Nat) : Option CodeEntry :=
  (alGet [] s.lm.code (channelOf l)).find? (·.group == groupOf l)

/-- The check that a read of the line takes: that of the code-buffer entry of its group, else that of the devices (R167). -/
def State.storedCheck (s : State) (l : Nat) : Nat :=
  match s.codeEntry l with
  | some e => e.checks.getD (l % 31) 0
  | none => s.dramCheck l

/-- The stored check of a line matches its contents (R168). -/
def State.lineGood (s : State) (l : Nat) : Bool := s.storedCheck l == lineCheck l (s.lineBytes l)

/-- The line as the devices give it when the bits of `mask` come back wrong, and whether its check passes (R166, R169). -/
def State.dramRead (s : State) (l mask : Nat) : List Byte × Bool :=
  let got := leBytes 64 (leNat (s.lineBytes l) ^^^ mask)
  (got, lineCheck l got == s.storedCheck l)

/-! ### Availability -/

/-- The pier takes transactions: it is ready (R510, R512), the module is not in M3 (R508), start-up calibration is over (R488), no
initialise runs (R168), and no activation of its controller image is switching it (R476). -/
def State.pierUp (s : State) (p : Nat) : Bool :=
  s.pwr.pierReady.getD p false && s.get Reg.PWR_STATUS_STATE != 3 && !s.flag Reg.CAL_STATUS_STARTUP && !s.flag (Reg.PIER_STATUS_INITBUSY p)
    && !(s.upd.act.any fun a => a.comp == 5 && a.part == p)

/-- Calibration holds the line's channel group paused (R173, R189). -/
def State.linePaused (s : State) (l : Nat) : Bool := s.get (Reg.PIER_STATUS_PAUSED (pierOf l)) == packageOf l

/-- The slice can take a transaction of the line (R168, R173, R512). -/
def State.lineUp (s : State) (l : Nat) : Bool := s.pierUp (pierOf l) && (s.cached l || !s.linePaused l)

/-- A bank, by channel × 16 + bank. -/
def bankPlace (l : Nat) : Nat := channelOf l * 16 + bankOf l

/-- A re-read or a merge read waits for the bank of the line: it comes before everything else (R185). -/
def State.bankUrgent (s : State) (l : Nat) : Bool :=
  s.lm.txns.any fun t => (t.stage == .reread || t.stage == .merge) && bankPlace (lineOf t.addr) == bankPlace l

/-- A read of the line has failed its first check, and its re-read is still to come (R171). -/
def State.rereading (s : State) (l : Nat) : Bool := s.lm.txns.any fun t => t.stage == .reread && lineOf t.addr == l

/-! ### Replacement (R577) -/

/-- The replacement bits after an access that touches way `w`: each bit on its path points away. -/
def treeTouch (t w : Nat) : Nat :=
  [1, 2, 3, 4].foldl (fun t k =>
    let n := (16 + w) / 2 ^ k
    let c := (16 + w) / 2 ^ (k - 1)
    let t0 := if t.testBit n then t - 2 ^ n else t
    if c = 2 * n then t0 + 2 ^ n else t0) t

/-- Way `w` lies under node `n`. -/
def underNode (n w : Nat) : Bool := (List.range 5).any fun k => (16 + w) / 2 ^ k == n

/-- Follow the replacement bits from node `n` to a way open to the fill. -/
def treeVictim (t : Nat) (op : Nat → Bool) : Nat → Nat → Nat
  | 0, n => n - 16
  | fuel + 1, n =>
    let c := 2 * n + bit (t.testBit n)
    let o := 2 * n + bit (!t.testBit n)
    treeVictim t op fuel (if (List.range 16).any fun w => op w && underNode c w then c else o)

/-- The way a fill takes: the lowest invalid way open to it, else the victim; none when no way is open. -/
def LcSet.fillWay (x : LcSet) (op : Nat → Bool) : Option Nat :=
  match (List.range 16).find? fun w => op w && x.ways.getD w .empty == .empty with
  | some w => some w
  | none => if (List.range 16).any op then some (treeVictim x.tree op 4 1) else none

/-- A way is open to a fill: its line's DRAM write is not pending, and a read-only line keeps to ROLWAYS. -/
def State.wayOpen (s : State) (p : Nat) (rol : Bool) (w : Nat) : Bool :=
  (!rol || decide (w < s.get (Reg.PIER_LC_CTL_ROLWAYS (p / 49152)))) &&
    match (s.lcSet p).ways.getD w .empty with
    | .localLine l => !s.writePending l
    | _ => true

/-- A fill of the local line finds a way open to it, or the line is present (R577). -/
def State.fillOpen (s : State) (l : Nat) : Bool := s.cached l || ((s.lcSet (lcPlace l)).fillWay (s.wayOpen (lcPlace l) false)).isSome

/-- An access to the line need not wait (R168, R171, R173, R185, R512, R577). -/
def State.lineAvail (s : State) (l : Nat) : Bool :=
  s.lineUp l && (s.cached l || !s.bankUrgent l) && !s.rereading l && s.fillOpen l

/-- The pieces of a range of bytes within single lines: line, offset, length. -/
def linePieces : Nat → Nat → Nat → List (Nat × Nat × Nat)
  | 0, _, _ => []
  | fuel + 1, a, n =>
    if n = 0 then []
    else
      let k := min (64 - a % 64) n
      (lineOf a, a % 64, k) :: linePieces fuel (a + k) (n - k)

/-- The pieces of `n` bytes at `a`. -/
def piecesOf (a n : Nat) : List (Nat × Nat × Nat) := linePieces (n / 64 + 2) a n

/-- A line number names a line of DRAM. -/
def dramLine (l : Nat) : Bool := decide (64 * l < dramEnd)

/-- Every line of DRAM in a range can be reached now. -/
def State.memAvail (s : State) (a n : Nat) : Bool := (piecesOf a n).all fun x => !dramLine x.1 || s.lineAvail x.1

/-- An access touches a way. -/
def State.touchWay (s : State) (p w : Nat) : State := s.setLcSet p { s.lcSet p with tree := treeTouch (s.lcSet p).tree w }

/-- Put a line into a way, touching it. -/
def State.putWay (s : State) (p w : Nat) (x : Way) : State :=
  s.setLcSet p { ways := (s.lcSet p).ways.set w x, tree := treeTouch (s.lcSet p).tree w }

/-! ### The code buffer (R167) -/

/-- Masked writes that a code-buffer entry needs: its dirty bursts (R165, R167). -/
def dirtyBursts (e : CodeEntry) : Nat := bit (e.written % 2 ^ 16 != 0) + bit (e.written / 2 ^ 16 != 0)

/-- The checks that an entry holds dirty go to its code line in the devices. -/
def State.codeStore (s : State) (e : CodeEntry) : State :=
  let checks := (List.range 31).foldl (fun m j =>
    if e.written.testBit j then smapSet s.checkByInit m (31 * e.group + j) (e.checks.getD j 0) else m) s.lm.checks
  { s with lm := { s.lm with checks := checks } }

/-- An entry is written to the devices as masked writes of its dirty bursts (R167). -/
def State.codeFlush (s : State) (e : CodeEntry) : State := (s.codeStore e).count 2 (pierOf (31 * e.group)) 0x00c (dirtyBursts e)

/-- An entry becomes the most recent of its channel's 32; the one pushed out is written to the devices. -/
def State.codePut (s : State) (e : CodeEntry) : State :=
  let c := channelOf (31 * e.group)
  let es := e :: (alGet [] s.lm.code c).filter (·.group != e.group)
  let s : State := { s with lm := { s.lm with code := alSet s.lm.code c (es.take 32) } }
  match (es.drop 32).head? with
  | some x => s.codeFlush x
  | none => s

/-- The entry of a line's group as the buffer holds it, or as it comes from the devices with the bits of `cmask` of the line's
check wrong. -/
def State.codeLoad (s : State) (l cmask : Nat) : CodeEntry :=
  (s.codeEntry l).getD
    { group := groupOf l, written := 0, dirtyAt := 0,
      checks := (List.range 31).map fun j =>
        let c := s.dramCheck (31 * groupOf l + j)
        if j = l % 31 then c ^^^ cmask % 2 ^ 16 else c }

/-- The code buffer takes part in a read of the line. -/
def State.codeRead (s : State) (l cmask : Nat) : State := s.codePut (s.codeLoad l cmask)

/-- The check of a written line goes into the entry of its group; an entry all of whose 31 lines have been written goes to the devices
in one full write, and is clean. -/
def State.codeWrite (s : State) (l : Nat) : State :=
  let e := s.codeLoad l 0
  let e : CodeEntry :=
    { e with checks := e.checks.set (l % 31) (lineCheck l (s.lineBytes l)), written := e.written ||| 2 ^ (l % 31),
             dirtyAt := if e.written = 0 then s.now else e.dirtyAt }
  if e.written = 2 ^ 31 - 1 then (s.codeStore e).codePut { e with written := 0 } else s.codePut e

/-- The entry of a group is written to the devices and is clean. -/
def State.codeClean (s : State) (g : Nat) : State :=
  let c := channelOf (31 * g)
  match (alGet [] s.lm.code c).find? (fun e => e.group == g && e.written != 0) with
  | none => s
  | some e =>
    let s := s.codeFlush e
    let es := (alGet [] s.lm.code c).map fun x => if x.group = g then { x with written := 0 } else x
    { s with lm := { s.lm with code := alSet s.lm.code c es } }

/-- Before a re-read, a clean entry of the group is dropped (R169). -/
def State.codeDropClean (s : State) (l : Nat) : State :=
  let c := channelOf l
  let es := (alGet [] s.lm.code c).filter fun e => !(e.group == groupOf l && e.written == 0)
  { s with lm := { s.lm with code := alSet s.lm.code c es } }

/-! ### The devices -/

/-- The package qualifier of the pier events (R427). -/
def pkgQual (l v q : Nat) : Nat := if q % 256 = 0xff ∨ q % 256 = packageOf l then v else 0

/-- An access to DRAM in M2 wakes the pier from self refresh (R508). -/
def State.pierWake (s : State) (p : Nat) : State :=
  let s := s.when (s.flag (Reg.PIER_STATUS_SREF p)) fun s => s.set (Reg.PIER_STATUS_SREF p) 0
  s.when (s.get Reg.PWR_STATUS_STATE == 2) fun s => { s with pwr := { s.pwr with usedAt := s.pwr.usedAt.set p s.now } }

/-- The row that is open in the bank of a line (R185). -/
def State.rowAt (s : State) (l : Nat) : Option Nat := (s.lm.rows.find? fun e => e.1 == bankPlace l).map (·.2)

/-- The line's row is open in its bank: a row hit, or an activation (R185, R427). -/
def State.openRow (s : State) (l : Nat) : State :=
  let hit := s.rowAt l == some (rowOf l)
  let s : State := { s with lm := { s.lm with rows := alSet s.lm.rows (bankPlace l) (rowOf l) } }
  s.countQ 2 (pierOf l) (if hit then 0x006 else 0x005) (pkgQual l 1)

/-- A line leaves DRAM for the pier: counted, and the code buffer takes part; `cmask` as for `codeLoad`. -/
def State.dramFetch (s : State) (l cmask : Nat) : State :=
  (((s.pierWake (pierOf l)).openRow l).countQ 2 (pierOf l) 0x001 (pkgQual l 1)).codeRead l cmask

/-- The pending write of a line goes to DRAM, and its check into the code buffer (R167, R176). -/
def State.dramWrite (s : State) (l : Nat) : State :=
  let s : State := { s with lm := { s.lm with wbuf := s.lm.wbuf.filter (· != l) } }
  (((s.pierWake (pierOf l)).openRow l).countQ 2 (pierOf l) 0x002 (pkgQual l 1)).codeWrite l

/-- A re-read of a line: a clean entry of its group is dropped, and the line is read again (R169). -/
def State.dramAgain (s : State) (l cmask : Nat) : State := ((s.codeDropClean l).count 2 (pierOf l) 0x00b 1).dramFetch l cmask

/-- Up to `n` reads of a line from DRAM, the first of them number `k`, until one passes its check: read number `k` comes back with the
bits of `m k` wrong, and each but number 0 is a re-read (R169, R172). The bytes that passed, and how many reads were made in all. -/
def State.dramReads (l : Nat) (m : Nat → Nat × Nat) : Nat → Nat → State → Option (List Byte) × Nat × State
  | 0, k, s => (none, k, s)
  | n + 1, k, s =>
    let s := if k = 0 then s.dramFetch l (m k).2 else s.dramAgain l (m k).2
    let r := s.dramRead l (m k).1
    if r.2 then (some r.1, k + 1, s) else State.dramReads l m n (k + 1) s

/-- A line made good by a re-read is counted at its pier (R169). -/
def State.rereadOk (s : State) (l : Nat) : State := s.sat (Reg.PIER_DET_REREAD_OK (pierOf l)) 1

/-- A line that failed its re-read is counted, recorded and logged (R169, R190). -/
def State.detectionFailure (s : State) (l : Nat) : State :=
  let p := pierOf l
  let s := s.sat (Reg.PIER_DET_FAILED p) 1
  let s := s.set (Reg.PIER_DET_LAST_ADDR p) (64 * l)
  let s := s.set (Reg.PIER_DET_LAST_CHAN p) (channelOf l)
  let s := s.set (Reg.PIER_DET_LAST_VALID p) 1
  s.occur 0x0501 p (leBytes 8 (64 * l) ++ leBytes 2 (channelOf l))

/-! ### What a slice does with one line -/

/-- A way for a fill, by the places of which `op` holds. When the DRAM writes of all of them are pending, the fill waits for one:
that of the line to which the replacement bits point completes first (R577; log 8). -/
def State.fillPlace (s : State) (p : Nat) (rol : Bool) : Nat × State :=
  match (s.lcSet p).fillWay (s.wayOpen p rol) with
  | some w => (w, s)
  | none =>
    let w := treeVictim (s.lcSet p).tree (fun w => !rol || decide (w < s.get (Reg.PIER_LC_CTL_ROLWAYS (p / 49152)))) 4 1
    (w, match (s.lcSet p).ways.getD w .empty with
      | .localLine l => s.dramWrite l
      | _ => s)

/-- Install a local line, unless it is present by now (R176). -/
def State.installLocal (s : State) (l : Nat) : State :=
  if s.cached l then s
  else
    let f := s.fillPlace (lcPlace l) false
    f.2.putWay (lcPlace l) f.1 (.localLine l)

/-- The bytes that a read of DRAM gave are what the slice holds of the line from then on (log 28). -/
def State.lineTake (s : State) (l : Nat) (data : List Byte) : State :=
  if data = s.lineBytes l then s else s.putBytes (64 * l) data

/-- A read or atomic finds its line in the slice: hit counts, and the way is touched unless a read has NAL = 1 (R179). -/
def State.lineHit (s : State) (l : Nat) (touch : Bool) : State :=
  let s := s.count 2 (pierOf l) 0x003 1
  match (s.lcSet (lcPlace l)).find (Way.isLocal l) with
  | some w => if touch then s.touchWay (lcPlace l) w else s
  | none => s

/-- The slice performs a write of bytes within a line whose other bytes it holds or does not need: the coherent bytes
change, and the line waits for its DRAM write (R171, R176). -/
def State.lineStore (s : State) (l off : Nat) (data : List Byte) : State :=
  let s := (s.pierWake (pierOf l)).putBytes (64 * l + off) data
  { s with lm := { s.lm with wbuf := if s.lm.wbuf.contains l then s.lm.wbuf else s.lm.wbuf ++ [l] } }

/-- A write touches the way that holds its line, or allocates one unless NAL = 1 (R176). -/
def State.writeAlloc (s : State) (l : Nat) (nal : Bool) : State :=
  match (s.lcSet (lcPlace l)).find (Way.isLocal l) with
  | some w => s.touchWay (lcPlace l) w
  | none => if nal then s else s.installLocal l

/-- An error of the slice's array in a way that an access meets (R180): 1 corrected; 2 the line is invalidated. -/
def State.wayError (s : State) (p w ecc : Nat) : State :=
  match ecc with
  | 1 => s.sat (Reg.PIER_LC_ERR_CORR (p / 49152)) 1
  | 2 => (s.setLcSet p { s.lcSet p with ways := (s.lcSet p).ways.set w .empty }).sat (Reg.PIER_LC_ERR_UNCORR (p / 49152)) 1
  | _ => s

/-- An array error on a local line (R180). -/
def State.lcError (s : State) (l ecc : Nat) : State :=
  match (s.lcSet (lcPlace l)).find (Way.isLocal l) with
  | some w => s.wayError (lcPlace l) w ecc
  | none => s

/-- Old value and new value of an atomic (R94, R178). -/
def atomicNew (op : AtomicOp) (old a b : Nat) : Nat :=
  match op with
  | .add32 => (old + a) % 2 ^ 32
  | .max32 => max old (a % 2 ^ 32)
  | .swap32 => a % 2 ^ 32
  | .cas32 => if old = a % 2 ^ 32 then b % 2 ^ 32 else old
  | .add64 => (old + a) % 2 ^ 64
  | .cas64 => if old = a % 2 ^ 64 then b % 2 ^ 64 else old

/-- Bytes an atomic works on. -/
def atomicWidth (op : AtomicOp) : Nat :=
  match op with
  | .add64 => 8
  | .cas64 => 8
  | _ => 4

/-! ### Accesses that an agent makes within one step

What the storage cells get wrong in such an access is left open: it is drawn with the free values (log 65). -/

/-- A read of one line through its home slice (R169, R175, R179, R180): the line's bytes, or none when it fails its re-read; how often it
was read from DRAM. A line that an array error drops is refilled whatever NAL says. -/
def State.sliceRead (s : State) (l : Nat) (nal : Bool) : Option (List Byte) × Nat × State :=
  let n := s.free
  let e := Config.upsetArray n % 3
  let nal := nal && !(s.cached l && e == 2)
  let s := s.drawn.lcError l e
  if s.cached l then (some (s.lineBytes l), 0, s.lineHit l (!nal))
  else
    let s := s.count 2 (pierOf l) 0x004 1
    if s.writePending l then (some (s.lineBytes l), 0, if nal then s else s.installLocal l)
    else
      let r := State.dramReads l (Config.upsetRead n) 2 0 s
      match r.1 with
      | some d =>
        let s := if r.2.1 = 1 then r.2.2 else r.2.2.rereadOk l
        (some d, r.2.1, if nal then s else (s.lineTake l d).installLocal l)
      | none => (none, r.2.1, r.2.2.detectionFailure l)

def State.lineRead (s : State) (l : Nat) (nal : Bool) : Option (List Byte) × State :=
  let r := s.sliceRead l nal
  (r.1, r.2.2)

/-- A write within one line through its home slice (R172, R176, R180): false when a merge fails three reads. -/
def State.lineWrite (s : State) (l off : Nat) (data : List Byte) (nal : Bool) : Bool × State :=
  let n := s.free
  let e := Config.upsetArray n % 3
  let nal := nal && !(s.cached l && e == 2)
  let s := s.drawn.lcError l e
  if s.cached l || s.writePending l || data.length == 64 then (true, (s.lineStore l off data).writeAlloc l nal)
  else
    let r := State.dramReads l (Config.upsetRead n) 3 0 (s.count 2 (pierOf l) 0x004 1)
    match r.1 with
    | some d =>
      let s := if r.2.1 = 1 then r.2.2 else r.2.2.rereadOk l
      (true, ((s.lineTake l d).lineStore l off data).writeAlloc l nal)
    | none => (false, r.2.2.sat (Reg.PIER_DET_MERGEFAIL (pierOf l)) 1)

/-- An atomic at its home slice (R178): the old value, or none when the line's check fails. -/
def State.lineAtomic (s : State) (a : Nat) (op : AtomicOp) (x y : Nat) : Option Nat × State :=
  let l := lineOf a
  let r := s.lineRead l false
  match r.1 with
  | none => (none, r.2)
  | some _ =>
    let w := atomicWidth op
    let old := r.2.num a w
    (some old, r.2.lineStore l (a % 64) (leBytes w (atomicNew op old x y)))

/-- An unmapped access of an agent that is no spindle, host or module on VC7 (R29): the requester that the event names is open. -/
def State.unmappedOther (s : State) (a : Nat) : State := s.drawn.unmapped a (s.fresh % 256) (s.fresh / 256)

/-- The first address of a range that no DRAM and no bowl maps; control space takes 8 B accesses only (R29, R34). -/
def rangeHole (a n : Nat) : Option Nat :=
  (piecesOf a n).findSome? fun x =>
    match placeOf (64 * x.1 + x.2.1) with
    | .dram => none
    | .bowl _ _ => none
    | _ => some (64 * x.1 + x.2.1)

/-- A read of a range by an agent of the module: its bytes, or none when a line of it failed or it is not mapped, with the first line
that failed. Bowl windows are served by the bowl's own port (R28). -/
def State.rangeRead (s : State) (a n : Nat) (nal : Bool) : Option (List Byte) × Option Nat × State :=
  match rangeHole a n with
  | some e => (none, none, s.unmappedOther e)
  | none =>
    (piecesOf a n).foldl (fun acc x =>
      let r := if dramLine x.1 then acc.2.2.lineRead x.1 nal else (some (acc.2.2.lineBytes x.1), acc.2.2)
      let bad := acc.2.1.or (if r.1.isNone then some x.1 else none)
      match acc.1, r.1 with
      | some l, some d => (some (l ++ slice d x.2.1 x.2.2), bad, r.2)
      | _, _ => (none, bad, r.2)) (some [], none, s)

/-- A read of a range: its bytes, or none when a line of it failed or it is not mapped. -/
def State.memRead (s : State) (a n : Nat) (nal : Bool) : Option (List Byte) × State :=
  let r := s.rangeRead a n nal
  (r.1, r.2.2)

/-- A write of a range: true when every piece was performed; a range that is not mapped is not written (R28, R29). -/
def State.memWrite (s : State) (a : Nat) (data : List Byte) (nal : Bool) : Bool × State :=
  match rangeHole a data.length with
  | some e => (false, s.unmappedOther e)
  | none =>
    let r := (piecesOf a data.length).foldl (fun (acc : Bool × State × List Byte) x =>
      let d := acc.2.2.take x.2.2
      let r := if dramLine x.1 then acc.2.1.lineWrite x.1 x.2.1 d nal else (true, acc.2.1.putBytes (64 * x.1 + x.2.1) d)
      (acc.1 && r.1, r.2, acc.2.2.drop x.2.2)) (true, s, data)
    (r.1, r.2.1)

/-! ### Read-only lines (R182 to R184) -/

/-- A read-only line of another module, when the requester's landing cache holds it; the hit touches its way. An array error drops it, or
is corrected (R180). -/
def State.rolRead (s : State) (m l : Nat) (nal : Bool) : Option (List Byte) × State :=
  let p := lcPlace l
  let e := Config.upsetArray s.free % 3
  match (s.lcSet p).find (Way.isRolOf m l) with
  | some w =>
    match (s.lcSet p).ways.getD w .empty with
    | .rol _ _ d =>
      let s := s.drawn.wayError p w e
      if e = 2 then (none, s) else (some d, (s.count 2 (p / 49152) 0x00a 1).when (!nal) fun s => s.touchWay p w)
    | _ => (none, s)
  | none => (none, s)

/-- Every line of a range of another module that is present as a read-only line. -/
def State.rolRange (s : State) (m a n : Nat) (nal : Bool) : Option (List Byte) × State :=
  (piecesOf a n).foldl (fun acc x =>
    let r := acc.2.rolRead m x.1 nal
    match acc.1, r.1 with
    | some l, some d => (some (l ++ slice d x.2.1 x.2.2), r.2)
    | _, _ => (none, r.2)) (some [], s)

/-- Install a whole line of another module as a read-only line (R182, R577). With ROLWAYS = 0, or while a flush of the slice runs, the line
is delivered and not installed (R184; log 66). -/
def State.rolFill (s : State) (m l : Nat) (data : List Byte) : State :=
  let p := lcPlace l
  if s.flag (Reg.PIER_LC_CTL_ROLBUSY (p / 49152)) || s.get (Reg.PIER_LC_CTL_ROLWAYS (p / 49152)) == 0
      || ((s.lcSet p).find (Way.isRolOf m l)).isSome then s
  else
    let f := s.fillPlace p true
    f.2.putWay p f.1 (.rol m l data)

/-- The whole lines of a range that a remote read with ROL = 1 and NAL = 0 brought (R182). -/
def State.rolFills (s : State) (m a : Nat) (data : List Byte) : State :=
  (List.range (data.length / 64)).foldl (fun s k => s.rolFill m (lineOf a + k) (slice data (64 * k) 64)) s

/-- Invalidate the read-only lines of slice `p` that lie in ways from `from` up (R183). -/
def State.rolDrop (s : State) (p fromWay : Nat) : State :=
  let lc := s.lm.lc.filterMap fun e =>
    if e.1 / 49152 = p then
      let ws := e.2.ways.zipIdx.map fun w => if fromWay ≤ w.2 ∧ w.1.isRol then .empty else w.1
      let x : LcSet := { e.2 with ways := ws }
      if x = lcEmpty then none else some (e.1, x)
    else some e
  { s with lm := { s.lm with lc := lc } }

/-- Invalidate a whole slice and return its replacement bits to 0 (R512, R577). -/
def State.lcClear (s : State) (p : Nat) : State :=
  { s with lm := { s.lm with lc := s.lm.lc.filter fun e => e.1 / 49152 != p } }

/-- Drain a pier's write buffer and its code buffers to the devices (R167, R512). -/
def State.pierDrain (s : State) (p : Nat) : State :=
  let s := s.forEach (s.lm.wbuf.filter fun l => pierOf l == p) fun s l => s.dramWrite l
  let mine := s.lm.code.filter fun e => e.1 / 192 == p
  let s := s.forEach (mine.flatMap (·.2)) fun s e => s.codeFlush e
  { s with lm := { s.lm with code := s.lm.code.filter fun e => e.1 / 192 != p } }

/-! ### Transactions -/

/-- Lines that a range of bytes touches. -/
def rangeLines (a n : Nat) : Nat := if n = 0 then 0 else (a % 64 + n + 63) / 64

/-- Accept a transaction (R186). -/
def State.addTxn (s : State) (owner : TxnOwner) (addr : Nat) (nal ord : Bool) (op : TxnOp) : State :=
  let t : Txn := { id := s.lm.nextTxn, owner, addr, nal, ord, op, stage := .atSlice, inject := 0, since := s.now,
                   window := min 200 (s.get (Reg.PIER_CTL_WINDOW (pierOf (lineOf addr)))), early := false }
  { s with lm := { s.lm with txns := s.lm.txns ++ [t], nextTxn := s.lm.nextTxn + 1 } }

/-- The transaction with an id. -/
def State.txn (s : State) (id : Nat) : Option Txn := s.lm.txns.find? (·.id == id)

/-- A transaction leaves the pier; its latency enters the pier's histogram as its qualifier admits it (R436). -/
def State.dropTxn (s : State) (t : Txn) : State :=
  let p := pierOf (lineOf t.addr)
  let q := s.get (Reg.CTR_HIST_CTL_QUAL p)
  let isRead := match t.op with | .read _ => true | _ => false
  let s := { s with lm := { s.lm with txns := s.lm.txns.filter (·.id != t.id) } }
  if q = 1 ∧ !isRead ∨ q = 2 ∧ isRead then s else s.histEnter p (s.now - t.since)

/-- A transaction has waited for at least its reorder window (R185). -/
def State.aged (s : State) (t : Txn) : Bool := decide (10 * t.window ≤ s.now - t.since)

/-- The bank serves this waiting transaction next (R185): re-reads and merge reads come first; then the oldest, once it has waited for the
window; else the oldest of the open row, and the oldest of all when none is of that row. -/
def State.bankNext (s : State) (t : Txn) : Bool :=
  let l := lineOf t.addr
  let ws := s.lm.txns.filter fun u => u.stage == .dram && bankPlace (lineOf u.addr) == bankPlace l
  let first : Option Txn := match ws.head? with
    | some o =>
      if s.aged o then some o
      else match s.rowAt l with
        | some r => (ws.find? fun (u : Txn) => rowOf (lineOf u.addr) == r).or (some o)
        | none => some o
    | none => none
  !s.bankUrgent l && (first.map (·.id)) == some t.id

/-- A transaction moves on to a later stage. -/
def State.stageTxn (s : State) (id : Nat) (st : TxnStage) : State :=
  { s with lm := { s.lm with txns := s.lm.txns.map fun t => if t.id = id then { t with stage := st } else t } }

end Sys2Proof.Machine
end

