-- ==== Sys2Proof/Machine/Remote.lean ====
section
/-! DEFINITION. Machine/Remote.lean: global addresses and the issue of remote operations (R12, R30, R31, R287 to R289).
The choices of the model here: logs 17 and 37. -/

namespace Sys2Proof.Machine

/-- Fields of a global address (R30). -/
def gMod (g : Nat) : Nat := bits g 43 13
def gLocal (g : Nat) : Nat := bits g 0 43
def gCls (g : Nat) : Nat := bits g 56 3
def gRol (g : Nat) : Bool := g.testBit 59
def gNal (g : Nat) : Bool := g.testBit 60
def gOrd (g : Nat) : Bool := g.testBit 61

/-- An attribute of a global address is refused (R30): a reserved class, a reserved bit, ROL on a write or atomic. -/
def gRefused (g : Nat) (write : Bool) : Bool := decide (6 ≤ gCls g) || bits g 62 2 != 0 || (write && gRol g)

/-- The module's own number: that of the applied IDENT, 0 before it (R54, R251). -/
def State.ownMod (s : State) : Nat := (s.jig.ident.map (·.modnum)).getD 0

/-- A global address names this module and is served locally (R12). -/
def State.isOwn (s : State) (g : Nat) : Bool := gMod g == s.ownMod

/-- A live remote operation by table index. -/
def State.remote (s : State) (i : Nat) : Option RemoteOp := s.rtr.ops.find? (·.index == i)

/-- The lowest number below `n` that a list does not hold. -/
def lowestFree (n : Nat) (used : List Nat) : Option Nat :=
  (List.range (min n (used.length + 1))).find? fun i => !used.contains i

/-- Lines of 64 B that a request touches: what it counts against the per-spindle limit (R103, R288). -/
def opLines (f : Frame) : Nat :=
  let n := if f.fkind = 1 then f.len else f.body.length
  if n = 0 then 1 else (f.addr % 64 + n + 63) / 64

/-- The spindle that issued a remote operation; none for the headstock. -/
def RemoteOwner.spindle (o : RemoteOwner) : Option Nat :=
  match o with
  | .load i _ _ _ => some i
  | .store i _ _ => some i
  | .copy i _ _ => some i
  | _ => none

/-- Remote transactions in flight of a spindle: the lines of its operations that were sent (R103, R108). -/
def State.spnRemote (s : State) (i : Nat) : Nat :=
  ((s.rtr.ops.filter fun o => o.owner.spindle == some i && o.sent).map fun o => opLines o.frame).foldl (· + ·) 0

/-- The remote operation table has room for `n` more operations (R103). -/
def State.remoteRoom (s : State) (n : Nat) : Bool := decide (s.rtr.ops.length + n ≤ 16384)

/-- The request frame of an operation (R269, R270). -/
def State.requestFrame (s : State) (fkind g len aop tag : Nat) (body : List Byte) : Frame :=
  { fkind, flags := bit (gOrd g) + 2 * bit (gNal g) + 4 * bit (gRol g), blen := body.length,
    skey := s.get Reg.RTR_SKEY_SKEY, srcmod := s.ownMod, dstmod := gMod g, cls := gCls g, hops := 0, tag,
    addr := gLocal g, len := if fkind = 1 then len else 0, code := 0, aop, body }

/-- Enter one remote operation in the table (R287, R288): the lowest free index, its generation advanced on reuse. -/
def State.remoteIssue (s : State) (owner : RemoteOwner) (fkind g len aop : Nat) (body : List Byte) : State :=
  match lowestFree 16384 (s.rtr.ops.map (·.index)) with
  | none => s
  | some i =>
    let gen := match s.rtr.gens.find? (·.1 == i) with
      | some (_, n) => (n + 1) % 1024
      | none => 0
    let op : RemoteOp :=
      { index := i, gen, owner, frame := s.requestFrame fkind g len aop (i + 2 ^ 14 * gen) body,
        order := s.rtr.nextOrder, sent := false, since := s.now }
    let r := { s.rtr with ops := s.rtr.ops ++ [op], gens := alSet s.rtr.gens i gen, nextOrder := s.rtr.nextOrder + 1 }
    { s with rtr := r }

/-- An operation leaves the table (R288). -/
def State.remoteFree (s : State) (i : Nat) : State := { s with rtr := { s.rtr with ops := s.rtr.ops.filter (·.index != i) } }

/-- The requests of a block copy of `n` bytes at global address `g`: each within 2 KiB (R288), with its offset. -/
def splitPieces : Nat → Nat → Nat → List (Nat × Nat)
  | 0, _, _ => []
  | fuel + 1, a, n =>
    if n = 0 then [] else
      let k := min (2048 - a % 2048) n
      (a, k) :: splitPieces fuel (a + k) (n - k)

/-- The (address, length) pieces of a copy within 2 KiB boundaries. -/
def copyPieces (a n : Nat) : List (Nat × Nat) := splitPieces (n / 2048 + 2) a n

end Sys2Proof.Machine
end

