-- ==== Sys2Proof/Machine/Requests.lean ====
section
/-! DEFINITION. Machine/Requests.lean: the shared operations of the headstock: requests and their end, the KV pool,
sequence slots, contexts, tokens, the hall prefix directory, instances and the batch table (R201 to R229, R575, R576).
The choices of the model here: logs 12, 35 and 36. -/

namespace Sys2Proof.Machine

/-! ### Looking things up -/

/-- The request with a handle. -/
def State.req (s : State) (h : Nat) : Option Request := s.hds.requests.find? (·.handle == h)

/-- Change a request. -/
def State.updReq (s : State) (h : Nat) (f : Request → Request) : State :=
  { s with hds := { s.hds with requests := s.hds.requests.map fun r => if r.handle = h then f r else r } }

/-- The instance on a set. -/
def State.inst (s : State) (set : Nat) : Option Inst := s.hds.insts.find? (·.set == set)

/-- Change the instance on a set. -/
def State.updInst (s : State) (set : Nat) (f : Inst → Inst) : State :=
  { s with hds := { s.hds with insts := s.hds.insts.map fun r => if r.set = set then f r else r } }

/-- A set's definition (R58). -/
def State.setDef (s : State) (set : Nat) : Option SetDef := s.jig.sets.find? (·.set == set)

/-- The lathe groups of a set, ascending. -/
def SetDef.groupList (d : SetDef) : List Nat := (List.range 36).filter d.groups.testBit

/-- The spindles of a set, ascending (R13). -/
def State.spindlesOf (s : State) (set : Nat) : List Nat :=
  match s.setDef set with
  | some d => d.groupList.flatMap fun g => (List.range 8).map fun k => 8 * g + k
  | none => []

/-- The lathe dies a set has groups on. -/
def SetDef.dies (d : SetDef) : List Nat := (d.groupList.map (· / 18)).eraseDups

/-- The QMAP entry that covers a queue pair (R65). -/
def State.qmapOf (s : State) (q : Nat) : Option QmapEntry := s.jig.qmap.find? fun e => e.first ≤ q && decide (q < e.first + e.qcnt)

/-- Head dimension of a program's keys (R205). -/
def ProgHeader.dim (h : ProgHeader) : Nat := 64 * 2 ^ h.dcode

/-- Bytes of a block's summary bundle (R212). -/
def ProgHeader.bundle (h : ProgHeader) : Nat := h.layers * h.kvh * 2 * h.dim

/-- The header of a valid program slot. -/
def State.program (s : State) (n : Nat) : Option ProgHeader := (s.hds.programs.find? (·.1 == n)).map (·.2)

/-- Ring sizes of a queue pair (R231). -/
def State.sqSize (s : State) (q : Nat) : Nat := 2 ^ (min (s.get (Reg.HDS_QP_SQ_SQLOG q)) 12 + 4)
def State.cqSize (s : State) (q : Nat) : Nat := 2 ^ (min (s.get (Reg.HDS_QP_CTL_CQLOG q)) 12 + 4)

/-- The completion ring is full (R203), or held: it is in host memory (R534), or it has taken the place of another while HELD = 1 (R196). -/
def State.cqFull (s : State) (q : Nat) : Bool :=
  (s.get (Reg.HDS_QP_STATUS_CQTAIL q) + 1) % s.cqSize q == s.get (Reg.HDS_QP_STATUS2_CQHEAD q)
    || ((s.flag (Reg.HDS_QP_CTL_CQHOST q) || s.hds.replaced.contains q) && s.abtHeld)

/-! ### Causes of ending (R576) -/

/-- A cause of ending arises for a request; the first in time stands. -/
def State.endCause (s : State) (h code detail reason : Nat) : State :=
  s.updReq h fun r => if r.cause.isSome then r else { r with cause := some (code, detail, reason) }

/-- A headstock write for a request; a failed merge ends it as a failing access of the headstock's own (R204, R211). -/
def State.hdsPut (s : State) (h a : Nat) (data : List Byte) : State :=
  let r := s.memWrite a data false
  if r.1 then r.2 else r.2.endCause h 0x08 0 7

/-- The requests that an instance serves: its own, or those attached (R217, R218). -/
def State.served (s : State) (i : Inst) : List Nat :=
  match i.request with
  | some h => [h]
  | none => ((s.hds.requests.filter fun r => r.set == i.set && r.attached && !r.ended).map (·.handle))

/-- The completion code and detail of a spindle fault (R204). -/
def faultCompletion (code detail : Nat) : Nat × Nat :=
  match code with
  | 0x0a => (0x08, detail)
  | 0x05 => (0x09, 0)
  | 0x09 => (0x0a, detail)
  | _ => (0x0b, code)

/-- A fault on a set ends its request, or every request its instance serves, and the other gangs stop (R101, R102). -/
def State.requestFault (s : State) (set code detail : Nat) : State :=
  match s.inst set with
  | none => s
  | some i =>
    let c := faultCompletion code detail
    ((s.served i).foldl (fun s h => s.endCause h c.1 c.2 7) s).updInst set fun i => { i with stopping := true }

/-! ### KV pool (R212, R224) -/

/-- Blocks that running requests hold reserved. -/
def State.reservedSum (s : State) : Nat := (s.hds.requests.map (·.reserved)).foldl (· + ·) 0

/-- Entries neither allocated nor reserved. -/
def State.poolFree (s : State) : Nat := s.hds.poolTop - s.reservedSum

/-- Push a block address onto the pool stack; ignored when the stack is full. -/
def State.poolPush (s : State) (a : Nat) : State :=
  if s.hds.poolTop < s.get Reg.HDS_KVFREE_SIZE then
    let r := s.memWrite (s.get Reg.HDS_KVPOOL_ADDR + 8 * s.hds.poolTop) (leBytes 8 a) false
    { r.2 with hds := { r.2.hds with poolTop := s.hds.poolTop + 1 } }
  else s

/-- Pop the top entry; none when its line fails. -/
def State.poolPop (s : State) : Option Nat × State :=
  let r := s.memRead (s.get Reg.HDS_KVPOOL_ADDR + 8 * (s.hds.poolTop - 1)) 8 false
  match r.1 with
  | some d => (some (leNat d), { r.2 with hds := { r.2.hds with poolTop := s.hds.poolTop - 1 } })
  | none => (none, r.2)

/-! ### Sequence slots (R211) -/

/-- A slot table entry as read. -/
structure SlotRow where
  btaddr : Nat
  sumbase : Nat
  btmax : Nat
  state : Nat
  ntok : Nat
  deriving DecidableEq, Repr

/-- Address of a slot table entry. -/
def State.slotAddr (s : State) (n : Nat) : Nat := s.get Reg.HDS_SEQTAB_ADDR + 32 * n

/-- Read a slot table entry; none when its line fails. -/
def State.slotRead (s : State) (n : Nat) : Option SlotRow × State :=
  let r := s.memRead (s.slotAddr n) 32 false
  (r.1.map fun d =>
    { btaddr := leAt d 0 8, sumbase := leAt d 8 8, btmax := leAt d 16 4, state := leAt d 20 1, ntok := leAt d 24 4 }, r.2)

/-- Write STATE of a slot. -/
def State.slotState (s : State) (n v : Nat) : State := (s.memWrite (s.slotAddr n + 20) (leBytes 1 v) false).2

/-- Write NTOK of a slot. -/
def State.slotNtok (s : State) (n v : Nat) : State := (s.memWrite (s.slotAddr n + 24) (leBytes 4 v) false).2

/-- Every slot as the headstock reads the table (R211); none for one that cannot be read. -/
def State.slotTable (s : State) : List (Nat × Option SlotRow) × State :=
  (List.range (s.get Reg.HDS_SEQTAB_NSEQ)).foldl (fun acc n =>
    let r := acc.2.slotRead n
    (acc.1 ++ [(n, r.1)], r.2)) ([], s)

/-- Any slot has a STATE other than 0: a sequence is held or in use (R212). One that cannot be read is not free (R211). -/
def State.slotsBusy (s : State) : Bool × State :=
  let t := s.slotTable
  (t.1.any fun x => match x.2 with
    | some r => r.state != 0
    | none => true, t.2)

/-- Blocks of a slot: block index, global address, and whether the address returns to the pool. -/
def State.slotBlocks (s : State) (n : Nat) : List (Nat × Nat × Bool) := alGet [] s.hds.blocks n

def State.setBlocks (s : State) (n : Nat) (l : List (Nat × Nat × Bool)) : State :=
  { s with hds := { s.hds with blocks := if l.isEmpty then s.hds.blocks.filter (·.1 != n) else alSet s.hds.blocks n l } }

/-- Release a sequence slot: blocks it allocated and did not publish return to the pool (R200). -/
def State.freeSlot (s : State) (n : Nat) : State :=
  let back := (s.slotBlocks n).filter (·.2.2)
  let s := back.foldl (fun s b => s.poolPush (gLocal b.2.1)) s
  ((s.setBlocks n []).slotNtok n 0).slotState n 0

/-! ### Contexts and tokens -/

/-- Address of a request's context (R209). -/
def State.ctxAddr (s : State) (h : Nat) : Nat := s.get Reg.HDS_CTXBASE_ADDR + 256 * h

/-- The 256 bytes of a context (R209). -/
def contextBytes (r : Request) : List Byte :=
  r.entry.raw ++ leBytes 4 r.ntok ++ leBytes 4 r.matched ++ leBytes 4 r.gen ++ leBytes 4 r.slot ++ leBytes 8 r.btaddr
    ++ leBytes 8 r.sumbase ++ leBytes 4 r.prior ++ leBytes 2 r.qp ++ List.replicate 90 0

/-- The status word of SAMPLE and EMIT (R222). -/
def statusWord (tok reason : Nat) : Nat := tok % 2 ^ 20 + reason * 2 ^ 24 + (if reason = 0 then 0 else 2 ^ 31)

/-- The longest sequence (R138, R198). -/
def maxTokens : Nat := 16777216

/-- The stop tests of R223 after a token: REASON, final code and detail of the first that holds. -/
def stopTest (r : Request) (tok : Nat) : Option (Nat × Nat × Nat) :=
  match (r.entry.stop.take r.entry.nstop).findIdx? (fun t => t % 2 ^ 20 == tok) with
  | some i => some (1, 0x00, i)
  | none =>
    if r.gen = r.entry.maxnew then some (2, 0x01, 0)
    else if r.ntok = 64 * r.btmax ∨ r.ntok = maxTokens then some (3, 0x03, 0)
    else if r.cancel then some (4, 0x04, 0)
    else none

/-- A KIND 0 entry of a request becomes due, once (R202). -/
def State.tokenDue (s : State) (h : Nat) : State :=
  match s.req h with
  | none => s
  | some r =>
    if s.hds.due.any (fun d => d.handle == some h) || r.pending.isEmpty then s
    else
      let d : DueEntry :=
        { qp := r.qp, order := r.order, since := s.now, handle := some h, tag := r.entry.tag, kind := 0, code := 0,
          detail := 0, seq := r.slot, gen := 0, toks := [], matched := 0 }
      { s with hds := { s.hds with due := s.hds.due ++ [d] } }

/-- Pending tokens that a KIND 0 entry may carry: a generated stop token waits for the final entry (R202). -/
def Request.streamed (r : Request) : Nat :=
  r.pending.length - bit (r.reported && r.cause.any fun c => c.1 == 0)

/-- Append a token to a request, and answer the status word (R209, R222, R223). -/
def State.appendToken (s : State) (h tok : Nat) : Nat × State :=
  match s.req h with
  | none => (statusWord 0 6, s)
  | some r =>
    let r := { r with ntok := r.ntok + 1, gen := r.gen + 1, pending := r.pending ++ [(tok, s.now)] }
    let st := stopTest r tok
    let r := match st with
      | some (reason, code, detail) => { r with cause := some (code, detail, reason), reported := true }
      | none => r
    let s := s.updReq h fun _ => r
    let s := s.hdsPut h (s.ctxAddr h + 128) (leBytes 4 r.ntok)
    let s := s.hdsPut h (s.ctxAddr h + 136) (leBytes 4 r.gen)
    let s := s.slotNtok r.slot r.ntok
    let n := r.streamed
    (statusWord tok ((st.map (·.1)).getD 0),
      if 8 ≤ n ∨ (n ≠ 0 ∧ s.get (Reg.HDS_QP_CTL_FLUSH r.qp) = 0) then s.tokenDue h else s)

/-- A request's SAMPLE or EMIT waits: 8 tokens are pending, and no entry has carried them yet, for want of room (R203). -/
def State.tokenBlocked (s : State) (h : Nat) : Bool :=
  match s.req h with
  | none => false
  | some r => decide (8 ≤ r.pending.length) && r.cause.isNone

/-! ### Blocks of a sequence (R224) -/

/-- KVB: the address it returns, all ones when there is none. -/
def State.kvBlock (s : State) (h b : Nat) : Nat × State :=
  let none64 := 2 ^ 64 - 1
  match s.req h with
  | none => (none64, s)
  | some r =>
    if r.cause.isSome || r.btmax ≤ b then (none64, s)
    else match (s.slotBlocks r.slot).find? (·.1 == b) with
      | some _ =>
        let t := s.memRead (r.btaddr + 8 * b) 8 false
        match t.1 with
        | some d => (leNat d % 2 ^ 56, t.2)
        | none => (none64, t.2.endCause h 0x08 0 7)
      | none =>
        if r.reserved = 0 ∧ s.poolFree = 0 then (none64, s)
        else
          let p := s.poolPop
          match p.1 with
          | none => (none64, p.2.endCause h 0x08 0 7)
          | some a =>
            let g := a % 2 ^ 43 + s.ownMod * 2 ^ 43
            let s := p.2.updReq h fun r => { r with reserved := r.reserved - 1 }
            let s := s.setBlocks r.slot (s.slotBlocks r.slot ++ [(b, g, true)])
            (g, s.hdsPut h (r.btaddr + 8 * b) (leBytes 8 g))

/-! ### Hall prefix directory (R226 to R229) -/

/-- Key of a prompt block from the key before it and the block's 64 token ids (R226). -/
def prefixKey (prev : List Byte) (ids : List Byte) : List Byte :=
  match shake256 16 (prev ++ ids) with
  | [] => []
  | b :: bs => (b ||| 1) :: bs

/-- Keys of the blocks whose ids are listed, in order. -/
def prefixKeys (prev : List Byte) : List (List Byte) → List (List Byte)
  | [] => []
  | ids :: m => let k := prefixKey prev ids; k :: prefixKeys k m

/-- Token ids as 4 bytes each, of which bits 19:0 are used (R197). -/
def tokenIds (d : List Byte) : List Byte :=
  d.zipIdx.map fun (b : Byte × Nat) => if b.2 % 4 = 3 then 0 else if b.2 % 4 = 2 then b.1 &&& 15 else b.1

/-- Keys of the first `n` prompt blocks of a request (R226), its prompt read by the headstock: none when a line of it fails. -/
def State.requestKeys (s : State) (r : Request) (n : Nat) : Option (List (List Byte)) × State :=
  let q := s.memRead r.entry.prompt (256 * n) false
  (q.1.map fun d =>
    prefixKeys (leBytes 8 r.hdr.model ++ List.replicate 8 0) ((List.range n).map fun i => tokenIds (slice d (256 * i) 256)), q.2)

/-- Global address of a key's bucket at its home, with attributes (R226), under a value of HDS_PDIR. -/
def State.bucketAddr (s : State) (pdir : Nat) (key : List Byte) (attr : Nat) : Nat :=
  let i := leAt key 0 8 % (bits pdir 8 6 + 1)
  let home := s.get ⟨Reg.HDS_PDIRHOME (i / 4), 16 * (i % 4), 13⟩
  let bucket := leAt key 8 8 % 2 ^ (bits pdir 16 4 + 10)
  home * 2 ^ 43 + (s.get Reg.HDS_PDIRBASE_ADDR + bucket * 512) % 2 ^ 43 + attr * 2 ^ 56

/-- NAL and ORD as attribute bits of a global address (R30). -/
def attrNal : Nat := 16
def attrOrd : Nat := 32

/-- Entry `k` of a bucket. -/
def bucketEntry (d : List Byte) (k : Nat) : List Byte := slice d (64 * k) 64

/-- The first entry of a bucket that is valid and holds a key (R227). -/
def bucketMatch (d key : List Byte) : Option (List Byte) :=
  ((List.range 8).map (bucketEntry d)).find? fun e => slice e 0 16 == key && leAt e 32 4 == 1

/-- Blocks that a lookup asks for (R227). -/
def lookupBlocks (r : Request) : Nat := (r.entry.plen - 1) / 64

/-- The pieces in which the bundles of the found blocks are read: global address and length. -/
def bundlePieces (r : Request) : List (Nat × Nat) := r.found.flatMap fun f => copyPieces f.2 r.hdr.bundle

/-- Issue the reads of a lookup or an import until 64 are in flight or all are asked; local homes answer at once. -/
def State.prefixPump : Nat → State → Nat → State
  | 0, s, _ => s
  | fuel + 1, s, h =>
    match s.req h with
    | none => s
    | some r =>
      let next : Option (Nat × Nat) := match r.phase with
        | .looking =>
          if r.asked < lookupBlocks r then some (s.bucketAddr r.pdir (r.keys.getD r.asked []) attrNal, 512) else none
        | .importing => (bundlePieces r)[r.asked]?
        | _ => none
      match next with
      | none => s
      | some (g, n) =>
        if s.isOwn g then
          let m := s.memRead (gLocal g) n (gNal g)
          State.prefixPump fuel (m.2.updReq h fun r => { r with asked := r.asked + 1, answers := r.answers ++ [(r.asked, m.1)] }) h
        else if r.asked < r.answers.length + 64 ∧ s.remoteRoom 1 then
          let owner := match r.phase with
            | .looking => RemoteOwner.lookup h r.order r.asked
            | _ => RemoteOwner.bundle h r.order r.asked
          State.prefixPump fuel ((s.remoteIssue owner 1 g n 0 []).updReq h fun r => { r with asked := r.asked + 1 }) h
        else s

/-- How many reads a request's lookup or import can need in all. -/
def pumpFuel (r : Request) : Nat := lookupBlocks r + (bundlePieces r).length + 1

/-- Continue a request's lookup or import. -/
def State.prefixGo (s : State) (h : Nat) : State :=
  match s.req h with
  | none => s
  | some r => State.prefixPump (pumpFuel r) s h

/-- A lookup begins (R227, R232): the keys of its blocks are formed. A prompt line that fails is a failing read of the headstock's own: it
ends the request (R204). -/
def State.prefixStart (s : State) (h : Nat) : State :=
  match s.req h with
  | none => s
  | some r =>
    let k := s.requestKeys r (lookupBlocks r)
    match k.1 with
    | some l =>
      (k.2.updReq h fun r => { r with phase := .looking, pdir := (s.reg Reg.HDS_PDIR).toNat, keys := l }).prefixGo h
    | none => k.2.endCause h 0x08 0 7

/-- A read of a lookup or an import is answered; none for a remote error. An answer for an earlier request of the handle is dropped. -/
def State.prefixAnswer (s : State) (h order i : Nat) (d : Option (List Byte)) : State :=
  match s.req h with
  | none => s
  | some r =>
    if r.order ≠ order ∨ r.ended then s
    else (s.updReq h fun r => { r with answers := r.answers ++ [(i, d)] }).prefixGo h

/-- The address of a summary record of a request's sequence (R211): pair (l, h) as `lh`, block `b`. -/
def recordAddr (r : Request) (hdr : ProgHeader) (lh b : Nat) : Nat := r.sumbase + lh * r.btmax * 2 * hdr.dim + b * 2 * hdr.dim

/-- Copy summary records between a bundle and a sequence's summary arrays, one pair (l, h) after another (R228, R229). -/
def State.copyRecords (s : State) (h : Nat) (r : Request) (hdr : ProgHeader) (b : Nat) (bundle : List Byte) : State :=
  (List.range (hdr.layers * hdr.kvh)).foldl (fun s lh =>
    s.hdsPut h (recordAddr r hdr lh b) (slice bundle (lh * 2 * hdr.dim) (2 * hdr.dim))) s

/-- A request is over: its slot is held or freed, and its handle is free again (R213). -/
def State.requestGone (s : State) (h : Nat) : State :=
  match s.req h with
  | none => s
  | some r =>
    let s := if r.entry.flags.testBit 0 then (s.slotNtok r.slot r.ntok).slotState r.slot 2 else s.freeSlot r.slot
    { s with hds := { s.hds with requests := s.hds.requests.filter (·.handle != h) } }

/-- Move publication on to a step. -/
def State.pubTo (s : State) (h b : Nat) (st : PubStep) (e : Nat) : State :=
  s.updReq h fun r => { r with publishing := some (b, st, e) }

/-- The bundle of block `b` of a request is written behind the block in its pool slot, in order of (l, h) (R212, R229); false when a line of
its records fails, which then reaches no bundle (R170). -/
def State.writeBundle (s : State) (h : Nat) (r : Request) (b blockAddr : Nat) : Bool × State :=
  (List.range (r.hdr.layers * r.hdr.kvh)).foldl (fun (acc : Bool × State) lh =>
    if !acc.1 then acc
    else
      let d := acc.2.memRead (recordAddr r r.hdr lh b) (2 * r.hdr.dim) false
      match d.1 with
      | some l => (true, d.2.hdsPut h (blockAddr + r.hdr.kvbytes + lh * 2 * r.hdr.dim) l)
      | none => (false, d.2)) (true, s)

/-- What a publication step does with the answer to its access: the data of a read, the old value of an atomic, nothing for
a write; none for an error, which gives the block up (R229; log 12). -/
def State.pubAnswer (s : State) (h order b : Nat) (d : Option (List Byte)) : State :=
  match s.req h with
  | none => s
  | some r =>
    match r.publishing with
    | some (b', st, e) =>
      if b' ≠ b ∨ r.order ≠ order then s
      else match d with
        | none => s.pubTo h (b + 1) .bundle 0
        | some d =>
          let key := r.keys.getD b []
          match st with
          | .bundle => s
          | .bucket =>
            if (bucketMatch d key).isSome then s.pubTo h (b + 1) .bundle 0
            else match (List.range 8).find? fun k => leAt (bucketEntry d k) 0 8 == 0 with
              | some k => s.pubTo h b .claim (s.bucketAddr r.pdir key attrOrd + 64 * k)
              | none => (s.sat Reg.HDS_PDIRSTAT_FULLBKT 1).pubTo h (b + 1) .bundle 0
          | .claim => if leNat d = 0 then s.pubTo h b .fields e else s.pubTo h b .bucket 0
          | .fields => s.pubTo h b .state e
          | .state =>
            (s.setBlocks r.slot ((s.slotBlocks r.slot).map fun x => if x.1 = b then (x.1, x.2.1, false) else x)).pubTo
              h (b + 1) .bundle 0
    | none => s

/-- Run publication until it waits for another module or is over (R229). -/
def State.pubRun : Nat → State → Nat → State
  | 0, s, _ => s
  | fuel + 1, s, h =>
    match s.req h with
    | none => s
    | some r =>
      match r.publishing with
      | some (b, st, e) =>
        if r.entry.plen / 64 ≤ b then s.requestGone h
        else match (s.slotBlocks r.slot).find? (·.1 == b) with
          | none => State.pubRun fuel (s.pubTo h (b + 1) .bundle 0) h
          | some (_, g, _) =>
            let key := r.keys.getD b []
            let sums := g + r.hdr.kvbytes
            -- the access of the step: kind, global address, length, atomic operation, body
            let acc : Option (Nat × Nat × Nat × Nat × List Byte) := match st with
              | .bundle => none
              | .bucket => some (1, s.bucketAddr r.pdir key 0, 512, 0, [])
              | .claim => some (5, e, 8, 5, leBytes 8 0 ++ slice key 0 8)
              | .fields => some (3, e + 8, 40, 0,
                  slice key 8 8 ++ leBytes 8 g ++ leBytes 8 sums ++ leBytes 8 0 ++ leBytes 8 s.ft)
              | .state => some (3, e + 32, 4, 0, leBytes 4 1)
            match acc with
            | none =>
              let w := s.writeBundle h r b (gLocal g)
              State.pubRun fuel (if w.1 then w.2.pubTo h b .bucket 0 else w.2.pubTo h (b + 1) .bundle 0) h
            | some (k, ga, n, aop, body) =>
              if s.isOwn ga then
                let a := gLocal ga
                let res : Option (List Byte) × State := match k with
                  | 1 => s.memRead a n false
                  | 5 =>
                    let x := s.lineAtomic a .cas64 (leAt body 0 8) (leAt body 8 8)
                    (x.1.map (leBytes 8), x.2)
                  | _ =>
                    let x := s.memWrite a body false
                    (if x.1 then some [] else none, x.2)
                State.pubRun fuel (res.2.pubAnswer h r.order b res.1) h
              else if s.remoteRoom 1 then s.remoteIssue (.publish h r.order b) k ga n aop body
              else s
      | none => s.requestGone h

/-- Steps that the publication of a request can take without waiting. -/
def pubFuel (r : Request) : Nat := 8 * (r.entry.plen / 64) + 8

/-- An access of a request's publication is in flight. -/
def State.pubWaits (s : State) (r : Request) : Bool :=
  s.rtr.ops.any fun o => match o.owner with
    | .publish h n _ => h == r.handle && n == r.order
    | _ => false

/-- Continue a request's publication. -/
def State.pubGo (s : State) (h : Nat) : State :=
  match s.req h with
  | none => s
  | some r => if r.publishing.isNone || s.pubWaits r then s else State.pubRun (pubFuel r) s h

/-- Publication begins (R229): the keys of the prompt blocks are formed; a prompt line that fails leaves them all unpublished (log 12). -/
def State.pubStart (s : State) (h : Nat) : State :=
  match s.req h with
  | none => s
  | some r =>
    let k := s.requestKeys r (r.entry.plen / 64)
    match k.1 with
    | some l =>
      (k.2.updReq h fun r => { r with publishing := some (r.imported, .bundle, 0), pdir := (s.reg Reg.HDS_PDIR).toNat, keys := l }).pubGo h
    | none => k.2.requestGone h

/-- Lookups, imports and publications that found the remote operation table full go on once an entry is free (R287). -/
def State.hdsResume (s : State) : State :=
  s.forEach (s.hds.requests.map (·.handle)) fun s h =>
    match s.req h with
    | none => s
    | some r => if r.publishing.isSome then s.pubGo h else if r.ended then s else s.prefixGo h

/-! ### The end of a request (R202, R213, R217, R576) -/

/-- The final entry of a request: its code, every remaining token, its slot when held (R202, R575). -/
def finalEntry (r : Request) : DueEntry :=
  let c := r.cause.getD (0x02, 0, 0)
  { qp := r.qp, order := r.order, since := 0, handle := none, tag := r.entry.tag, kind := 1, code := c.1, detail := c.2.1,
    seq := if r.entry.flags.testBit 0 then r.slot else 2 ^ 32 - 1, gen := r.gen, toks := r.pending.map (·.1),
    matched := r.matched }

/-- A completion entry becomes due. -/
def State.pushDue (s : State) (d : DueEntry) : State := { s with hds := { s.hds with due := s.hds.due ++ [{ d with since := s.now }] } }

/-- A request ends: its final entry is due, its reservation returns, and it publishes or releases its slot. -/
def State.endRequest (s : State) (h : Nat) : State :=
  match s.req h with
  | none => s
  | some r =>
    let s := { s with hds := { s.hds with due := s.hds.due.filter fun d => d.handle != some h } }
    let s := s.pushDue (finalEntry r)
    let code := (finalEntry r).code
    let publish := r.entry.opc = 1 ∧ r.entry.flags.testBit 2 ∧ code ≤ 0x03 ∧ s.flag Reg.HDS_PDIR_EN
    let s := s.updReq h fun r =>
      { r with ended := true, reserved := 0, pending := [], cause := some (r.cause.getD (0x02, 0, 0)), phase := .done }
    if publish then s.pubStart h else s.requestGone h

/-! ### Instances (R208, R217, R218) -/

/-- The batch table entry of a request. -/
def batchEntry (r : Request) (isNew : Bool) : Nat := r.handle + 2 ^ 15 + (if isNew then 2 ^ 16 else 0)

/-- Rewrite the batch table of a set (R210): attached requests at their places; `newly` names those attached now. -/
def State.writeBatch (s : State) (set : Nat) (newly : List Nat) : State :=
  let rs := s.hds.requests.filter fun r => r.set == set && r.attached && !r.ended
  let d := (List.range 64).flatMap fun k =>
    match rs.find? (fun r => r.batch == some k) with
    | some r => leBytes 8 (batchEntry r (newly.contains r.handle))
    | none => leBytes 8 0
  (s.memWrite (s.get Reg.HDS_CTXBASE_ADDR + 0x200000 + set * 0x200) d false).2

/-- Attach the requests of a set that wait, in the lowest free places (R218); answers the handles attached. -/
def State.attachAll (s : State) (set : Nat) (ready : Request → Bool) : List Nat × State :=
  (s.hds.requests.filter fun r => r.set == set && !r.attached && !r.ended && ready r).foldl (fun acc r =>
    let used := (acc.2.hds.requests.filter fun x => x.set == set && x.attached && !x.ended).filterMap (·.batch)
    match lowestFree 64 used with
    | some k => (acc.1 ++ [r.handle], acc.2.updReq r.handle fun r => { r with attached := true, batch := some k })
    | none => acc) ([], s)

/-- Launch an instance on a set (R208): its gangs follow by GANG_LAUNCH. -/
def State.launch (s : State) (set prog : Nat) (hdr : ProgHeader) (request : Option Nat) : State :=
  let i : Inst := { set, prog, hdr, request, first := true, launched := [], stopping := false }
  { s with hds := { s.hds with insts := s.hds.insts ++ [i] } }

/-- Gangs of an instance that are resident on a spindle. -/
def State.gangsOn (s : State) (set i : Nat) : List Gang :=
  (smapGet (fun _ => Spindle.empty) s.spn i).gangs.filter (·.set == set)

/-- Every gang of an instance has been launched, or none will be any more. -/
def State.allLaunched (s : State) (i : Inst) : Bool :=
  i.stopping || (s.spindlesOf i.set).all fun k => alGet 0 i.launched k == i.hdr.gangs

/-- Every gang of the set's instance has ended (R217). -/
def State.instOver (s : State) (i : Inst) : Bool :=
  s.allLaunched i && (s.spindlesOf i.set).all fun k => (s.gangsOn i.set k).isEmpty

/-- The gang number of what outlives its instance: it belongs to no request any more. -/
def orphanGang (g : Nat) : Nat := if g < 256 then g + 256 else g

/-- Tensor instructions, block copies and stores in flight that outlive their instance. -/
def State.orphan (s : State) (set : Nat) : State :=
  let ks := s.spindlesOf set
  let s := ks.foldl (fun s k =>
    let x := smapGet (fun _ => Spindle.empty) s.spn k
    let x := { x with tensorQ := x.tensorQ.map fun t => { t with gang := orphanGang t.gang },
                      copies := x.copies.map fun c => { c with gang := orphanGang c.gang } }
    { s with spn := smapSet (fun _ => Spindle.empty) s.spn k x }) s
  let txns := s.lm.txns.map fun t =>
    match t.owner with
    | .store k g pc => if ks.contains k then { t with owner := .store k (orphanGang g) pc } else t
    | _ => t
  let ops := s.rtr.ops.map fun o =>
    match o.owner with
    | .store k g pc => if ks.contains k then { o with owner := .store k (orphanGang g) pc } else o
    | _ => o
  { s with lm := { s.lm with txns := txns }, rtr := { s.rtr with ops := ops } }

/-- When all gangs of an instance have ended, its requests end (R217, R218); requests that wait to attach start a new
instance. -/
def State.instCheck (s : State) (set : Nat) : State :=
  match s.inst set with
  | none => s
  | some i =>
    if s.instOver i then
      let hs := s.served i
      let s := s.orphan i.set
      let s := { s with hds := { s.hds with insts := s.hds.insts.filter (·.set != set) } }
      let s := hs.foldl (fun s h => s.endRequest h) s
      if i.request.isNone && s.hds.requests.any (fun r => r.set == set && !r.attached && !r.ended) then
        let a := s.attachAll set fun _ => true
        (a.2.launch set i.prog i.hdr none).writeBatch set a.1
      else s
    else s

end Sys2Proof.Machine
end

