-- ==== Sys2Proof/Machine/Operands.lean ====
section
/-! DEFINITION. Machine/Operands.lean: the spindle instruction word (R92), the operations of its classes (R93, R94, R151,
R221), the registers and predicates an operation names, and what it makes of reserved encodings. -/

namespace Sys2Proof.Machine

/-- The fields of an instruction word (R92). -/
structure IWord where
  cls : Nat
  op : Nat
  gb : Bool
  pred : Nat
  fslot : Nat
  dst : Nat
  src1 : Nat
  src2 : Nat
  src3 : Nat
  imm : Nat
  deriving DecidableEq, Repr

/-- Split an instruction word into its fields (R92). -/
def iwordOf (w : Nat) : IWord :=
  { cls := bits w 60 4, op := bits w 52 8, gb := w.testBit 51, pred := bits w 48 3, fslot := bits w 44 4,
    dst := bits w 37 7, src1 := bits w 30 7, src2 := bits w 23 7, src3 := bits w 16 7, imm := bits w 0 16 }

/-- The immediate, sign-extended (R94). -/
def IWord.simm (w : IWord) : Int := signed 16 w.imm

/-- The operations of the spindles (R94, R151, R221). -/
inductive SpnOp where
  | nop | br | brall | brany | movi | movhi | tid | ftrd | setp | endG
  | fadd | fmul | ffma | fmax | fmin | fexp2 | flog2 | frcp | frsq | iadd | imul
  | andB | orB | xorB | shl | shr | fsetp | isetp | shfl
  | cvtf | pack | unpack
  | tmma | tmv | tzero | tstore
  | ld | st | ldblk | stblk | waitI
  | gld | gst | gldblk | gstblk
  | aadd | amax | aswap | acas | aadd64 | acas64
  | bar | red | redv | fenceI
  | gsum | gsel
  | sample | emit | kvb
  deriving DecidableEq, Repr

/-- The operation that CLASS and OP name; none when either is reserved (R93, R94, R151, R221). -/
def opOf (cls op : Nat) : Option SpnOp :=
  let table : List SpnOp := match cls with
    | 0 => [.nop, .br, .brall, .brany, .movi, .movhi, .tid, .ftrd, .setp, .endG]
    | 1 => [.fadd, .fmul, .ffma, .fmax, .fmin, .fexp2, .flog2, .frcp, .frsq, .iadd, .imul,
            .andB, .orB, .xorB, .shl, .shr, .fsetp, .isetp, .shfl]
    | 2 => [.cvtf, .pack, .unpack]
    | 3 => [.tmma, .tmv, .tzero, .tstore]
    | 4 => [.ld, .st, .ldblk, .stblk, .waitI]
    | 5 => [.gld, .gst, .gldblk, .gstblk]
    | 6 => [.aadd, .amax, .aswap, .acas, .aadd64, .acas64]
    | 7 => [.bar, .red, .redv, .fenceI]
    | 8 => [.gsum, .gsel]
    | 9 => [.sample, .emit, .kvb]
    | _ => []
  table[op]?

/-- The slot a class issues in, for the counters (R90, R428): 0 S, 1 M, 2 V0, 4 T. A vector instruction
takes V0 here; `State.slotFor` says when it takes V1 (log 69). -/
def slotOfClass (cls : Nat) : Nat :=
  match cls with
  | 1 => 2
  | 2 => 2
  | 3 => 4
  | 4 => 1
  | 5 => 1
  | 6 => 1
  | 8 => 4
  | _ => 0

/-- A group boundary stands before and after the operation (R97). -/
def SpnOp.ownGroup (o : SpnOp) : Bool :=
  match o with
  | .tmma | .tmv | .tzero | .tstore | .gsum | .gsel | .ldblk | .stblk | .gldblk | .gstblk | .waitI
  | .aadd | .amax | .aswap | .acas | .aadd64 | .acas64 | .bar | .red | .redv | .fenceI
  | .sample | .emit | .kvb | .endG => true
  | _ => false

/-- The operation acts once for the gang (R569). -/
def SpnOp.once (o : SpnOp) : Bool :=
  match o with
  | .tmma | .tmv | .tzero | .tstore | .ldblk | .stblk | .gldblk | .gstblk | .waitI | .bar | .redv | .fenceI
  | .gsum | .gsel | .sample | .emit | .kvb | .endG => true
  | _ => false

/-- The operation works on 64 bits in its data operands (R94). -/
def SpnOp.wide (o : SpnOp) : Bool := o == .aadd64 || o == .acas64

/-- RED is an argmax (R106). -/
def IWord.argmax (w : IWord) : Bool := w.imm % 16 == 5

/-- Registers an operation reads: number, and whether as a pair (R94, R106, R151, R221). -/
def SpnOp.reads (o : SpnOp) (w : IWord) : List (Nat × Bool) :=
  match o with
  | .movhi => [(w.dst, false)]
  | .setp | .fexp2 | .flog2 | .frcp | .frsq | .cvtf | .emit | .kvb | .gsel => [(w.src1, false)]
  | .fadd | .fmul | .fmax | .fmin | .iadd | .imul | .andB | .orB | .xorB | .shl | .shr | .fsetp | .isetp | .shfl
  | .pack | .tstore | .gsum => [(w.src1, false), (w.src2, false)]
  | .ffma => [(w.src1, false), (w.src2, false), (w.src3, false)]
  | .unpack => [(w.src2, false)]
  | .tmma | .tmv => [(w.src1, false), (w.src2, true), (w.src3, true)]
  | .ld | .gld => [(w.src1, true)]
  | .st | .gst => [(w.src1, true), (w.src2, false)]
  | .ldblk | .stblk | .gldblk | .gstblk => [(w.src1, true), (w.src2, false), (w.src3, false)]
  | .aadd | .amax | .aswap => [(w.src1, true), (w.src2, false)]
  | .acas => [(w.src1, true), (w.src2, false), (w.src3, false)]
  | .aadd64 => [(w.src1, true), (w.src2, true)]
  | .acas64 => [(w.src1, true), (w.src2, true), (w.src3, true)]
  | .bar => if w.imm.testBit 0 then [(w.src1, true)] else []
  | .red => [(w.src1, w.argmax)]
  | .redv => [(w.src1, false), (w.src3, false)]
  | .sample => [(w.src1, true), (w.src2, false)]
  | .nop | .br | .brall | .brany | .movi | .tid | .ftrd | .endG | .tzero | .waitI | .fenceI => []

/-- Registers an operation writes: number, and whether as a pair (R94, R106, R151, R221). -/
def SpnOp.writes (o : SpnOp) (w : IWord) : List (Nat × Bool) :=
  match o with
  | .movi | .movhi | .tid | .fadd | .fmul | .ffma | .fmax | .fmin | .fexp2 | .flog2 | .frcp | .frsq | .iadd | .imul
  | .andB | .orB | .xorB | .shl | .shr | .shfl | .cvtf | .unpack | .ld | .gld | .aadd | .amax | .aswap | .acas
  | .gsum | .gsel | .sample | .emit => [(w.dst, false)]
  | .ftrd | .aadd64 | .acas64 | .kvb => [(w.dst, true)]
  | .red => [(w.dst, w.argmax)]
  | _ => []

/-- The predicate an operation writes; p0 always reads 1, and a write of it is discarded. -/
def SpnOp.writesPred (o : SpnOp) (w : IWord) : Option Nat :=
  match o with
  | .setp | .fsetp | .isetp => some (w.imm % 8)
  | _ => none

/-- Register numbers that a list of uses names. -/
def usedRegs (l : List (Nat × Bool)) : List Nat := l.flatMap fun u => if u.2 then [u.1, u.1 + 1] else [u.1]

/-- The operation takes its operands in the slot that FSLOT names, or ignores FSLOT (R93, R96). -/
def fslotClass (cls : Nat) : Bool := cls == 2 || cls == 3 || cls == 8

/-- The reserved encodings of IMM (R93): reserved bits, comparison codes, reduction operations, format codes (R127, R132). -/
def SpnOp.immReserved (o : SpnOp) (w : IWord) (latency : Bool) : Bool :=
  match o with
  | .setp => w.imm / 8 != 0
  | .fsetp => w.imm / 64 != 0 || bits w.imm 3 3 == 7
  | .isetp => w.imm / 64 != 0 || decide (6 ≤ bits w.imm 3 3)
  | .cvtf => decide (9 < w.imm % 256) || decide (9 < w.imm / 256)
  | .tmma | .tmv => w.imm.testBit 3 || bits w.imm 10 6 != 0
  | .tstore => decide (4 < w.imm / 256)
  | .aadd | .amax | .aswap | .acas | .aadd64 | .acas64 | .bar => w.imm / 2 != 0
  | .red => decide (5 < w.imm % 16)
  | .redv => decide (4 < w.imm % 16)
  | .gsum | .gsel => w.imm != 0
  | .sample | .emit | .kvb => w.imm / 64 != 0 || (latency && w.imm % 64 != 0)
  | _ => false

/-- The causes of fault code 0x01, all found at decode (R93, R106, R127, R132, R221): the operation of a legal word. -/
def legalOp (w : IWord) (latency : Bool) : Option SpnOp :=
  match opOf w.cls w.op with
  | none => none
  | some o =>
    if (o.reads w ++ o.writes w).any (fun u => u.2 && u.1 % 2 == 1) then none
    else if w.fslot ≠ 0 ∧ !fslotClass w.cls then none
    else if o.immReserved w latency then none
    else some o

end Sys2Proof.Machine
end

