-- ==== Sys2Proof/Machine/Flags.lean ====
section
/-! DEFINITION. Machine/Flags.lean: the comparisons that set predicates (R94, R129), and what BRALL and BRANY make of them. -/

namespace Sys2Proof.Machine

/-- SETP: the source differs from 0 (R94). -/
def setpTest (a : Nat) : Bool := a != 0

/-- FSETP's comparison of two FP32 values under IMM[5:3] (R94, R129). -/
def fsetpTest (code a b : Nat) : Bool :=
  let x := f32 a
  let y := f32 b
  if x.isNan || y.isNan then code == 1 || code == 6
  else match code with
    | 0 => x.eqv y
    | 1 => !x.eqv y
    | 2 => x.lt y
    | 3 => x.lt y || x.eqv y
    | 4 => y.lt x
    | 5 => y.lt x || x.eqv y
    | _ => false

/-- ISETP's comparison of two signed 32-bit values under IMM[5:3] (R94). -/
def isetpTest (code a b : Nat) : Bool :=
  let x := signed 32 a
  let y := signed 32 b
  match code with
  | 0 => decide (x = y)
  | 1 => decide (x ≠ y)
  | 2 => decide (x < y)
  | 3 => decide (x ≤ y)
  | 4 => decide (y < x)
  | 5 => decide (y ≤ x)
  | _ => false

end Sys2Proof.Machine
end

