-- ==== Sys2Proof/Machine/Gangs.lean ====
section
/-! DEFINITION. Machine/Gangs.lean: spindles and gangs: registers and predicates, issue of one instruction (R89, R90, R93,
R97, R569, R570), commit (R98), faults and the stop at group boundaries (R101, R102), replay (R99, R100), and reads of DRAM
lines by a spindle's engines with test injection (R571).
The choices of the model here: logs 4, 15, 38 and 62. -/

namespace Sys2Proof.Machine

/-! ### Access -/

def State.spindle (s : State) (i : Nat) : Spindle := smapGet (fun _ => Spindle.empty) s.spn i

def State.setSpindle (s : State) (i : Nat) (x : Spindle) : State :=
  { s with spn := smapSet (fun _ => Spindle.empty) s.spn i x }

def State.updSpindle (s : State) (i : Nat) (f : Spindle → Spindle) : State := s.setSpindle i (f (s.spindle i))

/-- A resident gang of a spindle. -/
def State.gang (s : State) (i g : Nat) : Option Gang := (s.spindle i).gangs.find? (·.gang == g)

/-- Change a gang. -/
def State.updGang (s : State) (i g : Nat) (f : Gang → Gang) : State :=
  s.updSpindle i fun x => { x with gangs := x.gangs.map fun y => if y.gang = g then f y else y }

/-- A gang leaves its spindle and frees its units (R87). -/
def State.dropGang (s : State) (i g : Nat) : State :=
  s.updSpindle i fun x => { x with gangs := x.gangs.filter (·.gang != g) }

/-- Register `n` of a thread (R88). -/
def Gang.reg (x : Gang) (t n : Nat) : Nat := smapGet (fun _ => 0) x.regs (t * 128 + n)

def Gang.setReg (x : Gang) (t n v : Nat) : Gang := { x with regs := smapSet (fun _ => 0) x.regs (t * 128 + n) (v % 2 ^ 32) }

/-- A register pair as a 64-bit value (R93). -/
def Gang.pair (x : Gang) (t n : Nat) : Nat := x.reg t n + 2 ^ 32 * x.reg t (n + 1)

def Gang.setPair (x : Gang) (t n v : Nat) : Gang := (x.setReg t n v).setReg t (n + 1) (v / 2 ^ 32)

/-- Write a register, or a pair. -/
def Gang.put (x : Gang) (t n v : Nat) (pair : Bool) : Gang := if pair then x.setPair t n v else x.setReg t n v

/-- A predicate of a thread; p0 always reads 1. -/
def Gang.pred (x : Gang) (t n : Nat) : Bool := n == 0 || smapGet (fun _ => false) x.preds (t * 8 + n)

def Gang.setPred (x : Gang) (t n : Nat) (v : Bool) : Gang :=
  if n = 0 then x else { x with preds := smapSet (fun _ => false) x.preds (t * 8 + n) v }

/-- The active threads (R89). -/
def Gang.threads (x : Gang) : List Nat := List.range x.active

/-- The enabled threads of an instruction (R89). -/
def Gang.enabled (x : Gang) (w : IWord) : List Nat := x.threads.filter fun t => x.pred t w.pred

/-- The thread whose operands an instruction for the whole gang takes (R569). -/
def Gang.lead (x : Gang) (w : IWord) : Nat := (x.enabled w).headD 0

/-- Do something for each thread of a list. -/
def Gang.forThreads (x : Gang) (ts : List Nat) (f : Gang → Nat → Gang) : Gang := ts.foldl f x

/-- Write a result to a register of each thread of a list. -/
def Gang.putAll (x : Gang) (ts : List Nat) (n : Nat) (pair : Bool) (v : Nat → Nat) : Gang :=
  x.forThreads ts fun x t => x.put t n (v t) pair

/-- The set a spindle belongs to (R108). -/
def State.setOf (s : State) (i : Nat) : Nat := s.get (Reg.SPN_SET_SET i)

/-- The set of a spindle is in latency mode (R58). -/
def State.latencySet (s : State) (set : Nat) : Bool := ((s.setDef set).map (·.mode)).getD 0 == 0

/-- Format slot `n` of the spindle's set; none when it is empty (R62, R96). -/
def State.fmtSlot (s : State) (i n : Nat) : Option FmtSlot := (alGet [] s.jig.fmts (s.setOf i)).find? (·.slot == n)

/-- The bowl partition of a use in the spindle's set: base and size in bytes (R60, R61). -/
def State.bowlPart (s : State) (i use : Nat) : Option (Nat × Nat) :=
  ((alGet [] s.jig.bowls (s.setOf i)).find? (·.use == use)).map fun p => (p.base * 4096, p.size * 4096)

/-! ### Groups -/

/-- Instructions that a group has issued. -/
def Gang.issuedCount (x : Gang) : Nat := x.groupIssued.foldl (· + ·) 0

/-- The gang waits at a collective of its set (R572). -/
def Gang.atCollective (x : Gang) : Bool :=
  match x.wait with
  | .bar _ | .red _ _ _ _ | .redv _ _ _ => true
  | .running | .unit => false

/-- The gang stands at a group boundary with nothing in flight; one that waits at a collective does (R75). -/
def Gang.atBoundary (x : Gang) : Bool :=
  x.atCollective
    || x.wait == .running && !x.closed && x.issuedCount == 0 && x.loads.isEmpty && x.held.isEmpty && !x.replaying

/-- Begin a new group at the present instruction. -/
def Gang.newGroup (x : Gang) : Gang :=
  { x with groupStart := x.pc, groupReads := [], groupWrites := [], groupIssued := [0, 0, 0, 0, 0], savedRegs := x.regs,
           savedPreds := x.preds, closed := false, replaying := false, held := [], loads := [] }

/-- Slots of a group enter a counter: those that QUAL selects (R426, R428). -/
def State.countSlots (s : State) (i code : Nat) (l : List Nat) : State :=
  s.countQ 0 i code fun q =>
    let m := if q % 32 = 0 then 31 else q % 32
    ((List.range 5).map fun k => if m.testBit k then l.getD k 0 else 0).foldl (· + ·) 0

/-! ### Transactions in flight (R103, R186) -/

/-- The DRAM ranges that the engines of a spindle access: its local block copies, from their issue, and the tensor instruction that
executes. All their lines are in flight as far as the limit of R103 lets them (log 67). -/
def State.engineRanges (s : State) (i : Nat) : List (Nat × Nat) :=
  let sp := s.spindle i
  ((sp.copies.filter fun c => !c.global).map fun c => (c.addr, c.size)) ++ ((sp.tensorQ.head?).map (·.reads)).getD []

/-- Transactions in flight of a spindle, local and remote, at most 1,024 (R103, R108). -/
def State.spnTxns (s : State) (i : Nat) : Nat :=
  let mine := s.lm.txns.filter fun t => match t.owner with
    | .load j _ _ _ => j == i
    | .store j _ _ => j == i
  min 1024 (mine.length + s.spnRemote i + ((s.engineRanges i).map fun r => rangeLines r.1 r.2).sum)

/-- Lines of a range on a pier. -/
def pierLines (p : Nat) (r : Nat × Nat) : Nat := (List.range (rangeLines r.1 r.2)).countP fun k => pierOf (lineOf r.1 + k) == p

/-- Transactions in flight at a pier, at most 65,536 (R186, R189). -/
def State.pierTxns (s : State) (p : Nat) : Nat :=
  let engines := (s.spn.flatMap fun e => s.engineRanges e.1).map (pierLines p)
  min 65536 ((s.lm.txns.countP fun t => pierOf (lineOf t.addr) == p) + engines.sum)

/-- The limits leave room for the transactions of a spindle at the local DRAM addresses of a list, and for `far` remote ones (R103); a pier
without an entry free takes none, and the other piers are unaffected (R186). Pacing gives the spindles no DRAM credit in one 10 µs
interval of two (R502). -/
def State.txnRoom (s : State) (i : Nat) (l : List Nat) (far : Nat) : Bool :=
  let all := ((List.range 4).map s.pierTxns).sum
  (l.isEmpty || !s.pwr.paceOff) && decide (s.spnTxns i + l.length + far ≤ 1024) && decide (all + l.length ≤ 262144)
    && (List.range 4).all fun p =>
      let k := l.countP fun a => pierOf (lineOf a) == p
      k == 0 || decide (s.pierTxns p + k ≤ 61440)

/-- The accesses of a list, each global or local, that become transactions at a pier, and how many go to other modules. -/
def State.localDram (s : State) (l : List (Bool × Nat)) : List Nat :=
  l.filterMap fun p => if p.1 && !s.isOwn p.2 then none else if placeOf (gLocal p.2) = .dram then some (gLocal p.2) else none

def State.farCount (s : State) (l : List (Bool × Nat)) : Nat := l.countP fun p => p.1 && !s.isOwn p.2

/-- There is room for the accesses of a list (R103). -/
def State.accessRoom (s : State) (i : Nat) (l : List (Bool × Nat)) : Bool :=
  s.txnRoom i (s.localDram l) (s.farCount l) && s.remoteRoom (s.farCount l)

/-- An ORD = 1 access of a spindle to this module is in flight (R31, R289). -/
def State.ordBusy (s : State) (i : Nat) : Bool :=
  (s.lm.txns.any fun t => t.ord && match t.owner with
    | .load j _ _ _ => j == i
    | .store j _ _ => j == i)
    || (s.spindle i).copies.any fun c => c.ord

/-- An ORD = 1 access to a bowl of this module: it takes effect after the earlier ORD = 1 accesses of the spindle to the module (R31). -/
def State.ordBowl (s : State) (global : Bool) (a : Nat) : Bool :=
  global && gOrd a && s.isOwn a && (match placeOf (gLocal a) with | .bowl _ _ => true | _ => false)

/-- A held store is released (R98): to DRAM it becomes a transaction, to another module a remote operation. -/
def State.releaseStore (s : State) (i g : Nat) (h : HeldStore) : State :=
  if h.global && !s.isOwn h.addr then s.remoteIssue (.store i g h.pc) 3 h.addr 0 0 h.data
  else
    let a := gLocal h.addr
    match placeOf a with
    | .dram => s.addTxn (.store i g h.pc) a (h.global && gNal h.addr) (h.global && gOrd h.addr) (.write h.data)
    | .bowl _ _ => s.putBytes a h.data
    | _ => s

/-- Held stores are released in order, up to one that ORD makes wait: those that are left, and the state (R31, R98). -/
def State.releaseRun (i g : Nat) : List HeldStore → State → List HeldStore × State
  | [], s => ([], s)
  | h :: l, s => if s.ordBowl h.global h.addr && s.ordBusy i then (h :: l, s) else State.releaseRun i g l (s.releaseStore i g h)

/-- A local address that is unmapped for spindle code, control space included (R29, R433). -/
def unmappedForSpindle (a : Nat) : Bool :=
  decide (a < 2 ^ 43) && match placeOf a with
    | .dram => false
    | .bowl _ _ => false
    | _ => true

/-! ### Bowl order (R104) -/

/-- Two ranges of bytes meet. -/
def rangesMeet (a b : Nat × Nat) : Bool := decide (a.1 < b.1 + b.2) && decide (b.1 < a.1 + a.2)

/-- An engine's access of the gang to bytes of the spindle's bowl is still to come: a queued tensor instruction's, if asked for, or a
block copy's (R104). -/
def State.bowlBusy (s : State) (i g : Nat) (tensor : Bool) (r : Nat × Nat) : Bool :=
  let sp := s.spindle i
  (tensor && sp.tensorQ.any fun t => t.gang == g && t.bowl.any (rangesMeet r)) || sp.copies.any fun c => c.gang == g && rangesMeet r (c.bowl, c.size)

/-- The own bowl bytes of an access at a local address. -/
def ownBowl (i a n : Nat) : List (Nat × Nat) :=
  match placeOf a with
  | .bowl j off => if j = i then [(off, n)] else []
  | _ => []

/-- An access of a gang to its own bowl must wait for an earlier one of the gang (R104). -/
def State.bowlWait (s : State) (i g a n : Nat) : Bool := (ownBowl i a n).any (s.bowlBusy i g true)

/-- A gang's instance is stopping, and it stands at a boundary: it ends there (R101). -/
def State.stopHere (s : State) (i g : Nat) : State :=
  match s.gang i g with
  | none => s
  | some x =>
    match s.inst x.set with
    | some n => if n.stopping && x.atBoundary then (s.dropGang i g).instCheck x.set else s
    | none => s

/-- Commit the group of a gang when it has ended and all its loads have returned (R98): its slots count as retired, its
stores are released in order, and a replay of it has succeeded. -/
def State.tryCommit (s : State) (i g : Nat) : State :=
  match s.gang i g with
  | none => s
  | some x =>
    if x.closed && x.loads.isEmpty && x.wait == .running && (x.held.isEmpty || s.accessRoom i (x.held.map fun h => (h.global, h.addr))) then
      let r := State.releaseRun i g x.held s
      if r.1.isEmpty then
        let s := r.2.countSlots i 0x001 x.groupIssued
        let s := if x.replaying then s.sat (Reg.SPN_REPLAY_REPLAY i) 1 else s
        (s.updGang i g Gang.newGroup).stopHere i g
      else r.2.updGang i g fun y => { y with held := r.1 }
    else s

/-! ### Faults -/

/-- SPN_FAULT records the first fault, and MORE any further one (R102, R108). -/
def State.recordFault (s : State) (i g code detail addr : Nat) (pc : Int) : State :=
  if s.flag (Reg.SPN_FAULT_VALID i) then s.set (Reg.SPN_FAULT_MORE i) 1
  else
    let s := s.set (Reg.SPN_FAULT_CODE i) code
    let s := s.set (Reg.SPN_FAULT_GANG i) g
    let s := s.set (Reg.SPN_FAULT_DETAIL i) detail
    let s := s.set (Reg.SPN_FAULT_PC i) (unsigned 32 pc)
    let s := s.set (Reg.SPN_FAULT_ADDR_ADDR i) addr
    s.set (Reg.SPN_FAULT_VALID i) 1

/-- The gangs of a set that is stopping and stand at a boundary end (R75, R101); on a fault those in replay abandon it and
discard their held stores. -/
def State.stopAtBoundary (s : State) (set : Nat) (abandon : Bool) : State :=
  (s.spindlesOf set).foldl (fun s k =>
    (s.gangsOn set k).foldl (fun s x =>
      if x.atBoundary then s.dropGang k x.gang
      else if abandon && x.replaying then (s.countSlots k 0x002 x.groupIssued).dropGang k x.gang
      else s) s) s

/-- Stop the instance on a set (R75, R101, R199). -/
def State.stopInst (s : State) (set : Nat) (abandon : Bool) : State :=
  ((s.updInst set fun i => { i with stopping := true }).stopAtBoundary set abandon).instCheck set

/-- A fault stops the gang before the instruction takes effect, and ends the request (R101, R102). -/
def State.spnFault (s : State) (i g code detail addr : Nat) (pc : Int) : State :=
  let s := s.recordFault i g code detail addr pc
  match s.gang i g with
  | none => s
  | some x =>
    let s := (s.countSlots i 0x002 x.groupIssued).dropGang i g
    (s.requestFault x.set code detail).stopInst x.set true

/-- A fault found after its gang may have gone on or ended: as above while the gang's instance lives, else only recorded. -/
def State.engineFault (s : State) (i g code detail addr : Nat) (pc : Int) : State :=
  if g < 256 then
    match s.gang i g with
    | some _ => s.spnFault i g code detail addr pc
    | none => ((s.recordFault i g code detail addr pc).requestFault (s.setOf i) code detail).stopInst (s.setOf i) true
  else s.recordFault i g code detail addr pc

/-! ### Issue -/

/-- What an instruction's body answers. -/
inductive Issued where
  /-- the instruction has taken effect, and the next one follows -/
  | done (s : State)
  /-- as `done`; the next instruction lies at this offset from this one -/
  | jump (s : State) (off : Int)
  /-- the unit it needs does not accept it now (R90, R103) -/
  | wait
  | fault (s : State) (code detail addr : Nat)

/-- The address of instruction `pc` of a program (R205). -/
def fetchAddr (x : Gang) (pc : Int) : Nat := unsigned 64 ((x.progAddr : Int) + 8 * pc)

/-- The word at the gang's next instruction, when the instruction cache holds its line (R86). -/
def State.fetchWord (s : State) (i : Nat) (x : Gang) : Option Nat :=
  let a := fetchAddr x x.pc
  ((s.spindle i).icache.find? (·.1 == a / 64)).map fun l => leAt l.2 (a % 64) 8

/-- Commit-buffer entries that an instruction takes: one for each enabled thread of a store (R97). -/
def storeEntries (o : SpnOp) (n : Nat) : Nat := if o = .st ∨ o = .gst then n else 0

/-- A boundary stands before the instruction (R97). -/
def Gang.boundaryBefore (x : Gang) (o : SpnOp) (w : IWord) : Bool :=
  let ws := usedRegs (o.writes w) ++ ((o.writesPred w).filter (· != 0)).toList.map (128 + ·)
  o.ownGroup || ws.any x.groupReads.contains || decide (32 < x.held.length + storeEntries o (x.enabled w).length)

/-- The masks of a group after an instruction (R97). -/
def Gang.mask (x : Gang) (o : SpnOp) (w : IWord) : Gang :=
  let pr := if w.pred = 0 ∨ o = .br then [] else [128 + w.pred]
  let rs := (usedRegs (o.reads w) ++ pr).filter fun r => !x.groupWrites.contains r && !x.groupReads.contains r
  let ws := usedRegs (o.writes w) ++ ((o.writesPred w).filter (· != 0)).toList.map (128 + ·)
  { x with groupReads := x.groupReads ++ rs, groupWrites := x.groupWrites ++ ws.filter (!x.groupWrites.contains ·) }

/-! ### Loads -/

/-- Add a load to a gang's loads in flight; its number is the spindle's next. -/
def State.addLoad (s : State) (i g : Nat) (l : PendingLoad) : State :=
  (s.updSpindle i fun x => { x with nextNum := x.nextNum + 1 }).updGang i g fun x => { x with loads := x.loads ++ [l] }

/-- The result of one thread of a load comes back; a gang that has gone takes nothing. -/
def State.loadResult (s : State) (i g num t : Nat) (r : LoadResult) : State :=
  s.updGang i g fun x =>
    { x with loads := x.loads.map fun l => if l.num = num then { l with results := alSet l.results t r } else l }

def LoadResult.isFailed (r : LoadResult) : Bool := r == .failed

def LoadResult.value? (r : LoadResult) : Option Nat :=
  match r with
  | .value v => some v
  | _ => none

/-! ### Replay (R99, R100) -/

/-- A replay begins (R426). -/
def State.replayBegun (s : State) (i : Nat) : State := s.count 0 i 0x00c 1

/-- The group is discarded and its gang resumes at the group's first instruction (R99). -/
def State.replayGroup (s : State) (i g : Nat) (x : Gang) : State :=
  let s := (s.replayBegun i).countSlots i 0x002 x.groupIssued
  s.updGang i g fun y =>
    { y with pc := y.groupStart, groupReads := [], groupWrites := [], groupIssued := [0, 0, 0, 0, 0],
             regs := y.savedRegs, preds := y.savedPreds, closed := false, replaying := true, held := [], loads := [] }

/-! ### Lines read by the engines of a spindle -/

/-- The read of a line reaches the pier's DRAM (R571). -/
def State.reachesDram (s : State) (l : Nat) : Bool := !s.cached l && !s.writePending l

/-- The spindle counts a line that a re-read made good (R169). -/
def State.rereadSpn (s : State) (i : Nat) : State := (s.sat (Reg.SPN_REPLAY_REREAD i) 1).count 0 i 0x00d 1

/-- A line of a spindle made good by the re-read is counted (R169). -/
def State.rereadGood (s : State) (i l : Nat) : State := (s.rereadOk l).rereadSpn i

/-- One read of a line by an engine of spindle `i`, with the pier's re-read: the bytes, or none. `takes`: the read takes a pending
injection. `force` names a line whose reads an injection of kind 3 fails on the replay; the answer's second part is a line that took
such an injection. -/
def State.engineLine (s : State) (i l : Nat) (nal takes : Bool) (force : Option Nat) : Option (List Byte) × Option Nat × State :=
  let inj := if force = some l then 2 else if takes then s.get (Reg.SPN_CTL_INJECT i) else 0
  if s.reachesDram l && inj != 0 then
    let s := if force = some l then s else s.set (Reg.SPN_CTL_INJECT i) 0
    let s := (s.count 2 (pierOf l) 0x004 1).dramFetch l 0
    let r := if inj = 1 then State.dramReads l (Config.upsetRead s.free) 1 1 s.drawn else (none, 2, s.dramAgain l 0)
    match r.1 with
    | some d =>
      let s := (r.2.2.rereadGood i l).count 0 i 0x00e 1
      (some d, none, if nal then s else (s.lineTake l d).installLocal l)
    | none => (none, if inj = 3 then some l else none, r.2.2.detectionFailure l)
  else
    let r := s.sliceRead l nal
    let s := if r.1.isSome && r.2.1 == 2 then r.2.2.rereadSpn i else r.2.2
    (r.1, none, if r.1.isSome && r.2.1 != 0 then s.count 0 i 0x00e 1 else s)

/-- What an engine's pass over its lines gives: the data or none, the line that took an injection of kind 3, the first line
that failed, and the state. -/
structure EngineRead where
  data : Option (List Byte)
  inj : Option Nat
  bad : Option Nat
  s : State

/-- One pass over the lines of a range by an engine. -/
def State.enginePass (s : State) (i a n : Nat) (takes : Bool) (force : Option Nat) : EngineRead :=
  (piecesOf a n).foldl (fun acc x =>
    let r := acc.s.engineLine i x.1 false takes force
    let d := match acc.data, r.1 with
      | some l, some d => some (l ++ slice d x.2.1 x.2.2)
      | _, _ => none
    { data := d, inj := r.2.1.or acc.inj, bad := acc.bad.or (if r.1.isNone then some x.1 else none), s := r.2.2 })
    { data := some [], inj := none, bad := none, s := s }

/-- A replay ended: counted as succeeded or failed (R108). -/
def State.replayEnd (s : State) (i : Nat) (ok : Bool) : State :=
  if ok then s.sat (Reg.SPN_REPLAY_REPLAY i) 1 else s.sat (Reg.SPN_REPLAY_FAILED i) 1

/-- One pass over the ranges of a tile. -/
def State.tilePass (s : State) (i : Nat) (ranges : List (Nat × Nat)) (takes : Bool) (force : Option Nat) : EngineRead :=
  ranges.foldl (fun acc x =>
    let r := acc.s.enginePass i x.1 x.2 takes force
    let d := match acc.data, r.data with
      | some l, some d => some (l ++ d)
      | _, _ => none
    { data := d, inj := r.inj.or acc.inj, bad := acc.bad.or r.bad, s := r.s })
    { data := some [], inj := none, bad := none, s := s }

/-- The ranges of a tile, read by the tensor engine: once, and once more as a whole when a line failed (R99). `early`: the first reads were
issued before the injection that is pending. The data of all ranges, one behind the other, or the address of the line that failed. -/
def State.tileRead (s : State) (i : Nat) (ranges : List (Nat × Nat)) (early : Bool) : Except Nat (List Byte) × State :=
  let r := s.tilePass i ranges (!early) none
  match r.data with
  | some l => (.ok l, r.s)
  | none =>
    let q := (r.s.replayBegun i).tilePass i ranges true r.inj
    match q.data with
    | some l => (.ok l, q.s.replayEnd i true)
    | none => (.error (64 * q.bad.getD 0), q.s.replayEnd i false)

/-- A line read by a consumer that replays lines: once, and once more as a new transaction when it failed (R99). `takes` and `again`: the
first read and the replay take a pending injection. -/
def State.lineReplay (s : State) (i l : Nat) (nal takes again : Bool) : Option (List Byte) × State :=
  let r := s.engineLine i l nal takes none
  match r.1 with
  | some d => (some d, r.2.2)
  | none =>
    let q := (r.2.2.replayBegun i).engineLine i l nal again r.2.1
    (q.1, q.2.2.replayEnd i q.1.isSome)

/-! ### Operands of bowl and memory -/

/-- The first byte past the bowl (R95). -/
def bowlOk (off n : Nat) : Bool := decide (off + n ≤ bowlBytes)

/-- The spindle an operand of a command names. -/
def spn (i : Fin 288) : Nat := i.val

end Sys2Proof.Machine
end

