-- ==== Sys2Proof/Machine/Scalar.lean ====
section
/-! DEFINITION. Machine/Scalar.lean: the scalar and control instructions of the spindles (class SCL, R94) and the
instruction that faults at decode (R93). -/

namespace Sys2Proof.Machine

/-- An instruction whose effect is a register of each enabled thread. -/
def toReg (f : State → Gang → IWord → Nat → Nat) (s : State) (i : Nat) (x : Gang) (w : IWord) : Issued :=
  .done (s.updGang i x.gang fun y => y.putAll (x.enabled w) w.dst false (f s x w))

/-- An instruction whose effect is a predicate of each enabled thread. -/
def toPred (f : Gang → IWord → Nat → Bool) (s : State) (i : Nat) (x : Gang) (w : IWord) : Issued :=
  .done (s.updGang i x.gang fun y => y.forThreads (x.enabled w) fun y t => y.setPred t (w.imm % 8) (f x w t))

/-- NOP (R94). -/
def bodyNop (s : State) (_ : Nat) (_ : Gang) (_ : IWord) : Issued := .done s

/-- BR (R94): to PC + IMM, whatever the predicate that PRED names: the specification does not say that BR needs an enabled thread
(DESIGN CHOICE, log 71). -/
def bodyBr (s : State) (_ : Nat) (_ : Gang) (w : IWord) : Issued := .jump s w.simm

/-- BRALL (R94): taken when PRED is 1 in every active thread. -/
def bodyBrall (s : State) (_ : Nat) (x : Gang) (w : IWord) : Issued :=
  .jump s (if x.threads.all fun t => x.pred t w.pred then w.simm else 1)

/-- BRANY (R94): taken when PRED is 1 in at least one active thread. -/
def bodyBrany (s : State) (_ : Nat) (x : Gang) (w : IWord) : Issued :=
  .jump s (if x.threads.any fun t => x.pred t w.pred then w.simm else 1)

/-- FTRD (R94): the pair takes fabric time. -/
def bodyFtrd (s : State) (i : Nat) (x : Gang) (w : IWord) : Issued :=
  .done (s.updGang i x.gang fun y => y.putAll (x.enabled w) w.dst true fun _ => s.ft)

/-- END (R94): the gang ends and frees its units; the request ends with its last gang (R217). -/
def bodyEnd (s : State) (i : Nat) (x : Gang) (_ : IWord) : Issued :=
  .done (((s.countSlots i 0x001 [1, 0, 0, 0, 0]).dropGang i x.gang).instCheck x.set)

end Sys2Proof.Machine
end

