-- ==== Sys2Proof/Machine/Vector.lean ====
section
/-! DEFINITION. Machine/Vector.lean: the vector instructions of the spindles (class VEC; R94, R128 to R130). -/

namespace Sys2Proof.Machine

/-- A result from SRC1 and SRC2. -/
def binary (f : Nat → Nat → Nat) : State → Nat → Gang → IWord → Issued :=
  toReg fun _ x w t => f (x.reg t w.src1) (x.reg t w.src2)

/-- An approximate operation (R130): each enabled thread draws a free value within the error bound (log 1). -/
def approx (f : Nat → Nat → Nat) (s : State) (i : Nat) (x : Gang) (w : IWord) : Issued :=
  .done ((s.updGang i x.gang fun y =>
    y.putAll (x.enabled w) w.dst false fun t => f (Config.freeNat (s.free + t)) (x.reg t w.src1)).drawnBy 32)

/-- SHFL (R94): SRC1 of the thread that SRC2[4:0] names; 0 when it is not active. -/
def shfl (x : Gang) (w : IWord) (t : Nat) : Nat :=
  let u := x.reg t w.src2 % 32
  if u < x.active then x.reg u w.src1 else 0

end Sys2Proof.Machine
end

