-- ==== Sys2Proof/Machine/Convert.lean ====
section
/-! DEFINITION. Machine/Convert.lean: the conversion instructions of the spindles (class CVT): CVTF, PACK and UNPACK
(R131 to R136), with the block scales of R119 and R120.
The choices of the model here: logs 13, 20 and 21. -/

namespace Sys2Proof.Machine

/-- A power of two as a value. -/
def pow2Val (k : Int) : FVal := let nd := scale2 1 1 k; .fin false nd.1 nd.2

/-- The value of an E8M0 code (R119). -/
def e8m0 (c : Nat) : FVal := if c = 255 then .nan else pow2Val ((c : Int) - 127)

/-- The value of a block scale byte under WSCALE 1 or 2 (R119, R120). -/
def scaleVal (wscale c : Nat) : FVal := if wscale = 1 then e8m0 c else e4m3.decode c

/-- The largest magnitude of a list of finite values. -/
def amaxOf (l : List FVal) : FVal := l.foldl (fun m v => if m.lt v.abs then v.abs else m) (.fin false 0 1)

/-- A block holds a NaN or an infinity (R136). -/
def FVal.special (v : FVal) : Bool :=
  match v with
  | .fin _ _ _ => false
  | _ => true

def FVal.zero? (v : FVal) : Bool :=
  match v with
  | .fin _ n _ => n == 0
  | _ => false

/-- emax of R134. -/
def mxEmax (wfmt : Nat) : Int :=
  match wfmt with
  | 3 => 8 | 4 => 15 | 5 => 4 | 6 => 2 | 7 => 2 | _ => 6

/-- The MX scale code of a block (R134). -/
def mxScale (wfmt : Nat) (l : List FVal) : Nat :=
  match amaxOf l with
  | .fin _ n d => if n = 0 then 0x7f else (clampInt (-127) 127 (log2Frac n d - mxEmax wfmt) + 127).toNat
  | _ => 0xff

/-- Q of R135. -/
def fineQ (wfmt : Nat) : FVal :=
  match wfmt with
  | 5 => .fin false 28 1
  | 6 => .fin false 15 2
  | 7 => .fin false 6 1
  | 9 => .fin false 7 1
  | _ => .fin false 1 1

/-- The fine scale code of a block (R135): amax / Q rounded toward +Inf to E4M3, from 2⁻⁹ to 448. -/
def fineScale (wfmt : Nat) (l : List FVal) : Nat :=
  let m := amaxOf l
  if m.zero? then 0x38
  else
    let q := m.div (fineQ wfmt)
    (((List.range 0x7f).drop 1).find? fun c => !(e4m3.decode c).lt q).getD 0x7e

/-- An element of a block divided by its scale, in the weight format (R134, R135); TR5 as the weight plus one. -/
def packElem (wfmt : Nat) (v scale : FVal) : Nat :=
  let q := v.div scale
  if wfmt = 10 then (q.toIntSat (-1) 1 + 1).toNat
  else match floatFmt wfmt with
    | some f => f.encodeSat q
    | none => unsigned (fmtWidth wfmt) (q.toIntSat (intLo wfmt) (intHi wfmt))

/-- A zero element of a weight format. -/
def zeroElem (wfmt : Nat) : Nat := if wfmt = 10 then 1 else 0

/-- One block of a pack record: its scale byte and its elements (R134 to R136). -/
def packBlock (wfmt wscale : Nat) (l : List FVal) : Nat × List Nat :=
  if l.any FVal.special then (if wscale = 1 then 0xff else 0x7f, l.map fun _ => zeroElem wfmt)
  else
    let c := if wscale = 1 then mxScale wfmt l else fineScale wfmt l
    (c, l.map fun v => packElem wfmt v (scaleVal wscale c))

/-- Five trits to a byte (R115, R117); places beyond the list hold the trit 0 (R133). -/
def tritBytes (l : List Nat) : List Byte :=
  (List.range ((l.length + 4) / 5)).flatMap fun j =>
    leBytes 1 (((List.range 5).map fun i => l.getD (5 * j + i) 0 * 3 ^ i).foldl (· + ·) 0)

/-- Elements packed as R117 states, on 32 bytes. -/
def packedElems (wfmt : Nat) (l : List Nat) : List Byte :=
  if wfmt = 10 then let t := tritBytes l; t ++ List.replicate (32 - t.length) 0
  else packElems (fmtWidth wfmt) l 32

/-- The 64 B pack record of 32 values (R133). -/
def packRecord (wfmt wscale : Nat) (l : List FVal) : List Byte :=
  let blocks := if wscale = 1 then [packBlock wfmt 1 l] else [packBlock wfmt 2 (l.take 16), packBlock wfmt 2 (l.drop 16)]
  let scales := blocks.flatMap fun b => leBytes 1 b.1
  packedElems wfmt (blocks.flatMap (·.2)) ++ scales ++ List.replicate (32 - scales.length) 0

/-- Element `t` of a pack record, multiplied by its block scale, in FP32 (R136). -/
def unpackElem (wfmt wscale : Nat) (rcd : List Byte) (t : Nat) : Nat :=
  let sc := scaleVal wscale (leAt rcd (if wscale = 1 then 32 else 32 + t / 16) 1)
  let v : FVal :=
    if wfmt = 10 then .ofInt (tritOf (leAt rcd (t / 5) 1) (t % 5)) else decodeFmt wfmt (elemAt (fmtWidth wfmt) rcd t)
  fp32.encode (v.mul sc)

/-- The slot and bowl offset of PACK and UNPACK are usable, or the instruction faults (R62, R95, R96, R133): a slot with
no block scale has no pack record (log 21). -/
def packCheck (s : State) (i : Nat) (x : Gang) (w : IWord) (f : FmtSlot → Nat → Issued) : Issued :=
  if (x.enabled w).isEmpty then .done s
  else
    let off := x.reg (x.lead w) w.src2
    match s.fmtSlot i w.fslot with
    | none => .fault s 0x03 0 0
    | some f0 =>
      if f0.wscale = 0 then .fault s 0x04 0 0
      else if !bowlOk off 64 then .fault s 0x05 0 (bowlAddr i off)
      else if off % 64 ≠ 0 then .fault s 0x06 0 (bowlAddr i off)
      else if s.bowlWait i x.gang (bowlAddr i off) 64 then .wait
      else f f0 off

/-- The bowl bytes of a held store that lie in a record of 64 B at a local address (R104): its place in the record. -/
def State.heldIn (s : State) (h : HeldStore) (a : Nat) : Option Nat :=
  let b := gLocal h.addr
  if (!h.global || s.isOwn h.addr) && decide (a ≤ b) && decide (b < a + 64) then some (b - a) else none

/-- A record written to the bowl by a gang that holds stores to bytes of it (R98, R104): those stores came first, so when they are released
they leave the record's bytes. -/
def State.heldTake (s : State) (i g a : Nat) (rcd : List Byte) : State :=
  s.updGang i g fun y => { y with held := y.held.map fun h => match s.heldIn h a with
    | some k => { h with data := slice rcd k h.data.length }
    | none => h }

/-- A record as the gang reads it: with the bytes of the stores that it holds (R98, R104). -/
def State.heldOver (s : State) (x : Gang) (a : Nat) (rcd : List Byte) : List Byte :=
  x.held.foldl (fun l h => match s.heldIn h a with
    | some k => l.take k ++ h.data ++ l.drop (k + h.data.length)
    | none => l) rcd

/-- PACK (R133): the values of the enabled threads; the others contribute 0. -/
def bodyPack (s : State) (i : Nat) (x : Gang) (w : IWord) : Issued :=
  packCheck s i x w fun f off =>
    let vals := (List.range 32).map fun t => if (x.enabled w).contains t then f32 (x.reg t w.src1) else .fin false 0 1
    let rcd := packRecord f.wfmt f.wscale vals
    .done ((s.heldTake i x.gang (bowlAddr i off) rcd).putBytes (bowlAddr i off) rcd)

/-- UNPACK (R136); TR5 codes above 242 are counted (R115). -/
def bodyUnpack (s : State) (i : Nat) (x : Gang) (w : IWord) : Issued :=
  packCheck s i x w fun f off =>
    let rcd := s.heldOver x (bowlAddr i off) (s.bytes (bowlAddr i off) 64)
    let ts := x.enabled w
    let s := s.updGang i x.gang fun y => y.putAll ts w.dst false fun t => unpackElem f.wfmt f.wscale rcd t
    let bad := ((ts.map (· / 5)).eraseDups.filter fun j => decide (242 < leAt rcd j 1)).length
    .done (if f.wfmt = 10 then s.count 0 i 0x010 bad else s)

end Sys2Proof.Machine
end

