-- ==== Sys2Proof/Machine/Tensor.lean ====
section
/-! DEFINITION. Machine/Tensor.lean: the tensor engine (class TNS): queueing (R91, R96, R118, R121, R122) and the arithmetic
of an instruction that completes (R123 to R127).
The choices of the model here: logs 14 and 22. -/

namespace Sys2Proof.Machine

/-! ### Issue -/

/-- WFMT selects the integer path (R96, R124). -/
def intPath (wfmt : Nat) : Bool := decide (8 ≤ wfmt)

/-- Bytes of 64 columns of K weights (R118). -/
def weightBytes (wfmt k : Nat) : Nat := if wfmt = 10 then 64 * k / 5 else 64 * k * fmtWidth wfmt / 8

/-- Elements of a block: a scale block, or a run of 16 when there is no scale (R123, R124). -/
def blockLen (wscale : Nat) : Nat := if wscale = 1 then 32 else 16

/-- Bytes of the scale operand; 0 when it is not read (R121). -/
def scaleBytes (f : FmtSlot) (k : Nat) : Nat :=
  if f.wscale = 0 then (if intPath f.wfmt then 16 else 0) else 16 + 64 * (k / blockLen f.wscale)

/-- An operand of the tensor engine that cannot be read: in DRAM it lies wholly there, in the bowl within it (R95, R118;
log 22). Answers the faulting address, and whether it is an unmapped one. -/
def operandBad (i a n : Nat) (dram : Bool) : Option (Nat × Bool) :=
  if dram then
    if a < dramEnd ∧ a + n ≤ dramEnd then none
    else
      let e := if a < dramEnd then dramEnd else a
      some (e, unmappedForSpindle e)
  else if bowlOk a n then none else some (bowlAddr i a, false)

/-- The tensor queue is full: slot T issues nothing (R91). -/
def State.tensorFull (s : State) (i : Nat) : Bool := decide (4 ≤ (s.spindle i).tensorQ.length)

/-- Queue a tensor instruction when its slot and operands allow it. -/
def tensorIssue (s : State) (i : Nat) (w : IWord) (f : FmtSlot → Issued) : Issued :=
  if s.tensorFull i then .wait
  else match s.fmtSlot i w.fslot with
    | none => .fault s 0x03 0 0
    | some sl => if sl.afmt = 0 ∨ sl.wfmt = 0 then .fault s 0x04 0 0 else f sl

/-- Put an instruction at the end of the tensor queue (R91). -/
def State.tensorPush (s : State) (i : Nat) (t : TensorOp) : State :=
  s.updSpindle i fun x => { x with tensorQ := x.tensorQ ++ [t] }

/-- Queue it, once no block copy of its gang to or from the bowl bytes that it names is to come (R104). -/
def State.tensorTake (s : State) (i : Nat) (t : TensorOp) : Issued :=
  if t.bowl.any (s.bowlBusy i t.gang false) then .wait else .done (s.tensorPush i t)

/-- TMMA and TMV (R94): `rows` of activations. -/
def bodyTmm (kind rows : Nat) (s : State) (i : Nat) (x : Gang) (w : IWord) : Issued :=
  tensorIssue s i w fun f =>
    let t := x.lead w
    let a := x.reg t w.src1
    let wa := x.pair t w.src2
    let sa := x.pair t w.src3
    let k := 64 * (bits w.imm 4 6 + 1)
    let dram := w.imm.testBit 2
    let sb := scaleBytes f k
    let bad (r : Option (Nat × Bool)) (next : Issued) : Issued :=
      match r with
      | some (e, u) => .fault (if u then s.unmapped e 0 i else s) 0x05 0 e
      | none => next
    if f.wfmt = 10 ∧ k % 320 ≠ 0 then .fault s 0x04 0 0
    else if wa % 64 ≠ 0 then .fault s 0x06 0 wa
    else if sb ≠ 0 ∧ sa % 16 ≠ 0 then .fault s 0x06 0 sa
    else
      bad (operandBad i a (rows * k * (fmtWidth f.afmt / 8)) false) <|
      bad (operandBad i wa (weightBytes f.wfmt k) dram) <|
      bad (if sb = 0 then none else operandBad i sa sb dram) <|
      let act := (a, rows * k * (fmtWidth f.afmt / 8))
      let mem := (wa, weightBytes f.wfmt k) :: (if sb = 0 then [] else [(sa, sb)])
      s.tensorTake i
        { gang := x.gang, pc := x.pc, kind, acc := w.imm % 4, slot := f, aOff := a, wAddr := wa, sAddr := sa,
          k, fromDram := dram, scale := 0, fmt := 0, reads := if dram then mem else [], bowl := act :: (if dram then [] else mem),
          early := false }

/-- TZERO (R94). -/
def bodyTzero (s : State) (i : Nat) (x : Gang) (w : IWord) : Issued :=
  tensorIssue s i w fun f => s.tensorTake i
    { gang := x.gang, pc := x.pc, kind := 2, acc := w.imm % 4, slot := f, aOff := 0, wAddr := 0, sAddr := 0,
      k := 0, fromDram := false, scale := 0, fmt := 0, reads := [], bowl := [], early := false }

/-- TSTORE (R94, R127). -/
def bodyTstore (s : State) (i : Nat) (x : Gang) (w : IWord) : Issued :=
  tensorIssue s i w fun f =>
    let t := x.lead w
    let a := x.reg t w.src1
    let n := 4096 * (fmtWidth (w.imm / 256) / 8)
    match operandBad i a n false with
    | some (e, _) => .fault s 0x05 0 e
    | none => s.tensorTake i
      { gang := x.gang, pc := x.pc, kind := 3, acc := w.imm % 4, slot := f, aOff := a, wAddr := 0, sAddr := 0,
        k := 0, fromDram := false, scale := x.reg t w.src2, fmt := w.imm / 256, reads := [], bowl := [(a, n)], early := false }

/-! ### Arithmetic -/

/-- Element `i` of a run of `n` elements, decoded. -/
def runVals (fmt : Nat) (l : List Byte) (n : Nat) : List FVal :=
  (List.range n).map fun i => decodeFmt fmt (elemAt (fmtWidth fmt) l i)

/-- The integer weights of a column (R114, R115). -/
def runInts (wfmt : Nat) (l : List Byte) (n : Nat) : List Int :=
  (List.range n).map fun i =>
    if wfmt = 10 then tritOf (leAt l (i / 5) 1) (i % 5) else signed (fmtWidth wfmt) (elemAt (fmtWidth wfmt) l i)

/-- Block `c` of a list, `n` elements long. -/
def blockOf {α : Type} (l : List α) (n c : Nat) : List α := (l.drop (n * c)).take n

/-- One accumulator element in the float path (R123, R126): free values pick the order of each block's sum; the blocks' results are added in
ascending order, which the specification does not give (DESIGN CHOICE, log 70). -/
def floatElem (wscale free : Nat) (ws xs : List FVal) (scales : List Nat) (acc : Nat) : Nat :=
  let n := blockLen wscale
  (List.range (ws.length / n)).foldl (fun acc c =>
    let p := (freeSum tensorAdd n (free + 2 * n * c) (List.zipWith FVal.mul (blockOf ws n c) (blockOf xs n c))).1
    let p := if wscale = 0 then p else f32 (fp32.encode (p.mul (scaleVal wscale (scales.getD c 0))))
    flushSub (fp32.encode ((f32 acc).add p))) acc

/-- An activation quantised (R124). -/
def quantise (ascale : Nat) (a : FVal) : Int :=
  if bits ascale 23 8 = 0 ∨ bits ascale 23 8 = 255 ∨ ascale.testBit 31 then 0 else (a.div (f32 ascale)).toIntSat (-127) 127

/-- A block scale as sign, M and X (R125); none for NaN. -/
def intScale (wscale c : Nat) : Option (Bool × Nat × Int) :=
  if wscale = 0 then some (false, 1, 0)
  else if wscale = 1 then (if c = 255 then none else some (false, 1, (c : Int) - 127))
  else if c % 128 = 127 then none
  else if bits c 3 4 = 0 then some (c.testBit 7, c % 8, -9)
  else some (c.testBit 7, 8 + c % 8, (bits c 3 4 : Int) - 10)

/-- p × 2^k, rounded to nearest even (R125). -/
def shiftRne (p : Int) (k : Int) : Int :=
  if 0 ≤ k then p * 2 ^ k.toNat else signedNum (decide (p < 0)) (rneDiv p.natAbs (2 ^ (-k).toNat))

/-- One accumulator element in the integer path (R124 to R126): its value and how often it saturated; the blocks are added in ascending order,
which the specification does not give (DESIGN CHOICE, log 70). -/
def intElem (wscale ashift : Nat) (ws qs : List Int) (scales : List Nat) (acc : Int) : Int × Nat :=
  let n := blockLen wscale
  (List.range (ws.length / n)).foldl (fun acc c =>
    match intScale wscale (scales.getD c 0) with
    | none => acc
    | some (neg, m, x) =>
      let p := (List.zipWith (· * ·) (blockOf ws n c) (blockOf qs n c)).foldl (· + ·) 0
      let term := shiftRne (p * m) (x + ashift)
      let v := acc.1 + (if neg then -term else term)
      let r := clampInt (-2147483648) 2147483647 v
      (r, if r = v then acc.2 else acc.2 + 1)) (acc, 0)

/-- Replace the elements of accumulator `a` in the first `rows` rows. -/
def setAcc (l : List (Nat × Nat)) (a rows : Nat) (v : Nat → Nat → Nat) : List (Nat × Nat) :=
  let base := a * 4096
  let new := (List.range (rows * 64)).filterMap fun e =>
    let x := v (e / 64) (e % 64)
    if x = 0 then none else some (base + e, x)
  l.filter (fun e => decide (e.1 < base)) ++ new ++ l.filter (fun e => decide (base + rows * 64 ≤ e.1))

/-- Element of an accumulator. -/
def accAt (l : List (Nat × Nat)) (a r c : Nat) : Nat := smapGet (fun _ => 0) l (a * 4096 + r * 64 + c)

/-- The arithmetic of TMMA and TMV on operands that were read (R123 to R126). -/
def State.tensorMul (s : State) (i : Nat) (t : TensorOp) (rows : Nat) (data : List Byte) : State :=
  let f := t.slot
  let wb := data.take (weightBytes f.wfmt t.k)
  let sb := data.drop (weightBytes f.wfmt t.k)
  let acc := (s.spindle i).acc
  let ab := s.bytes (bowlAddr i t.aOff) (rows * t.k * (fmtWidth f.afmt / 8))
  let rowBytes := t.k * (fmtWidth f.afmt / 8)
  let colBytes := weightBytes f.wfmt t.k / 64
  let nb := if f.wscale = 0 then 0 else t.k / blockLen f.wscale
  let xs := (List.range rows).map fun r => runVals f.afmt (slice ab (r * rowBytes) rowBytes) t.k
  let scales := (List.range 64).map fun n => (List.range nb).map fun c => leAt sb (16 + n * nb + c) 1
  let col (n : Nat) := slice wb (n * colBytes) colBytes
  if intPath f.wfmt then
    let ashift := leAt sb 4 1 % 32
    let qs := xs.map fun l => l.map (quantise (leAt sb 0 4))
    let ws := (List.range 64).map fun n => runInts f.wfmt (col n) t.k
    let elem (r n : Nat) := intElem f.wscale ashift (ws.getD n []) (qs.getD r []) (scales.getD n [])
      (signed 32 (accAt acc t.acc r n))
    let sats := (List.range (rows * 64)).foldl (fun k e => k + (elem (e / 64) (e % 64)).2) 0
    let nans := (scales.flatMap fun l => l.filter fun c => (intScale f.wscale c).isNone).length
    let bad := if f.wfmt = 10 then (wb.filter fun b => decide (242 < b.toNat)).length else 0
    let s := s.updSpindle i fun x => { x with acc := setAcc x.acc t.acc rows fun r n => unsigned 32 (elem r n).1 }
    ((s.count 0 i 0x010 bad).count 0 i 0x011 sats).count 0 i 0x012 nans
  else
    let ws := (List.range 64).map fun n => runVals f.wfmt (col n) t.k
    let elem (r n : Nat) := floatElem f.wscale (s.free + (r * 64 + n) * 2 * t.k) (ws.getD n []) (xs.getD r [])
      (scales.getD n []) (accAt acc t.acc r n)
    (s.updSpindle i fun x => { x with acc := setAcc x.acc t.acc rows elem }).drawnBy (rows * 64 * 2 * t.k)

/-- The bytes that TSTORE writes (R127). -/
def storeTile (acc : List (Nat × Nat)) (t : TensorOp) : List Byte :=
  (List.range 4096).flatMap fun e =>
    let v := accAt acc t.acc (e / 64) (e % 64)
    let x : FVal := if intPath t.slot.wfmt then .ofInt (signed 32 v) else f32 v
    leBytes (fmtWidth t.fmt / 8) (encodeFmt t.fmt (f32 (fp32.encode (x.mul (f32 t.scale)))))

/-- The ranges of the weights and the scales of an instruction, in DRAM or in the bowl. -/
def TensorOp.ranges (t : TensorOp) : List (Nat × Nat) :=
  let sb := scaleBytes t.slot t.k
  (t.wAddr, weightBytes t.slot.wfmt t.k) :: (if sb = 0 then [] else [(t.sAddr, sb)])

/-- TENSOR_INSTRUCTION_COMPLETE: the oldest queued instruction of a spindle executes (R91); its DRAM operands are read with
the replay of R99, after which the request ends. -/
def execTensorInstructionComplete (i : Fin 288) (s : State) : Out := s.run fun s =>
  match (s.spindle i).tensorQ with
  | [] => s
  | t :: rest =>
    let pop (s : State) : State := s.updSpindle i fun x => { x with tensorQ := rest }
    match t.kind with
    | 2 => pop (s.updSpindle i fun x => { x with acc := setAcc x.acc t.acc 64 fun _ _ => 0 })
    | 3 => pop (s.putBytes (bowlAddr i t.aOff) (storeTile (s.spindle i).acc t))
    | k =>
      let rows := if k = 0 then 64 else 1
      if t.fromDram then
        if !(t.ranges.all fun r => s.memAvail r.1 r.2) then s
        else
          let r := s.tileRead i t.ranges t.early
          match r.1 with
          | .ok l => pop (r.2.tensorMul i t rows l)
          | .error a => (pop r.2).engineFault i t.gang 0x0a 1 a t.pc
      else
        pop (s.tensorMul i t rows (t.ranges.flatMap fun x => s.bytes (bowlAddr i x.1) x.2))

end Sys2Proof.Machine
end

