-- ==== Sys2Proof/Machine/LoadStore.lean ====
section
/-! DEFINITION. Machine/LoadStore.lean: the local, remote and atomic memory instructions of the spindles (classes LDS, RMT
and ATM; R94, R95), the return of loads (R98), block copies (R103), completion of remote operations at their issuer (R288 to
R292), replay (R99), and instruction fetch (R86).
The choices of the model here: logs 24, 37 and 38. -/

namespace Sys2Proof.Machine

/-! ### Address checks -/

/-- What is wrong with an access of spindle code: fault code, address, and whether an unmapped-access event is logged. -/
structure AddrFault where
  code : Nat
  addr : Nat
  log : Bool

/-- A local address of spindle code (R29, R95, R433): bits 63:43, alignment, mapping. Control space counts as unmapped. Where several
faults apply, the first in this order is taken: the specification gives none (DESIGN CHOICE, log 68). -/
def localFault (width a : Nat) : Option AddrFault :=
  if 2 ^ 43 ≤ a then some ⟨0x05, a, false⟩
  else if a % width ≠ 0 then some ⟨0x06, a, false⟩
  else match placeOf a with
    | .dram => none
    | .bowl _ _ => none
    | _ => some ⟨0x05, a, true⟩

/-- A global address of spindle code (R30, R31, R95); one of this module is served locally, whatever its ROL. -/
def State.globalFault (s : State) (width g : Nat) (write : Bool) : Option AddrFault :=
  if gRefused g (write && !s.isOwn g) then some ⟨0x07, g, false⟩
  else if g % width ≠ 0 then some ⟨0x06, g, false⟩
  else if s.isOwn g then (localFault width (gLocal g)).map fun f => { f with addr := g }
  else none

/-- An atomic goes to DRAM only (R41). -/
def atomicPlace (width a : Nat) : Option AddrFault :=
  if 2 ^ 43 ≤ a then some ⟨0x05, a, false⟩
  else if a % width ≠ 0 then some ⟨0x06, a, false⟩
  else match placeOf a with
    | .dram => none
    | .unmapped => some ⟨0x05, a, true⟩
    | _ => some ⟨0x08, a, false⟩

/-- The fault of an address, with the event of R29 where it is unmapped. -/
def AddrFault.issue (f : AddrFault) (s : State) (i : Nat) : Issued :=
  .fault (if f.log then s.unmapped (gLocal f.addr) 0 i else s) f.code 0 f.addr

/-- Where an address lies, for the comparison of a load with held stores (R97, R98). -/
def State.memKey (s : State) (global : Bool) (a : Nat) : Nat :=
  if global && !s.isOwn a then 2 ^ 60 + a % 2 ^ 56 else gLocal a

/-- An address plus the sign-extended immediate, on 64 bits. -/
def addImm (a : Nat) (w : IWord) : Nat := unsigned 64 ((a : Int) + w.simm)

/-! ### Counter views (R432, R433) -/

/-- The VIEW bits of the queue pairs whose requests a set runs. -/
def State.viewOf (s : State) (set : Nat) : Nat :=
  match s.inst set with
  | none => 0
  | some n => ((s.served n).filterMap s.req).foldl (fun v r =>
      match s.jig.cgrant.find? (fun c => c.first ≤ r.qp && decide (r.qp < c.first + c.qcnt)) with
      | some c => v ||| c.view
      | none => v) 0

/-- Offsets of a bank that a view may read. -/
def viewOffset (o : Nat) : Bool := o == 0 || o == 0x10 || o == 0x18 || (decide (0x80 ≤ o) && decide (o < 0xb0))

/-- The register at an address lies in a view of the set. -/
def State.inView (s : State) (set r : Nat) : Bool :=
  let v := s.viewOf set
  let bank (kind : Nat) (ns : List Nat) := ns.any fun n => let b := bankBase kind n; decide (b ≤ r) && viewOffset (r - b)
  let groups := (s.setDef set).map (·.groupList) |>.getD []
  (v.testBit 0 && bank 0 (s.spindlesOf set)) || (v.testBit 1 && bank 1 groups) || (v.testBit 2 && bank 2 (List.range 4))
    || (v.testBit 3 && bank 4 (List.range 10))
    || (v.testBit 4 && (List.range 17).any fun h =>
        decide (Reg.CTR_HIST_BIN h 0 ≤ r) && decide (r < Reg.CTR_HIST_BIN h 0 + 256))

/-- Reads of 4 B of views by the threads of a gang, in thread order: the values and the latched halves that remain. -/
def State.viewRead (s : State) (latched : List (Nat × Nat)) (a : Nat) : Nat × List (Nat × Nat) :=
  let r := a / 8 * 8
  let v := (s.reg r).toNat
  if a % 8 = 0 then (v % 2 ^ 32, alSet latched r (v / 2 ^ 32))
  else match latched.find? (·.1 == r) with
    | some (_, h) => (h, latched.filter (·.1 != r))
    | none => (v / 2 ^ 32, latched)

/-! ### LD, GLD -/

/-- The value of a held store at exactly an address, the latest one (R98). -/
def State.heldValue (s : State) (x : Gang) (global : Bool) (a : Nat) : Option Nat :=
  (x.held.reverse.find? fun h => s.memKey h.global h.addr == s.memKey global a).map fun h => leNat h.data

/-- The remote read of one thread of a load: its 4 bytes, or with ROL = 1 and NAL = 0 the whole line, which is kept (R182). -/
def State.loadRequest (s : State) (i g num t a : Nat) : State :=
  if gRol a && !gNal a then s.remoteIssue (.load i g num t) 1 (a / 64 * 64) 64 0 [] else s.remoteIssue (.load i g num t) 1 a 4 0 []

/-- Begin one thread's part of a load: a held store, a bowl byte or a read-only line answers at once, DRAM by a transaction,
another module by a remote operation. -/
def State.loadThread (s : State) (i : Nat) (x : Gang) (num : Nat) (global : Bool) (acc : State × List (Nat × LoadResult))
    (t a : Nat) : State × List (Nat × LoadResult) :=
  let ans (s : State) (r : LoadResult) := (s, acc.2 ++ [(t, r)])
  match s.heldValue x global a with
  | some v => ans acc.1 (.value v)
  | none =>
    if global && !s.isOwn a then
      let r : Option (List Byte) × State := if gRol a then acc.1.rolRange (gMod a) (gLocal a) 4 (gNal a) else (none, acc.1)
      match r.1 with
      | some d => ans r.2 (.value (leNat d))
      | none => ans (r.2.loadRequest i x.gang num t a) .waiting
    else
      match placeOf (gLocal a) with
      | .dram => ans (acc.1.addTxn (.load i x.gang num t) (gLocal a) (global && gNal a) (global && gOrd a) (.read 4)) .waiting
      | _ => ans acc.1 (.value (acc.1.num (gLocal a) 4))

/-- A load of these addresses, global or local, can begin: 8 loads of the gang, and the limits on transactions (R103); no access of
an engine of the spindle to the same bowl bytes is to come (R104); and no ORD = 1 bowl access has to wait (R31). -/
def State.loadRoom (s : State) (i : Nat) (x : Gang) (l : List (Bool × Nat)) : Bool :=
  decide (x.loads.length < 8) && s.accessRoom i l
    && l.all fun p => (p.1 && !s.isOwn p.2) || !(s.bowlWait i x.gang (gLocal p.2) 4 || (s.ordBowl p.1 p.2 && s.ordBusy i))

/-- Begin a load of the enabled threads at the addresses of a list. -/
def State.startLoad (s : State) (i : Nat) (x : Gang) (w : IWord) (global : Bool) (l : List (Nat × Nat)) : State :=
  let num := (s.spindle i).nextNum
  let r := l.foldl (fun acc p => s.loadThread i x num global acc p.1 p.2) (s, [])
  r.1.addLoad i x.gang
    { num, dst := w.dst, pair := false, atomic := none, replayed := false, pc := x.pc, dead := [], results := r.2,
      args := l.map fun p => (p.1, p.2, global, 0, 0) }

/-- LD (R94, R95); a 4 B read of a counter view is the one access of spindle code to control space (R433). -/
def bodyLd (s : State) (i : Nat) (x : Gang) (w : IWord) : Issued :=
  let l := (x.enabled w).map fun t => (t, addImm (x.pair t w.src1) w)
  let view (a : Nat) : Bool := decide (a < 2 ^ 43) && a % 4 == 0 && placeOf a == .control && s.inView x.set (a / 8 * 8)
  match l.findSome? (fun p => if view p.2 then none else localFault 4 p.2) with
  | some f => f.issue s i
  | none =>
    if l.isEmpty then .done s
    else if !s.loadRoom i x (l.map fun p => (false, p.2)) then .wait
    else
      let vs := l.filter fun p => view p.2
      let r := vs.foldl (fun (acc : List (Nat × LoadResult) × List (Nat × Nat)) p =>
        let q := s.viewRead acc.2 p.2
        (acc.1 ++ [(p.1, .value q.1)], q.2)) ([], x.latched)
      let num := (s.spindle i).nextNum
      let s1 := s.startLoad i x w false (l.filter fun p => !view p.2)
      let s2 := r.1.foldl (fun s p => s.loadResult i x.gang num p.1 p.2) s1
      .done (s2.updGang i x.gang fun y => { y with latched := r.2 })

/-- GLD (R94, R95). -/
def bodyGld (s : State) (i : Nat) (x : Gang) (w : IWord) : Issued :=
  let l := (x.enabled w).map fun t => (t, addImm (x.pair t w.src1) w)
  match l.findSome? (fun p => s.globalFault 4 p.2 false) with
  | some f => f.issue s i
  | none =>
    if l.isEmpty then .done s
    else if s.loadRoom i x (l.map fun p => (true, p.2)) then .done (s.startLoad i x w true l)
    else .wait

/-! ### ST, GST -/

/-- Hold the stores of the enabled threads in the commit buffer, in thread order (R98). -/
def State.holdStores (s : State) (i : Nat) (x : Gang) (w : IWord) (global : Bool) (l : List (Nat × Nat)) : State :=
  s.updGang i x.gang fun y =>
    { y with held := y.held ++ l.map fun p => { pc := x.pc, global, addr := p.2, data := leBytes 4 (x.reg p.1 w.src2) } }

/-- ST (R94, R95). -/
def bodySt (s : State) (i : Nat) (x : Gang) (w : IWord) : Issued :=
  let l := (x.enabled w).map fun t => (t, addImm (x.pair t w.src1) w)
  match l.findSome? (fun p => localFault 4 p.2) with
  | some f => f.issue s i
  | none => if l.any fun p => s.bowlWait i x.gang p.2 4 then .wait else .done (s.holdStores i x w false l)

/-- GST (R94, R95). -/
def bodyGst (s : State) (i : Nat) (x : Gang) (w : IWord) : Issued :=
  let l := (x.enabled w).map fun t => (t, addImm (x.pair t w.src1) w)
  match l.findSome? (fun p => s.globalFault 4 p.2 true) with
  | some f => f.issue s i
  | none =>
    if l.any fun p => s.isOwn p.2 && s.bowlWait i x.gang (gLocal p.2) 4 then .wait else .done (s.holdStores i x w true l)

/-! ### Atomics -/

/-- Begin one thread's atomic; the request of a remote one carries the values of SRC2 and SRC3 (R270). -/
def State.atomicThread (s : State) (i g num : Nat) (op : AtomicOp) (t a : Nat) (global : Bool) (p q : Nat) : State :=
  if global && !s.isOwn a then
    let aop := match op with
      | .add32 => 0 | .max32 => 1 | .swap32 => 2 | .cas32 => 3 | .add64 => 4 | .cas64 => 5
    let k := atomicWidth op
    s.remoteIssue (.load i g num t) 5 a k aop (leBytes k p ++ leBytes k q)
  else s.addTxn (.load i g num t) (gLocal a) false (global && gOrd a) (.atomic op p q)

/-- An ATM instruction (R94): local when IMM[0] = 0, global when it is 1. -/
def bodyAtomic (op : AtomicOp) (s : State) (i : Nat) (x : Gang) (w : IWord) : Issued :=
  let global := w.imm.testBit 0
  let k := atomicWidth op
  let val (t n : Nat) := if k = 8 then x.pair t n else x.reg t n
  let l := (x.enabled w).map fun t => (t, x.pair t w.src1, global, val t w.src2, val t w.src3)
  let fault (a : Nat) : Option AddrFault :=
    if !global then atomicPlace k a
    else match s.globalFault 1 a true with
      | some f => if f.code = 0x05 then (atomicPlace k (gLocal a)).map fun f => { f with addr := a } else some f
      | none =>
        if a % k ≠ 0 then some ⟨0x06, a, false⟩
        else if s.isOwn a then (atomicPlace k (gLocal a)).map fun f => { f with addr := a }
        else none
  match l.findSome? (fun p => fault p.2.1) with
  | some f => f.issue s i
  | none =>
    if l.isEmpty then .done s
    else if !s.loadRoom i x (l.map fun p => (global, p.2.1)) then .wait
    else
      let num := (s.spindle i).nextNum
      let s := l.foldl (fun s p => s.atomicThread i x.gang num op p.1 p.2.1 global p.2.2.2.1 p.2.2.2.2) s
      .done (s.addLoad i x.gang
        { num, dst := w.dst, pair := decide (k = 8), atomic := some op, replayed := false, pc := x.pc, dead := [],
          results := l.map fun p => (p.1, .waiting), args := l })

/-! ### Block copies -/

/-- Block copies of a gang in flight. -/
def State.gangCopies (s : State) (i g : Nat) : Nat := ((s.spindle i).copies.filter (·.gang == g)).length

/-- The checks of a block copy (R95) after its address: alignment, size, bowl range, in this order where several fail: the specification
gives none (DESIGN CHOICE, log 68). -/
def copyFault (a off size : Nat) : Option AddrFault :=
  if a % 64 ≠ 0 then some ⟨0x06, a, false⟩
  else if off % 64 ≠ 0 then some ⟨0x06, off, false⟩
  else if size % 64 ≠ 0 then some ⟨0x06, a, false⟩
  else if size < 64 ∨ 65536 < size then some ⟨0x05, a, false⟩
  else if !bowlOk off size then some ⟨0x05, off, false⟩
  else none

/-- The memory range of a local block copy lies wholly in DRAM (R95); the event is logged for an unmapped address. -/
def dramRange (a size : Nat) : Option AddrFault :=
  if 2 ^ 43 ≤ a then some ⟨0x05, a, false⟩
  else if a < dramEnd ∧ a + size ≤ dramEnd then none
  else
    let e := if a < dramEnd then dramEnd else a
    some ⟨0x05, e, match placeOf e with | .bowl _ _ => false | _ => true⟩

/-- Add a block copy to a spindle. -/
def State.addCopy (s : State) (i : Nat) (c : BlockCopy) : State :=
  let s := s.updSpindle i fun x => { x with copies := x.copies ++ [c], nextNum := x.nextNum + 1 }
  { s with lm := { s.lm with nextTxn := s.lm.nextTxn + 1 } }

/-- A local block copy is taken by the copy engine. -/
def State.localCopy (s : State) (i : Nat) (x : Gang) (toBowl nal ord : Bool) (a off size : Nat) : State :=
  s.addCopy i { num := (s.spindle i).nextNum, id := s.lm.nextTxn, ord, early := false, gang := x.gang, pc := x.pc, toBowl, global := false,
                nal, bowl := off, addr := a, size, waiting := 0, failed := [], replayed := [] }

/-- The copy engine takes a copy (R103, R104): fewer than 16 are in flight, a first line of DRAM has room, and no earlier access of the
gang's engines to the same bowl bytes is to come. -/
def State.copyRoom (s : State) (i : Nat) (x : Gang) (l : List Nat) (off size : Nat) : Bool :=
  decide ((s.spindle i).copies.length < 16) && s.txnRoom i l 0 && !s.bowlBusy i x.gang true (off, size)

/-- LDBLK and STBLK (R94, R95). -/
def bodyCopy (toBowl : Bool) (s : State) (i : Nat) (x : Gang) (w : IWord) : Issued :=
  let t := x.lead w
  let a := x.pair t w.src1
  let off := x.reg t w.src2
  let size := x.reg t w.src3
  match (if 2 ^ 43 ≤ a then some ⟨0x05, a, false⟩ else copyFault a off size).or (dramRange a size) with
  | some f => f.issue s i
  | none => if s.copyRoom i x [a] off size then .done (s.localCopy i x toBowl false false a off size) else .wait

/-- Issue one request of a remote block copy: at offset `o` of the copy. -/
def State.copyRequest (s : State) (i : Nat) (c : BlockCopy) (o n : Nat) : State :=
  s.remoteIssue (.copy i c.num o) (if c.toBowl then 1 else 3) (c.addr + o) n 0
    (if c.toBowl then [] else s.bytes (bowlAddr i (c.bowl + o)) n)

/-- The requests of a block copy: offset and length (R288). -/
def BlockCopy.pieces (c : BlockCopy) : List (Nat × Nat) := (copyPieces c.addr c.size).map fun p => (p.1 - c.addr, p.2)

/-- The memory range of GLDBLK and GSTBLK at this module (R95, R291): mapped DRAM or bowl bytes; the event is logged otherwise. -/
def ownRange (a size : Nat) : Option AddrFault := (rangeHole a size).map fun e => ⟨0x05, e, true⟩

/-- GLDBLK and GSTBLK (R94, R95): at this module as a local copy, whatever ROL (R31); to another module in requests of at most 2 KiB;
read-only lines held answer at once. -/
def bodyGcopy (toBowl : Bool) (s : State) (i : Nat) (x : Gang) (w : IWord) : Issued :=
  let t := x.lead w
  let a := x.pair t w.src1
  let off := x.reg t w.src2
  let size := x.reg t w.src3
  match (if gRefused a (!toBowl && !s.isOwn a) then some ⟨0x07, a, false⟩ else copyFault a off size).or
      (if s.isOwn a then ownRange (gLocal a) size else none) with
  | some f => f.issue s i
  | none =>
    if !s.copyRoom i x (if s.isOwn a && dramLine (lineOf (gLocal a)) then [gLocal a] else []) off size then .wait
    else if s.isOwn a then
      if (ownBowl i (gLocal a) size).any (s.bowlBusy i x.gang true) then .wait
      else .done (s.localCopy i x toBowl (gNal a) (gOrd a) (gLocal a) off size)
    else
      let c : BlockCopy :=
        { num := (s.spindle i).nextNum, id := s.lm.nextTxn, ord := false, early := false, gang := x.gang, pc := x.pc, toBowl, global := true, nal := gNal a, bowl := off,
          addr := a, size, waiting := 0, failed := [], replayed := [] }
      if !s.remoteRoom c.pieces.length then .wait
      else
        let r := c.pieces.foldl (fun (acc : State × Nat) p =>
          let h : Option (List Byte) × State :=
            if toBowl && gRol a then acc.1.rolRange (gMod a) (gLocal a + p.1) p.2 (gNal a) else (none, acc.1)
          match h.1 with
          | some d => (h.2.putBytes (bowlAddr i (off + p.1)) d, acc.2)
          | none => (h.2.copyRequest i c p.1 p.2, acc.2 + 1)) (s, 0)
        .done (r.1.addCopy i { c with waiting := r.2 })

/-- WAIT (R94): until the gang has at most IMM[4:0] block copies in flight. -/
def bodyWait (s : State) (i : Nat) (x : Gang) (w : IWord) : Issued :=
  if s.gangCopies i x.gang ≤ w.imm % 32 then .done s else .wait

/-- A block copy leaves its spindle. -/
def State.dropCopy (s : State) (i num : Nat) : State :=
  s.updSpindle i fun x => { x with copies := x.copies.filter (·.num != num) }

/-- The lines of a local copy into the bowl, each with its own replay (R99); the address of the first that fails twice. A line of a bowl
is served by the bowl's own port (R28). -/
def State.copyIn (s : State) (i : Nat) (c : BlockCopy) : Option Nat × State :=
  (List.range (c.size / 64)).foldl (fun acc k =>
    match acc.1 with
    | some e => (some e, acc.2)
    | none =>
      let l := lineOf c.addr + k
      let r := if dramLine l then acc.2.lineReplay i l c.nal (!c.early) true else (some (acc.2.lineBytes l), acc.2)
      match r.1 with
      | some d => (none, r.2.putBytes (bowlAddr i (c.bowl + 64 * k)) d)
      | none => (some (c.addr + 64 * k), r.2)) (none, s)

/-- An earlier ORD = 1 access of the spindle to this module is in flight, and this one has ORD = 1 (R31, R289). -/
def State.ordHeld (s : State) (i id : Nat) (ord : Bool) : Bool :=
  ord && ((s.lm.txns.any fun u => u.ord && decide (u.id < id) && match u.owner with
      | .load j _ _ _ => j == i
      | .store j _ _ => j == i)
    || (s.spindle i).copies.any fun c => c.ord && decide (c.id < id))

/-- BLOCK_COPY_COMPLETE: a local copy is performed line by line, a remote one has all its answers (R103). A line of a copy to memory whose
merge fails cannot arise: its lines are whole (R172). -/
def execBlockCopyComplete (i : Fin 288) (num : Nat) (s : State) : Out := s.run fun s =>
  match (s.spindle i).copies.find? (·.num == num) with
  | none => s
  | some c =>
    if c.global then (if c.waiting = 0 then s.dropCopy i num else s)
    else if !s.memAvail c.addr c.size || s.ordHeld i c.id c.ord then s
    else if c.toBowl then
      let r := s.copyIn i c
      match r.1 with
      | none => r.2.dropCopy i num
      | some a => (r.2.dropCopy i num).engineFault i c.gang 0x0a 2 a c.pc
    else ((s.memWrite c.addr (s.bytes (bowlAddr i c.bowl) c.size) c.nal).2).dropCopy i num

/-! ### Returns -/

/-- A load's value is written to the registers of a thread that no later instruction has written (R90). -/
def Gang.putLive (x : Gang) (dead : List Nat) (t n v : Nat) (pair : Bool) : Gang :=
  let x := if dead.contains (t * 128 + n) then x else x.setReg t n v
  if pair && !dead.contains (t * 128 + n + 1) then x.setReg t (n + 1) (v / 2 ^ 32) else x

/-- LOAD_DATA_RETURN: a load whose threads all have their values writes its register (R98); its group may commit. -/
def execLoadDataReturn (i : Fin 288) (g : Fin 256) (num : Nat) (s : State) : Out := s.run fun s =>
  match s.gang i g with
  | none => s
  | some x =>
    match x.loads.find? (·.num == num) with
    | none => s
    | some l =>
      if l.results.all fun r => r.2.value?.isSome then
        let s := s.updGang i g fun y =>
          { (l.results.foldl (fun y r => y.putLive l.dead r.1 l.dst (r.2.value?.getD 0) l.pair) y) with
            loads := y.loads.filter (·.num != num) }
        (if l.replayed then s.replayEnd i true else s).tryCommit i g
      else s

/-! ### Completion of remote operations -/

/-- A store that failed to merge, or was refused, ends its request (R172, R292). -/
def State.storeDone (s : State) (i g code addr : Nat) (pc : Int) : State :=
  if code = 0 then s
  else if code = 7 then s.engineFault i g 0x0a 3 addr pc
  else s.engineFault i g 0x09 code addr pc

/-- The pending load of a gang with a number. -/
def State.pendingLoad (s : State) (i g num : Nat) : Option PendingLoad := (s.gang i g).bind fun x => x.loads.find? (·.num == num)

/-- The response of a load's or an atomic's thread (R99, R102). -/
def State.loadAnswer (s : State) (i g num t code addr : Nat) (data : List Byte) : State :=
  if code = 0 then s.loadResult i g num t (.value (leNat data))
  else if code = 7 then s.loadResult i g num t .failed
  else match s.pendingLoad i g num with
    | none => s
    | some l => s.spnFault i g 0x09 code addr l.pc

/-- The response of a thread of a global load: the thread's 4 bytes of the line that a read with ROL = 1 asked for (R182). -/
def State.remoteLoad (s : State) (i g num t code addr : Nat) (rol : Bool) (data : List Byte) : State :=
  let a := (((s.pendingLoad i g num).bind fun l => l.args.find? (·.1 == t)).map (·.2.1)).getD addr
  s.loadAnswer i g num t code a (if rol then slice data (a % 64) 4 else data)

/-- The response to a request of a block copy. -/
def State.copyAnswer (s : State) (i num o code : Nat) (data : List Byte) : State :=
  match (s.spindle i).copies.find? (·.num == num) with
  | none => s
  | some c =>
    let upd (s : State) (f : BlockCopy → BlockCopy) : State :=
      s.updSpindle i fun x => { x with copies := x.copies.map fun y => if y.num = num then f y else y }
    if code = 0 then
      let s := if c.toBowl then s.putBytes (bowlAddr i (c.bowl + o)) data else s
      let s := if c.replayed.contains o then s.replayEnd i true else s
      upd s fun y => { y with waiting := y.waiting - 1 }
    else if code = 7 then upd s fun y => { y with failed := y.failed ++ [o] }
    else (s.dropCopy i num).engineFault i c.gang 0x09 code (c.addr + o) c.pc

/-- A remote operation completes with a code and its data, and frees its entry (R288 to R290). -/
def State.remoteComplete (s : State) (op : RemoteOp) (code : Nat) (data : List Byte) : State :=
  let s := s.remoteFree op.index
  let f := op.frame
  let addr := f.addr + f.dstmod * 2 ^ 43 + f.cls * 2 ^ 56 + (if f.flags.testBit 2 then 2 ^ 59 else 0)
    + (if f.flags.testBit 1 then 2 ^ 60 else 0) + (if f.flags.testBit 0 then 2 ^ 61 else 0)
  let got := if code = 0 then some data else none
  let rol := f.fkind = 1 && f.flags.testBit 2 && !f.flags.testBit 1
  let s := if rol && code == 0 then s.rolFills f.dstmod f.addr data else s
  let s := match op.owner with
  | .load i g num t => s.remoteLoad i g num t code addr rol data
  | .store i g pc => s.storeDone i g code addr pc
  | .copy i num o => s.copyAnswer i num o code data
  | .lookup h n b => s.prefixAnswer h n b got
  | .bundle h n b => s.prefixAnswer h n b got
  | .publish h n b => (s.pubAnswer h n b got).pubGo h
  s.hdsResume

/-! ### REPLAY -/

/-- An atomic that failed is issued again, once (R99): only the threads whose line failed, since the others are done. -/
def State.replayAtomic (s : State) (i g : Nat) (l : PendingLoad) (op : AtomicOp) : State :=
  let again := l.results.filterMap fun r => if r.2.isFailed then some r.1 else none
  match l.args.find? (fun p => again.contains p.1) with
  | none => s
  | some p =>
    if l.replayed then (s.replayEnd i false).spnFault i g 0x0a 4 p.2.1 l.pc
    else
      let s := s.replayBegun i
      let s := s.updGang i g fun x =>
        { x with loads := x.loads.map fun y =>
            if y.num = l.num then
              { y with replayed := true, results := y.results.map fun r => (r.1, if r.2.isFailed then .waiting else r.2) }
            else y }
      (l.args.filter fun p => again.contains p.1).foldl (fun s p =>
        s.atomicThread i g l.num op p.1 p.2.1 p.2.2.1 p.2.2.2.1 p.2.2.2.2) s

/-- The failed requests of a gang's remote block copy are sent again, each once (R99). -/
def State.replayCopy (s : State) (i : Nat) (c : BlockCopy) : State :=
  match c.failed with
  | [] => s
  | o :: rest =>
    if c.replayed.contains o then
      ((s.replayEnd i false).dropCopy i c.num).engineFault i c.gang 0x0a 2 (c.addr + o) c.pc
    else if !s.remoteRoom 1 then s
    else
      let n := ((c.pieces.find? (·.1 == o)).map (·.2)).getD 0
      let s := s.updSpindle i fun x => { x with copies := x.copies.map fun y =>
        if y.num = c.num then { y with failed := rest, replayed := o :: y.replayed } else y }
      (s.replayBegun i).copyRequest i c o n

/-- REPLAY (R99 to R101): of the gang's group, of its atomic or of a request of its remote copy. -/
def execReplay (i : Fin 288) (g : Fin 256) (s : State) : Out := s.run fun s =>
  let load := (s.gang i g).bind fun x => (x.loads.find? fun l => l.results.any fun r => r.2.isFailed).map fun l => (x, l)
  match load with
  | some (x, l) =>
    match l.atomic with
    | some op => s.replayAtomic i g l op
    | none =>
      if x.replaying then
        let bad := (l.results.find? fun r => r.2.isFailed).map (·.1)
        let addr := ((l.args.find? fun p => some p.1 == bad).map (·.2.1)).getD 0
        (s.replayEnd i false).spnFault i g 0x0a 3 addr l.pc
      else s.replayGroup i g x
  | none =>
    match (s.spindle i).copies.find? fun c => c.gang % 256 == g.val && !c.failed.isEmpty with
    | some c => s.replayCopy i c
    | none => s

/-! ### Instruction fetch -/

/-- INSTRUCTION_FETCH_RETURN (R86, R99, R570): the line of the gang's next instruction comes from the landing cache into the
instruction cache of 1,024 lines; the oldest line leaves (log 24). -/
def execInstructionFetchReturn (i : Fin 288) (g : Fin 256) (s : State) : Out := s.run fun s =>
  match s.gang i g with
  | none => s
  | some x =>
    let a := fetchAddr x x.pc
    let l := lineOf a
    if x.pc < 0 ∨ (x.ninstr : Int) ≤ x.pc ∨ (s.fetchWord i x).isSome then s
    else if !s.memAvail (64 * l) 64 then s
    else
      let q := s.lineReplay i l false false false
      match q.1 with
      | none => q.2.spnFault i g 0x0a 5 a x.pc
      | some d => q.2.updSpindle i fun sp => { sp with icache := (sp.icache ++ [(l, d)]).drop (sp.icache.length + 1 - 1024) }

end Sys2Proof.Machine
end

