-- ==== Sys2Proof/Machine/Sync.lean ====
section
/-! DEFINITION. Machine/Sync.lean: the collectives of a spindle set: BAR, RED and REDV, their release and results, mismatched
ones (R105 to R107, R572), attaching and detaching at a release (R218, R219), and FENCE (R94).
The choices of the model here: logs 23, 25, 26 and 33. -/

namespace Sys2Proof.Machine

/-! ### Arrival -/

/-- The gang waits at a collective. -/
def State.arrive (s : State) (i : Nat) (x : Gang) (w : GangWait) : State :=
  s.updGang i x.gang fun y => { y with wait := w, met := y.met + 1 }

/-- BAR (R94, R105); a fabric time already past is late (R312). -/
def bodyBar (s : State) (i : Nat) (x : Gang) (w : IWord) : Issued :=
  if w.imm.testBit 0 then
    let t := x.pair (x.lead w) w.src1
    .done ((if t < s.ft then s.set Reg.FTU_STATUS_LATE 1 else s).arrive i x (.bar (some t)))
  else .done (s.arrive i x (.bar none))

/-- RED (R94, R106). -/
def bodyRed (s : State) (i : Nat) (x : Gang) (w : IWord) : Issued :=
  .done (s.arrive i x (.red (w.imm % 16) w.dst w.src1 (x.enabled w)))

/-- REDV (R94, R106): it needs a reduction buffer that holds the result. -/
def bodyRedv (s : State) (i : Nat) (x : Gang) (w : IWord) : Issued :=
  let t := x.lead w
  let off := x.reg t w.src1
  let n := x.reg t w.src3
  if !bowlOk off (4 * n) then .fault s 0x05 0 (bowlAddr i off)
  else match s.bowlPart i 4 with
    | none => .fault s 0x0b 0 0
    | some p => if p.2 < 4 * n then .fault s 0x0b 0 0
      else if s.bowlBusy i x.gang true (off, 4 * n) then .wait
      else .done (s.arrive i x (.redv (w.imm % 16) off n))

/-- FENCE (R94): every earlier store, copy, remote write and atomic of the gang has reached its point of coherence. -/
def bodyFence (s : State) (i : Nat) (x : Gang) (_ : IWord) : Issued :=
  let mem := s.lm.txns.any fun t => match t.owner with
    | .store j g _ => j == i && g == x.gang
    | .load j g _ _ => j == i && g == x.gang
  let rem := s.rtr.ops.any fun o => match o.owner with
    | .store j g _ => j == i && g == x.gang
    | .load j g _ _ => j == i && g == x.gang
    | _ => false
  if mem || rem || s.gangCopies i x.gang != 0 then .wait else .done s

/-! ### Completion -/

/-- The gangs of a set's instance, with their spindles. -/
def State.setGangs (s : State) (set : Nat) : List (Nat × Gang) :=
  (s.spindlesOf set).flatMap fun k => (s.gangsOn set k).map fun x => (k, x)

/-- Every live gang of the instance has arrived at its collective (R105, R572). -/
def State.allArrived (s : State) (set : Nat) : Bool :=
  match s.inst set with
  | none => false
  | some n => s.allLaunched n && !(s.setGangs set).isEmpty && (s.setGangs set).all fun p => p.2.atCollective

/-- The kind, operation and count at which a gang waits. -/
def collectiveKey (x : Gang) : Nat × Nat × Nat :=
  match x.wait with
  | .bar _ => (1, 0, 0)
  | .red op _ _ _ => (2, op, 0)
  | .redv op _ n => (3, op, n)
  | _ => (0, 0, 0)

/-- The gangs have met at different collectives (R572). -/
def State.mismatched (s : State) (set : Nat) : Bool :=
  match s.setGangs set with
  | [] => false
  | p :: l => l.any fun q => collectiveKey q.2 != collectiveKey p.2

/-- Every gang goes on, and its group commits. -/
def State.resumeAll (s : State) (set : Nat) : State :=
  (s.setGangs set).foldl (fun s p =>
    (s.updGang p.1 p.2.gang fun y => { y with wait := .running }).tryCommit p.1 p.2.gang) s

/-- EPOCH of every member spindle (R105). -/
def State.bumpEpoch (s : State) (set : Nat) : State := (s.spindlesOf set).foldl (fun s k => s.inc (Reg.SPN_SET_EPOCH k) 1) s

/-- `n` free words at the base of the reduction buffer of every member spindle. -/
def State.freeBuffers (s : State) (set n : Nat) : State :=
  (s.spindlesOf set).foldl (fun s k =>
    match s.bowlPart k 4 with
    | some p => (s.putBytes (bowlAddr k p.1) ((s.freshList n).flatMap (leBytes 4))).drawnBy n
    | none => s) s

/-- A mismatched collective completes (R572): free values in the destinations, nothing else but EPOCH. -/
def State.mismatch (s : State) (set : Nat) : State :=
  let s := (s.setGangs set).foldl (fun s p =>
    match p.2.wait with
    | .red op dst _ ts =>
      (s.updGang p.1 p.2.gang fun y => y.putAll ts dst (op == 5) fun t => Config.freeNat (s.free + t)).drawnBy 32
    | .redv _ _ n => s.freeBuffers set n
    | _ => s) s
  (s.bumpEpoch set).resumeAll set

/-- The order in which the tree joins contributions is fixed by GROUPS and otherwise open (R106; log 1): a place among the
free values that only GROUPS chooses. -/
def treeSeed (groups : Nat) : Nat := 2 ^ 64 + groups * 2 ^ 20

/-- One argmax step (R106). -/
def argmaxStep (a b : Nat × Nat) : Nat × Nat :=
  let x := f32 a.1
  let y := f32 b.1
  match x.isNan, y.isNan with
  | true, true => (fp32.nanCode, min a.2 b.2)
  | true, false => b
  | false, true => a
  | false, false =>
    if x.lt y then b else if y.lt x then a
    -- equal values: −0 below +0, else the lower index
    else if x.isNeg && !y.isNeg then b else if y.isNeg && !x.isNeg then a
    else if b.2 < a.2 then b else a

/-- The canonical form of a single contribution to an argmax: a NaN is the canonical one. -/
def argmaxOne (a : Nat × Nat) : Nat × Nat := if (f32 a.1).isNan then (fp32.nanCode, a.2) else a

/-- The combination of 32-bit contributions by a reduction operation (R106). -/
def combine (op groups : Nat) (l : List Nat) : Nat :=
  match op with
  | 0 => fp32.encode (freeSum (fun a b => f32 (fp32.encode (a.add b))) l.length (treeSeed groups) (l.map f32)).1
  | 1 => l.foldl (fun a b => (a + b) % 2 ^ 32) 0
  | 2 => match l with | [] => 0 | a :: m => m.foldl fmax32 a
  | 3 => match l with | [] => 0 | a :: m => m.foldl fmin32 a
  | _ => match l with | [] => 0 | a :: m => m.foldl (fun a b => if signed 32 a < signed 32 b then b else a) a

/-- The groups of a set as bits. -/
def State.groupsOf (s : State) (set : Nat) : Nat := ((s.setDef set).map (·.groups)).getD 0

/-- The result of lane `t` of a RED: a value, as a pair for argmax. -/
def State.redLane (s : State) (set t : Nat) : Nat :=
  let ps := (s.setGangs set).filterMap fun p => match p.2.wait with
    | .red op _ src ts => if ts.contains t then some (op, p.2, src) else none
    | _ => none
  match ps with
  | [] => 0
  | (5, x, src) :: l =>
    let pairOf (x : Gang) (src : Nat) := (x.reg t src, x.reg t (src + 1))
    let r := l.foldl (fun a q => argmaxStep a (pairOf q.2.1 q.2.2)) (argmaxOne (pairOf x src))
    r.1 + 2 ^ 32 * r.2
  | (op, _, _) :: _ => combine op (s.groupsOf set) (ps.map fun q => q.2.1.reg t q.2.2)

/-- All gangs wait at a RED: each receives the lanes' results (R106, R572). -/
def State.redComplete (s : State) (set : Nat) : State :=
  let lanes := (List.range 32).map fun t => s.redLane set t
  let s := (s.setGangs set).foldl (fun s p =>
    match p.2.wait with
    | .red op dst _ ts => s.updGang p.1 p.2.gang fun y => y.putAll ts dst (op == 5) fun t => lanes.getD t 0
    | _ => s) s
  s.resumeAll set

/-- The contribution of a spindle to a REDV: that of its lowest-numbered gang (log 25). -/
def State.redvSource (s : State) (set k : Nat) : Option Nat :=
  ((s.gangsOn set k).foldl (fun (m : Option (Nat × Nat)) x =>
    match x.wait, m with
    | .redv _ off _, none => some (x.gang, off)
    | .redv _ off _, some (g, o) => if x.gang < g then some (x.gang, off) else some (g, o)
    | _, m => m) none).map (·.2)

/-- All gangs wait at a REDV: the result goes to every member's reduction buffer (R106). A count that is not a multiple of
64 from 64 to 4,096 has no stated result: the elements are free values (log 26). -/
def State.redvComplete (s : State) (set op n : Nat) : State :=
  let srcs := (s.spindlesOf set).filterMap fun k => (s.redvSource set k).map fun o => bowlAddr k o
  let s :=
    if n % 64 ≠ 0 ∨ n = 0 ∨ 4096 < n then s.freeBuffers set n
    else
      let data := (List.range n).flatMap fun e =>
        leBytes 4 (combine op (s.groupsOf set) (srcs.map fun a => s.num (a + 4 * e) 4))
      (s.spindlesOf set).foldl (fun s k =>
        match s.bowlPart k 4 with
        | some p => s.putBytes (bowlAddr k p.1) data
        | none => s) s
  s.resumeAll set

/-- The latest fabric time that the BARs of a set name (R105). -/
def State.barTime (s : State) (set : Nat) : Nat :=
  (s.setGangs set).foldl (fun m p => match p.2.wait with
    | .bar (some t) => max m t
    | _ => m) 0

/-- The fabric time that the set's barrier is armed for, when some BAR of it names one (R105, R311). -/
def State.barArmed (s : State) (set : Nat) : Option Nat :=
  if (s.setGangs set).any fun p => match p.2.wait with
    | .bar (some _) => true
    | _ => false
  then some (s.barTime set) else none

/-- A routing-table swap armed for `t` or earlier has not taken place yet (R282, R313). -/
def State.swapDue (s : State) (t : Nat) : Bool := s.flag Reg.RTR_SWAP_CTL_ARM && decide (s.get Reg.RTR_SWAP_FT_FT ≤ t)

/-- A circuit switch moment at `t` or earlier has not taken place yet (R313, R357). -/
def State.startDue (s : State) (t : Nat) : Bool := s.circ.any fun e => e.2.phase == 1 && decide (e.2.start ≤ t)

/-- A prefix lookup or import that has still to finish holds the first release of its request's instance, and the release that attaches
its request (R219). -/
def State.prefixHolds (s : State) (set : Nat) : Bool :=
  match s.inst set with
  | none => false
  | some n =>
    (n.first && (s.served n).any fun h => match s.req h with
      | some r => r.phase != .done
      | none => false)
    || (n.request.isNone && s.hds.requests.any fun r => r.set == set && !r.attached && !r.ended && r.phase != .done)

/-- At a release in throughput mode (R218, R219): requests that reported a stop are detached and end, those that wait and
have their MATCHED are attached, and the batch table is rewritten. -/
def State.rebatch (s : State) (set : Nat) : State :=
  match s.inst set with
  | none => s
  | some n =>
    if n.request.isSome then s
    else
      let out := (s.served n).filter fun h => match s.req h with
        | some r => r.reported
        | none => false
      let s := out.foldl (fun s h => s.endRequest h) s
      let a := s.attachAll set fun r => r.phase == .done
      a.2.writeBatch set a.1

/-- Every live gang has reached a BAR, the latest fabric time named has come, and no prefix lookup holds the release (R105, R219). -/
def State.barReady (s : State) (set : Nat) : Bool :=
  s.allArrived set && !s.mismatched set && !((s.setGangs set).any fun p => (collectiveKey p.2).1 != 1) && decide (s.barTime set ≤ s.ft)
    && !s.prefixHolds set

/-- The release of a barrier (R105, R218). -/
def State.barRelease (s : State) (set : Nat) : State :=
  let s := (s.rebatch set).updInst set fun n => { n with first := false }
  (s.bumpEpoch set).resumeAll set

/-- A barrier armed for `t` or earlier is ready and has not been released yet (R313). -/
def State.barDue (s : State) (t : Nat) : Bool :=
  (List.range 36).any fun set => (s.barArmed set).any (fun u => decide (u ≤ t)) && s.barReady set

/-- BAR_RELEASE: the barrier of a set releases (R105, R218, R219), or a mismatched collective completes
(R572). A barrier armed for a fabric time waits for the swaps and switch moments due then (R313). -/
def execBarRelease (set : Fin 36) (s : State) : Out := s.run fun s =>
  if !s.allArrived set then s
  else if s.mismatched set then s.mismatch set
  else if s.barReady set && !(s.barArmed set).any fun t => s.swapDue t || s.startDue t then s.barRelease set
  else s

/-- RED_RESULT (R106, R572). -/
def execRedResult (set : Fin 36) (s : State) : Out := s.run fun s =>
  if !s.allArrived set then s
  else if s.mismatched set then s.mismatch set
  else if (s.setGangs set).any fun p => (collectiveKey p.2).1 != 2 then s
  else s.redComplete set

/-- REDV_RESULT (R106, R572). -/
def execRedvResult (set : Fin 36) (s : State) : Out := s.run fun s =>
  if !s.allArrived set then s
  else if s.mismatched set then s.mismatch set
  else match s.setGangs set with
    | [] => s
    | p :: _ =>
      let k := collectiveKey p.2
      if k.1 = 3 then s.redvComplete set k.2.1 k.2.2 else s

end Sys2Proof.Machine
end

