-- ==== Sys2Proof/Machine/Gouge.lean ====
section
/-! DEFINITION. Machine/Gouge.lean: the gouge: selection descriptors (R146), GSUM and GSEL at issue (R151, R153, R155), and
their completion: block summaries (R142, R143), the selection rule (R147, R148), the selection list (R149, R150), the status
word (R152) and replay (R154).
The choices of the model here: logs 27, 39 and 62. -/

namespace Sys2Proof.Machine

/-- A selection descriptor (R146). -/
structure SelDesc where
  ntok : Nat
  qoff : Nat
  btaddr : Nat
  sumaddr : Nat
  segoff : Nat
  k : Nat
  win : Nat
  sink : Nat
  g : Nat
  dcode : Nat
  mode : Nat
  lambda : Nat
  sscale : Nat
  rest : List Byte
  deriving DecidableEq, Repr

def selDescOf (l : List Byte) : SelDesc :=
  { ntok := leAt l 0 4, qoff := leAt l 4 4, btaddr := leAt l 8 8, sumaddr := leAt l 16 8, segoff := leAt l 24 4,
    k := leAt l 28 2, win := leAt l 30 2, sink := leAt l 32 1, g := leAt l 33 1, dcode := leAt l 34 1, mode := leAt l 35 1,
    lambda := leAt l 36 2, sscale := leAt l 38 1, rest := slice l 39 25 }

/-- Head dimension. -/
def SelDesc.dim (d : SelDesc) : Nat := 64 * 2 ^ d.dcode

/-- Blocks of the sequence (R138). -/
def SelDesc.blocks (d : SelDesc) : Nat := (d.ntok + 63) / 64

/-- Tokens in block `b` (R138). -/
def SelDesc.tokens (d : SelDesc) (b : Nat) : Nat := min 64 (d.ntok - 64 * b)

/-- The error code of a descriptor (R152). -/
def SelDesc.error (d : SelDesc) (afmt : Nat) : Nat :=
  if d.ntok = 0 ∨ maxTokens < d.ntok then 0x01
  else if 4096 < d.k ∨ 1024 < d.win ∨ 64 < d.sink then 0x02
  else if d.g = 0 ∨ 16 < d.g ∨ 2 < d.dcode ∨ 1 < d.mode ∨ d.sscale = 0xff ∨ 256 < d.lambda ∨ d.rest.any (· != 0) then 0x03
  else if d.qoff % 64 ≠ 0 ∨ d.btaddr % 64 ≠ 0 ∨ d.sumaddr % 64 ≠ 0 ∨ d.segoff % 64 ≠ 0
      ∨ bowlBytes < d.qoff + d.g * d.dim * (fmtWidth afmt / 8) then 0x04
  else 0

/-- Upper bound on the top-K count, K′ (R147, R158). -/
def GougeOp.kPrime (o : GougeOp) (d : SelDesc) : Nat := min d.k (min (o.begun.getD (4096, false)).1 4096)

/-- GSEL acts in dense mode (R148). -/
def GougeOp.dense (o : GougeOp) (d : SelDesc) : Bool := d.mode == 1 || (o.begun.getD (4096, false)).2

/-- The first instruction of a gouge begins, if it has not: GGE_CTL acts on it as it stands now (R159). -/
def State.gougeBegin (s : State) (lathe : Nat) : State :=
  match alGet [] s.gge lathe with
  | [] => s
  | o :: rest =>
    if o.begun.isSome then s
    else
      let o := { o with begun := some (s.get (Reg.GGE_CTL_KCAP lathe), s.flag (Reg.GGE_CTL_FORCE_DENSE lathe)) }
      { s with gge := alSet s.gge lathe (o :: rest) }

/-! ### Issue -/

/-- GSUM and GSEL at issue (R96, R153, R155): the gouge of the lathe group takes the instruction, or holds up to two more;
the descriptor is taken as it stands. -/
def bodyGouge (select : Bool) (s : State) (i : Nat) (x : Gang) (w : IWord) : Issued :=
  let t := x.lead w
  let off := x.reg t w.src1
  let q := alGet [] s.gge (i / 8)
  if s.tensorFull i then .wait
  else match s.fmtSlot i w.fslot with
  | none => .fault s 0x03 0 0
  | some _ =>
    if !bowlOk off 64 then .fault s 0x05 0 (bowlAddr i off)
    else if off % 64 ≠ 0 then .fault s 0x06 0 (bowlAddr i off)
    else if 3 ≤ q.length || s.bowlBusy i x.gang true (off, 64) then .wait
    else
      let o : GougeOp :=
        { spindle := i, gang := x.gang, pc := x.pc, select, desc := off, block := if select then 0 else x.reg t w.src2,
          fslot := w.fslot, dst := w.dst, enabled := x.enabled w, descBytes := s.bytes (bowlAddr i off) 64,
          begun := none }
      let s := ({ s with gge := alSet s.gge (i / 8) (q ++ [o]) } : State).gougeBegin (i / 8)
      .done (s.updGang i x.gang fun y => { y with wait := .unit })

/-! ### Completion -/

/-- How a gouge instruction ends. -/
inductive GougeEnd where
  | status (count : Nat) (dense : Bool) (err : Nat)
  /-- a line that it reads failed its check (R154) -/
  | bad (addr : Nat)
  | fault (code addr : Nat)

/-- Read a range of DRAM as the gouge does; a failing line is named. -/
def State.gougeRead (s : State) (a n : Nat) : Except Nat (List Byte) × State :=
  let r := s.rangeRead a n false
  match r.1 with
  | some d => (.ok d, r.2.2)
  | none => (.error (64 * r.2.1.getD (lineOf a)), r.2.2)

/-- A range that the gouge reads or writes does not lie in DRAM: the first address outside (R29, R153). -/
def gougeRange (a n : Nat) : Option Nat :=
  if a < dramEnd ∧ a + n ≤ dramEnd then none else some (if a < dramEnd then dramEnd else a)

/-- The mean and the largest magnitude of one dimension of a block (R143): FP32 sum over the tokens in an order that free
values choose, divided by their count, scaled by 2^−(SSCALE − 127), the mean to E4M3 and the magnitude rounded up. -/
def summaryPair (free : Nat) (ks : List FVal) (sscale : Nat) : Nat × Nat :=
  if ks.any (·.isNan) then (0x7f, 0x7f)
  else
    let inf := ks.find? FVal.special
    match inf with
    | some v =>
      -- infinities of both signs: the sign of the mean is open
      let both := (ks.filter FVal.special).any fun u => u.isNeg != v.isNeg
      (if (if both then (Config.freeNat free).testBit 0 else v.isNeg) then 0xfe else 0x7e, 0x7e)
    | none =>
      let add (a b : FVal) : FVal := f32 (fp32.encode (a.add b))
      let sum := (freeSum add ks.length free ks).1
      let mean := f32 (fp32.encode (sum.div (.ofInt ks.length)))
      let sc := pow2Val (127 - (sscale : Int))
      let mx := (amaxOf ks).mul sc
      let mag := (((List.range 0x7f)).find? fun c => !(e4m3.decode c).lt mx).getD 0x7e
      (e4m3.encodeSat (mean.mul sc), mag)

/-- GSUM (R143, R151, R152, R157). -/
def State.gsumRun (s : State) (o : GougeOp) (f : FmtSlot) : GougeEnd × State :=
  let d := selDescOf o.descBytes
  let err := d.error f.afmt
  if err ≠ 0 then (.status 0 false err, s)
  else if d.blocks ≤ o.block then (.status 2 false 0, s)
  else
    let bt := d.btaddr + 8 * o.block
    match gougeRange bt 8 with
    | some e => (.fault 0x05 e, s)
    | none =>
      let r := s.gougeRead bt 8
      match r.1 with
      | .error e => (.bad e, r.2)
      | .ok ent =>
        let g := leNat ent
        if !s.isOwn g then (.status 1 false 0, r.2)
        else
          let n := d.tokens o.block
          let w := fmtWidth f.kvfmt / 8
          let ka := (gLocal g + d.segoff) % 2 ^ 43
          let sa := d.sumaddr + o.block * 2 * d.dim
          match (gougeRange ka (n * d.dim * w)).or (gougeRange sa (2 * d.dim)) with
          | some e => (.fault 0x05 e, r.2)
          | none =>
            let q := r.2.gougeRead ka (n * d.dim * w)
            match q.1 with
            | .error e => (.bad e, q.2)
            | .ok keys =>
              let s := q.2
              let col (j : Nat) := (List.range n).map fun t => decodeFmt f.kvfmt (leAt keys ((t * d.dim + j) * w) w)
              let ps := (List.range d.dim).map fun j => summaryPair (s.free + 128 * j) (col j) d.sscale
              let rcd := ps.flatMap (fun p => leBytes 1 p.1) ++ ps.flatMap (fun p => leBytes 1 p.2)
              (.status 0 false 0, (s.memWrite sa rcd false).2.drawnBy (128 * d.dim))

/-- The score of a candidate for one query (R147). -/
def blockScore (free : Nat) (q : List FVal) (rcd : List Byte) (lambda : Nat) : FVal :=
  let dim := q.length
  let mu := (List.range dim).map fun j => e4m3.decode (leAt rcd j 1)
  let mx := (List.range dim).map fun j => e4m3.decode (leAt rcd (dim + j) 1)
  let add (a b : FVal) : FVal := f32 (fp32.encode (a.add b))
  let s1 := (freeSum add dim free (List.zipWith FVal.mul q mu)).1
  let s2 := (freeSum add dim (free + 2 * dim) (List.zipWith FVal.mul (q.map FVal.abs) mx)).1
  add s1 ((FVal.fin false lambda 256).mul s2)

/-- The largest score over the queries that is not NaN; NaN when all are (R147). -/
def topScore (l : List FVal) : FVal :=
  (l.filter (!·.isNan)).foldl (fun m v => if m.isNan || m.lt v then v else m) .nan

/-- A score and block rank above others (R147): the higher score, a number above NaN, and on a tie the more recent block. -/
def ranksAbove (a b : FVal × Nat) : Bool :=
  match a.1.isNan, b.1.isNan with
  | true, true => decide (b.2 < a.2)
  | true, false => false
  | false, true => true
  | false, false => if a.1.eqv b.1 then decide (b.2 < a.2) else b.1.lt a.1

/-- Sink and window bits of a block, and the tail (R147, R150). -/
def SelDesc.why (d : SelDesc) (b : Nat) : Nat :=
  let n := d.blocks
  bit (b + 1 == n) + 2 * bit (decide (b < min d.sink n)) + 4 * bit (decide (n - d.win ≤ b))

/-- A list entry before its order is fixed: block, address, WHY, RANK. -/
structure SelEntry where
  block : Nat
  addr : Nat
  why : Nat
  rank : Nat
  deriving DecidableEq, Repr

/-- The place of an entry in the list (R149): local blocks by bank key, then remote blocks by module, then by index. -/
def State.selKey (s : State) (e : SelEntry) : Nat × Nat × Nat :=
  if s.isOwn e.addr then (0, bankKey (gLocal e.addr), e.block) else (1, gMod e.addr, e.block)

def lexLe (a b : Nat × Nat × Nat) : Bool :=
  decide (a.1 < b.1) || (a.1 == b.1 && (decide (a.2.1 < b.2.1) || (a.2.1 == b.2.1 && decide (a.2.2 ≤ b.2.2))))

/-- The 16 bytes of a list entry (R150). -/
def SelDesc.entry (d : SelDesc) (e : SelEntry) : List Byte :=
  leBytes 8 e.addr ++ leBytes 4 e.block ++ leBytes 1 (d.tokens e.block) ++ leBytes 1 e.why ++ leBytes 2 e.rank

/-- Read the block table entries of the listed blocks, with SEGOFF added to bits 42:0 (R150). -/
def State.selEntries (s : State) (d : SelDesc) (l : List (Nat × Nat × Nat)) : Except GougeEnd (List SelEntry) × State :=
  l.foldl (fun acc b =>
    match acc.1 with
    | .error e => (.error e, acc.2)
    | .ok es =>
      match gougeRange (d.btaddr + 8 * b.1) 8 with
      | some e => (.error (.fault 0x05 e), acc.2)
      | none =>
        let r := acc.2.gougeRead (d.btaddr + 8 * b.1) 8
        match r.1 with
        | .error e => (.error (.bad e), r.2)
        | .ok ent =>
          let g := leNat ent
          let addr := g / 2 ^ 43 * 2 ^ 43 + (gLocal g + d.segoff) % 2 ^ 43
          (.ok (es ++ [⟨b.1, addr, b.2.1, b.2.2⟩]), r.2)) (.ok [], s)

/-- The candidates at places K′ − 1 and K′ have equal scores (R158). -/
def boundaryTie (ranked : List (FVal × Nat)) (kp : Nat) : Bool :=
  match ranked[kp - 1]?, ranked[kp]? with
  | some a, some b => decide (0 < kp) && a.1.eqv b.1
  | _, _ => false

/-- GSEL in selective mode (R147, R149, R153). -/
def State.gselSelect (s : State) (o : GougeOp) (f : FmtSlot) (d : SelDesc) (part : Nat) (kp : Nat) : GougeEnd × State :=
  let lathe := o.spindle / 8
  let n := d.blocks
  let mand := (List.range n).filter fun b => d.why b != 0
  let cands := (List.range n).filter fun b => d.why b == 0
  let w := fmtWidth f.afmt / 8
  let qs := (List.range d.g).map fun g =>
    (List.range d.dim).map fun j => decodeFmt f.afmt (s.num (bowlAddr o.spindle (d.qoff + (g * d.dim + j) * w)) w)
  -- scores of the candidates
  let r := cands.foldl (fun (acc : Except GougeEnd (List (FVal × Nat)) × State) b =>
    match acc.1 with
    | .error e => (.error e, acc.2)
    | .ok l =>
      let a := d.sumaddr + b * 2 * d.dim
      match gougeRange a (2 * d.dim) with
      | some e => (.error (.fault 0x05 e), acc.2)
      | none =>
        let q := acc.2.gougeRead a (2 * d.dim)
        match q.1 with
        | .error e => (.error (.bad e), q.2)
        | .ok rcd =>
          let s := q.2
          let sc := topScore (qs.zipIdx.map fun x => blockScore (s.free + 4 * d.dim * x.2) x.1 rcd d.lambda)
          (.ok (l ++ [(sc, b)]), (s.drawnBy (4 * d.dim * d.g)).count 1 lathe 0x004 (2 * d.dim / 64))) (.ok [], s)
  match r.1 with
  | .error e => (e, r.2)
  | .ok scored =>
    let ranked := scored.mergeSort ranksAbove
    let sel := (ranked.take kp).zipIdx.map fun x => (x.1.2, 8, x.2)
    let s := r.2
    let nans := (scored.filter fun x => x.1.isNan).length
    let tie := boundaryTie ranked kp
    let e := s.selEntries d (mand.map (fun b => (b, d.why b, 0xffff)) ++ sel)
    match e.1 with
    | .error x => (x, e.2)
    | .ok es =>
      let s := e.2
      let es := es.mergeSort fun a b => lexLe (s.selKey a) (s.selKey b)
      let s := s.putBytes (bowlAddr o.spindle part) (es.flatMap d.entry)
      let s := (s.inc (Reg.GGE_SCORED_BLOCKS lathe) cands.length).count 1 lathe 0x003 cands.length
      let s := s.inc (Reg.GGE_TIES_NANS lathe) nans
      let s := s.when tie fun s => (s.inc (Reg.GGE_TIES_BOUNDARY lathe) 1).count 1 lathe 0x007 1
      (.status es.length false 0, s)

/-- GSEL (R148, R152, R153). -/
def State.gselRun (s : State) (o : GougeOp) (f : FmtSlot) : GougeEnd × State :=
  let d := selDescOf o.descBytes
  let err := d.error f.afmt
  if err ≠ 0 then (.status 0 true err, s)
  else if o.dense d then (.status d.blocks true 0, s)
  else
    let kp := o.kPrime d
    match s.bowlPart o.spindle 3 with
    | none => (.fault 0x0b 0, s)
    | some p =>
      if p.2 < 16 * (kp + max d.win 1 + d.sink) then (.fault 0x0b 0, s) else s.gselSelect o f d p.1 kp

/-- One attempt at a gouge instruction. -/
def State.gougeRun (s : State) (o : GougeOp) (f : FmtSlot) : GougeEnd × State :=
  if o.select then s.gselRun o f else s.gsumRun o f

/-- The status word of a gouge instruction (R152). -/
def gougeStatus (count : Nat) (dense : Bool) (err : Nat) : Nat :=
  count % 2 ^ 20 + 2 ^ 20 * bit dense + 2 ^ 24 * err + (if err = 0 then 0 else 2 ^ 31)

/-- GOUGE_INSTRUCTION_COMPLETE: the executing instruction of a lathe group's gouge ends: the status goes to every enabled
thread, or the gang faults; a failing line restarts it once (R154). A gang that has gone takes nothing. -/
def execGougeInstructionComplete (lathe : Fin 36) (s : State) : Out := s.run fun s =>
  match alGet [] s.gge lathe.val with
  | [] => s
  | o :: rest =>
    let pop (s : State) : State := ({ s with gge := alSet s.gge lathe.val rest } : State).gougeBegin lathe
    match s.gang o.spindle o.gang, s.fmtSlot o.spindle o.fslot with
    | some x, some f =>
      if x.pc ≠ o.pc + 1 ∨ x.wait ≠ .unit then pop s
      else
        let d := selDescOf o.descBytes
        let waits := d.error f.afmt == 0 && !(o.select && o.dense d) &&
          (!(List.range 4).all s.pierUp || s.lm.txns.any fun t => t.stage == .reread)
        if waits then s
        else
          let r := s.gougeRun o f
          let r : GougeEnd × State × Bool := match r.1 with
            | .bad _ => let q := (r.2.replayBegun o.spindle).gougeRun o f; (q.1, q.2, true)
            | e => (e, r.2, false)
          let s := pop r.2.1
          let s := s.updGang o.spindle o.gang fun y => { y with wait := .running }
          match r.1 with
          | .bad a => (s.replayEnd o.spindle false).spnFault o.spindle o.gang 0x0a 3 a o.pc
          | .fault code a =>
            let s := if r.2.2 then s.replayEnd o.spindle true else s
            (if code = 0x05 && unmappedForSpindle a then s.unmapped a 0 o.spindle else s).spnFault o.spindle o.gang code 0 a o.pc
          | .status count dense err =>
            let s := if r.2.2 then s.replayEnd o.spindle true else s
            let s := s.updGang o.spindle o.gang fun y =>
              y.putAll o.enabled o.dst false fun _ => gougeStatus count dense err
            let s := if err ≠ 0 then s.set (Reg.GGE_STATUS_LASTERR lathe) err else s
            let s :=
              if o.select then
                ((s.set (Reg.GGE_STATUS_LASTCOUNT lathe) count).inc (Reg.GGE_SELECTS_SEL lathe) 1).count 1 lathe 0x001 1
              else (s.inc (Reg.GGE_SELECTS_SUMS lathe) 1).count 1 lathe 0x002 1
            s.tryCommit o.spindle o.gang
    | _, _ => pop s

end Sys2Proof.Machine
end

