-- ==== Sys2Proof/Machine/Service.lean ====
section
/-! DEFINITION. Machine/Service.lean: the request-service instructions (class SVC): SAMPLE, EMIT and KVB (R221 to R225).
The choices of the model here: log 35. -/

namespace Sys2Proof.Machine

/-- The request an SVC instruction works on (R221): the instance's, or the one in the batch entry that IMM[5:0] names. -/
def State.svcRequest (s : State) (set : Nat) (w : IWord) : Option Nat :=
  match s.inst set with
  | none => none
  | some n =>
    match n.request with
    | some h => if (s.req h).any (!·.ended) then some h else none
    | none =>
      (s.hds.requests.find? fun r => r.set == set && r.attached && !r.ended && r.batch == some (w.imm % 64)).map (·.handle)

/-- Write a status to DST of the enabled threads. -/
def State.svcStatus (s : State) (i g : Nat) (ts : List Nat) (dst v : Nat) : State :=
  s.updGang i g fun y => y.putAll ts dst false fun _ => v

/-- A STOP status: no token is appended, and the specification states no TOKEN, which is a free value (log 1). -/
def State.svcStop (s : State) (i g : Nat) (ts : List Nat) (dst reason : Nat) : State :=
  (s.svcStatus i g ts dst (statusWord s.fresh reason)).drawn

/-- The request has ended: the reason that SAMPLE and EMIT return (R223). -/
def State.endReason (s : State) (h : Nat) : Option Nat := (s.req h).bind fun r => r.cause.map (·.2.2)

/-- A request's stop has been reported by a status. -/
def State.reportStop (s : State) (h : Nat) : State := s.updReq h fun r => { r with reported := true }

/-- SAMPLE and EMIT before their own work (R203, R222, R223): no request, an ended request, a full ring. -/
def svcBegin (s : State) (i : Nat) (x : Gang) (w : IWord) (f : Nat → Issued) : Issued :=
  match s.svcRequest x.set w with
  | none => .done (s.svcStop i x.gang (x.enabled w) w.dst 6)
  | some h =>
    match s.endReason h with
    | some reason => .done ((s.reportStop h).svcStop i x.gang (x.enabled w) w.dst reason)
    | none => if s.tokenBlocked h then .wait else f h

/-- EMIT (R221): appends a token. -/
def bodyEmit (s : State) (i : Nat) (x : Gang) (w : IWord) : Issued :=
  svcBegin s i x w fun h =>
    let r := s.appendToken h (x.reg (x.lead w) w.src1 % 2 ^ 20)
    .done (r.2.svcStatus i x.gang (x.enabled w) w.dst r.1)

/-- SAMPLE at issue (R222): a V out of range ends the request, a bad address faults; else the logits are to be read. -/
def bodySample (s : State) (i : Nat) (x : Gang) (w : IWord) : Issued :=
  svcBegin s i x w fun h =>
    let t := x.lead w
    let a := x.pair t w.src1
    let v := x.reg t w.src2
    if v = 0 ∨ 1048576 < v then
      .done (((s.endCause h 0x0f 0 5).reportStop h).svcStop i x.gang (x.enabled w) w.dst 5)
    else if a % 64 ≠ 0 then .fault s 0x06 0 a
    else match operandBad i a (4 * v) true with
    | some (e, u) => .fault (if u then s.unmapped e 0 i else s) 0x05 0 a
    | none =>
      let o : SampleOp :=
        { spindle := i, gang := x.gang, pc := x.pc, handle := h, addr := a, v, dst := w.dst, enabled := x.enabled w }
      let s := { s with hds := { s.hds with samples := s.hds.samples ++ [o] } }
      .done (s.updGang i x.gang fun y => { y with wait := .unit })

/-- KVB (R221, R224): the address of a block, all ones when there is none. -/
def bodyKvb (s : State) (i : Nat) (x : Gang) (w : IWord) : Issued :=
  let put (s : State) (v : Nat) : Issued := .done (s.updGang i x.gang fun y => y.putAll (x.enabled w) w.dst true fun _ => v)
  match s.svcRequest x.set w with
  | none => put s (2 ^ 64 - 1)
  | some h => let r := s.kvBlock h (x.reg (x.lead w) w.src1); put r.2 r.1

/-! ### The draw (R225) -/

/-- log2 e in units of 2^−200. -/
def log2e200 : Nat := 2318321547468254865173387471183990171487108758923299108729110

/-- A weight: e^x for x ≤ 0 in FP32 within the bound of FEXP2, picked by a free value (R225, log 1). -/
def expWeight (free : Nat) (x : FVal) : Nat :=
  match x with
  | .nan => free % 2 ^ 32
  | .inf neg => if neg then 0 else fp32.infCode false
  | .fin neg n d =>
    -- x · log2 e in units of 2^−160, rounded down
    let y : Int := signedNum neg (n * log2e200 / (d * 2 ^ 40))
    let y := if neg ∧ n ≠ 0 then y - 1 else y
    let fl := y / (2 ^ fixBits : Nat)
    if fl < -200 then ulpPick free 2 false 1 (2 ^ 200)
    else
      let nd := scale2 (pow2Fix (y - fl * (2 ^ fixBits : Nat)).toNat) (2 ^ fixBits) fl
      ulpPick free 2 false nd.1 nd.2

/-- The running sums of a list of weights, in FP32, in order. -/
def runningSums : Nat → List Nat → List Nat
  | _, [] => []
  | acc, w :: ws => let a := fadd32 acc w; a :: runningSums a ws

/-- The logits with NaN taken as −Inf. -/
def logitVal (v : Nat) : FVal := if (f32 v).isNan then .inf true else f32 v

/-- The index of the largest logit, the lowest on a tie. -/
def argmaxIdx (l : List (FVal × Nat)) : Nat :=
  match l with
  | [] => 0
  | a :: m => (m.foldl (fun b c => if b.1.lt c.1 then c else b) a).2

/-- Draw a token from logits (R225): none when every logit is −Inf. `free` numbers the free values it may use: two for the
draw and the rounding of TOPP × W, then one for each weight. -/
def drawToken (free : Nat) (e : SubEntry) (logits : List Nat) : Option Nat :=
  let l := (logits.map logitVal).zipIdx
  if l.all fun p => p.1 == .inf true then none
  else match l.find? fun p => p.1 == .inf false with
    | some p => some p.2
    | none =>
      let temp := f32 e.temp
      if temp.isNan || temp.isNeg || temp.zero? || e.topk == 1 then some (argmaxIdx l)
      else
        let ranked := l.mergeSort fun a b => b.1.lt a.1 || (!a.1.lt b.1 && decide (a.2 ≤ b.2))
        let c := if e.topk = 0 then ranked else ranked.take e.topk
        let lmax := (c.headD (.nan, 0)).1
        let neg (v : FVal) : FVal := (FVal.ofInt (-1)).mul v
        let ws := c.zipIdx.map fun p => expWeight (Config.freeNat (free + 2 + p.2)) ((p.1.1.add (neg lmax)).div temp)
        let sums := runningSums 0 ws
        let total := f32 (sums.getLastD 0)
        let topp := f32 e.topp
        -- TOPP × W, rounded to FP32 or not: the specification leaves it open
        let bound := if (Config.freeNat (free + 1)).testBit 0 then topp.mul total else f32 (fp32.encode (topp.mul total))
        let keep :=
          if (FVal.ofInt 0).lt topp && topp.lt (.ofInt 1) then
            match sums.findIdx? fun x => !(f32 x).lt bound with
            | some k => k + 1
            | none => sums.length
          else sums.length
        let kept := (c.zip sums).take keep
        let wp := f32 ((sums.take keep).getLastD 0)
        let r := (FVal.fin false (2 * (Config.freeNat free % 2 ^ 24) + 1) (2 ^ 25)).mul wp
        match kept.find? fun p => r.lt (f32 p.2) with
        | some p => some p.1.2
        | none => kept.getLast?.map (·.1.2)

/-- The logits, line by line, each with its own replay (R99): the bytes, or the address of the first line that failed twice. -/
def State.sampleRead (s : State) (i a n : Nat) : Except Nat (List Byte) × State :=
  (piecesOf a n).foldl (fun (acc : Except Nat (List Byte) × State) x =>
    match acc.1 with
    | .error e => (.error e, acc.2)
    | .ok l =>
      let r := acc.2.lineReplay i x.1 false false false
      match r.1 with
      | some d => (.ok (l ++ slice d x.2.1 x.2.2), r.2)
      | none => (.error (64 * x.1), r.2)) (.ok [], s)

/-- SAMPLE_LOGITS_READ: every line of the logits has passed, or failed twice (R99, R222, R223, R225). -/
def execSampleLogitsRead (i : Fin 288) (g : Fin 256) (s : State) : Out := s.run fun s =>
  match s.hds.samples.find? fun o => o.spindle == i.val && o.gang == g.val with
  | none => s
  | some o =>
    if !s.memAvail o.addr (4 * o.v) then s
    else
      let s := { s with hds := { s.hds with samples := s.hds.samples.filter (· != o) } }
      match s.gang i g with
      | none => s
      | some x =>
        if x.wait ≠ .unit then s
        else
          let s := s.updGang i g fun y => { y with wait := .running }
          let stop (s : State) (reason : Nat) : State := ((s.reportStop o.handle).svcStop i g o.enabled o.dst reason).tryCommit i g
          match s.endReason o.handle with
          | some reason => stop s reason
          | none =>
            let q := s.sampleRead i o.addr (4 * o.v)
            match q.1 with
            | .error a => q.2.spnFault i g 0x0a 6 a o.pc
            | .ok d =>
              let logits := (List.range o.v).map fun k => leAt d (4 * k) 4
              match (q.2.req o.handle).map (·.entry) with
              | none => stop q.2 6
              | some e =>
                match drawToken q.2.free e logits with
                | none => stop ((q.2.drawnBy (2 + o.v)).endCause o.handle 0x0f 0 5) 5
                | some t =>
                  let a := (q.2.drawnBy (2 + o.v)).appendToken o.handle t
                  (a.2.svcStatus i g o.enabled o.dst a.1).tryCommit i g

end Sys2Proof.Machine
end

