-- ==== Sys2Proof/Machine/Issue.lean ====
section
/-! DEFINITION. Machine/Issue.lean: issue of the instructions of a spindle (R88 to R93, R97, R569, R570): what each operation does, which
gang a slot picks, and the command of each operation.
The choices of the model here: logs 4, 15, 38, 62 and 69. -/

namespace Sys2Proof.Machine

/-- What each operation does. -/
def bodyOf (o : SpnOp) : State → Nat → Gang → IWord → Issued :=
  match o with
  | .ld => bodyLd
  | .st => bodySt
  | .ldblk => bodyCopy true
  | .stblk => bodyCopy false
  | .waitI => bodyWait
  | .gld => bodyGld
  | .gst => bodyGst
  | .gldblk => bodyGcopy true
  | .gstblk => bodyGcopy false
  | .aadd => bodyAtomic .add32
  | .amax => bodyAtomic .max32
  | .aswap => bodyAtomic .swap32
  | .acas => bodyAtomic .cas32
  | .aadd64 => bodyAtomic .add64
  | .acas64 => bodyAtomic .cas64
  | .nop => bodyNop
  | .br => bodyBr
  | .brall => bodyBrall
  | .brany => bodyBrany
  | .movi => toReg fun _ _ w _ => unsigned 32 w.simm
  | .movhi => toReg fun _ x w t => x.reg t w.dst % 2 ^ 16 + w.imm * 2 ^ 16
  | .tid => toReg fun _ _ _ t => t
  | .ftrd => bodyFtrd
  | .setp => toPred fun x w t => setpTest (x.reg t w.src1)
  | .endG => bodyEnd
  | .fadd => binary fadd32
  | .fmul => binary fmul32
  | .ffma => toReg fun _ x w t => ffma32 (x.reg t w.src1) (x.reg t w.src2) (x.reg t w.src3)
  | .fmax => binary fmax32
  | .fmin => binary fmin32
  | .fexp2 => approx fexp2
  | .flog2 => approx flog2
  | .frcp => approx frcp
  | .frsq => approx frsq
  | .iadd => binary fun a b => (a + b) % 2 ^ 32
  | .imul => binary fun a b => a * b % 2 ^ 32
  | .andB => binary fun a b => a &&& b
  | .orB => binary fun a b => a ||| b
  | .xorB => binary fun a b => a ^^^ b
  | .shl => binary fun a b => a * 2 ^ (b % 32) % 2 ^ 32
  | .shr => binary fun a b => a % 2 ^ 32 / 2 ^ (b % 32)
  | .fsetp => toPred fun x w t => fsetpTest (bits w.imm 3 3) (x.reg t w.src1) (x.reg t w.src2)
  | .isetp => toPred fun x w t => isetpTest (bits w.imm 3 3) (x.reg t w.src1) (x.reg t w.src2)
  | .shfl => toReg fun _ x w t => shfl x w t
  | .cvtf => toReg fun _ x w t => cvtf (w.imm % 256) (w.imm / 256) (x.reg t w.src1)
  | .pack => bodyPack
  | .unpack => bodyUnpack
  | .tmma => bodyTmm 0 64
  | .tmv => bodyTmm 1 1
  | .tzero => bodyTzero
  | .tstore => bodyTstore
  | .bar => bodyBar
  | .red => bodyRed
  | .redv => bodyRedv
  | .fenceI => bodyFence
  | .gsum => bodyGouge false
  | .gsel => bodyGouge true
  | .sample => bodySample
  | .emit => bodyEmit
  | .kvb => bodyKvb

/-! ### Picking a gang (R90) -/

/-- Registers with a load's write pending. -/
def Gang.pendingRegs (x : Gang) : List Nat := x.loads.flatMap fun l => usedRegs [(l.dst, l.pair)]

/-- The gang can begin or continue: it runs, and a new group begins only without QUIESCE (R108). -/
def State.gangReady (s : State) (i : Nat) (x : Gang) : Bool :=
  x.wait == .running && !x.closed && !(x.issuedCount == 0 && s.flag (Reg.SPN_CTL_QUIESCE i))

/-- The instruction's registers lie below the gang's R, or the gang faults (R88). -/
def regsOk (x : Gang) (o : SpnOp) (w : IWord) : Bool := (usedRegs (o.reads w ++ o.writes w)).all fun r => decide (r < x.nregs)

/-- No register that the instruction reads has a pending write (R90). -/
def Gang.sourcesReady (x : Gang) (o : SpnOp) (w : IWord) : Bool := !(usedRegs (o.reads w)).any x.pendingRegs.contains

/-- The instruction is skipped: it acts once for the gang, and no thread is enabled (R569). -/
def Gang.skips (x : Gang) (o : SpnOp) (w : IWord) : Bool := o.once && (x.enabled w).isEmpty

/-- The unit that the instruction needs accepts it. -/
def State.unitTakes (s : State) (i : Nat) (x : Gang) (o : SpnOp) (w : IWord) : Bool :=
  x.skips o w || match bodyOf o s i x w with
    | .wait => false
    | _ => true

/-- The slot that the next instruction of a gang competes for, when it is ready (R90): V0 and V1 count as one here. -/
def State.readySlot (s : State) (i : Nat) (x : Gang) : Option Nat :=
  if !s.gangReady i x || decide (x.pc < 0) || decide ((x.ninstr : Int) ≤ x.pc) then none
  else match s.fetchWord i x with
    | none => none
    | some word =>
      let w := iwordOf word
      match legalOp w (s.latencySet x.set) with
      | none => none
      | some o =>
        if !x.sourcesReady o w || (x.issuedCount != 0 && x.boundaryBefore o w && !x.loads.isEmpty) then none
        else if regsOk x o w && !s.unitTakes i x o w then none
        else some (slotOfClass w.cls)

/-- Of two gangs that are ready for a slot, the one that has gone longer since its last issue, and on a tie the lower number (R90). -/
def Gang.issuesBefore (x y : Gang) : Bool := decide (x.lastIssue < y.lastIssue) || (x.lastIssue == y.lastIssue && decide (x.gang ≤ y.gang))

/-- The slot of the gang's next instruction picks this gang (R90). -/
def State.picks (s : State) (i : Nat) (x : Gang) (slot : Nat) : Bool :=
  (s.spindle i).gangs.all fun y => s.readySlot i y != some slot || x.issuesBefore y

/-- The slot of an instruction of a gang, for the counters (R90, R428): 0 S, 1 M, 2 V0, 3 V1, 4 T. V0 is taken when another gang's
instruction took it at this time of the model's clock (log 69). -/
def State.slotFor (s : State) (i : Nat) (x : Gang) (w : IWord) : Nat :=
  if slotOfClass w.cls = 2 ∧ (s.spindle i).vecAt.any (fun p => p.1 == s.now && p.2 != x.gang) then 3 else slotOfClass w.cls

/-! ### Issue -/

/-- The tag countdown of a spindle (R434): at the instruction at which it ends, that instruction is tagged. -/
def State.tagIssue (s : State) (i : Nat) (x : Gang) (w slot : Nat) : State :=
  if s.flag (Reg.SPN_PMC_TAG_EN i) && (s.spindle i).tagged.isNone && decide (0 < (s.spindle i).tagCount) then
    s.updSpindle i fun sp =>
      if sp.tagCount = 1 then
        { sp with tagCount := 0, tagged := some { gang := x.gang, pc := x.pc, slot, word := w, ft := s.ft } }
      else { sp with tagCount := sp.tagCount - 1 }
  else s

/-- The registers of enabled threads that an instruction writes are not written by the loads that were in flight before it (R90). -/
def PendingLoad.killedBy (l : PendingLoad) (x : Gang) (o : SpnOp) (w : IWord) : PendingLoad :=
  if x.loads.any fun k => k.num == l.num then
    { l with dead := l.dead ++ (x.enabled w).flatMap fun t => (usedRegs (o.writes w)).map fun r => t * 128 + r }
  else l

/-- An instruction has issued: its slot, the group's masks and counts, the next instruction index, and the boundary after it. -/
def State.issued (s : State) (i : Nat) (x : Gang) (o : SpnOp) (w : IWord) (word : Nat) (off : Int) : State :=
  let g := x.gang
  let slot := s.slotFor i x w
  let n := (s.spindle i).issueNo + 1
  let s := (s.tagIssue i x word slot).updSpindle i fun sp =>
    { sp with issueNo := n, vecAt := if slot = 2 then some (s.now, g) else if slot = 3 then none else sp.vecAt }
  let s := s.updGang i g fun y =>
    { y.mask o w with pc := x.pc + off, groupIssued := y.groupIssued.modify slot (· + 1), closed := w.gb || o.ownGroup, lastIssue := n,
                      loads := y.loads.map fun l => l.killedBy x o w }
  if w.gb || o.ownGroup then s.tryCommit i g else s

/-- Attempt to issue a decoded instruction whose group stands ready for it. -/
def State.issueBody (s : State) (i g : Nat) (o : SpnOp) (w : IWord) (word : Nat) : State :=
  match s.gang i g with
  | none => s
  | some x =>
    if !s.picks i x (slotOfClass w.cls) then s
    else if x.skips o w then s.issued i x o w word 1
    else match bodyOf o s i x w with
      | .done s' => s'.issued i x o w word 1
      | .jump s' off => s'.issued i x o w word off
      | .wait => s
      | .fault s' code detail addr => s'.spnFault i g code detail addr x.pc

/-- Issue of one instruction of a gang (R90): the command names the operation, which must be the gang's next, and the gang must be the one
that the slot picks. -/
def State.issue (s : State) (i g : Nat) (o : SpnOp) : State :=
  let s := s.tryCommit i g
  match s.gang i g with
  | none => s
  | some x =>
    if !s.gangReady i x then s
    else if x.pc < 0 ∨ (x.ninstr : Int) ≤ x.pc then s.spnFault i g 0x05 0 (fetchAddr x x.pc) x.pc
    else match s.fetchWord i x with
      | none => s
      | some word =>
        let w := iwordOf word
        if legalOp w (s.latencySet x.set) ≠ some o then s
        else if !regsOk x o w then s.spnFault i g 0x02 0 0 x.pc
        else if !x.sourcesReady o w then s
        else if x.issuedCount ≠ 0 ∧ x.boundaryBefore o w then
          -- the group ends here; the instruction issues once it has committed
          let s := (s.updGang i g fun y => { y with closed := true }).tryCommit i g
          match s.gang i g with
          | some y => if s.gangReady i y then s.issueBody i g o w word else s
          | none => s
        else s.issueBody i g o w word

/-! ### The command of each operation -/

/-- RESERVED_OPERATION (R93): the gang's next word has a cause of fault code 0x01, and faults when it is decoded. -/
def execReservedOperation (i : Fin 288) (g : Fin 256) (s : State) : Out := s.run fun s =>
  let s := s.tryCommit i g
  match s.gang i g with
  | none => s
  | some x =>
    if !s.gangReady i x || decide (x.pc < 0) || decide ((x.ninstr : Int) ≤ x.pc) then s
    else match s.fetchWord i x with
      | none => s
      | some word =>
        if (legalOp (iwordOf word) (s.latencySet x.set)).isSome then s else s.spnFault i g 0x01 0 0 x.pc

def execLd (i : Fin 288) (g : Fin 256) (s : State) : Out := s.run fun s => s.issue i g .ld
def execSt (i : Fin 288) (g : Fin 256) (s : State) : Out := s.run fun s => s.issue i g .st
def execLdblk (i : Fin 288) (g : Fin 256) (s : State) : Out := s.run fun s => s.issue i g .ldblk
def execStblk (i : Fin 288) (g : Fin 256) (s : State) : Out := s.run fun s => s.issue i g .stblk
def execWait (i : Fin 288) (g : Fin 256) (s : State) : Out := s.run fun s => s.issue i g .waitI
def execGld (i : Fin 288) (g : Fin 256) (s : State) : Out := s.run fun s => s.issue i g .gld
def execGst (i : Fin 288) (g : Fin 256) (s : State) : Out := s.run fun s => s.issue i g .gst
def execGldblk (i : Fin 288) (g : Fin 256) (s : State) : Out := s.run fun s => s.issue i g .gldblk
def execGstblk (i : Fin 288) (g : Fin 256) (s : State) : Out := s.run fun s => s.issue i g .gstblk
def execAadd (i : Fin 288) (g : Fin 256) (s : State) : Out := s.run fun s => s.issue i g .aadd
def execAmax (i : Fin 288) (g : Fin 256) (s : State) : Out := s.run fun s => s.issue i g .amax
def execAswap (i : Fin 288) (g : Fin 256) (s : State) : Out := s.run fun s => s.issue i g .aswap
def execAcas (i : Fin 288) (g : Fin 256) (s : State) : Out := s.run fun s => s.issue i g .acas
def execAadd64 (i : Fin 288) (g : Fin 256) (s : State) : Out := s.run fun s => s.issue i g .aadd64
def execAcas64 (i : Fin 288) (g : Fin 256) (s : State) : Out := s.run fun s => s.issue i g .acas64
def execNop (i : Fin 288) (g : Fin 256) (s : State) : Out := s.run fun s => s.issue i g .nop
def execBr (i : Fin 288) (g : Fin 256) (s : State) : Out := s.run fun s => s.issue i g .br
def execBrall (i : Fin 288) (g : Fin 256) (s : State) : Out := s.run fun s => s.issue i g .brall
def execBrany (i : Fin 288) (g : Fin 256) (s : State) : Out := s.run fun s => s.issue i g .brany
def execMovi (i : Fin 288) (g : Fin 256) (s : State) : Out := s.run fun s => s.issue i g .movi
def execMovhi (i : Fin 288) (g : Fin 256) (s : State) : Out := s.run fun s => s.issue i g .movhi
def execTid (i : Fin 288) (g : Fin 256) (s : State) : Out := s.run fun s => s.issue i g .tid
def execFtrd (i : Fin 288) (g : Fin 256) (s : State) : Out := s.run fun s => s.issue i g .ftrd
def execSetp (i : Fin 288) (g : Fin 256) (s : State) : Out := s.run fun s => s.issue i g .setp
def execEnd (i : Fin 288) (g : Fin 256) (s : State) : Out := s.run fun s => s.issue i g .endG
def execFadd (i : Fin 288) (g : Fin 256) (s : State) : Out := s.run fun s => s.issue i g .fadd
def execFmul (i : Fin 288) (g : Fin 256) (s : State) : Out := s.run fun s => s.issue i g .fmul
def execFfma (i : Fin 288) (g : Fin 256) (s : State) : Out := s.run fun s => s.issue i g .ffma
def execFmax (i : Fin 288) (g : Fin 256) (s : State) : Out := s.run fun s => s.issue i g .fmax
def execFmin (i : Fin 288) (g : Fin 256) (s : State) : Out := s.run fun s => s.issue i g .fmin
def execFexp2 (i : Fin 288) (g : Fin 256) (s : State) : Out := s.run fun s => s.issue i g .fexp2
def execFlog2 (i : Fin 288) (g : Fin 256) (s : State) : Out := s.run fun s => s.issue i g .flog2
def execFrcp (i : Fin 288) (g : Fin 256) (s : State) : Out := s.run fun s => s.issue i g .frcp
def execFrsq (i : Fin 288) (g : Fin 256) (s : State) : Out := s.run fun s => s.issue i g .frsq
def execIadd (i : Fin 288) (g : Fin 256) (s : State) : Out := s.run fun s => s.issue i g .iadd
def execImul (i : Fin 288) (g : Fin 256) (s : State) : Out := s.run fun s => s.issue i g .imul
def execAnd (i : Fin 288) (g : Fin 256) (s : State) : Out := s.run fun s => s.issue i g .andB
def execOr (i : Fin 288) (g : Fin 256) (s : State) : Out := s.run fun s => s.issue i g .orB
def execXor (i : Fin 288) (g : Fin 256) (s : State) : Out := s.run fun s => s.issue i g .xorB
def execShl (i : Fin 288) (g : Fin 256) (s : State) : Out := s.run fun s => s.issue i g .shl
def execShr (i : Fin 288) (g : Fin 256) (s : State) : Out := s.run fun s => s.issue i g .shr
def execFsetp (i : Fin 288) (g : Fin 256) (s : State) : Out := s.run fun s => s.issue i g .fsetp
def execIsetp (i : Fin 288) (g : Fin 256) (s : State) : Out := s.run fun s => s.issue i g .isetp
def execShfl (i : Fin 288) (g : Fin 256) (s : State) : Out := s.run fun s => s.issue i g .shfl
def execCvtf (i : Fin 288) (g : Fin 256) (s : State) : Out := s.run fun s => s.issue i g .cvtf
def execPack (i : Fin 288) (g : Fin 256) (s : State) : Out := s.run fun s => s.issue i g .pack
def execUnpack (i : Fin 288) (g : Fin 256) (s : State) : Out := s.run fun s => s.issue i g .unpack
def execTmma (i : Fin 288) (g : Fin 256) (s : State) : Out := s.run fun s => s.issue i g .tmma
def execTmv (i : Fin 288) (g : Fin 256) (s : State) : Out := s.run fun s => s.issue i g .tmv
def execTzero (i : Fin 288) (g : Fin 256) (s : State) : Out := s.run fun s => s.issue i g .tzero
def execTstore (i : Fin 288) (g : Fin 256) (s : State) : Out := s.run fun s => s.issue i g .tstore
def execBar (i : Fin 288) (g : Fin 256) (s : State) : Out := s.run fun s => s.issue i g .bar
def execRed (i : Fin 288) (g : Fin 256) (s : State) : Out := s.run fun s => s.issue i g .red
def execRedv (i : Fin 288) (g : Fin 256) (s : State) : Out := s.run fun s => s.issue i g .redv
def execFence (i : Fin 288) (g : Fin 256) (s : State) : Out := s.run fun s => s.issue i g .fenceI
def execGsum (i : Fin 288) (g : Fin 256) (s : State) : Out := s.run fun s => s.issue i g .gsum
def execGsel (i : Fin 288) (g : Fin 256) (s : State) : Out := s.run fun s => s.issue i g .gsel
def execSample (i : Fin 288) (g : Fin 256) (s : State) : Out := s.run fun s => s.issue i g .sample
def execEmit (i : Fin 288) (g : Fin 256) (s : State) : Out := s.run fun s => s.issue i g .emit
def execKvb (i : Fin 288) (g : Fin 256) (s : State) : Out := s.run fun s => s.issue i g .kvb

end Sys2Proof.Machine
end

