-- ==== Sys2Proof/Machine/SpindleCtl.lean ====
section
/-! DEFINITION. Machine/SpindleCtl.lean: SPN_CTL (R108, R109) and the launch of gangs (R87, R88, R208). -/

namespace Sys2Proof.Machine

/-- SPINDLE_QUIESCE: SPN_CTL.QUIESCE is written (R108). -/
def execSpindleQuiesce (i : Fin 288) (v : Bool) (s : State) : Out := s.run fun s =>
  s.writeTo (Reg.SPN_CTL i) fun s => s.set (Reg.SPN_CTL_QUIESCE i) (bit v)

/-- What of a spindle is in flight when SPN_CTL.INJECT is written takes no injection that is written now (R571): its transactions, its block
copies, and the reads of the tensor instruction that executes. -/
def State.injectEarly (s : State) (i : Nat) : State :=
  let mine (t : Txn) : Bool := match t.owner with
    | .load j _ _ _ => j == i
    | .store j _ _ => j == i
  let s : State := { s with lm := { s.lm with txns := s.lm.txns.map fun t => if mine t then { t with early := true } else t } }
  s.updSpindle i fun x =>
    { x with copies := x.copies.map fun c => { c with early := true },
             tensorQ := x.tensorQ.zipIdx.map fun t => if t.2 = 0 then { t.1 with early := true } else t.1 }

/-- SPN_CTL.INJECT takes a value. -/
def State.injectWrite (s : State) (i v : Nat) : State := (s.injectEarly i).set (Reg.SPN_CTL_INJECT i) v

/-- TEST_INJECTION: SPN_CTL.INJECT is written; a later value replaces a pending one (R109). -/
def execTestInjection (i : Fin 288) (v : Fin 4) (s : State) : Out := s.run fun s =>
  s.writeTo (Reg.SPN_CTL i) fun s => s.injectWrite i v

/-- Allocation units in use on a spindle (R87). -/
def State.unitsUsed (s : State) (i : Nat) : Nat := ((s.spindle i).gangs.map fun x => x.nregs / 16).foldl (· + ·) 0

/-- The registers x0 to x7 that the headstock writes (R208). -/
def State.launchRegs (s : State) (n : Inst) (i k : Nat) : List Nat :=
  let ks := s.spindlesOf n.set
  let r := n.request.bind s.req
  let x4 := match n.request with
    | some h => s.ctxAddr h
    | none => s.get Reg.HDS_CTXBASE_ADDR + 0x200000 + n.set * 0x200
  [(match n.request with | some h => h | none => 2 ^ 32 - 1), (ks.findIdx? (· == i)).getD 0, k, ks.length, x4 % 2 ^ 32,
   x4 / 2 ^ 32, n.set + (if n.request.isSome then 0 else 256), (r.map (·.slot)).getD 0]

/-- A gang as it is launched: the other registers and predicates read 0 (R88). -/
def launchGang (n : Inst) (g : Nat) (xs : List Nat) : Gang :=
  let x : Gang :=
    { gang := g, set := n.set, active := n.hdr.threads, nregs := n.hdr.regs, progAddr := n.hdr.addr + 64,
      ninstr := n.hdr.ninstr, pc := 0, regs := [], preds := [], groupStart := 0, groupReads := [], groupWrites := [],
      groupIssued := [0, 0, 0, 0, 0], savedRegs := [], savedPreds := [], closed := false, replaying := false, held := [],
      loads := [], wait := .running, latched := [], met := 0, lastIssue := 0 }
  let x := x.forThreads x.threads fun x t => xs.zipIdx.foldl (fun x p => x.setReg t p.2 p.1) x
  { x with savedRegs := x.regs }

/-- GANG_LAUNCH: the next gang of the instance on a spindle's set starts (R87, R208): it needs a free gang number and R/16
free units, and a lathe die that is ready. -/
def execGangLaunch (i : Fin 288) (s : State) : Out := s.run fun s =>
  match s.inst (s.setOf i) with
  | none => s
  | some n =>
    let k := alGet 0 n.launched i.val
    if n.stopping || decide (n.hdr.gangs ≤ k) || !s.pwr.latheReady.getD (i / 144) false
        || decide (256 < s.unitsUsed i + n.hdr.regs / 16) then s
    else match lowestFree 256 ((s.spindle i).gangs.map (·.gang)) with
      | none => s
      | some g =>
        let x := launchGang n g (s.launchRegs n i k)
        let s := s.updSpindle i fun sp => { sp with gangs := sp.gangs ++ [x] }
        s.updInst n.set fun n => { n with launched := alSet n.launched i.val (k + 1) }

end Sys2Proof.Machine
end

