-- ==== Sys2Proof/Machine/MemoryCmds.lean ====
section
/-! DEFINITION. Machine/MemoryCmds.lean: what happens at a line's home slice and its pier (R162, R167 to R180), the initialise
of a pier (R168), flushes of read-only lines (R183, R184) and self refresh (R508).
The choices of the model here: logs 28, 29 and 56. -/

namespace Sys2Proof.Machine

/-! ### Transactions -/

/-- The spindle and gang of a transaction. -/
def TxnOwner.spindle (o : TxnOwner) : Nat :=
  match o with
  | .load i _ _ _ => i
  | .store i _ _ => i

def TxnOwner.gang (o : TxnOwner) : Nat :=
  match o with
  | .load _ g _ _ => g
  | .store _ g _ => g

/-- A transaction's answer reaches its owner, and it leaves the pier. -/
def State.txnAnswer (s : State) (t : Txn) (code : Nat) (data : List Byte) : State :=
  let s := s.dropTxn t
  match t.owner with
  | .load i g num th => s.loadAnswer i g num th code t.addr data
  | .store i g pc => s.storeDone i g code t.addr pc

/-- A transaction that arrived earlier for the same line, or an earlier ORD = 1 one of the same spindle (R171, R289). -/
def State.txnHeld (s : State) (t : Txn) : Bool :=
  (s.lm.txns.any fun u => decide (u.id < t.id) && lineOf u.addr == lineOf t.addr) || s.ordHeld t.owner.spindle t.id t.ord

/-- The slice performs a read or an atomic on a line whose contents it has: `data` is the line. -/
def State.txnServe (s : State) (t : Txn) (data : List Byte) : State :=
  match t.op with
  | .read n => s.txnAnswer t 0 (slice data (t.addr % 64) n)
  | .atomic op a b =>
    let w := atomicWidth op
    let old := leAt data (t.addr % 64) w
    (s.lineStore (lineOf t.addr) (t.addr % 64) (leBytes w (atomicNew op old a b))).txnAnswer t 0 (leBytes w old)
  | .write d => ((s.lineStore (lineOf t.addr) (t.addr % 64) d).writeAlloc (lineOf t.addr) t.nal).txnAnswer t 0 []

/-- An access allocates its line: every access but a read or write with NAL = 1 (R176, R178, R179). -/
def Txn.allocates (t : Txn) : Bool :=
  match t.op with
  | .atomic _ _ _ => true
  | _ => !t.nal

/-- A transaction whose line an array error dropped fills it again (R180). -/
def State.txnRefill (s : State) (id : Nat) : State :=
  { s with lm := { s.lm with txns := s.lm.txns.map fun t => if t.id = id then { t with nal := false } else t } }

/-- An access that allocates finds a way for its line (R577). -/
def State.txnFits (s : State) (t : Txn) : Bool := !t.allocates || s.fillOpen (lineOf t.addr)

/-- HOME_SLICE_ACCESS (R175 to R180): the slice takes the oldest transaction of a line. A line it holds, or whose write is
pending, is served at once; else the access goes to DRAM. A line that an array error drops is refilled whatever NAL says. -/
def execHomeSliceAccess (id : Nat) (ecc : Fin 3) (s : State) : Out := s.run fun s =>
  match s.txn id with
  | none => s
  | some t =>
    let l := lineOf t.addr
    if t.stage ≠ .atSlice ∨ s.txnHeld t ∨ !s.lineUp l ∨ !s.txnFits t then s
    else
      let refill := s.cached l && ecc.val == 2
      let t := if refill then { t with nal := false } else t
      let s := (s.lcError l ecc).when refill fun s => s.txnRefill id
      if s.cached l then
        match t.op with
        | .write _ => s.txnServe t []
        | .read _ => (s.lineHit l (!t.nal)).txnServe t (s.lineBytes l)
        | .atomic _ _ _ => (s.lineHit l true).txnServe t (s.lineBytes l)
      else
        let s := s.count 2 (pierOf l) 0x004 1
        if s.writePending l then
          match t.op with
          | .write _ => s.txnServe t []
          | _ => (if t.allocates then s.installLocal l else s).txnServe t (s.lineBytes l)
        else match t.op with
          | .write _ => s.stageTxn id .merge
          | _ => s.stageTxn id .dram

/-- The injection that a transaction's DRAM read takes (R571): a load or atomic issued after the write takes a pending one, and the replay
of an access the rest of an injection of kind 3. -/
def State.txnInject (s : State) (t : Txn) : Nat × State :=
  match t.owner with
  | .store _ _ _ => (0, s)
  | .load i g _ _ =>
    if (s.spindle i).injectReplay = some (g, lineOf t.addr) then
      (2, s.updSpindle i fun x => { x with injectReplay := none })
    else if t.early then (0, s)
    else
      let v := s.get (Reg.SPN_CTL_INJECT i)
      (v, if v = 0 then s else s.set (Reg.SPN_CTL_INJECT i) 0)

/-- A line read from DRAM for a transaction has passed: it is installed when the access allocates, and delivered. A line that is present,
or whose write is pending, by now is served as the slice has it (R175, R176). -/
def State.txnDeliver (s : State) (t : Txn) (data : List Byte) : State :=
  let l := lineOf t.addr
  let s := s.count 0 t.owner.spindle 0x00e 1
  if s.cached l || s.writePending l then (s.when t.allocates fun s => s.installLocal l).txnServe t (s.lineBytes l)
  else (s.when t.allocates fun s => (s.lineTake l data).installLocal l).txnServe t data

/-- Record the injection a transaction took. -/
def State.markInject (s : State) (id v : Nat) : State :=
  { s with lm := { s.lm with txns := s.lm.txns.map fun t => if t.id = id then { t with inject := v } else t } }

/-- DRAM_LINE_READ (R166, R168, R169, R185, R571): the line of the transaction that its bank serves next comes back with the bits of `mask`
wrong, and its check with those of `cmask`; a line that fails is re-read. -/
def execDramLineRead (id mask cmask : Nat) (s : State) : Out := s.run fun s =>
  match s.txn id with
  | none => s
  | some t =>
    let l := lineOf t.addr
    if t.stage ≠ .dram ∨ !s.pierUp (pierOf l) ∨ !s.bankNext t ∨ !s.txnFits t then s
    else
      let j := s.txnInject t
      let s := (j.2.markInject id j.1).when (s.aged t) fun s => s.count 2 (pierOf l) 0x008 1
      let s := s.dramFetch l cmask
      let r := s.dramRead l mask
      if j.1 = 0 ∧ r.2 then s.txnDeliver t r.1 else s.stageTxn id .reread

/-- PIER_REREAD (R169, R173, R190): the re-read delivers the line, or a failure status goes back. -/
def execPierReread (id mask cmask : Nat) (s : State) : Out := s.run fun s =>
  match s.txn id with
  | none => s
  | some t =>
    let l := lineOf t.addr
    let i := t.owner.spindle
    if t.stage ≠ .reread ∨ !s.pierUp (pierOf l) ∨ s.linePaused l ∨ !s.txnFits t then s
    else
      let s := s.dramAgain l cmask
      let r := s.dramRead l mask
      if t.inject < 2 ∧ r.2 then (s.rereadGood i l).txnDeliver t r.1
      else
        let s := s.detectionFailure l
        let s := if t.inject = 3 then s.updSpindle i fun x => { x with injectReplay := some (t.owner.gang, l) } else s
        s.txnAnswer t 7 []

/-- PARTIAL_WRITE_MERGE (R172, R173): up to three merge reads, each with the bits of its masks wrong; the write is performed
on the first that passes, or dropped. A line that is present, or whose write is pending, by now needs none. -/
def execPartialWriteMerge (id : Nat) (masks : List (Nat × Nat)) (s : State) : Out := s.run fun s =>
  match s.txn id with
  | none => s
  | some t =>
    let l := lineOf t.addr
    let p := pierOf l
    if t.stage ≠ .merge ∨ !s.pierUp p ∨ s.linePaused l ∨ !s.txnFits t then s
    else if s.cached l || s.writePending l then s.txnServe t []
    else
      let r := State.dramReads l (fun k => masks.getD k (0, 0)) 3 0 s
      match r.1 with
      | some d => ((r.2.2.when (r.2.1 != 1) fun s => s.rereadGood t.owner.spindle l).lineTake l d).txnServe t []
      | none => (r.2.2.sat (Reg.PIER_DET_MERGEFAIL p) 1).txnAnswer t 7 []

/-! ### DRAM -/

/-- DRAM_WRITE_COMPLETE (R167, R176, R185): the pending write of a line goes to DRAM with its check; re-reads and merge reads of its bank
come first. -/
def execDramWriteComplete (line : Nat) (s : State) : Out := s.run fun s =>
  if !s.writePending line || !s.pierUp (pierOf line) || s.linePaused line || s.bankUrgent line then s else s.dramWrite line

/-- CODE_BUFFER_TIMEOUT (R167): 1 µs after it became dirty, the dirty bursts of a group's entry are written, and the entry is clean. -/
def execCodeBufferTimeout (group : Nat) (s : State) : Out := s.run fun s =>
  match s.codeEntry (31 * group) with
  | some e => if e.dirtyAt + 1000 ≤ s.now then s.codeClean group else s
  | none => s

/-- MR4_READOUT (R162): a device, one for each channel (log 29), reports the refresh-rate code that its refresh follows. -/
def execMr4Readout (channel : Fin 768) (code : Fin 256) (s : State) : Out := s.run fun s =>
  if s.pierUp (channel / 192) then { s with lm := { s.lm with mr4 := alSet s.lm.mr4 channel code.val } } else s

/-- PER_BANK_REFRESH (R162, R185): one refresh command to a bank, whose row closes for it (log 29); a device in self refresh refreshes itself. -/
def execPerBankRefresh (channel : Fin 768) (bank : Fin 16) (s : State) : Out := s.run fun s =>
  let p := channel.val / 192
  if !s.pierUp p || s.flag (Reg.PIER_STATUS_SREF p) then s
  else
    let k := channel.val * 16 + bank.val
    let s : State := { s with lm := { s.lm with refreshed := alSet s.lm.refreshed k (alGet 0 s.lm.refreshed k + 1),
                                                rows := s.lm.rows.filter (·.1 != k) } }
    s.countQ 2 p 0x00d fun q => if q % 256 = 0xff ∨ q % 256 = channel.val % 192 / 8 then 1 else 0

/-! ### Initialise -/

/-- A write of PIER_INIT.GO = 1 (R168). -/
def State.pierInitGo (s : State) (p : Nat) : State :=
  if s.flag Reg.JIG_STATUS_LOADED then s.occur 0x0502 p []
  else if s.flag (Reg.PIER_STATUS_INITBUSY p) then s
  else (s.set (Reg.PIER_INIT_GO p) 1).set (Reg.PIER_STATUS_INITBUSY p) 1

def execPierInitGo (p : Fin 4) (s : State) : Out := s.run fun s => s.writeTo (Reg.PIER_INIT p) fun s => s.pierInitGo p

/-- The first `n` groups of a pier hold zero data with valid checks; pending writes and copies of their lines are gone. -/
def State.initGroups (s : State) (p n : Nat) : State :=
  let hit (l : Nat) : Bool := pierOf l == p && decide (groupOf l / 4 < n)
  let lm := s.lm
  let ways (ws : List Way) : List Way := ws.map fun w => match w with
    | .localLine l => if hit l then .empty else w
    | _ => w
  let lc := lm.lc.filterMap fun e =>
    let x : LcSet := { e.2 with ways := ways e.2.ways }
    if x = lcEmpty then none else some (e.1, x)
  { s with
    mem := s.mem.filter fun c => !(decide (c.1 < dramEnd) && hit (lineOf c.1)),
    lm := { lm with
      initUpTo := lm.initUpTo.modify p (fun m => max m n),
      checks := lm.checks.filter fun e => !hit e.1,
      wbuf := lm.wbuf.filter fun l => !hit l,
      code := lm.code.map fun e => (e.1, e.2.filter fun x => !hit (x.group * 31)),
      lc := lc } }

/-- PIER_INIT_DONE (R168): every group of the pier is written. -/
def execPierInitDone (p : Fin 4) (s : State) : Out := s.run fun s =>
  if !s.flag (Reg.PIER_STATUS_INITBUSY p) then s
  else
    let s := s.initGroups p groupsPerPier
    ((s.set (Reg.PIER_STATUS_INITBUSY p) 0).set (Reg.PIER_INIT_GO p) 0).set (Reg.PIER_INIT_DONE p) 1

/-! ### Read-only lines -/

/-- A write of ROLFLUSH = 1 (R183): every read-only line of the slice is invalidated. -/
def State.rolFlush (s : State) (p : Nat) : State := (s.rolDrop p 0).set (Reg.PIER_LC_CTL_ROLBUSY p) 1

def execRolFlush (p : Fin 4) (s : State) : Out := s.run fun s => s.writeTo (Reg.PIER_LC_CTL p) fun s => s.rolFlush p

/-- ROL_FLUSH_DONE (R189): ROLBUSY clears. -/
def execRolFlushDone (p : Fin 4) (s : State) : Out := s.run fun s => s.set (Reg.PIER_LC_CTL_ROLBUSY p) 0

/-- A write of ROLWAYS (R183, R189): above 16 acts as 16; lowering it invalidates the ways it closes. -/
def State.rolWays (s : State) (p v : Nat) : State :=
  let v := min v 16
  let old := s.get (Reg.PIER_LC_CTL_ROLWAYS p)
  (if v < old then s.rolDrop p v else s).set (Reg.PIER_LC_CTL_ROLWAYS p) v

def execRolwaysWrite (p : Fin 4) (v : Fin 32) (s : State) : Out := s.run fun s =>
  s.writeTo (Reg.PIER_LC_CTL p) fun s => s.rolWays p v

/-- SELF_REFRESH_REENTRY (R508): in M2 a pier goes back to self refresh after 100 µs without access. -/
def execSelfRefreshReentry (p : Fin 4) (s : State) : Out := s.run fun s =>
  if s.get Reg.PWR_STATUS_STATE = 2 ∧ s.pierTxns p = 0 ∧ s.pwr.usedAt.getD p 0 + 100000 ≤ s.now then s.set (Reg.PIER_STATUS_SREF p) 1 else s

end Sys2Proof.Machine
end

