-- ==== Sys2Proof/Machine/Headstock.lean ====
section
/-! DEFINITION. Machine/Headstock.lean: queue pairs and doorbells (R192 to R196, R574), submission entries (R197 to R200),
program slots (R205, R206), the KV pool (R212), admission (R213 to R216), the prefix lookup (R227, R228) and completion
entries (R201 to R203, R575).
The choices of the model here: logs 30, 34, 35 and 36. -/

namespace Sys2Proof.Machine

/-! ### Queue pairs -/

/-- A refusal is recorded in HDS_LASTERR and logged (R193, R230). -/
def State.lastErr (s : State) (q code pos : Nat) : State :=
  let s := (((s.clearReg Reg.HDS_LASTERR).set Reg.HDS_LASTERR_QP q).set Reg.HDS_LASTERR_CODE code).set Reg.HDS_LASTERR_POS pos
  (s.set Reg.HDS_LASTERR_VALID 1).occur 0x0601 0 (leBytes 2 q ++ leBytes 1 code ++ leBytes 2 pos)

/-- The headstock serves a queue pair (R192). -/
def State.qpServed (s : State) (q : Nat) : Bool := s.flag (Reg.HDS_QP_CTL_EN q) && (s.qmapOf q).isSome

/-- A refused position stops the queue pair (R193). -/
def State.qpError (s : State) (q code pos : Nat) : State := (s.set (Reg.HDS_QP_STATUS_ERR q) 1).lastErr q code pos

/-- A submission tail doorbell (R192, R193). -/
def State.sqDoorbell (s : State) (q pos : Nat) : State :=
  let n := s.sqSize q
  let head := s.get (Reg.HDS_QP_STATUS_SQHEAD q)
  let tail := s.get (Reg.HDS_QP_STATUS_SQTAIL q)
  if !s.qpServed q then s.lastErr q 2 pos
  else if n ≤ pos ∨ (pos + n - head) % n < (tail + n - head) % n then s.qpError q 1 pos
  else s.set (Reg.HDS_QP_STATUS_SQTAIL q) pos

/-- A completion head doorbell (R192, R193). -/
def State.cqDoorbell (s : State) (q pos : Nat) : State :=
  let n := s.cqSize q
  let head := s.get (Reg.HDS_QP_STATUS2_CQHEAD q)
  let tail := s.get (Reg.HDS_QP_STATUS_CQTAIL q)
  if !s.qpServed q then s.lastErr q 2 pos
  else if n ≤ pos ∨ (tail + n - head) % n < (pos + n - head) % n then s.qpError q 3 pos
  else s.set (Reg.HDS_QP_STATUS2_CQHEAD q) pos

/-- The address is a doorbell's (R194). -/
def isDoorbell (a : Nat) : Bool :=
  match Reg.find a with
  | some (row, _) => row.base == Reg.HDS_SQDB 0 || row.base == Reg.HDS_CQDB 0
  | none => false

/-- A write frame of the host has not been performed yet. -/
def State.mwrWaits (s : State) : Bool := s.host.vc0.any fun f => f.akind == 2

/-- A doorbell of the host joins its write frames, which are performed in their order (R40). -/
def State.hostDoorbell (s : State) (a : Nat) (v : Word64) : State :=
  let f : HostFrame := { akind := 2, cstat := 0, len := 8, atag := 0, addr := a, body := leBytes 8 v.toNat }
  { s with host := { s.host with vc0 := s.host.vc0 ++ [f] } }

/-- Requests of a queue pair that run or are deferred (R231). -/
def State.qpRunning (s : State) (q : Nat) : Nat :=
  (s.hds.requests.filter fun r => r.qp == q && !r.ended).length + (s.hds.deferred.filter fun d => d.qp == q).length

/-- Writes of a queue pair's rings leave them unchanged (R195). -/
def State.qpLocked (s : State) (q : Nat) : Bool := s.flag (Reg.HDS_QP_CTL_EN q) || s.qpRunning q != 0

/-- A ring at `a` of `n` bytes may be used (R574). -/
def ringOk (a n : Nat) : Bool := a % 4096 == 0 && decide (a + n ≤ dramEnd)

/-- The completion ring is in host memory, or may be used where it lies (R574). -/
def State.cqRingOk (s : State) (q : Nat) : Bool :=
  s.flag (Reg.HDS_QP_CTL_CQHOST q) || ringOk (s.get (Reg.HDS_QP_CQ_ADDR q)) (64 * s.cqSize q)

def State.sqRingOk (s : State) (q : Nat) : Bool := ringOk (s.get (Reg.HDS_QP_SQ_ADDR q)) (128 * s.sqSize q)

/-- The completion positions start again (R195, R196). -/
def State.cqRestart (s : State) (q : Nat) : State :=
  let s := (s.set (Reg.HDS_QP_STATUS_CQTAIL q) 0).set (Reg.HDS_QP_STATUS2_CQHEAD q) 0
  { s with hds := { s.hds with phase := s.hds.phase.filter (·.1 != q) } }

/-- EN is written (R195, R574). -/
def State.qpEnWrite (s : State) (q en : Nat) : State :=
  if en = 1 ∧ !s.flag (Reg.HDS_QP_CTL_EN q) then
    if s.sqRingOk q && s.cqRingOk q then
      (((s.set (Reg.HDS_QP_CTL_EN q) 1).set (Reg.HDS_QP_STATUS_SQHEAD q) 0).set (Reg.HDS_QP_STATUS_SQTAIL q) 0).cqRestart q
    else s.lastErr q 4 0
  else s.set (Reg.HDS_QP_CTL_EN q) en

/-- A new completion ring replaces the old one: the write is ignored and recorded where the ring may not lie there; while
HELD = 1 the completion positions start again (R196, R574). -/
def State.cqReplace (s t : State) (q : Nat) : State :=
  if s.abtHeld then
    if t.cqRingOk q then
      let t := t.cqRestart q
      { t with hds := { t.hds with replaced := t.hds.replaced.filter (· != q) ++ [q] } }
    else s.lastErr q 4 0
  else if s.qpLocked q then s else t

/-- A write of HDS_QP_SQ (R195). -/
def State.qpSqWrite (s : State) (q : Nat) (v : Word64) : State :=
  if s.qpLocked q then s
  else (s.set (Reg.HDS_QP_SQ_ADDR q) v.toNat).set (Reg.HDS_QP_SQ_SQLOG q) (bits v.toNat 48 4)

/-- A write of HDS_QP_CQ (R195, R196). -/
def State.qpCqWrite (s : State) (q : Nat) (v : Word64) : State := s.cqReplace (s.set (Reg.HDS_QP_CQ_ADDR q) v.toNat) q

/-- A write of HDS_QP_CTL (R195, R196, R574). -/
def State.qpCtlWrite (s : State) (q : Nat) (v : Word64) : State :=
  let w := v.toNat
  let t := (s.set (Reg.HDS_QP_CTL_CQHOST q) (bits w 1 1)).set (Reg.HDS_QP_CTL_CQLOG q) (bits w 8 4)
  let s := s.cqReplace t q
  let s := (s.set (Reg.HDS_QP_CTL_IRQMODE q) (bits w 2 2)).set (Reg.HDS_QP_CTL_FLUSH q) (bits w 16 16)
  s.qpEnWrite q (bits w 0 1)

/-- QP_ENABLE: a write of HDS_QP_CTL. -/
def execQpEnable (q : Fin 4096) (v : Word64) (s : State) : Out := s.run fun s => s.qpCtlWrite q v

/-- QP_ERR_CLEAR: ERR is cleared, and reading resumes from SQHEAD (R193). -/
def execQpErrClear (q : Fin 4096) (s : State) : Out := s.run fun s => s.set (Reg.HDS_QP_STATUS_ERR q) 0

/-- QP_RING_WRITE_HELD: HDS_QP_CTL or HDS_QP_CQ is written while HELD = 1 (R196). -/
def execQpRingWriteHeld (q : Fin 4096) (ctl : Bool) (v : Word64) (s : State) : Out := s.run fun s =>
  if !s.abtHeld then s else if ctl then s.qpCtlWrite q v else s.qpCqWrite q v

/-! ### Turning programs -/

/-- Running and deferred requests of a program slot (R230). -/
def State.progUsers (s : State) (n : Nat) : Nat :=
  (s.hds.requests.filter fun r => r.prog == n && !r.ended).length
    + (s.hds.deferred.filter fun d => ((s.qmapOf d.qp).map (·.prog)) == some n).length

/-- A write of HDS_PROG (R206): with VALID = 1 the header check starts. -/
def State.progWrite (s : State) (n : Nat) (v : Word64) : State :=
  let s := if s.flag (Reg.HDS_PROG_VALID n) || s.progUsers n != 0 then s else s.set (Reg.HDS_PROG_ADDR n) v.toNat
  let check := bits v.toNat 48 1 == 1
  let h := s.hds
  let s := { s with hds := { h with programs := h.programs.filter (·.1 != n),
                                    checking := h.checking.filter (· != n) ++ (if check then [n] else []) } }
  s.set (Reg.HDS_PROG_VALID n) 0

def execHdsProgWrite (n : Fin 64) (v : Word64) (s : State) : Out := s.run fun s => s.progWrite n v

/-- A header as its 64 bytes spell it (R205). -/
def parseHeader (addr : Nat) (d : List Byte) : ProgHeader :=
  { addr, modes := leAt d 6 1, regs := leAt d 7 1, gangs := leAt d 8 2, threads := leAt d 10 1, ninstr := leAt d 12 4,
    model := leAt d 16 8, layers := leAt d 24 2, kvh := leAt d 26 1, dcode := leAt d 27 1, kvbytes := leAt d 28 4 }

/-- A header passes the ranges of R205 and the checks of R206. Reserved bits of MODES are ignored (R10). -/
def headerOk (a : Nat) (d : List Byte) : Bool :=
  let h := parseHeader a d
  leAt d 0 4 == 0x47525054 && leAt d 4 2 == 3 && h.modes % 4 != 0
    && h.regs % 16 == 0 && decide (16 ≤ h.regs) && decide (h.regs ≤ 128)
    && decide (1 ≤ h.gangs) && decide (h.gangs ≤ 256) && decide (h.gangs * (h.regs / 16) ≤ 256)
    && decide (1 ≤ h.threads) && decide (h.threads ≤ 32)
    && decide (1 ≤ h.ninstr) && decide (h.ninstr ≤ 16777216) && decide (a + 64 + 8 * h.ninstr ≤ dramEnd)
    && decide (1 ≤ h.layers) && decide (h.layers ≤ 1024) && decide (1 ≤ h.kvh) && decide (h.kvh ≤ 64)
    && decide (h.dcode ≤ 2) && h.kvbytes % 4096 == 0 && h.kvbytes != 0
    && decide (h.layers * h.kvh * 2 * 64 * h.dim ≤ h.kvbytes)

/-- Every instruction cache is invalidated (R206). -/
def State.clearIcaches (s : State) : State :=
  { s with spn := s.spn.filterMap fun e =>
      let x : Spindle := { e.2 with icache := [] }
      if x = Spindle.empty then none else some (e.1, x) }

/-- PROGRAM_CHECK_DONE (R206): the header is read and checked. -/
def execProgramCheckDone (n : Fin 64) (s : State) : Out := s.run fun s =>
  if !s.hds.checking.contains n.val then s
  else
    let a := s.get (Reg.HDS_PROG_ADDR n)
    let s := { s with hds := { s.hds with checking := s.hds.checking.filter (· != n.val) } }
    let r : Option (List Byte) × State := if a % 64 = 0 ∧ a + 64 ≤ dramEnd then s.memRead a 64 false else (none, s)
    let s := r.2
    match r.1 with
    | some d =>
      if headerOk a d then
        let s := { s.clearIcaches with hds := { s.hds with programs := s.hds.programs ++ [(n.val, parseHeader a d)] } }
        (s.set (Reg.HDS_PROG_VALID n) 1).set (Reg.HDS_PROG_BAD n) 0
      else (s.set (Reg.HDS_PROG_BAD n) 1).occur 0x0602 0 (leBytes 1 n)
    | none => (s.set (Reg.HDS_PROG_BAD n) 1).occur 0x0602 0 (leBytes 1 n)

/-! ### KV pool -/

/-- A write of HDS_KVFREE.SIZE (R212): ignored while any slot is in use or held. -/
def State.kvSizeWrite (s : State) (v : Nat) : State :=
  let b := s.slotsBusy
  if b.1 then b.2
  else
    let s := b.2.set Reg.HDS_KVFREE_SIZE v
    { s with hds := { s.hds with poolTop := s.get Reg.HDS_KVFREE_SIZE } }

def execKvReturn (addr : Fin 0x80000000000) (s : State) : Out := s.run fun s => s.poolPush addr
def execKvPoolSizeWrite (v : Fin 16777216) (s : State) : Out := s.run fun s => s.kvSizeWrite v

/-! ### Submission entries -/

/-- A submission entry as its 128 bytes spell it (R197). -/
def parseEntry (d : List Byte) : SubEntry :=
  { opc := leAt d 0 1, flags := leAt d 1 1, tag := leAt d 2 2, seq := leAt d 4 4, prompt := leAt d 8 8, plen := leAt d 16 4,
    maxnew := leAt d 20 4, temp := leAt d 24 4, topp := leAt d 28 4, topk := leAt d 32 2, nstop := leAt d 34 1,
    stop := (List.range 8).map fun k => leAt d (36 + 4 * k) 4, deadline := leAt d 72 8, raw := d }

/-- The first failing check of an entry as the byte offset that DETAIL reports; `held` is the NTOK of a held slot that an
EXTEND names (R198). -/
def malformed (e : SubEntry) (held : Nat) : Option Nat :=
  if e.opc = 0 ∨ 4 < e.opc then some 0
  else if 3 ≤ e.opc then none
  else if e.prompt % 4 ≠ 0 then some 8
  else if (e.opc = 1 ∧ e.plen = 0) ∨ maxTokens < e.plen ∨ (e.opc = 2 ∧ e.plen = maxTokens) then some 16
  else if e.plen ≠ 0 ∧ dramEnd < e.prompt + 4 * e.plen then some 8
  else if maxTokens < e.maxnew then some 20
  else if maxTokens < held + e.plen + e.maxnew then some 20
  else if 1024 < e.topk then some 32
  else if 8 < e.nstop then some 34
  else none

/-- What the slot that an EXTEND or FREE names looks like. -/
inductive NamedSlot where
  | unreadable
  /-- not there, free or in use -/
  | notHeld
  | held (row : SlotRow)
  deriving DecidableEq, Repr

/-- Read the slot an EXTEND or FREE names (R211). -/
def State.namedSlot (s : State) (n : Nat) : NamedSlot × State :=
  if s.get Reg.HDS_SEQTAB_NSEQ ≤ n then (.notHeld, s)
  else
    let r := s.slotRead n
    match r.1 with
    | none => (.unreadable, r.2)
    | some row => (if row.state = 2 then .held row else .notHeld, r.2)

/-- An entry is tied to no request and completes at once (R201, R575); completions 0x05 and 0x06 are counted (R230). -/
def State.completeEntry (s : State) (q order : Nat) (e : SubEntry) (code detail seq : Nat) : State :=
  let s := s.pushDue
    { qp := q, order, since := s.now, handle := none, tag := e.tag, kind := 1, code, detail, seq, gen := 0, toks := [], matched := 0 }
  if code = 5 ∨ code = 6 then (s.sat Reg.HDS_ADMIT_NOTADMIT 1).count 3 0 0x004 1 else s

/-- SEQ of an entry without a slot (R575). -/
def noSeq : Nat := 2 ^ 32 - 1

/-! ### Admission -/

/-- A set load is in its drain or apply phase for this set (R74). -/
def State.setLoading (s : State) (set : Nat) : Bool :=
  (s.get Reg.JIG_STATUS_PHASE == 3 || s.get Reg.JIG_STATUS_PHASE == 4)
    && leAt s.jig.staging 6 2 == 1 && leAt s.jig.staging 14 2 == set

/-- A lathe sequencer switch of this set waits or goes on, and holds its admissions (R476). -/
def State.setSwitching (s : State) (set : Nat) : Bool := s.upd.act.any fun a => a.comp == 7 && a.part == set

/-- Requests attached to a set or waiting to attach, or running on it (R230). -/
def State.setAttached (s : State) (set : Nat) : Nat := (s.hds.requests.filter fun r => r.set == set && !r.ended).length

/-- BATCH of a set as it acts (R230). -/
def State.batchOf (s : State) (set : Nat) : Nat := min (max 1 (s.get (Reg.HDS_SET_BATCH set))) 64

/-- The set an entry goes to (R207, R215), its dies being ready (R511): the lowest free one in latency mode, else the throughput-mode one with fewest
requests below its batch, running the same program. -/
def State.chooseSet (s : State) (m : QmapEntry) (h : ProgHeader) : Option SetDef :=
  let sets := ((List.range 36).filter m.sets.testBit).filterMap fun t => if s.setLoading t || s.setSwitching t then none else s.setDef t
  let sets := sets.filter fun d => d.dies.all fun i => s.pwr.latheReady.getD i false
  let free := sets.find? fun d => d.mode == 0 && h.modes.testBit 0 && (s.inst d.set).isNone && s.setAttached d.set == 0
  match free with
  | some d => some d
  | none =>
    let open_ := sets.filter fun d =>
      d.mode == 1 && h.modes.testBit 1 && decide (s.setAttached d.set < s.batchOf d.set) && (s.inst d.set).all (·.prog == m.prog)
    open_.foldl (fun b d => match b with
      | none => some d
      | some c => if s.setAttached d.set < s.setAttached c.set then some d else some c) none

/-- The free slot of smallest BTMAX that holds `need` blocks, the lowest on a tie (R213). -/
def chooseSlot (t : List (Nat × Option SlotRow)) (need : Nat) : Option (Nat × SlotRow) :=
  t.foldl (fun b e => match e.2, b with
    | some r, none => if r.state = 0 ∧ need ≤ r.btmax then some (e.1, r) else none
    | some r, some c => if r.state = 0 ∧ need ≤ r.btmax ∧ r.btmax < c.2.btmax then some (e.1, r) else some c
    | none, b => b) none

/-- What admission makes of an entry. -/
inductive Verdict where
  /-- completes with a code -/
  | over (code : Nat)
  | defer
  /-- set, program slot and header, sequence slot and its row, tokens it holds, blocks to reserve -/
  | enter (set : SetDef) (prog : Nat) (hdr : ProgHeader) (slot : Nat) (row : SlotRow) (prior blocks : Nat)
  deriving DecidableEq, Repr

/-- Blocks that hold `n` tokens. -/
def blocksFor (n : Nat) : Nat := (n + 63) / 64

/-- Admission once the slot is known (R206, R213, R215): program, set and pool must be there. -/
def State.place (s : State) (q slot : Nat) (row : SlotRow) (prior blocks : Nat) : Verdict :=
  match s.qmapOf q with
  | none => .defer
  | some m =>
    match s.program m.prog with
    | none => .defer
    | some h =>
      match s.chooseSet m h with
      | none => .defer
      | some d => if s.poolFree < blocks then .defer else .enter d m.prog h slot row prior blocks

/-- Judge a NEW or an EXTEND that is well formed (R211, R213 to R216). A slot that cannot be read is not free, and may yet
suffice (log 30). -/
def State.judge (s : State) (q : Nat) (e : SubEntry) : Verdict × State :=
  if e.deadline ≠ 0 ∧ e.deadline < s.ft then (.over 6, s)
  else if e.opc = 1 then
    let need := blocksFor (e.plen + e.maxnew)
    let t := s.slotTable
    let could := t.1.any fun x => match x.2 with
      | some r => decide (need ≤ r.btmax)
      | none => true
    if !could || decide (t.2.get Reg.HDS_KVFREE_SIZE < need) then (.over 0x0e, t.2)
    else match chooseSlot t.1 need with
      | none => (.defer, t.2)
      | some (n, r) => (t.2.place q n r 0 need, t.2)
  else
    let r := s.namedSlot e.seq
    match r.1 with
    | .unreadable => (.over 8, r.2)
    | .notHeld => (.over 0x0d, r.2)
    | .held row =>
      let had := (r.2.slotBlocks e.seq).length
      let blocks := min (blocksFor (row.ntok + e.plen + e.maxnew)) row.btmax - had
      if 64 * row.btmax < row.ntok + e.plen + min e.maxnew 1 ∨ r.2.get Reg.HDS_KVFREE_SIZE < blocks then (.over 0x0e, r.2)
      else (r.2.place q e.seq row row.ntok blocks, r.2)

/-- SEQ of an EXTEND or FREE that ends without admission (R575). -/
def State.endSeq (s : State) (e : SubEntry) : Nat :=
  if e.opc = 2 ∨ e.opc = 4 then
    match (s.namedSlot e.seq).1 with
    | .held _ => e.seq
    | _ => noSeq
  else noSeq

/-- Admit an entry (R208 to R211, R213, R218, R220). -/
def State.enterEntry (s : State) (q order : Nat) (e : SubEntry) (d : SetDef) (prog : Nat) (hdr : ProgHeader) (slot : Nat)
    (row : SlotRow) (prior blocks : Nat) : State :=
  match lowestFree 8192 (s.hds.requests.map (·.handle)) with
  | none => s
  | some h =>
    let look := e.opc == 1 && e.flags.testBit 1 && s.flag Reg.HDS_PDIR_EN
    let r : Request :=
      { handle := h, qp := q, order, entry := e, set := d.set, prog, hdr, slot, prior, ntok := prior + e.plen, gen := 0,
        matched := 0, reserved := blocks, btaddr := row.btaddr, sumbase := row.sumbase, btmax := row.btmax, pending := [],
        cause := none, reported := false, cancel := false, ended := false, batch := none, attached := d.mode == 0,
        phase := if look then .looking else .done, pdir := 0, keys := [], answers := [], asked := 0, found := [], imported := 0,
        publishing := none }
    let s := { s with hds := { s.hds with requests := s.hds.requests ++ [r] } }
    let s := (s.slotState slot 1).slotNtok slot r.ntok
    let s := s.hdsPut h (s.ctxAddr h) (contextBytes r)
    let s := (s.inc Reg.HDS_ADMIT_ADMITTED 1).count 3 0 0x002 1
    let s :=
      if d.mode = 0 then s.launch d.set prog hdr (some h)
      else if (s.inst d.set).isSome then s
      else
        let a := s.attachAll d.set fun _ => true
        (a.2.launch d.set prog hdr none).writeBatch d.set a.1
    if look then s.prefixStart h else s

/-- Carry out a verdict on an entry that was read just now (R215, R216). -/
def State.settle (s : State) (q order : Nat) (e : SubEntry) (v : Verdict) : State :=
  match v with
  | .over code => s.completeEntry q order e code 0 (s.endSeq e)
  | .enter d prog hdr slot row prior blocks => s.enterEntry q order e d prog hdr slot row prior blocks
  | .defer =>
    if 4096 ≤ s.hds.deferred.length then s.completeEntry q order e 5 0 (s.endSeq e)
    else
      let d : Deferred := { qp := q, order, entry := e, time := s.now }
      let s := { s with hds := { s.hds with deferred := s.hds.deferred ++ [d] } }
      (s.pushDue { qp := q, order, since := s.now, handle := none, tag := e.tag, kind := 2, code := 0, detail := 0,
                   seq := if e.opc = 2 then e.seq else noSeq, gen := 0, toks := [], matched := 0 }).count 3 0 0x003 1

/-- The admission priority of a queue pair (R65). -/
def State.prioOf (s : State) (q : Nat) : Nat := ((s.qmapOf q).map (·.prio)).getD 0

/-- The place in the deferral list of the entry to settle next (R214, R216): the highest priority first, then the list's
order; an entry that must still wait is passed over. -/
def State.nextDeferred (s : State) : Option Nat :=
  if !s.flag Reg.HDS_CTL_ENABLE then none
  else
    let ready := s.hds.deferred.zipIdx.filter fun d => (s.judge d.1.qp d.1.entry).1 != .defer
    (ready.foldl (fun (b : Option (Deferred × Nat)) d => match b with
      | none => some d
      | some c => if s.prioOf c.1.qp < s.prioOf d.1.qp then some d else some c) none).map (·.2)

/-- Settle an entry of the deferral list; `dflt` is what it ends with when it must still wait. -/
def State.settleDeferred (s : State) (k : Nat) (dflt : Option Nat) : State :=
  match s.hds.deferred[k]? with
  | none => s
  | some d =>
    let drop : State → State := fun s => { s with hds := { s.hds with deferred := s.hds.deferred.eraseIdx k } }
    let v := s.judge d.qp d.entry
    match v.1, dflt with
    | .defer, none => s
    | .defer, some code => let s := drop v.2; s.completeEntry d.qp d.order d.entry code 0 (s.endSeq d.entry)
    | x, _ => (drop v.2).settle d.qp d.order d.entry x

/-- DEFERRED_ADMISSION: the entry of the deferral list that comes first and need not wait any more is settled. -/
def execDeferredAdmission (s : State) : Out := s.run fun s =>
  match s.nextDeferred with
  | some k => s.settleDeferred k none
  | none => s

/-- DEFER_LIMIT as it acts, in ns (R230). -/
def State.deferLimit (s : State) : Nat := 1000 * max 1 (s.get Reg.HDS_CTL_DEFER_LIMIT)

/-- DEFER_LIMIT_EXPIRY: an entry of the deferral list reaches its limit (R216): admitted if it can be, else 0x05. While ENABLE = 0 nothing
is admitted (R230). -/
def execDeferLimitExpiry (k : Fin 4096) (s : State) : Out := s.run fun s =>
  match s.hds.deferred[k.val]? with
  | none => s
  | some d =>
    if s.now < d.time + s.deferLimit then s
    else if s.flag Reg.HDS_CTL_ENABLE then s.settleDeferred k (some 5)
    else
      let s : State := { s with hds := { s.hds with deferred := s.hds.deferred.eraseIdx k.val } }
      s.completeEntry d.qp d.order d.entry 5 0 (s.endSeq d.entry)

/-- DEADLINE_EXPIRY: FT exceeds the DEADLINE of a deferred entry (R216). -/
def execDeadlineExpiry (k : Fin 4096) (s : State) : Out := s.run fun s =>
  match s.hds.deferred[k.val]? with
  | none => s
  | some d => if d.entry.deadline ≠ 0 ∧ d.entry.deadline < s.ft then s.settleDeferred k (some 6) else s

/-! ### Reading entries -/

/-- The queue pairs with an entry that may be read (R192 to R194, R542). -/
def State.readable (s : State) : List Nat :=
  if !s.flag Reg.HDS_CTL_ENABLE then []
  else (s.jig.qmap.flatMap fun e => (List.range e.qcnt).map (e.first + ·)).filter fun q =>
    s.qpServed q && !s.flag (Reg.HDS_QP_STATUS_ERR q) && !s.cqFull q
      && s.get (Reg.HDS_QP_STATUS_SQHEAD q) != s.get (Reg.HDS_QP_STATUS_SQTAIL q)

/-- The queue pair whose entry is read next (R214): none when a deferred entry of the same or a higher priority comes first. -/
def State.nextQp (s : State) : Option Nat :=
  let best := s.readable.foldl (fun (b : Option Nat) q => match b with
    | none => some q
    | some c =>
      let rank (x : Nat) := (x + 4096 - s.hds.lastQp - 1) % 4096
      if s.prioOf c < s.prioOf q ∨ (s.prioOf c = s.prioOf q ∧ rank q < rank c) then some q else some c) none
  match best, s.nextDeferred with
  | some q, some k =>
    if s.prioOf q ≤ ((s.hds.deferred[k]?).map fun d => s.prioOf d.qp).getD 0 then none else some q
  | b, _ => b

/-- Read the next entry when it is of the kind asked for, and go on with it; SQHEAD moves past it. An entry whose lines
cannot be read stops its queue pair and is not consumed (R194). -/
def State.readEntry (s : State) (kind : Nat → Bool) (f : State → Nat → Nat → SubEntry → State) : State :=
  match (if s.pwr.shutdown.isSome then none else s.nextQp) with
  | none => s
  | some q =>
    let head := s.get (Reg.HDS_QP_STATUS_SQHEAD q)
    let r := s.memRead (s.get (Reg.HDS_QP_SQ_ADDR q) + 128 * head) 128 false
    match r.1 with
    | none => r.2.qpError q 5 head
    | some d =>
      let e := parseEntry d
      if !kind e.opc then s
      else
        let s := r.2.set (Reg.HDS_QP_STATUS_SQHEAD q) ((head + 1) % s.sqSize q)
        let order := s.hds.nextOrder
        let s := { s with hds := { s.hds with lastQp := q, nextOrder := order + 1 } }
        f (s.count 3 0 0x001 1) q order e

/-- The NTOK of the slot that an EXTEND names, when it is held (R198). -/
def State.heldTokens (s : State) (e : SubEntry) : Nat :=
  match (s.namedSlot e.seq).1 with
  | .held row => if e.opc = 2 then row.ntok else 0
  | _ => 0

/-- A NEW or EXTEND entry, or one of a reserved OPC, that was read (R198, R213 to R216). -/
def State.takeEntry (s : State) (q order : Nat) (e : SubEntry) : State :=
  match malformed e (s.heldTokens e) with
  | some off => s.completeEntry q order e 0x0c off (s.endSeq e)
  | none => let v := s.judge q e; v.2.settle q order e v.1

/-- NEW: the next entry, of OPC 0x01 or of a reserved one. -/
def execNew (s : State) : Out := s.run fun s => s.readEntry (fun o => o == 1 || o == 0 || decide (4 < o)) State.takeEntry

/-- EXTEND: the next entry, of OPC 0x02. -/
def execExtend (s : State) : Out := s.run fun s => s.readEntry (· == 2) State.takeEntry

/-- A CANCEL takes effect on a request (R199, R223, R576): it ends now, or it is pending while a SAMPLE of the request is under way, which it
then ends with. In latency mode the gangs stop at their next group boundary; in throughput mode the instance goes on for the others,
and a request that is not attached yet is over. A request with a final code keeps it. -/
def State.cancelRequest (s : State) (r : Request) : State :=
  if r.cause.isSome || r.ended then s
  else
    let sampling := s.hds.samples.any fun o => o.handle == r.handle
    let s := if sampling then s.updReq r.handle fun r => { r with cancel := true } else s.endCause r.handle 0x04 0 4
    match s.inst r.set with
    | none => s
    | some i =>
      if i.request = some r.handle then s.stopInst r.set false
      else if r.attached then s
      else s.endRequest r.handle

/-- A CANCEL entry (R199): of the requests with the TAG, running or deferred, the one read first. -/
def State.cancelEntry (s : State) (q order : Nat) (e : SubEntry) : State :=
  let t := e.seq % 65536
  let run := (s.hds.requests.filter fun r => r.qp == q && r.entry.tag == t).map fun r => (r.order, some r)
  let wait := (s.hds.deferred.filter fun d => d.qp == q && d.entry.tag == t).map fun d => (d.order, (none : Option Request))
  let hit := (run ++ wait).foldl (fun (b : Option (Nat × Option Request)) x => match b with
    | none => some x
    | some c => if x.1 < c.1 then some x else some c) none
  match hit with
  | none => s.completeEntry q order e 0x11 0 noSeq
  | some (_, some r) => (s.cancelRequest r).completeEntry q order e 0x10 0 noSeq
  | some (o, none) =>
    match s.hds.deferred.find? (fun d => d.order == o) with
    | none => s
    | some d =>
      let s := { s with hds := { s.hds with deferred := s.hds.deferred.filter (·.order != o) } }
      (s.completeEntry q o d.entry 0x04 0 (s.endSeq d.entry)).completeEntry q order e 0x10 0 noSeq

def execCancel (s : State) : Out := s.run fun s => s.readEntry (· == 3) State.cancelEntry

/-- A FREE entry (R200, R211). -/
def State.freeEntry (s : State) (q order : Nat) (e : SubEntry) : State :=
  let r := s.namedSlot e.seq
  match r.1 with
  | .unreadable => r.2.completeEntry q order e 0x08 0 noSeq
  | .notHeld => r.2.completeEntry q order e 0x0d 0 noSeq
  | .held _ => (r.2.freeSlot e.seq).completeEntry q order e 0x10 0 e.seq

def execFree (s : State) : Out := s.run fun s => s.readEntry (· == 4) State.freeEntry

/-! ### Prefix lookup and import -/

/-- The answer to read `i` of a lookup or import. -/
def answerAt (r : Request) (i : Nat) : Option (Option (List Byte)) := (r.answers.find? (·.1 == i)).map (·.2)

/-- The run of matching blocks from block 0: BLOCK and SUMS of each (R227, R228). -/
def matchRun (r : Request) (keys : List (List Byte)) : Nat → Nat → List (Nat × Nat)
  | 0, _ => []
  | n + 1, i =>
    match answerAt r i with
    | some (some d) =>
      match bucketMatch d (keys.getD i []) with
      | some e => (leAt e 16 8, leAt e 24 8) :: matchRun r keys n (i + 1)
      | none => []
    | _ => []

/-- PREFIX_LOOKUP: every bucket is read, and the matched run is known; the bundle reads begin. -/
def execPrefixLookup (h : Fin 8192) (s : State) : Out := s.run fun s =>
  match s.req h with
  | none => s
  | some r =>
    if r.phase ≠ .looking ∨ r.ended ∨ r.answers.length < lookupBlocks r then s
    else
      let found := matchRun r r.keys (lookupBlocks r) 0
      (s.updReq h fun r => { r with phase := .importing, answers := [], asked := 0, found := found }).prefixGo h

/-- The bundles of the found blocks, up to the first that could not be read (R228). -/
def bundlesRead (r : Request) (hdr : ProgHeader) : List (Nat × Nat) → Nat → List (Nat × List Byte)
  | [], _ => []
  | f :: fs, k =>
    let n := (copyPieces f.2 hdr.bundle).length
    let parts := (List.range n).map fun i => (answerAt r (k + i)).join
    if parts.all Option.isSome then (f.1, parts.flatMap fun p => p.getD []) :: bundlesRead r hdr fs (k + n) else []

/-- PREFIX_IMPORT (R213, R228): block-table entries and summary records of the matched blocks are written, MATCHED is set,
and the reservation shrinks. -/
def execPrefixImport (h : Fin 8192) (s : State) : Out := s.run fun s =>
  match s.req h with
  | none => s
  | some r =>
    if r.phase ≠ .importing ∨ r.ended ∨ r.answers.length < (bundlePieces r).length then s
    else
      let got := bundlesRead r r.hdr r.found 0
      let s := got.zipIdx.foldl (fun s x =>
        let b := x.2
        let g := if r.pdir.testBit 1 then x.1.1 ||| 2 ^ 59 else x.1.1
        let s := s.hdsPut h (r.btaddr + 8 * b) (leBytes 8 g)
        (s.copyRecords h r r.hdr b x.1.2).setBlocks r.slot ((b, g, false) :: s.slotBlocks r.slot)) s
      let m := got.length
      let s := s.hdsPut h (s.ctxAddr h + 132) (leBytes 4 (64 * m))
      let s := (s.inc Reg.HDS_PDIRSTAT_MATCHED m).count 3 0 0x008 m
      s.updReq h fun r => { r with phase := .done, answers := [], asked := 0, imported := m, matched := 64 * m,
                                   reserved := r.reserved - m }

/-! ### Completion entries -/

/-- FLUSH_DELAY_EXPIRY: a token entry of the request becomes due, FLUSH µs after its oldest pending token arrived (R202). -/
def execFlushDelayExpiry (h : Fin 8192) (s : State) : Out := s.run fun s =>
  match s.req h with
  | none => s
  | some r =>
    match r.pending with
    | [] => s
    | t :: _ => if t.2 + 1000 * s.get (Reg.HDS_QP_CTL_FLUSH r.qp) ≤ s.now ∧ r.streamed ≠ 0 then s.tokenDue h else s

/-- The 64 bytes of a completion entry (R201). -/
def State.completionBytes (s : State) (d : DueEntry) : List Byte :=
  leBytes 2 d.tag ++ leBytes 1 d.kind ++ leBytes 1 d.toks.length ++ leBytes 1 d.code ++ leBytes 1 d.detail
    ++ leBytes 1 (alGet 1 s.hds.phase d.qp) ++ leBytes 1 0 ++ leBytes 4 d.seq ++ leBytes 4 d.gen
    ++ ((List.range 8).flatMap fun k => leBytes 4 (d.toks.getD k 0)) ++ leBytes 8 s.ft ++ leBytes 4 d.matched
    ++ leBytes 2 (s.get (Reg.HDS_QP_STATUS_SQHEAD d.qp)) ++ leBytes 2 0

/-- Write one completion entry at CQTAIL and move on (R201, R202, R528, R532). -/
def State.putCompletion (s : State) (d : DueEntry) : State :=
  let q := d.qp
  let tail := s.get (Reg.HDS_QP_STATUS_CQTAIL q)
  let a := s.get (Reg.HDS_QP_CQ_ADDR q) + 64 * tail
  let body := s.completionBytes d
  let t := (tail + 1) % s.cqSize q
  let s :=
    if s.flag (Reg.HDS_QP_CTL_CQHOST q) then
      let f : HostFrame := { akind := 4, cstat := 0, len := 64, atag := 0, addr := a % 2 ^ 64, body }
      { s with host := { s.host with vc1 := s.host.vc1 ++ [f] } }
    else (s.memWrite a body false).2
  let s := s.set (Reg.HDS_QP_STATUS_CQTAIL q) t
  let s := if t = 0 then { s with hds := { s.hds with phase := alSet s.hds.phase q (1 - alGet 1 s.hds.phase q) } } else s
  let s := s.count 3 0 0x005 1
  let mode := s.get (Reg.HDS_QP_CTL_IRQMODE q)
  if 2 ≤ mode ∨ (mode = 1 ∧ d.kind = 1) then s.raiseVec (16 + q % 496) else s

/-- A token entry of a running request takes up to 8 tokens (R202). -/
def State.putTokens (s : State) (d : DueEntry) (h : Nat) : State :=
  match s.req h with
  | none => s
  | some r =>
    let avail := r.streamed
    let n := min 8 avail
    if n = 0 then s
    else
      let toks := (r.pending.take n).map (·.1)
      let s := s.updReq h fun r => { r with pending := r.pending.drop n }
      let s := s.putCompletion { d with toks := toks, gen := r.gen - (r.pending.length - n), matched := r.matched }
      if 8 ≤ avail - n ∨ (s.get (Reg.HDS_QP_CTL_FLUSH r.qp) = 0 ∧ n < avail) then s.tokenDue h else s

/-- The due entry of a queue pair that is written next (R202): of those that became due first, the one whose submission entry was read
first. -/
def State.nextDue (s : State) (q : Nat) : Option DueEntry :=
  (s.hds.due.filter (·.qp == q)).foldl (fun (b : Option DueEntry) d => match b with
    | none => some d
    | some c => if d.since < c.since ∨ (d.since = c.since ∧ d.order < c.order) then some d else some c) none

/-- COMPLETION_ENTRY_WRITE: the next due entry of a queue pair is written when its ring has room. -/
def execCompletionEntryWrite (q : Fin 4096) (s : State) : Out := s.run fun s =>
  if s.cqFull q then s
  else match s.nextDue q with
    | none => s
    | some d =>
      let s := { s with hds := { s.hds with due := s.hds.due.erase d } }
      match d.handle with
      | some h => s.putTokens d h
      | none => s.putCompletion d

end Sys2Proof.Machine
end

