-- ==== Sys2Proof/Machine/Ports.lean ====
section
/-! DEFINITION. Machine/Ports.lean: the shared operations of ports and of the router's output side: frames and flits as bytes
(R242, R268, R269, R526), next hops and queues (R279, R281, R285), transmission (R244 to R246, R273, R275), lane maps (R234,
R256, R257), the link states (R247), and the reports of a calibration run (R496, R497).
The choices of the model here: logs 16, 18 and 46. -/

namespace Sys2Proof

/-- A management frame: MGMT or QUENCH (R270). -/
def Frame.isVc7 (f : Frame) : Bool := f.fkind == 7 || f.fkind == 8

/-- A request frame. -/
def Frame.isRequest (f : Frame) : Bool := f.fkind == 1 || f.fkind == 3 || f.fkind == 5

/-- A response frame. -/
def Frame.isResponse (f : Frame) : Bool := f.fkind == 2 || f.fkind == 4 || f.fkind == 6

/-- TRANSIT of a frame set or cleared (R285). -/
def Frame.transit (f : Frame) (v : Bool) : Frame := { f with flags := f.flags % 8 + f.flags / 16 * 16 + 8 * bit v }

/-- A flit of a type that carries a SEQ (R243). -/
def Flit.hasSeq (f : Flit) : Bool := f.ftype == 1 || f.ftype == 4 || f.ftype == 5

end Sys2Proof

namespace Sys2Proof.Machine

/-! ### Calibration runs -/

/-- CAL_DUE bit of an element (R498). -/
def calDue (e : Nat) : Loc := if e < 64 then ⟨Reg.CAL_DUE0, e, 1⟩ else ⟨Reg.CAL_DUE1, e - 64, 1⟩
/-- CAL_FAIL bit of an element (R498). -/
def calFail (e : Nat) : Loc := if e < 64 then ⟨Reg.CAL_FAIL0, e, 1⟩ else ⟨Reg.CAL_FAIL1, e - 64, 1⟩

/-- A run of an element begins (R489, R499): it is no longer due. `CalState.requested` keeps the element while it runs, as
128 + e when the run was requested and as 256 + e when it was not. -/
def State.calBegin (s : State) (e : Nat) : State :=
  let l := s.cal.requested
  let l := if l.contains e then l.map fun x => if x = e then 128 + e else x else l ++ [256 + e]
  let s : State := { s with cal := { s.cal with requested := l } }
  s.set (calDue e) 0

/-- A calibration run of an element ends (R496, R497); a request made meanwhile leaves it due (R499). -/
def State.calRun (s : State) (e : Nat) (pass inService : Bool) : State :=
  let l := s.cal.requested.filter fun x => x != 128 + e && x != 256 + e
  let s : State := { s with cal := { s.cal with requested := l } }
  let s := s.set (calDue e) (bit (l.contains e))
  let temp := s.get (Reg.CAL_ZONE_TEMP e)
  let s := s.inc Reg.CAL_STATUS_RUNS 1
  if pass then
    let s := (s.set (Reg.CAL_ZONE_LASTTEMP e) temp).set (Reg.CAL_ZONE_STORED e) 1
    let s : State := if s.nvShut then s else { s with cal := { s.cal with records := alSet s.cal.records e (temp, true) } }
    s.occur 0x1001 0 (leBytes 1 e ++ leBytes 1 temp)
  else
    ((s.sat Reg.CAL_STATUS_FAILS 1).set (calFail e) 1).occur 0x1002 0 (leBytes 1 e ++ leBytes 1 temp ++ leBytes 1 (bit inService))

/-- The port calibration that runs ends (R491, R494). -/
def State.calPortEnd (s : State) (i : Nat) (pass : Bool) : State :=
  if s.get Reg.CAL_STATUS_PORTRUN = i then (s.set Reg.CAL_STATUS_PORTRUN 0x7f).calRun i pass true else s

/-- The port calibration that has not reached RECAL ends, and the port stays due where it was (R492, R493). -/
def State.calPortAbort (s : State) (i : Nat) : State :=
  if s.get Reg.CAL_STATUS_PORTRUN ≠ i then s
  else
    let s := s.set Reg.CAL_STATUS_PORTRUN 0x7f
    let l := s.cal.requested
    let mine := l.contains (128 + i) || l.contains (256 + i)
    let l := (l.filter (· != 256 + i)).map fun x => if x = 128 + i then i else x
    let s : State := { s with cal := { s.cal with requested := l } }
    if mine then s.set (calDue i) 1 else s

/-! ### Frames and flits as bytes -/

/-- A fabric frame as its bytes (R269). -/
def frameBytes (f : Frame) : List Byte :=
  leBytes 1 f.fkind ++ leBytes 1 f.flags ++ leBytes 2 f.blen ++ leBytes 2 f.skey ++ leBytes 2 f.srcmod ++ leBytes 2 f.dstmod
    ++ leBytes 1 f.cls ++ leBytes 1 f.hops ++ leBytes 4 f.tag ++ leBytes 8 f.addr ++ leBytes 2 f.len ++ leBytes 1 f.code
    ++ leBytes 1 f.aop ++ leBytes 4 0 ++ f.body

/-- A fabric frame from its bytes. -/
def parseFrame (d : List Byte) : Frame :=
  { fkind := leAt d 0 1, flags := leAt d 1 1, blen := leAt d 2 2, skey := leAt d 4 2, srcmod := leAt d 6 2, dstmod := leAt d 8 2,
    cls := leAt d 10 1, hops := leAt d 11 1, tag := leAt d 12 4, addr := leAt d 16 8, len := leAt d 24 2, code := leAt d 26 1,
    aop := leAt d 27 1, body := d.drop 32 }

/-- A BLEN that the kind does not allow (R270, R271). -/
def badBlen (f : Frame) : Bool :=
  match f.fkind with
  | 1 => f.blen != 0
  | 2 => if f.code = 0 then decide (f.blen < 4) else f.blen != 0
  | 3 => decide (f.blen < 4)
  | 4 => f.blen != 0
  | 5 => f.blen != (if f.aop < 4 then 8 else 16)
  | 6 => if f.code = 0 then f.blen != 4 && f.blen != 8 else f.blen != 0
  | 7 => decide (224 < f.blen)
  | _ => f.blen != 16

/-- A frame that the receiving router discards (R271), as it came on a VC with these bytes. -/
def badFrame (vc : Nat) (d : List Byte) : Bool :=
  let f := parseFrame d
  f.fkind == 0 || decide (8 < f.fkind) || (f.isVc7 != (vc == 7)) || badBlen f
    || decide (32 ≤ f.flags) || (f.flags.testBit 4 && !f.isVc7) || decide (8192 ≤ f.srcmod) || decide (8192 ≤ f.dstmod)
    || decide (8 ≤ f.cls) || (f.isVc7 && f.cls != 0) || (!f.isVc7 && decide (2 ^ 24 ≤ f.tag))
    || decide (2 ^ 43 ≤ f.addr) || (f.isResponse && f.addr != 0) || (f.fkind != 1 && f.len != 0)
    || (!f.isResponse && f.fkind != 7 && f.code != 0) || (f.fkind != 5 && f.aop != 0) || decide (5 < f.aop) || leAt d 28 4 != 0

/-- An abutment frame as its bytes (R526). -/
def hostBytes (f : HostFrame) : List Byte :=
  leBytes 1 f.akind ++ leBytes 1 f.cstat ++ leBytes 2 f.len ++ leBytes 4 f.atag ++ leBytes 8 f.addr ++ f.body

/-- A flit's header and payload (R242). -/
def flitBytes (f : Flit) : List Byte :=
  leBytes 12 (f.ftype % 16 + f.vc % 8 * 2 ^ 4 + f.seq % 4096 * 2 ^ 8 + f.ack % 4096 * 2 ^ 20 + f.crvc0 % 8 * 2 ^ 32
    + f.crn0 % 256 * 2 ^ 35 + f.crvc1 % 8 * 2 ^ 43 + f.crn1 % 256 * 2 ^ 46 + f.plen % 256 * 2 ^ 64)
    ++ (List.range 240).map fun k => f.payload.getD k 0

/-- A flit passes its CRC (R242). -/
def flitGood (f : Flit) : Bool := f.crc == crc32c (flitBytes f)

/-! ### Ports -/

/-- A port outside its registers. -/
def State.port (s : State) (i : Nat) : LinkPort := smapGet (fun _ => LinkPort.reset) s.lnk i

/-- Change a port. -/
def State.updPort (s : State) (i : Nat) (f : LinkPort → LinkPort) : State :=
  { s with lnk := smapSet (fun _ => LinkPort.reset) s.lnk i (f (s.port i)) }

/-- Link state of a port (R247). -/
def State.linkState (s : State) (i : Nat) : Nat := s.get (Reg.LNK_STATUS_STATE i)

/-- Physical lanes, active logical lanes, and the lanes that training and alignment need; H needs its four (R233, R247,
R523). -/
def physLanes (i : Nat) : Nat := if i = 10 then 5 else 17
def logLanes (i : Nat) : Nat := if i = 10 then 4 else 16
def needLanes (i : Nat) : Nat := if i = 10 then 4 else 8

/-- The physical lane of a logical lane (R234). -/
def physOf (spare l : Nat) : Nat := if l < spare then l else l + 1

/-- Set bits of a number below `n`. -/
def popCount (n m : Nat) : Nat := ((List.range n).filter m.testBit).length

/-- The lowest `k` set bits of a mask of 16. -/
def lowLanes (m k : Nat) : Nat := (((List.range 16).filter m.testBit).take k).foldl (fun a b => a + 2 ^ b) 0

/-- A physical lane is trained and not failed. -/
def State.laneHealthy (s : State) (i n : Nat) : Bool := (s.port i).trained.testBit n && !s.flag (Reg.LNK_LANE_STATUS_FAILED i n)

/-- The healthy logical lanes under a choice of spare. -/
def State.healthyLanes (s : State) (i spare : Nat) : Nat :=
  ((List.range (logLanes i)).filter fun l => s.laneHealthy i (physOf spare l)).foldl (fun a b => a + 2 ^ b) 0

/-- SPAREOK follows the spare lane (R256). -/
def State.spareSync (s : State) (i : Nat) : State :=
  s.set (Reg.LNK_STATUS_SPAREOK i) (bit (s.laneHealthy i (s.get (Reg.LNK_LANEMAP_SPARE i))))

/-- A lane map takes effect: spare, active logical lanes, width, and the logical number of every lane (R234, R265, R266). -/
def State.setMap (s : State) (i spare mask : Nat) : State :=
  let s := (s.set (Reg.LNK_LANEMAP_SPARE i) spare).set (Reg.LNK_LANEMAP_ACTIVE i) mask
  let s := (s.set (Reg.LNK_STATUS_WIDTH i) (popCount 16 mask)).spareSync i
  (List.range (physLanes i)).foldl (fun s n =>
    let l := if n < spare then n else n - 1
    s.set (Reg.LNK_LANE_STATUS_LOGICAL i n) (if n ≠ spare ∧ mask.testBit l then l else 0xff)) s

/-- A circuit on a trunk port is between the start of its slew and the end of its peak phase (R366). -/
def State.circSteers (s : State) (i : Nat) : Bool :=
  match s.circ.find? (·.1 == i) with
  | some (_, c) => decide (3 ≤ c.phase ∧ c.phase ≤ 6) && !(c.phase == 6 && c.leaving)
  | none => false

/-- An event of a port, kept back while a circuit steers its mirrors (R366). -/
def State.linkEvent (s : State) (i code : Nat) (data : List Byte) : State := if s.circSteers i then s else s.occur code i data

/-! ### Next hops and queues -/

/-- A SerDes activation is switching the port's image (R476): its traffic moves to other next hops meanwhile. -/
def State.serdesOn (s : State) (p : Nat) : Bool := s.upd.act.any fun a => a.comp == 6 && a.part == p

/-- A port is usable (R279, R476). -/
def State.portUsable (s : State) (p : Nat) (vc7 : Bool) : Bool :=
  decide (p < 10) && (s.linkState p == 6 || (vc7 && s.linkState p == 14)) && !s.serdesOn p

/-- The next hop to a module, and which of NH0 to NH2 it is (R279). -/
def State.nextHop (s : State) (d : Nat) (vc7 : Bool) : Option (Nat × Nat) :=
  if !s.flag (Reg.RTR_ENT_LO_VALID d) then none
  else ([s.get (Reg.RTR_ENT_LO_NH0 d), s.get (Reg.RTR_ENT_LO_NH1 d), s.get (Reg.RTR_ENT_LO_NH2 d)].zipIdx).find?
    fun h => s.portUsable h.1 vc7

/-- The VC a frame takes on a port (R270, R285). -/
def State.outVc (s : State) (p : Nat) (f : Frame) : Nat :=
  if f.isVc7 then 7
  else if s.flag (Reg.RTR_PEER_OWNED p) ∧ f.skey = s.get Reg.RTR_SKEY_SKEY ∧ f.cls < 6 then f.cls else 6

/-- A counter event of the router with a port mask as qualifier; 0 acts as all (chapter 16). -/
def portQual (p v q : Nat) : Nat := if q % 1024 = 0 ∨ q.testBit p then v else 0

/-- Queue a frame for a port. -/
def State.queueFor (s : State) (p nh : Nat) (via : Option Via) (f : Frame) : State :=
  let vc := s.outVc p f
  let f := if f.isVc7 then f else f.transit (vc == 6)
  let s := { s with rtr := { s.rtr with queued := s.rtr.queued ++ [{ port := p, vc, via, frame := f }] } }
  if nh = 0 then s else s.countQ 5 0 0x006 (portQual p 1)

/-- A frame in transit that finds no usable hop waits (R281). -/
def State.waitTransit (s : State) (via : Option Via) (f : Frame) : State :=
  { s with rtr := { s.rtr with transit := s.rtr.transit ++ [{ via, frame := f, since := s.now }] } }

/-- Originate a frame that is not a remote operation's: a response or a management frame (R279). The module's own entry is not used
(R278): a management frame for the module itself joins those that wait for a pylon. -/
def State.originate (s : State) (f : Frame) : State :=
  let f := { f with hops := 1, blen := f.body.length }
  let s := s.count 5 0 0x003 1
  if f.dstmod = s.ownMod ∧ f.isVc7 then { s with pyl := { s.pyl with heldQ := s.pyl.heldQ ++ [f] } }
  else match s.nextHop f.dstmod f.isVc7 with
    | some (p, k) => s.queueFor p k none f
    | none => s.waitTransit none f

/-- Frames queued for a port that is unusable for them move to the entry's next usable hop, or wait (R279, R280). -/
def State.reroute (s : State) (p : Nat) : State :=
  let out := s.rtr.queued.filter fun q => q.port == p && !s.portUsable p (q.vc == 7)
  let s := { s with rtr := { s.rtr with queued := s.rtr.queued.filter fun q => !(q.port == p && !s.portUsable p (q.vc == 7)) } }
  out.foldl (fun s q =>
    match s.nextHop q.frame.dstmod q.frame.isVc7 with
    | some (p, k) => s.queueFor p k q.via q.frame
    | none =>
      if q.via.isNone && q.frame.isRequest then
        let ops := s.rtr.ops.map fun o =>
          if o.frame.tag = q.frame.tag then { o with sent := false, since := s.now } else o
        { s with rtr := { s.rtr with ops := ops } }
      else s.waitTransit q.via q.frame) s

/-- Waiting frames whose destination has a usable hop again are queued. -/
def State.transitGo (s : State) : State :=
  let l := s.rtr.transit
  l.foldl (fun s t =>
    match s.nextHop t.frame.dstmod t.frame.isVc7 with
    | some (p, k) => s.queueFor p k t.via t.frame
    | none => { s with rtr := { s.rtr with transit := s.rtr.transit ++ [t] } }) { s with rtr := { s.rtr with transit := [] } }

/-- No frame is queued or unacknowledged on a port (R298). -/
def State.portEmpty (s : State) (p : Nat) : Bool :=
  !(s.rtr.queued.any fun q => q.port == p) && (s.port p).tx.all (fun e => e.2.isEmpty) && (s.port p).txOpen.isEmpty
    && !((s.port p).replay.any fun r => r.1.ftype == 1)

/-! ### Sending flits -/

/-- Credits that a transmitter holds at the end of IDENT (R246, R525). -/
def vcBuffers (i : Nat) : List Nat := if i = 10 then [768, 768, 0, 0, 0, 0, 0, 0] else [768, 768, 768, 768, 768, 768, 256, 16]

/-- Up to two credit returns of at most 255 (R242): the two VCs and counts, and what stays owed. `hold` names a VC whose
credits are withheld. -/
def takeCredits (owed : List Nat) (hold : Nat → Bool) : (Nat × Nat × Nat × Nat) × List Nat :=
  let vs := (List.range 8).filter fun v => decide (owed.getD v 0 ≠ 0) && !hold v
  let a := vs.getD 0 0
  let b := vs.getD 1 0
  let n := if vs.isEmpty then 0 else min 255 (owed.getD a 0)
  let m := if vs.length < 2 then 0 else min 255 (owed.getD b 0)
  ((a, n, b, m), (owed.modify a (· - n)).modify b (· - m))

/-- Form a flit with the port's present ACK and credit returns (R242, R244): H withholds VC0 credit while 1,024 MRD frames are
outstanding (R528). -/
def State.makeFlit (s : State) (i ftype vc seq plen : Nat) (payload : List Byte) : Flit × State :=
  let x := s.port i
  let c := takeCredits x.owed fun v => i == 10 && v == 0 && decide (1024 ≤ s.host.mrdOut)
  let f : Flit :=
    { ftype, vc, seq, ack := (x.rxSeq + 4095) % 4096, crvc0 := c.1.1, crn0 := c.1.2.1, crvc1 := c.1.2.2.1, crn1 := c.1.2.2.2,
      plen, payload := (List.range 240).map fun k => payload.getD k 0, crc := 0 }
  ({ f with crc := crc32c (flitBytes f) }, s.updPort i fun x => { x with owed := c.2 })

/-- Send a flit without a SEQ: NULL, NAK, IDENT or TIME. `lastSent` is the flit last sent, of any type. -/
def State.sendPlain (s : State) (i ftype : Nat) (payload : List Byte) : State :=
  let r := s.makeFlit i ftype 0 0 0 payload
  r.2.updPort i fun x => { x with lastSent := some r.1 }

/-- Send a flit with the next SEQ; it enters the replay buffer (R245). -/
def State.sendSeq (s : State) (i ftype vc plen : Nat) (payload : List Byte) : State :=
  let r := s.makeFlit i ftype vc (s.port i).txSeq plen payload
  r.2.updPort i fun x => { x with txSeq := (x.txSeq + 1) % 4096, replay := x.replay ++ [(r.1, s.now)], lastSent := some r.1 }

/-- Send a flit of the replay buffer again (R245): with the present ACK, and with the credits that its loss kept from the peer. -/
def State.sendAgain (s : State) (i k : Nat) : State :=
  let x := s.port i
  match x.replay[k]? with
  | none => s.updPort i fun x => { x with replayAt := none }
  | some r =>
    let f : Flit := { r.1 with ack := (x.rxSeq + 4095) % 4096 }
    let f : Flit := { f with crc := crc32c (flitBytes f) }
    s.updPort i fun x =>
      { x with replay := x.replay.set k (f, r.2), replayAt := if k + 1 < x.replay.length then some (k + 1) else none, lastSent := some f }

/-- The active logical lanes of a port, ascending. -/
def State.activeLanes (s : State) (i : Nat) : List Nat := (List.range 16).filter (s.get (Reg.LNK_LANEMAP_ACTIVE i)).testBit

/-- The logical lanes that a flit travels on: with a SEQ, the lane of its turn (R244), but a proposal of a lane change on every healthy
lane (R258); a TIME flit on the lowest active one (R303); any other flit on a lane the specification leaves open, here the lowest. -/
def State.flitLanes (s : State) (i : Nat) (f : Flit) : List Nat :=
  let l := s.activeLanes i
  if f.ftype = 4 ∧ leAt f.payload 0 1 = 1 then (List.range 16).filter (s.healthyLanes i (s.get (Reg.LNK_LANEMAP_SPARE i))).testBit
  else if f.hasSeq then (l[f.seq % l.length]?).toList
  else l.take 1

/-- A LANECHG or DRAIN flit is to be sent. -/
def State.sendControl (s : State) (i ftype : Nat) (payload : List Byte) : State :=
  s.updPort i fun x => { x with ctlQ := x.ctlQ ++ [(ftype, payload)] }

/-- Bytes of a VC that have begun to be sent. -/
def LinkPort.txOf (x : LinkPort) (vc : Nat) : List Byte := alGet [] x.tx vc

/-- Bubble admission (R275): the credits a frame needs before it begins on a torus port. -/
def State.creditsFor (p : Nat) (q : QueuedFrame) : Nat :=
  let n := (32 + q.frame.blen + 239) / 240
  if p < 6 ∧ !(q.via.any fun r => decide (r.port < 6) && r.port / 2 == p / 2) then n + 9 else n

/-- The next frame of a VC that may begin on a port. -/
def State.readyFrame (s : State) (p vc : Nat) : Option QueuedFrame :=
  match s.rtr.queued.find? fun q => q.port == p && q.vc == vc with
  | some q => if State.creditsFor p q ≤ (s.port p).credits.getD vc 0 then some q else none
  | none => none

/-- Frames per turn of a VC (R273). -/
def State.vcWeight (s : State) (vc : Nat) : Nat := if vc = 6 then 1 else max 1 (s.get ⟨Reg.RTR_VCW, 4 * vc, 4⟩)

/-- A VC's stream goes on with body bytes that have not arrived yet (R268). -/
def LinkPort.isOpen (x : LinkPort) (vc : Nat) : Bool := x.txOpen.any (·.1 == vc)

/-- A frame begins on a port: its bytes join the stream of its VC, which the rest of its body follows when it arrives (R268). Within the
VC's turn its bytes are the turn's (R273). -/
def State.beginFrame (s : State) (p vc : Nat) (q : QueuedFrame) : State :=
  let s : State := { s with rtr := { s.rtr with queued := s.rtr.queued.erase q } }
  let s := if q.via.isSome then s.countQ 5 0 0x001 (portQual p 1) else s
  let w := s.vcWeight vc
  s.updPort p fun x =>
    let begun := x.turn.getD vc 0
    { x with tx := alSet x.tx vc (x.txOf vc ++ frameBytes q.frame),
             txOpen := if q.frame.body.length < q.frame.blen then x.txOpen ++ (q.via.map fun v => (vc, v.port, v.vc)).toList else x.txOpen,
             turn := x.turn.modify vc (· + 1),
             left := if begun < w then x.left.modify vc (· + 32 + q.frame.blen) else x.left }

/-- Move frames of a VC into the byte stream until a flit is full or no further frame may begin (R268). -/
def State.fillStream : Nat → State → Nat → Nat → State
  | 0, s, _, _ => s
  | fuel + 1, s, p, vc =>
    if 240 ≤ ((s.port p).txOf vc).length ∨ (s.port p).isOpen vc then s
    else if p = 10 then
      match s.host.vc1[s.host.vc1Begun]? with
      | some f =>
        let h := s.host
        let s := { s with host := { h with vc1Begun := h.vc1Begun + 1, resend := h.resend - 1 } }
        let s := if h.resend = 0 then s else s.sat Reg.ABT_ERR_RESENT 1
        State.fillStream fuel (s.updPort p fun x => { x with tx := alSet x.tx vc (x.txOf vc ++ hostBytes f) }) p vc
      | none => s
    else
      match s.readyFrame p vc with
      | some q => State.fillStream fuel (s.beginFrame p vc q) p vc
      | none => s

/-- A VC has bytes or a frame to send on a port, and a credit. -/
def State.vcReady (s : State) (p vc : Nat) : Bool :=
  decide (0 < (s.port p).credits.getD vc 0) &&
    (!((s.port p).txOf vc).isEmpty || (!(s.port p).isOpen vc && if p = 10 then decide (vc = 1 ∧ s.host.vc1Begun < s.host.vc1.length)
      else (s.readyFrame p vc).isSome))

/-- VC6 has reached its cap of 8 in 64 flit times (R273). -/
def LinkPort.capped (x : LinkPort) : Bool := decide (8 ≤ (x.recent.filter (· == 6)).length)

/-- The VC that sends next on a port (R246, R273): VC7 first; then the VC whose turn runs, and then the others whose turn is not used up in
this round. The flag says that a new round begins. -/
def State.chooseVc (s : State) (p : Nat) : Option (Nat × Bool) :=
  let x := s.port p
  let can (vc : Nat) : Bool := s.vcReady p vc && !(vc == 6 && x.capped)
  let turn (vc : Nat) : Bool := can vc && (x.left.getD vc 0 != 0 || decide (x.turn.getD vc 0 < s.vcWeight vc))
  if s.vcReady p 7 then some (7, false)
  else if s.linkState p = 14 then none
  else match (x.recent.find? (· < 7)).filter turn with
    | some vc => some (vc, false)
    | none =>
      match (List.range 7).find? turn with
      | some vc => some (vc, false)
      | none => ((List.range 7).find? can).map fun vc => (vc, true)

/-- Body bytes of a frame in a VC's stream that have not arrived (R268). -/
def State.openBytes (s : State) (p vc : Nat) : Nat :=
  match (s.port p).txOpen.find? (·.1 == vc) with
  | some (_, q, v) => alGet 0 (s.port q).cut v
  | none => 0

/-- A new round (R273): a frame that began beyond its VC's turn, because the flit had room for it, counts in the new one. -/
def State.newRound (s : State) (p : Nat) : State :=
  let w := (List.range 8).map s.vcWeight
  let l := (List.range 8).map fun vc => ((s.port p).txOf vc).length + s.openBytes p vc
  s.updPort p fun x => { x with turn := (List.range 8).map fun vc => x.turn.getD vc 0 - w.getD vc 0, left := l }

/-- VC-mask qualifier of a counter event; 0 acts as all (chapter 16). -/
def vcQual (vc v q : Nat) : Nat := if q % 256 = 0 ∨ q.testBit vc then v else 0

/-- A flit time is used by a VC, 8 for none (R273). -/
def State.noteFlit (s : State) (i vc : Nat) : State := s.updPort i fun x => { x with recent := (vc :: x.recent).take 63 }

/-- A DATA flit of a VC is sent (R246, R268). -/
def State.sendData (s : State) (i vc : Nat) : State :=
  let s := s.fillStream 64 i vc
  let d := (s.port i).txOf vc
  let n := min 240 d.length
  let s := s.updPort i fun x =>
    { x with tx := alSet x.tx vc (d.drop 240), credits := x.credits.modify vc (· - 1), left := x.left.modify vc (· - n) }
  ((s.sendSeq i 1 vc n (d.take 240)).countQ 4 i 0x001 (vcQual vc 1)).noteFlit i vc

/-- A port sends NULL flits where it has nothing else to send (R247, R255, R260); in IDENT and RECAL only to return credits. -/
def State.sendsNull (s : State) (i : Nat) : Bool :=
  let st := s.linkState i
  [6, 7, 8, 9, 14].contains st || (st == 10 && (s.port i).safeFromDrain) || (s.port i).owed.any fun n => decide (n ≠ 0)

/-- One flit time of a port that carries flits: a replay first, then a DATA flit of VC7 (R246), a control flit, another DATA flit unless
the module shuts down (R516), else a NULL. -/
def State.flitTime (s : State) (i : Nat) : State :=
  let x := s.port i
  let full : Bool := decide (2048 ≤ x.replay.length)
  let st := s.linkState i
  let carries : Bool := decide (st = 6 ∨ st = 9 ∨ st = 14) && x.change.isNone && !full && s.pwr.shutdown.isNone
  let next := if carries then s.chooseVc i else none
  match x.replayAt with
  | some k => (s.sendAgain i k).noteFlit i 8
  | none =>
    if next.any fun (c : Nat × Bool) => c.1 == 7 then s.sendData i 7
    else match x.ctlQ with
      | (t, d) :: l => if full then s else ((s.updPort i fun x => { x with ctlQ := l }).sendSeq i t 0 0 d).noteFlit i 8
      | [] =>
        match next with
        | some (vc, round) => (if round then s.newRound i else s).sendData i vc
        | none =>
          let s := if x.capped ∧ s.vcReady i 6 ∧ i < 10 then s.countQ 5 0 0x004 (portQual i 1) else s
          let s := if st = 6 then s.count 4 i 0x004 1 else s
          (if s.sendsNull i then s.sendPlain i 0 [] else s).noteFlit i 8

/-! ### The link states -/

/-- What a port holds of a link that is gone. -/
def LinkPort.cleared (x : LinkPort) : LinkPort :=
  { LinkPort.reset with attempts := x.attempts, trainedOnce := x.trainedOnce, stale := x.stale, changeNum := x.changeNum,
                        aux := x.aux, lightAt := x.lightAt, enteredAt := x.enteredAt }

/-- H has lost its link (R534): interrupts and writes that were not acknowledged are sent again from the first; completions
that had begun are gone. -/
def State.hostLost (s : State) : State :=
  let h := s.host
  let again := (h.vc1.take h.vc1Begun).filter fun f => f.akind != 3
  { s with host := { h with vc1 := again ++ h.vc1.drop h.vc1Begun, vc1Begun := 0, vc1Acked := 0, resend := again.length } }

/-- A frame whose body is still to come from a VC of a port (R268). -/
def Via.brings (v : Option Via) (i vc : Nat) (f : Frame) : Bool :=
  decide (f.body.length < f.blen) && v.any fun v => v.port == i && v.vc == vc

/-- Body bytes arrive of the frame that a VC of a port brings (R268): they go where the frame is, and nowhere when it was discarded.
`last` when the body is complete with them. -/
def State.bodyIn (s : State) (i vc : Nat) (d : List Byte) (last : Bool) : State :=
  let more (f : Frame) : Frame := { f with body := f.body ++ d }
  let r := s.rtr
  let queued := r.queued.map fun q => if Via.brings q.via i vc q.frame then { q with frame := more q.frame } else q
  let transit := r.transit.map fun t => if Via.brings t.via i vc t.frame then { t with frame := more t.frame } else t
  let arrived := r.arrived.map fun (a : Nat × Nat × Frame) =>
    if Via.brings (some ⟨a.1, a.2.1, 0⟩) i vc a.2.2 then (a.1, a.2.1, more a.2.2) else a
  let s : State := { s with rtr := { r with queued := queued, transit := transit, arrived := arrived } }
  s.forEach (List.range 10) fun s p =>
    match (s.port p).txOpen.find? fun e => e.2.1 == i && e.2.2 == vc with
    | none => s
    | some e => s.updPort p fun x =>
        { x with tx := alSet x.tx e.1 (x.txOf e.1 ++ d), txOpen := if last then x.txOpen.filter (· != e) else x.txOpen }

/-- The rest of a frame is lost with the link it came over: the frame is gone where it has not begun to be sent; where it has, its place
in the stream is filled up with bytes that the specification does not give (log 74). -/
def State.cutLost (s : State) (i : Nat) : State :=
  s.forEach (s.port i).cut fun s (e : Nat × Nat) =>
    if e.2 = 0 then s
    else
      let r := s.rtr
      let s : State :=
        { s with rtr := { r with queued := r.queued.filter fun q => !Via.brings q.via i e.1 q.frame,
                                 transit := r.transit.filter fun t => !Via.brings t.via i e.1 t.frame,
                                 arrived := r.arrived.filter fun a => !Via.brings (some ⟨a.1, a.2.1, 0⟩) i e.1 a.2.2 } }
      (s.bodyIn i e.1 ((s.freshList e.2).map fun n => BitVec.ofNat 8 n) true).drawnBy e.2

/-- The lanes, buffers and flits of a port are cleared (R247). -/
def State.linkClear (s : State) (i : Nat) : State :=
  let s := s.cutLost i
  let s := (s.updPort i LinkPort.cleared).setMap i (s.get (Reg.LNK_LANEMAP_SPARE i)) 0
  let s := (List.range (physLanes i)).foldl (fun s n =>
    (((s.set (Reg.LNK_LANE_STATUS_SIGNAL i n) 0).set (Reg.LNK_LANE_STATUS_BLOCKLOCK i n) 0).set
      (Reg.LNK_LANE_STATUS_FECLOCK i n) 0).set (Reg.LNK_LANE_STATUS_FAILED i n) 0) s
  let s := s.set (Reg.LNK_STATUS_SPAREOK i) 0
  if i = 10 then s.hostLost else s

/-- A port enters a link state; traffic moves off a port that is no longer usable (R279). -/
def State.linkTo (s : State) (i st : Nat) : State :=
  ((s.set (Reg.LNK_STATUS_STATE i) st).updPort i fun x => { x with enteredAt := s.now }).reroute i

/-- The port has been in its state for this many ns (R247). -/
def State.stateFor (s : State) (i ns : Nat) : Bool := decide ((s.port i).enteredAt + ns ≤ s.now)

/-- The link of a port is gone, and the port is in `st`: a calibration run in RECAL has failed, one that still drains stays
due (R493). -/
def State.linkGone (s : State) (i st : Nat) : State :=
  let old := s.linkState i
  let s := if old = 11 then (List.range (physLanes i)).foldl (fun s n => s.set (Reg.LNK_PAT_CTL_LOCK i n) 0) s else s
  let s := (s.linkClear i).linkTo i st
  if old = 12 then s.calPortEnd i false else s.calPortAbort i

/-- Link down (R247, R534): logged, with its cause. -/
def State.linkDown (s : State) (i cause : Nat) : State :=
  let st := s.linkState i
  let s := s.linkEvent i 0x0706 (leBytes 1 st ++ leBytes 1 cause)
  let s := s.linkGone i 1
  if i = 10 then s.occur 0x1203 i (leBytes 1 st ++ leBytes 2 s.host.resend) else s

/-- PWR_RST holds a port in reset (R510): fabric ports by their own bit, H by HOST. -/
def State.portHeld (s : State) (i : Nat) : Bool := s.flag ⟨Reg.PWR_RST, 6 + i, 1⟩

/-- DETECT, or OFF while EN = 0. -/
def State.idleState (s : State) (i : Nat) : Nat := if s.flag (Reg.LNK_CTL_EN i) then 1 else 0

/-- A drain begins (R260, R491); `cal` for a calibration drain, `ask` when this end requests it. -/
def State.drainBegin (s : State) (i : Nat) (cal ask : Bool) : State :=
  let s := s.updPort i fun x => { x with calDrain := cal, drainedSent := false, drainedGot := false }
  let s := if ask then s.sendControl i 5 [1, BitVec.ofNat 8 (bit cal)] else s
  s.linkTo i 9

/-- The pending bits of vectors that may be sent now are sent (R533, R534). -/
def State.releaseVecs (s : State) : State :=
  s.host.pendingVec.foldl (fun s v => if !s.abtHeld && s.msiFree v then s.sendMsi v else s) s

/-! ### Lane failures -/

/-- The failure of a lane of a trunk port is optical (R257). -/
def State.optical (s : State) (i n : Nat) : Bool :=
  decide (6 ≤ i ∧ i ≤ 9) && (s.get (Reg.LNK_LIGHT_FLAGS i n) % 4 != 0 || !s.flag (Reg.LNK_LIGHT_VALID i n))

/-- The logical number of a physical lane under a choice of spare (R234). -/
def logOf (spare p : Nat) : Nat := if p < spare then p else p - 1

/-- A lane's failure is answered by a spare swap (R257): it is a copper failure, the spare is healthy, and the peer's too. -/
def State.maySwap (s : State) (i spare n : Nat) : Bool :=
  !s.optical i n && s.laneHealthy i spare && ((s.port i).identLast.map (·.spareok)).getD 0 == 1 && s.flag (Reg.LNK_CTL_SPAREEN i)
    && (s.get (Reg.LNK_PEER_FEAT i)).testBit 2

/-- A narrower width (R257): the 8 or 4 lowest healthy logical lanes, if that many of the lanes in `mask` are healthy. -/
def State.narrower (s : State) (i spare mask : Nat) : Option (Nat × Nat) :=
  let ok := s.healthyLanes i spare
  let n := popCount 16 (ok &&& mask)
  if i = 10 ∨ !(s.get (Reg.LNK_PEER_FEAT i)).testBit 3 then none
  else if 8 ≤ n then some (spare, lowLanes ok 8)
  else if 4 ≤ n then some (spare, lowLanes ok 4)
  else none

/-- The lane map that R257 gives when physical lane n fails under the map `spare` and `mask`: spare and active logical lanes; none when
the link goes down. -/
def State.lanePlan (s : State) (i spare mask n : Nat) : Option (Nat × Nat) :=
  if s.maySwap i spare n then
    let lanes := ((List.range 16).filter mask.testBit).map fun l => if physOf spare l = n then spare else physOf spare l
    some (n, lanes.foldl (fun m p => m ||| 2 ^ logOf n p) 0)
  else s.narrower i spare mask

/-- The lane map at the end of IDENT (R257): the full width, a spare swap for one lane that has not trained, or a narrower width. -/
def State.identPlan (s : State) (i : Nat) : Option (Nat × Nat) :=
  let full := 2 ^ logLanes i - 1
  let spare := s.get (Reg.LNK_LANEMAP_SPARE i)
  match (List.range (logLanes i)).find? fun l => !(s.healthyLanes i spare).testBit l with
  | none => some (spare, full)
  | some l =>
    let n := physOf spare l
    let sp := if s.maySwap i spare n then n else spare
    if s.healthyLanes i sp = full then some (sp, full) else s.narrower i sp full

/-- LANECHG payload (R243). -/
def laneChangeBytes (op spare mask num : Nat) : List Byte := leBytes 1 op ++ leBytes 1 spare ++ leBytes 2 mask ++ leBytes 1 num

/-- Propose a lane change (R258): DATA flits stop until it is done. -/
def State.proposeLanes (s : State) (i spare mask failed : Nat) : State :=
  let n := ((s.port i).changeNum + 1) % 256
  let c : LaneChange := { num := n, spare, mask, mine := true, accepted := false, failed }
  (s.updPort i fun x => { x with change := some c, changeNum := n }).sendControl i 4 (laneChangeBytes 1 spare mask n)

/-- An active lane has failed under a map: the change that R257 gives is proposed; the link goes down where there is none, in the states
whose row of R247 says so. -/
def State.laneGone (s : State) (i spare mask n : Nat) : State :=
  let st := s.linkState i
  match s.lanePlan i spare mask n with
  | some (sp, m) => s.proposeLanes i sp m n
  | none => if st = 6 ∨ st = 9 ∨ st = 12 then s.linkDown i 1 else s

/-- A lane change takes effect (R258): SWAPS is counted and an event logged, and what is not acknowledged is sent again. An active lane
that the change leaves failed is the next to change. -/
def State.applyLanes (s : State) (i spare mask failed : Nat) : State :=
  let s := (s.setMap i spare mask).updPort i fun x => { x with change := none, replayAt := if x.replay.isEmpty then none else some 0 }
  let s := (s.sat (Reg.LNK_ERR_SWAPS i) 1).linkEvent i 0x0701 (leBytes 1 failed ++ leBytes 1 spare ++ leBytes 1 (popCount 16 mask))
  match (List.range 16).find? fun l => mask.testBit l && !s.laneHealthy i (physOf spare l) with
  | some l => s.laneGone i spare mask (physOf spare l)
  | none => s

/-- A lane fails (R256, R257): an active lane of a port whose lanes are trained leads to a lane change or takes the link down. A change that
this end has proposed already is the map that a second failure starts from (R258). -/
def State.laneFail (s : State) (i n : Nat) : State :=
  let s := (s.set (Reg.LNK_LANE_STATUS_FAILED i n) 1).spareSync i
  let st := s.linkState i
  let c := ((s.port i).change.filter (·.mine)).map fun c => (c.spare, c.mask)
  let map := c.getD (s.get (Reg.LNK_LANEMAP_SPARE i), s.get (Reg.LNK_LANEMAP_ACTIVE i))
  if n = map.1 ∨ !map.2.testBit (logOf map.1 n) ∨ !([6, 7, 8, 9, 12, 14].contains st || (st == 10 && (s.port i).safeFromDrain)) then s
  else s.laneGone i map.1 map.2 n

/-! ### Equalisation records -/

/-- The bytes of a record that its CRC covers, and the record with it (R249). -/
def eqRecord (port spare peermod peerport temp ft : Nat) (lanes : List Byte) : List Byte :=
  let hd := leBytes 4 0x51454b4c ++ leBytes 1 port ++ leBytes 1 spare ++ leBytes 2 peermod ++ leBytes 1 peerport ++ leBytes 1 temp
    ++ List.replicate 6 0 ++ leBytes 8 ft ++ List.replicate 36 0
  hd ++ leBytes 4 (crc32c (hd ++ lanes)) ++ lanes

/-- One lane's entry: settings that the specification leaves open, and whether the lane is trained (R249; log 1). -/
def State.eqLane (s : State) (i n : Nat) : List Byte :=
  let v := s.freshList 36
  ((List.range 36).map fun k =>
    if k = 7 then BitVec.ofNat 8 (v.getD k 0)
    else if k = 33 then BitVec.ofNat 8 (s.get (Reg.LNK_LANE_STATUS_INTERP i n))
    else if k = 35 then BitVec.ofNat 8 (v.getD k 0 % 2 * 2 + bit (s.laneHealthy i n))
    else BitVec.ofNat 8 (v.getD k 0)) ++ List.replicate 28 0

/-- The record of a port is written at LNK_EQSAVE.ADDR (R250); one that would not lie within DRAM is not written (log 31). -/
def State.eqSave (s : State) (i : Nat) : State :=
  let a := s.get (Reg.LNK_EQSAVE_ADDR i)
  if s.linkState i ≠ 6 ∨ dramEnd < a + 1152 then s
  else
    let r := (List.range 17).foldl (fun (acc : List Byte × State) n => (acc.1 ++ acc.2.eqLane i n, acc.2.drawnBy 36)) ([], s)
    let d := eqRecord i (s.get (Reg.LNK_LANEMAP_SPARE i)) (s.get (Reg.LNK_PEER_MODNUM i)) (s.get (Reg.LNK_PEER_PORT i))
      (s.get (Reg.CAL_ZONE_TEMP i)) s.ft r.1
    (r.2.memWrite a d false).2.updPort i fun x => { x with stale := x.stale.filter (· != a) }

/-- DELTA of calibration as it acts (R498). -/
def State.calDelta (s : State) : Nat := clampNat 2 20 (s.get Reg.CAL_CTL_DELTA)

/-- What a valid record gives a fast relock (R248, R249): its peer, its spare, and the interpolator cell of each lane. -/
structure EqRec where
  peer : Nat × Nat
  spare : Nat
  interp : List Nat
  deriving DecidableEq, Repr

/-- The record at LNK_EQSAVE.ADDR when it is valid (R250). -/
def State.eqRead (s : State) (i : Nat) : Option EqRec × State :=
  let a := s.get (Reg.LNK_EQSAVE_ADDR i)
  if dramEnd < a + 1152 then (none, s)
  else
    let r := s.memRead a 1152 false
    match r.1 with
    | none => (none, r.2)
    | some d =>
      let dt : Int := (leAt d 9 1 : Int) - signed 8 (s.get (Reg.CAL_ZONE_TEMP i))
      let ok := leAt d 0 4 == 0x51454b4c && leAt d 4 1 == i && leAt d 60 4 == crc32c (d.take 60 ++ d.drop 64)
        && decide (dt.natAbs ≤ s.calDelta) && !(s.port i).stale.contains a
      let x : EqRec := { peer := (leAt d 6 2, leAt d 8 1), spare := leAt d 5 1, interp := (List.range 17).map fun n => leAt d (97 + 64 * n) 1 }
      (if ok then some x else none, r.2)

/-- The record is marked stale (R247, R250). -/
def State.eqStale (s : State) (i : Nat) : State :=
  (s.updPort i fun x => { x with stale := s.get (Reg.LNK_EQSAVE_ADDR i) :: x.stale }).set (Reg.LNK_EQSAVE_VALID i) 0

/-! ### What a link state shows -/

/-- A service LED (R261): colours and the times they are on, in ms. -/
inductive Led where
  | off
  | green (onMs offMs : Nat)
  | amber (onMs offMs : Nat)
  | greenSteady
  | amberSteady
  /-- green and amber alternate with this period -/
  | alternating (periodMs : Nat)
  deriving DecidableEq, Repr

/-- The LED of a port (R261); H, whose width is 4, follows the same table. -/
def State.led (s : State) (i : Nat) : Led :=
  match s.linkState i with
  | 0 => .off
  | 1 => .off
  | 2 => .green 250 250
  | 3 => .green 250 250
  | 4 => .green 250 250
  | 5 => .green 250 250
  | 6 => if s.get (Reg.LNK_STATUS_WIDTH i) = 16 ∧ s.flag (Reg.LNK_STATUS_SPAREOK i) then .green 900 100 else .alternating 1000
  | 7 => .amber 250 250
  | 8 => .amberSteady
  | 9 => .green 125 125
  | 10 => .greenSteady
  | 13 => .amber 1000 1000
  | 14 => .green 100 1900
  | _ => .alternating 250

/-- The attention LED (R255). -/
def State.attention (s : State) : Bool :=
  (List.range 11).any fun i => s.linkState i == 7 || s.linkState i == 8 || s.linkState i == 13

end Sys2Proof.Machine
end

