-- ==== Sys2Proof/Machine/Routing.lean ====
section
/-! DEFINITION. Machine/Routing.lean: frames that arrive (R271, R274, R281, R284), requests at their target (R291), remote
operations (R280, R289, R290), quenches (R295 to R297) and staged tables (R282, R283).
The choices of the model here: logs 17, 18 and 42. -/

namespace Sys2Proof.Machine

/-! ### Arrival -/

/-- A frame is dropped or discarded under a cause of RTR_DROP. -/
def State.drop (s : State) (cause : Loc) : State := (s.sat cause 1).count 5 0 0x007 1

/-- The first frame of this port that is at the head of its VC and passes a test. -/
def State.headFrame (s : State) (p : Nat) (f : Frame → Bool) : Option (Nat × Nat × Frame) :=
  (s.rtr.arrived.zipIdx.find? fun e =>
    e.1.1 == p && f e.1.2.2 && !((s.rtr.arrived.take e.2).any fun x => x.1 == p && x.2.1 == e.1.2.1)).map (·.1)

/-- A frame leaves the list of arrived ones. -/
def State.consume (s : State) (e : Nat × Nat × Frame) : State :=
  { s with rtr := { s.rtr with arrived := s.rtr.arrived.erase e } }

/-- RSP of a class (R274). -/
def State.rspClass (s : State) (c : Nat) : Nat := s.get ⟨Reg.RTR_RSPVC, 3 * c, 3⟩

/-- A response is delivered to the live entry that its TAG names; any other is discarded (R288). -/
def State.deliverResponse (s : State) (f : Frame) : Option State :=
  match s.remote (f.tag % 2 ^ 14) with
  | some op =>
    if op.sent ∧ op.frame.tag = f.tag ∧ op.frame.fkind + 1 = f.fkind then some (s.remoteComplete op f.code f.body)
    else some (s.drop Reg.RTR_DROP_LATE)
  | none => some (s.drop Reg.RTR_DROP_LATE)

/-- The response to a request (R270): its class is the one that RTR_RSPVC gives for the request's class as the request arrived (R274). One
for the module itself is delivered (R278). -/
def State.respond (s : State) (f : Frame) (code : Nat) (body : List Byte) : State :=
  let r : Frame :=
    { fkind := f.fkind + 1, flags := 0, blen := body.length, skey := s.get Reg.RTR_SKEY_SKEY, srcmod := s.ownMod,
      dstmod := f.srcmod, cls := if f.cls < 6 then s.rspClass f.cls else 0, hops := 1, tag := f.tag, addr := 0, len := 0, code,
      aop := 0, body }
  if f.srcmod = s.ownMod then (s.deliverResponse r).getD s else s.originate r

/-- A frame in transit cannot be forwarded (R281). -/
def State.noRoute (s : State) (via : Option Via) (f : Frame) : State :=
  let s := s.sat Reg.RTR_RMT_NOROUTE 1
  if f.isRequest then s.respond { f with cls := (via.map (·.cls)).getD f.cls } 0x08 [] else s

/-- Forward a frame in transit: hop limit, route, queue or wait (R279, R281). -/
def State.forward (s : State) (via : Via) (f : Frame) : State :=
  if max 1 (s.get Reg.RTR_CTL_MAXHOPS) ≤ f.hops then s.drop Reg.RTR_DROP_HOPS
  else if !s.flag (Reg.RTR_ENT_LO_VALID f.dstmod) then s.noRoute (some via) f
  else match s.nextHop f.dstmod f.isVc7 with
    | some (o, k) => s.queueFor o k (some via) f
    | none => s.waitTransit (some via) f

/-- A foreign-key event, for the first drop in each ms (R284). -/
def State.foreignKey (s : State) (p : Nat) (f : Frame) : State :=
  let ms := s.now / 1000000
  if s.rtr.foreignMs = some ms then s
  else
    let s := { s with rtr := { s.rtr with foreignMs := some ms } }
    s.occur 0x0802 0 (leBytes 2 f.skey ++ leBytes 2 f.srcmod ++ leBytes 1 p)

/-- A frame as the router takes it in: hop counted, class changed on a trunk port (R269, R274). -/
def State.taken (s : State) (p : Nat) (f : Frame) : Frame :=
  { f with hops := f.hops + 1,
           cls := if 6 ≤ p ∧ !f.isVc7 ∧ f.cls < 2 ∧ s.flag Reg.RTR_CTL_XSHIFT then f.cls + 2 else f.cls }

/-- Take in the data frame at the head of its VC whose kind is asked for (R284): dropped, delivered or forwarded. Before the
first full load every frame on VC0 to VC6 is dropped (R48). It is delivered with the class it arrived with, which its response's class is
taken from (R274). -/
def State.ingress (s : State) (p kind : Nat) (deliver : State → Frame → Option State) : State :=
  match s.headFrame p fun f => f.fkind == kind with
  | none => s
  | some e =>
    let vc := e.2.1
    let f := s.taken p e.2.2
    let k := s.get Reg.RTR_SKEY_SKEY
    let foreign := !s.flag Reg.JIG_STATUS_LOADED || (f.skey != k && (decide (vc < 6) || f.dstmod == s.ownMod))
    let t := s.consume e
    if foreign then (t.drop Reg.RTR_DROP_SKEY).foreignKey p f
    else if f.dstmod = s.ownMod then
      match deliver (t.count 5 0 0x002 1) { f with cls := e.2.2.cls } with
      | some u => u
      | none => s
    else t.forward { port := p, vc, cls := e.2.2.cls } f

/-! ### Requests at their target -/

/-- The atomic operations by their codes (R94, R269). -/
def atomicOf (aop : Nat) : AtomicOp :=
  match aop with
  | 0 => .add32
  | 1 => .max32
  | 2 => .swap32
  | 3 => .cas32
  | 4 => .add64
  | _ => .cas64

/-- Bytes that a request covers. -/
def requestLen (f : Frame) : Nat := if f.fkind = 1 then f.len else if f.fkind = 3 then f.body.length else atomicWidth (atomicOf f.aop)

/-- The MREG region of kind 0 to 3 that covers an address (R56). -/
def State.region (s : State) (a : Nat) : Option Mreg :=
  s.jig.mregs.find? fun m => decide (m.kind < 4) && decide (m.base ≤ a) && decide (a < m.base + m.size)

/-- A region's kind allows a request (R56). -/
def regionAllows (m : Mreg) (f : Frame) : Bool :=
  match m.kind with
  | 0 => f.fkind == 1
  | 3 => f.fkind == 1 && f.srcmod == m.peer
  | _ => true

/-- The checks of a request at its target, in order (R291, R292): 0 when all pass. -/
def State.targetCheck (s : State) (f : Frame) : Nat :=
  let n := requestLen f
  if 6 ≤ f.cls ∨ (f.flags.testBit 2 ∧ f.fkind ≠ 1) then 0x01
  else match placeOf f.addr with
    | .unmapped => 0x02
    | .control => 0x03
    | .bowl i off =>
      if !s.pwr.latheReady.getD (i / 144) false then 0x0a
      else if f.fkind = 5 then 0x06
      else if bowlBytes < off + n then 0x02 else 0
    | .dram =>
      match s.region f.addr with
      | none => 0x04
      | some m =>
        if !regionAllows m f then 0x05
        else if m.base + m.size < f.addr + n ∨ dramEnd < f.addr + n then 0x02 else 0

/-- Perform a request that passed its checks: the response's code and body (R175 to R178, R28, R291). -/
def State.targetPerform (s : State) (f : Frame) : (Nat × List Byte) × State :=
  let nal := f.flags.testBit 1
  match placeOf f.addr with
  | .bowl _ _ =>
    if f.fkind = 1 then ((0, s.bytes f.addr f.len), s) else ((0, []), s.putBytes f.addr f.body)
  | _ =>
    match f.fkind with
    | 1 =>
      let r := s.memRead f.addr f.len nal
      match r.1 with
      | some d => ((0, d), r.2)
      | none => ((7, []), r.2)
    | 3 =>
      let r := s.memWrite f.addr f.body nal
      (if r.1 then (0, []) else (7, []), r.2)
    | _ =>
      let op := atomicOf f.aop
      let w := atomicWidth op
      let r := s.lineAtomic f.addr op (leAt f.body 0 w) (leAt f.body w w)
      match r.1 with
      | some v => ((0, leBytes w v), r.2)
      | none => ((7, []), r.2)

/-- A request is delivered: it waits while its memory is not available, else it is checked, performed and answered. -/
def State.deliverRequest (s : State) (f : Frame) : Option State :=
  let c := s.targetCheck f
  if c ≠ 0 then some (s.respond f c [])
  else if (placeOf f.addr = .dram) && !s.memAvail f.addr (requestLen f) then none
  else
    let r := s.targetPerform f
    some (r.2.respond f r.1.1 r.1.2)

def execRdreq (p : Fin 10) (s : State) : Out := s.run fun s => s.ingress p 1 State.deliverRequest
def execRdrsp (p : Fin 10) (s : State) : Out := s.run fun s => s.ingress p 2 State.deliverResponse
def execWrreq (p : Fin 10) (s : State) : Out := s.run fun s => s.ingress p 3 State.deliverRequest
def execWrack (p : Fin 10) (s : State) : Out := s.run fun s => s.ingress p 4 State.deliverResponse
def execAtreq (p : Fin 10) (s : State) : Out := s.run fun s => s.ingress p 5 State.deliverRequest
def execAtrsp (p : Fin 10) (s : State) : Out := s.run fun s => s.ingress p 6 State.deliverResponse

/-! ### Remote operations -/

/-- A job load is in its drain or apply phase (R74). -/
def State.jobLoading (s : State) : Bool :=
  (s.get Reg.JIG_STATUS_PHASE == 3 || s.get Reg.JIG_STATUS_PHASE == 4) && leAt s.jig.staging 6 2 == 2

/-- A quench in force stops a class (R297). -/
def State.quenched (s : State) (cls : Nat) : Bool :=
  match s.rtr.quench with
  | some (m, _, _, _, _) => m.testBit cls
  | none => false

/-- A frame that originates here waits under HOLD or a quench (R280). -/
def State.held (s : State) (f : Frame) : Bool := s.flag (Reg.RTR_ENT_LO_HOLD f.dstmod) || s.quenched f.cls

/-- The issuer of an operation: a spindle, or the headstock (R289). -/
def sameIssuer (a b : RemoteOp) : Bool := a.owner.spindle == b.owner.spindle

/-- An operation waits under R280: its frame is held, or has no usable hop. -/
def State.waits280 (s : State) (o : RemoteOp) : Bool := s.held o.frame || (s.nextHop o.frame.dstmod false).isNone

/-- An operation that a failed job load has held waits for the earlier ones that can go (R75). -/
def State.laterHeld (s : State) (o : RemoteOp) : Bool :=
  decide (o.order < s.rtr.inOrder) && s.rtr.ops.any fun u => !u.sent && decide (u.order < o.order) && !s.waits280 u

/-- An operation may be sent (R74, R75, R103, R289): its limits, its ordering, no hold. -/
def State.maySend (s : State) (o : RemoteOp) : Bool :=
  !o.sent && !s.jobLoading && !s.held o.frame && !s.laterHeld o
    && (match o.owner.spindle with
        | some i => decide (s.spnRemote i + opLines o.frame ≤ 128) && decide (s.spnTxns i + opLines o.frame ≤ 1024)
        | none => true)
    && !(o.frame.flags.testBit 0 && s.rtr.ops.any fun u =>
        sameIssuer o u && u.frame.flags.testBit 0 && u.frame.dstmod == o.frame.dstmod && decide (u.order < o.order))

/-- REMOTE_OPERATION_SEND (R279, R280, R289): an operation whose destination has no valid entry completes with 0x08. -/
def execRemoteOperationSend (k : Fin 16384) (s : State) : Out := s.run fun s =>
  match s.remote k with
  | none => s
  | some o =>
    if o.sent ∨ s.jobLoading then s
    else if !s.flag (Reg.RTR_ENT_LO_VALID o.frame.dstmod) then s.remoteComplete o 0x08 []
    else if !s.maySend o then s
    else match s.nextHop o.frame.dstmod false with
      | none => s
      | some (p, h) =>
        let f : Frame := { o.frame with skey := s.get Reg.RTR_SKEY_SKEY }
        let mark (u : RemoteOp) : RemoteOp := if u.index = o.index then { u with sent := true, since := s.now, frame := f } else u
        let s := { s with rtr := { s.rtr with ops := s.rtr.ops.map mark } }
        (s.count 5 0 0x003 1).queueFor p h none { f with hops := 1 }

/-- RTR_CTL.TIMEOUT as it acts, in ns (R298). -/
def State.rmtTimeout (s : State) : Nat := 1000 * max 1 (s.get Reg.RTR_CTL_TIMEOUT)

/-- REMOTE_TIMEOUT (R290): no response came within TIMEOUT of the send. -/
def execRemoteTimeout (k : Fin 16384) (s : State) : Out := s.run fun s =>
  match s.remote k with
  | none => s
  | some o =>
    if o.sent ∧ o.since + s.rmtTimeout ≤ s.now then (s.sat Reg.RTR_RMT_TIMEOUTS 1).remoteComplete o 0x09 [] else s

/-- NO_ROUTE_TIMEOUT (R280): an operation has waited TIMEOUT for a usable hop, without HOLD or a quench. -/
def execNoRouteTimeout (k : Fin 16384) (s : State) : Out := s.run fun s =>
  match s.remote k with
  | none => s
  | some o =>
    if o.sent || s.held o.frame || (s.nextHop o.frame.dstmod false).isSome || decide (s.now < o.since + s.rmtTimeout) then s
    else s.remoteComplete o 0x08 []

/-- TRANSIT_WAIT_EXPIRY (R281): a waiting frame has waited NRWAIT. -/
def execTransitWaitExpiry (k : Nat) (s : State) : Out := s.run fun s =>
  match s.rtr.transit[k]? with
  | none => s
  | some t =>
    if (s.nextHop t.frame.dstmod t.frame.isVc7).isSome ∨ s.now < t.since + 1000 * s.get Reg.RTR_CTL_NRWAIT then s
    else ({ s with rtr := { s.rtr with transit := s.rtr.transit.eraseIdx k } }).noRoute t.via t.frame

/-! ### Quenches -/

/-- A module may write registers of this one or quench it (R295). -/
def State.mgmtAllowed (s : State) (f : Frame) : Bool :=
  f.skey == s.get Reg.RTR_SKEY_SKEY || (List.range 4).any fun k =>
    s.flag ⟨Reg.RTR_MGMTPEER, 16 * k + 15, 1⟩ && s.get ⟨Reg.RTR_MGMTPEER, 16 * k, 13⟩ == f.srcmod

/-- The quench in force, or none, as RTR_QSTATE shows it (R298). -/
def State.setQuench (s : State) (q : Option (Nat × Nat × Nat × Nat × Nat)) : State :=
  let s := { s with rtr := { s.rtr with quench := q } }
  match q with
  | none => s.clearReg Reg.RTR_QSTATE
  | some (m, _, src, seq, tm) =>
    (((s.set Reg.RTR_QSTATE_STOPPED m).set Reg.RTR_QSTATE_FROM src).set Reg.RTR_QSTATE_QSEQ seq).set Reg.RTR_QSTATE_TIMED
      (bit (tm != 0))

/-- Apply a quench body to this router's origin frames (R296, R297). -/
def State.applyQuench (s : State) (src : Nat) (b : List Byte) : State :=
  let key := leAt b 2 2
  if key ≠ 0 ∧ key ≠ s.get Reg.RTR_SKEY_SKEY then s
  else if leAt b 0 1 = 1 then s.setQuench (some (leAt b 4 1 % 64, key, src, leAt b 6 2, leAt b 8 8))
  else s.setQuench none

/-- Copies of a quench go to every port usable for VC7 but one (R297). -/
def State.spreadQuench (s : State) (f : Frame) (but : Option Via) : State :=
  (List.range 10).foldl (fun s p =>
    if s.portUsable p true && (but.map (·.port)) != some p then s.queueFor p 0 but f else s) s

/-- Quenches seen within the last ms (R297). -/
def State.quenchNew (s : State) (src seq : Nat) : Bool :=
  !(s.rtr.quenchSeen.any fun q => q.1 == src && q.2.1 == seq && decide (s.now < q.2.2 + 1000000))

/-- QUENCH (R295 to R297): a received quench is applied and forwarded with TTL − 1. -/
def execQuench (p : Fin 10) (s : State) : Out := s.run fun s =>
  match s.headFrame p fun f => f.fkind == 8 with
  | none => s
  | some e =>
    let f := s.taken p e.2.2
    let b := f.body
    let s := s.consume e
    let op := leAt b 0 1
    let seq := leAt b 6 2
    if !s.mgmtAllowed f || (op != 1 && op != 2) || !s.quenchNew f.srcmod seq then s
    else
      let seen := (f.srcmod, seq, s.now) :: s.rtr.quenchSeen.filter fun q => decide (s.now < q.2.2 + 1000000)
      let s := { s with rtr := { s.rtr with quenchSeen := seen } }
      let s := (s.count 5 0 0x002 1).applyQuench f.srcmod b
      let ttl := leAt b 1 1
      if ttl ≤ 1 then s else s.spreadQuench { f with body := b.take 1 ++ leBytes 1 (ttl - 1) ++ b.drop 2 } (some { port := p, vc := 7, cls := 0 })

/-- A write of RTR_QUENCH (R296 to R298): with GO = 1 a quench is originated, and applied here. -/
def State.quenchWrite (s : State) (v : Word64) : State :=
  let w := v.toNat
  if !w.testBit 0 then s
  else
    let stop := !w.testBit 1
    let seq := s.rtr.quenchSeq
    let tm := if stop ∧ bits w 32 32 ≠ 0 then s.ft + 1000 * bits w 32 32 else 0
    let body := leBytes 1 (if stop then 1 else 2) ++ leBytes 1 (max 1 (bits w 2 6)) ++ leBytes 2 (bits w 16 16)
      ++ leBytes 1 (bits w 8 6) ++ leBytes 1 0 ++ leBytes 2 seq ++ leBytes 8 tm
    let tag := s.get Reg.AON_MSEQ_NEXT
    let s := { s with rtr := { s.rtr with quenchSeq := (seq + 1) % 65536 } }
    let s := (s.inc Reg.AON_MSEQ_NEXT 1).count 5 0 0x003 1
    let f : Frame :=
      { fkind := 8, flags := 0, blen := 16, skey := s.get Reg.RTR_SKEY_SKEY, srcmod := s.ownMod, dstmod := 0, cls := 0, hops := 1,
        tag, addr := 0, len := 0, code := 0, aop := 0, body }
    (s.applyQuench s.ownMod body).spreadQuench f none

def execQuenchOriginate (v : Word64) (s : State) : Out := s.run fun s => s.quenchWrite v

/-- QUENCH_LAPSE (R297): fabric time reaches a stop's UNTIL. -/
def execQuenchLapse (s : State) : Out := s.run fun s =>
  match s.rtr.quench with
  | some (_, _, _, _, tm) => if tm ≠ 0 ∧ tm ≤ s.ft then s.setQuench none else s
  | none => s

/-! ### Staged tables -/

/-- The destinations whose staged entry takes part in a swap (R277, R282). -/
def State.stagedList (s : State) : List Nat :=
  s.regs.filterMap fun e =>
    if Reg.RTR_STG_LO 0 ≤ e.1 ∧ e.1 < Reg.RTR_STG_LO 8192 ∧ (e.1 - Reg.RTR_STG_LO 0) % 16 = 0 ∧ e.2.getLsbD 2 then
      some ((e.1 - Reg.RTR_STG_LO 0) / 16)
    else none

/-- The swap (R282): every staged entry with STAGE = 1 becomes active, with STAGE 0 in both copies. -/
def State.routingSwap (s : State) (late : Bool) : State :=
  let l := s.stagedList
  let s := l.foldl (fun s d =>
    let s := s.set (Reg.RTR_STG_LO_STAGE d) 0
    s.setReg (Reg.RTR_ENT_LO d) (s.reg (Reg.RTR_STG_LO d))) s
  let s := (s.set Reg.RTR_SWAP_CTL_ARM 0).set Reg.RTR_SWAP_CTL_DONE 1
  let s := (s.set Reg.RTR_SWAP_CTL_LATE (bit late)).set Reg.RTR_SWAP_CTL_COUNT l.length
  let s := if late then s.set Reg.FTU_STATUS_LATE 1 else s
  (s.occur 0x0801 0 (leBytes 2 l.length ++ leBytes 1 (bit late))).transitGo

/-- A write of ARM (R282): with its time already past the swap takes place at once. -/
def State.swapArm (s : State) (arm : Nat) : State :=
  if arm = 0 then s.set Reg.RTR_SWAP_CTL_ARM 0
  else if s.flag Reg.RTR_SWAP_CTL_ARM then s
  else
    let s := s.set Reg.RTR_SWAP_CTL_ARM 1
    if s.get Reg.RTR_SWAP_FT_FT < s.ft then s.routingSwap true else s

/-- ROUTING_SWAP (R282): fabric time reaches RTR_SWAP_FT. -/
def execRoutingSwap (s : State) : Out := s.run fun s =>
  if s.flag Reg.RTR_SWAP_CTL_ARM ∧ s.get Reg.RTR_SWAP_FT_FT ≤ s.ft then s.routingSwap false else s

end Sys2Proof.Machine
end

