-- ==== Sys2Proof/Machine/Flits.lean ====
section
/-! DEFINITION. Machine/Flits.lean: what a port does with every flit it receives: check, sequence, acknowledgement and credits
(R242 to R246), and the byte streams of its VCs (R268, R271, R526, R527).
The choices of the model here: logs 19 and 46. -/

namespace Sys2Proof.Machine

/-- The link of a port carries flits (R247, R255, R260, R303). -/
def State.linkCarries (s : State) (i : Nat) : Bool :=
  match s.linkState i with
  | 5 => true
  | 6 => true
  | 7 => true
  | 8 => true
  | 9 => true
  | 10 => (s.port i).safeFromDrain
  | 12 => true
  | 14 => true
  | _ => false

/-- Send NAK and wait for the expected SEQ (R245). -/
def State.sendNak (s : State) (i : Nat) : State := (s.updPort i fun x => { x with nakSent := true }).sendPlain i 2 []

/-- Abutment frames whose bytes are all acknowledged leave the module (R528, R534). -/
def State.hostAcked : Nat → State → State
  | 0, s => s
  | n + 1, s =>
    let h := s.host
    match h.vc1 with
    | f :: l =>
      let k := (hostBytes f).length
      if h.vc1Begun = 0 ∨ h.vc1Acked < k then s
      else State.hostAcked n { s with host := { h with vc1 := l, vc1Begun := h.vc1Begun - 1, vc1Acked := h.vc1Acked - k } }
    | [] => s

/-- An acknowledged flit: its latency enters the port's histogram (R436), and on H its bytes count for the frames sent. -/
def State.flitAcked (s : State) (i : Nat) (r : Flit × Nat) : State :=
  let q := s.get (Reg.CTR_HIST_CTL_QUAL (4 + i))
  let s := if r.1.ftype = 1 ∧ vcQual r.1.vc 1 q = 0 then s else s.histEnter (4 + i) (s.now - r.2)
  if i = 10 ∧ r.1.ftype = 1 then
    State.hostAcked 256 { s with host := { s.host with vc1Acked := s.host.vc1Acked + r.1.plen } }
  else s

/-- An ACK removes the flits up to its SEQ from the replay buffer (R242, R245). -/
def State.ackTo (s : State) (i ack : Nat) : State :=
  let l := (s.port i).replay
  match l with
  | [] => s
  | r :: _ =>
    let n := (ack + 4096 - r.1.seq) % 4096 + 1
    if l.length < n then s
    else
      (l.take n).foldl (fun s r => s.flitAcked i r)
        (s.updPort i fun x => { x with replay := l.drop n, replayAt := if n < l.length then x.replayAt.map (· - n) else none })

/-- Credit returns of a flit (R242, R246). -/
def State.creditIn (s : State) (i : Nat) (f : Flit) : State :=
  s.updPort i fun x => { x with credits := (x.credits.modify f.crvc0 (· + f.crn0)).modify f.crvc1 (· + f.crn1) }

/-- The port's state has flits that carry a SEQ: in IDENT, MISWIRED and INCOMPAT there are none, and nothing that a NAK could ask for
(log 46). -/
def State.sequenced (s : State) (i : Nat) : Bool := !([5, 7, 8].contains (s.linkState i))

/-- A received flit (R242 to R245): whether its content is taken. One that fails its CRC or comes out of sequence is discarded
and NAKed, and so is every later flit, without another NAK, until the expected SEQ arrives; one of a reserved type, or a DATA flit with a
bad PLEN, is discarded and counted. A port in MISWIRED or INCOMPAT carries no DATA flit (R255). -/
def State.flitIn (s : State) (i : Nat) (f : Flit) : Bool × State :=
  let st := s.linkState i
  if !s.linkCarries i || (f.ftype == 1 && (st == 7 || st == 8)) then (false, s)
  else if !flitGood f then
    let s := s.sat (Reg.LNK_ERR_CRCERR i) 1
    (false, if s.sequenced i then s.sendNak i else s)
  else if s.sequenced i ∧ (s.port i).nakSent ∧ !(f.hasSeq && f.seq == (s.port i).rxSeq) then (false, s)
  else if 6 < f.ftype ∨ (f.ftype = 1 ∧ (f.plen = 0 ∨ 240 < f.plen)) then (false, s.sat (Reg.LNK_ERR_BADCTL i) 1)
  else if f.hasSeq ∧ f.seq ≠ (s.port i).rxSeq then (false, s.sendNak i)
  else
    let s := if f.hasSeq then s.updPort i fun x => { x with rxSeq := (x.rxSeq + 1) % 4096, nakSent := false } else s
    (true, (s.ackTo i f.ack).creditIn i f)

/-! ### Byte streams -/

/-- Received bytes of a VC that do not yet make a frame. -/
def LinkPort.streamOf (x : LinkPort) (vc : Nat) : List Byte := alGet [] x.stream vc

def State.setStream (s : State) (i vc : Nat) (d : List Byte) : State :=
  s.updPort i fun x => { x with stream := alSet x.stream vc d }

/-- A management frame for this module that carries a reserved MOP, or an update frame with a reserved UOP (R294, R474). -/
def State.reservedMop (s : State) (f : Frame) : Bool :=
  let mop := leAt f.body 0 1
  f.fkind == 7 && f.dstmod == s.ownMod
    && (!([1, 2, 3, 4, 5, 0x81, 0x82, 0x83, 0x85].contains mop) || (mop == 5 && !([1, 2, 3, 4, 5, 6, 7].contains (leAt f.body 8 1))))

/-- A frame in transit is taken when its header has arrived (R268); one for this module, or a management frame, when it is complete. -/
def State.cutsThrough (s : State) (f : Frame) : Bool := !f.isVc7 && f.dstmod != s.ownMod

/-- Cut frames out of the stream of a VC of a fabric port (R268, R271). A BLEN above 2,048 takes the link down. -/
def State.cutFrames : Nat → State → Nat → Nat → State
  | 0, s, _, _ => s
  | fuel + 1, s, i, vc =>
    let d := (s.port i).streamOf vc
    let due := alGet 0 (s.port i).cut vc
    if due ≠ 0 then
      let k := min due d.length
      if k = 0 then s
      else
        let s := (s.setStream i vc (d.drop k)).updPort i fun x => { x with cut := alSet x.cut vc (due - k) }
        State.cutFrames fuel (s.bodyIn i vc (d.take k) (k == due)) i vc
    else if d.length < 32 then s
    else
      let n := leAt d 2 2
      if 2048 < n then (s.drop Reg.RTR_DROP_BAD).linkDown i 0
      else if d.length < 32 + n ∧ !s.cutsThrough (parseFrame d) then s
      else
        let fr := d.take (32 + n)
        let s := (s.setStream i vc (d.drop (32 + n))).updPort i fun x => { x with cut := alSet x.cut vc (32 + n - fr.length) }
        let s :=
          if badFrame vc fr || s.reservedMop (parseFrame fr) then s.drop Reg.RTR_DROP_BAD
          else { s with rtr := { s.rtr with arrived := s.rtr.arrived ++ [(i, vc, parseFrame fr)] } }
        State.cutFrames fuel s i vc

/-- An abutment frame from its bytes (R526). -/
def parseHost (d : List Byte) : HostFrame :=
  { akind := leAt d 0 1, cstat := leAt d 1 1, len := leAt d 2 2, atag := leAt d 4 4, addr := leAt d 8 8, body := d.drop 16 }

/-- An abutment frame on VC0 that is discarded (R527): a reserved kind or one of VC1, or a byte that must be 0. An MRD whose LEN
is out of range is answered instead (R531). -/
def badHost (d : List Byte) : Bool :=
  let f := parseHost d
  f.akind == 0 || (decide (3 ≤ f.akind) && f.akind != 6) || f.cstat != 0
    || (f.akind == 1 && decide (1024 ≤ f.atag)) || (f.akind != 1 && f.atag != 0)
    || (f.akind != 6 && decide (2 ^ 43 ≤ f.addr)) || (f.akind == 6 && (f.addr != 0 || f.len != 0))

/-- Body bytes that follow an abutment header on VC0: an MWR has one. -/
def hostBody (d : List Byte) : Nat := if leAt d 0 1 = 2 then leAt d 2 2 else 0

/-- Cut abutment frames out of the stream of VC0 of H (R526, R527); every MRD accepted is outstanding (R528). -/
def State.cutHost : Nat → State → State
  | 0, s => s
  | fuel + 1, s =>
    let d := (s.port 10).streamOf 0
    if d.length < 16 then s
    else if 2048 < leAt d 2 2 then s.linkDown 10 0
    else
      let n := 16 + hostBody d
      if d.length < n then s
      else
        let f := parseHost (d.take n)
        let s := s.setStream 10 0 (d.drop n)
        let s :=
          if badHost (d.take n) then s.sat Reg.ABT_ERR_BAD 1
          else { s with host := { s.host with vc0 := s.host.vc0 ++ [f], mrdOut := s.host.mrdOut + bit (f.akind == 1) } }
        State.cutHost fuel s

/-- The payload of a DATA flit (R268, R525): the credit of its buffer is owed, and its bytes join the VC's stream. -/
def State.dataIn (s : State) (i : Nat) (f : Flit) : State :=
  let s := s.countQ 4 i 0x002 (vcQual f.vc 1)
  let s := s.updPort i fun x => { x with owed := x.owed.modify f.vc (· + 1) }
  if i = 10 then
    if f.vc = 0 then State.cutHost 16 (s.setStream 10 0 ((s.port 10).streamOf 0 ++ f.payload.take f.plen))
    else s.sat Reg.ABT_ERR_BAD 1
  else State.cutFrames 16 (s.setStream i f.vc ((s.port i).streamOf f.vc ++ f.payload.take f.plen)) i f.vc

end Sys2Proof.Machine
end

