-- ==== Sys2Proof/Machine/ServoLaw.lean ====
section
/-! DEFINITION. Machine/ServoLaw.lean: the arithmetic and the control law of the mirror servo engine (R333 to R338), the mode
handover (R371 to R373) and the profile generator (R358). Everything here reads an engine's registers as they stood when
the evaluation began and answers a result; Servo.lean stores it.
The choices of the model here: log 43. -/

namespace Sys2Proof.Machine

/-! ### Fixed-point arithmetic (R333) -/

/-- Saturate to 32 bits: the value, and 1 when it was changed. -/
def sat32 (v : Int) : Int × Nat :=
  if v < -2147483648 then (-2147483648, 1) else if 2147483647 < v then (2147483647, 1) else (v, 0)

/-- RND (R333): a division by 2^s, ties toward +∞. -/
def rnd (p : Int) (s : Nat) : Int := if s = 0 then p else (p + 2 ^ (s - 1)) / 2 ^ s

/-- A coefficient: COEF and SHIFT (R333). -/
structure Coef where
  coef : Int
  shift : Nat
  deriving DecidableEq, Repr

/-- A sum of products in the listed order: terms rounded, a 64-bit accumulator that saturates, one saturation to 32 bits. -/
def coefSum (l : List (Coef × Int)) : Int × Nat :=
  sat32 (l.foldl (fun acc t => clampInt (-9223372036854775808) 9223372036854775807 (acc + rnd (t.1.coef * t.2) t.1.shift)) 0)

/-- A coefficient register. -/
def State.coefAt (s : State) (a : Nat) : Coef := { coef := signed 32 (s.get ⟨a, 0, 32⟩), shift := s.get ⟨a, 32, 5⟩ }

/-! ### The working state of a mirror -/

/-- What an evaluation of a mirror works on: x̂, the notch histories (biquad 2a + n), the applied outputs, the repetitive
phase and the buffer words written, and the saturations so far. -/
structure Work where
  x : List Int
  nx : List (Int × Int)
  nw : List (Int × Int)
  u : List Int
  phase : Nat
  rcw : List (Nat × Nat × Int)
  sats : Nat
  deriving DecidableEq, Repr

/-- The working state that the registers of mirror `m` hold (R344). -/
def State.work (s : State) (v m : Nat) : Work :=
  { x := (List.range 4).flatMap fun k => [signed 32 (s.get (Reg.SRV_STATE_X_LO v m k)), signed 32 (s.get (Reg.SRV_STATE_X_HI v m k))],
    nx := (List.range 4).map fun k => (signed 32 (s.get (Reg.SRV_STATE_NX_X1 v m k)), signed 32 (s.get (Reg.SRV_STATE_NX_X2 v m k))),
    nw := (List.range 4).map fun k => (signed 32 (s.get (Reg.SRV_STATE_NW_W1 v m k)), signed 32 (s.get (Reg.SRV_STATE_NW_W2 v m k))),
    u := [signed 32 (s.get (Reg.SRV_STATE_U_U0 v m)), signed 32 (s.get (Reg.SRV_STATE_U_U1 v m))],
    phase := s.get (Reg.SRV_STATE_PH_PHASE v m), rcw := [], sats := 0 }

/-- Every state, notch state and the repetitive phase 0 (R340). -/
def Work.zero : Work :=
  { x := List.replicate 8 0, nx := List.replicate 4 (0, 0), nw := List.replicate 4 (0, 0), u := [0, 0], phase := 0, rcw := [], sats := 0 }

def Work.xAt (w : Work) (i : Nat) : Int := w.x.getD i 0
def Work.uAt (w : Work) (a : Nat) : Int := w.u.getD a 0

/-- Count saturations. -/
def Work.more (w : Work) (n : Nat) : Work := { w with sats := w.sats + n }

/-- What the law is given for a sample: the measured angles, none for a missed sample, and the set-points for this tick
and the next. -/
structure Sample where
  y : Option (Int × Int)
  r : Int × Int
  rn : Int × Int
  deriving DecidableEq, Repr

/-- One of a pair. -/
def axisOf {α : Type} (p : α × α) (a : Nat) : α := if a = 0 then p.1 else p.2

/-- Innovation of an axis (R334); 0 for a missed sample (R331). -/
def Sample.nu (z : Sample) (w : Work) (a : Nat) : Int × Nat :=
  match z.y with
  | some y => sat32 (axisOf y a - w.xAt (4 * a))
  | none => (0, 0)

/-- Tracking error of an axis (R334); 0 for a missed sample. -/
def Sample.err (z : Sample) (a : Nat) : Int × Nat :=
  match z.y with
  | some y => sat32 (axisOf z.r a - axisOf y a)
  | none => (0, 0)

/-! ### The law -/

/-- The prediction for the next tick (R334), with the given tracking errors. -/
def State.predict (s : State) (v b m : Nat) (w : Work) (nu e : Int × Int) : Work :=
  let row (i : Nat) : Int × Nat :=
    coefSum (((List.range 8).map fun j => (s.coefAt (Reg.SRV_COEF_A v b m (8 * i + j)), w.xAt j))
      ++ ((List.range 2).map fun c => (s.coefAt (Reg.SRV_COEF_B v b m (2 * i + c)), w.uAt c))
      ++ ((List.range 2).map fun c =>
        (s.coefAt (Reg.SRV_COEF_L v b m (2 * i + c)), if i = 2 ∨ i = 6 then axisOf e c else axisOf nu c)))
  let l := (List.range 8).map row
  { w with x := l.map (·.1), sats := w.sats + (l.map (·.2)).foldl (· + ·) 0 }

/-- The state feedback of an axis (R334): Σ K[a][j] × sat32(R[j] − x̂[j]). -/
def State.feedback (s : State) (v b m : Nat) (w : Work) (rn : Int × Int) (a : Nat) : Int × Nat :=
  let d := (List.range 8).map fun j => sat32 ((if j = 0 then rn.1 else if j = 4 then rn.2 else 0) - w.xAt j)
  let r := coefSum ((List.range 8).map fun j => (s.coefAt (Reg.SRV_COEF_K v b m (8 * a + j)), (d.getD j (0, 0)).1))
  (r.1, r.2 + (d.map (·.2)).foldl (· + ·) 0)

/-- NPER and RCLEAD as they act (R344). -/
def State.nper (s : State) (v b m : Nat) : Nat := clampNat 1 1024 (s.get (Reg.SRV_COEF_PARAM_NPER v b m))
def State.rclead (s : State) (v b m : Nat) : Nat := min (s.get (Reg.SRV_COEF_PARAM_RCLEAD v b m)) (s.nper v b m - 1)

/-- A repetitive-buffer word, with the words written in this evaluation in force. -/
def State.rcWord (s : State) (v m a n : Nat) (w : Work) : Int :=
  match w.rcw.find? fun e => e.1 == a && e.2.1 == n with
  | some e => e.2.2
  | none =>
    let q := 2 * m + a
    signed 32 (s.get (if n % 2 = 0 then Reg.SRV_RC_LO v q (n / 2) else Reg.SRV_RC_HI v q (n / 2)))

/-- The repetitive controller of an axis (R336), at the present phase; the phase moves when both axes have run. -/
def State.repetitive (s : State) (v b m a : Nat) (w : Work) (e : Int) : Int × Work :=
  let np := s.nper v b m
  let n := w.phase % np
  let x := coefSum [(s.coefAt (Reg.SRV_COEF_QRC v b m a), s.rcWord v m a n w), (s.coefAt (Reg.SRV_COEF_KRC v b m a), e)]
  let w := { w with rcw := (a, n, x.1) :: w.rcw, sats := w.sats + x.2 }
  (s.rcWord v m a ((n + 1 + s.rclead v b m) % np) w, w)

/-- A notch biquad of axis `a` in direct form I (R335). -/
def State.notch (s : State) (v b m a n : Nat) (w : Work) (x : Int) : Int × Work :=
  let k := 2 * a + n
  if !(s.get (Reg.SRV_COEF_PARAM_NOTCHEN v b m)).testBit k then
    (x, { w with nx := w.nx.set k (0, 0), nw := w.nw.set k (0, 0) })
  else
    let c (t : Nat) : Coef := s.coefAt (Reg.SRV_COEF_NOTCH v b m (10 * a + 5 * n + t))
    let hx := w.nx.getD k (0, 0)
    let hw := w.nw.getD k (0, 0)
    let r := coefSum [(c 0, x), (c 1, hx.1), (c 2, hx.2), (c 3, hw.1), (c 4, hw.2)]
    (r.1, { w with nx := w.nx.set k (x, hx.1), nw := w.nw.set k (r.1, hw.1), sats := w.sats + r.2 })

/-- Both notches of an axis. -/
def State.notches (s : State) (v b m a : Nat) (w : Work) (x : Int) : Int × Work :=
  let r := s.notch v b m a 0 w x
  s.notch v b m a 1 r.2 r.1

/-- A notch with its histories set to its input first (R371). -/
def State.settledNotch (s : State) (v b m a n : Nat) (w : Work) (x : Int) : Int × Work :=
  let k := 2 * a + n
  s.notch v b m a n { w with nx := w.nx.set k (x, x), nw := w.nw.set k (x, x) } x

/-- The innovations and tracking errors of a sample, and the prediction for the next tick (R334). -/
def State.lawPredict (s : State) (v b m : Nat) (w : Work) (z : Sample) : Work × (Int × Int) :=
  let n0 := z.nu w 0
  let n1 := z.nu w 1
  let e0 := z.err 0
  let e1 := z.err 1
  ((s.predict v b m w (n0.1, n1.1) (e0.1, e1.1)).more (n0.2 + n1.2 + e0.2 + e1.2), (e0.1, e1.1))

/-- v of an axis with what the repetitive controller adds (R334), and that addition. -/
def State.lawAxis (s : State) (v b m : Nat) (sc40 : Bool) (w : Work) (rn e : Int × Int) (a : Nat) : Work × Int × Int :=
  let f := s.feedback v b m w rn a
  let w := w.more f.2
  if sc40 then
    let p := s.repetitive v b m a w (axisOf e a)
    let x := sat32 (f.1 + p.1)
    (p.2.more x.2, x.1, p.1)
  else (w, f.1, 0)

/-- The repetitive phase moves on when both axes have run (R336). -/
def State.phaseOn (s : State) (v b m : Nat) (sc40 : Bool) (w : Work) : Work :=
  if sc40 then { w with phase := (w.phase % s.nper v b m + 1) % s.nper v b m } else w

/-- R334 up to and including the SC40 line, for both axes (R371): v[0] and v[1], and what the repetitive controller adds. -/
def State.lawFront (s : State) (v b m : Nat) (sc40 : Bool) (w : Work) (z : Sample) : Work × (Int × Int) × (Int × Int) :=
  let q := s.lawPredict v b m w z
  let f0 := s.lawAxis v b m sc40 q.1 z.rn q.2 0
  let f1 := s.lawAxis v b m sc40 f0.1 z.rn q.2 1
  (s.phaseOn v b m sc40 f1.1, (f0.2.1, f1.2.1), (f0.2.2, f1.2.2))

/-! ### Output stage (R337) -/

/-- DMIN, DMAX and SLEW of an axis; a SLEW of 0 acts as 1. -/
def State.axisLim (s : State) (v m a : Nat) : Nat × Nat × Nat :=
  if a = 0 then (s.get (Reg.SRV_MIR_LIM0_DMIN v m), s.get (Reg.SRV_MIR_LIM0_DMAX v m), max 1 (s.get (Reg.SRV_MIR_LIM0_SLEW v m)))
  else (s.get (Reg.SRV_MIR_LIM1_DMIN v m), s.get (Reg.SRV_MIR_LIM1_DMAX v m), max 1 (s.get (Reg.SRV_MIR_LIM1_SLEW v m)))

/-- Step 1: the code of an output. -/
def codeOf (u : Int) : Int := rnd u 12 + 524288

/-- The output that a code applies (step 5). -/
def outputOf (c : Int) : Int := (c - 524288) * 4096

/-- Hold a code to the range. -/
def inRange (l : Nat × Nat × Nat) (c : Int) : Int := min (max c l.1) l.2.1

/-- Steps 2 to 4 from a code: the code sent, and how often the range and the slew limit changed it. `ramp` replaces the code
of step 2 during a ramp (R372). -/
def outStage (l : Nat × Nat × Nat) (p c : Int) (ramp : Int → Int) : Int × Nat × Nat :=
  let c1 := inRange l c
  let c2 := ramp c1
  let c3 := p + min (max (c2 - p) (-(l.2.2 : Int))) l.2.2
  let c4 := inRange l c3
  (c4, bit (c1 != c) + bit (c4 != c3), bit (c3 != c2))

/-! ### One mirror's evaluation -/

/-- What an evaluation of a mirror leaves. -/
structure MirEval where
  work : Work
  mode : Nat
  move : Option ModeMove
  codes : Int × Int
  /-- range and slew actions per axis -/
  ranges : Nat × Nat
  slews : Nat × Nat
  /-- the angles at which the profile starts, when the mode was entered from PARK or HOLD (R358) -/
  start : Option (Int × Int)
  /-- axes that made a switch forced (R372) -/
  forced : Option Nat
  deriving DecidableEq, Repr

/-- Both axes of the output stage from two codes. -/
def State.outBoth (s : State) (v m : Nat) (p c : Int × Int) (ramp : Nat → Int → Int) : (Int × Nat × Nat) × (Int × Nat × Nat) :=
  (outStage (s.axisLim v m 0) p.1 c.1 (ramp 0), outStage (s.axisLim v m 1) p.2 c.2 (ramp 1))

/-- The result of a mirror from its working state and output stages. -/
def evalOf (w : Work) (mode : Nat) (move : Option ModeMove) (o : (Int × Nat × Nat) × (Int × Nat × Nat)) : MirEval :=
  { work := { w with u := [outputOf o.1.1, outputOf o.2.1] }, mode, move, codes := (o.1.1, o.2.1), ranges := (o.1.2.1, o.2.2.1),
    slews := (o.1.2.2, o.2.2.2), start := none, forced := none }

/-- PARK (R340): the output stage runs on the codes in force (R337). -/
def State.evalPark (s : State) (v m : Nat) (move : Option ModeMove) (p : Int × Int) : MirEval :=
  evalOf Work.zero 0 move (s.outBoth v m p p fun _ c => c)

/-- HOLD (R337, R340). -/
def State.evalHold (s : State) (v b m : Nat) (w : Work) (z : Sample) (move : Option ModeMove) (p : Int × Int) : MirEval :=
  let n0 := z.nu w 0
  let n1 := z.nu w 1
  let w := (s.predict v b m w (n0.1, n1.1) (0, 0)).more (n0.2 + n1.2)
  evalOf w 1 move (s.outBoth v m p p fun _ c => c)

/-- NATIVE or SC40 (R334), with a ramp where one runs (R372). -/
def State.evalRun (s : State) (v b m mode : Nat) (w : Work) (z : Sample) (move : Option ModeMove) (p : Int × Int) : MirEval :=
  let ramp (a : Nat) (c : Int) : Int :=
    match move with
    | some q => if 9 ≤ q.attempts then
        let p0 : Int := if a = 0 then q.base0 else q.base1
        p0 + ((c - p0) * (q.attempts - 8 : Nat)).tdiv 40 else c
    | none => c
  let q := s.lawPredict v b m w z
  -- an axis: v, the notches, the output stage and the back-calculation
  let axis (w : Work) (a : Nat) : Work × (Int × Nat × Nat) :=
    let f := s.lawAxis v b m (mode == 3) w z.rn q.2 a
    let u := s.notches v b m a f.1 f.2.1
    let o := outStage (s.axisLim v m a) (axisOf p a) (codeOf u.1) (ramp a)
    let d := sat32 (outputOf o.1 - u.1)
    let k := s.coefAt (Reg.SRV_COEF_KB v b m a)
    let r := sat32 (u.2.xAt (4 * a + 2) + rnd (k.coef * d.1) k.shift)
    ({ u.2 with x := u.2.x.set (4 * a + 2) r.1, sats := u.2.sats + d.2 + r.2 }, o)
  let x0 := axis q.1 0
  let x1 := axis x0.1 1
  let w := s.phaseOn v b m (mode == 3) x1.1
  let next : Option ModeMove :=
    match move with
    | some q => if 9 ≤ q.attempts ∧ q.attempts < 48 then some { q with attempts := q.attempts + 1 }
      else if 48 ≤ q.attempts then none else some q
    | none => none
  evalOf w mode next (x0.2, x1.2)

/-- An attempt to enter NATIVE or SC40 (R371): its states and codes before step 3, and the axes on which it fails. -/
def State.attempt (s : State) (v b m target : Nat) (w : Work) (z : Sample) (p : Int × Int) : Work × (Int × Int) × Nat :=
  let f := s.lawFront v b m (target == 3) w z
  let shift (w' : Work) (a : Nat) (va : Int) : Work :=
    let k := s.coefAt (Reg.SRV_COEF_K v b m (8 * a + 4 * a + 2))
    if k.coef = 0 then w'
    else
      let r := sat32 (w'.xAt (4 * a + 2) + ((va - w.uAt a) * 2 ^ k.shift).tdiv k.coef)
      { w' with x := w'.x.set (4 * a + 2) r.1, sats := w'.sats + r.2 }
  let w1 := shift (shift f.1 0 f.2.1.1) 1 f.2.1.2
  let g0 := s.feedback v b m w1 z.rn 0
  let g1 := s.feedback v b m w1 z.rn 1
  let v0 := if target = 3 then sat32 (g0.1 + f.2.2.1) else (g0.1, 0)
  let v1 := if target = 3 then sat32 (g1.1 + f.2.2.2) else (g1.1, 0)
  let w1 := w1.more (g0.2 + g1.2 + v0.2 + v1.2)
  let a0 := s.settledNotch v b m 0 0 w1 v0.1
  let u0 := s.settledNotch v b m 0 1 a0.2 a0.1
  let a1 := s.settledNotch v b m 1 0 u0.2 v1.1
  let u1 := s.settledNotch v b m 1 1 a1.2 a1.1
  let c := (codeOf u0.1, codeOf u1.1)
  let fails (a : Nat) : Bool :=
    let l := s.axisLim v m a
    decide (((l.2.1 : Int) - l.1) / 50 < ((inRange l (axisOf c a) - axisOf p a).natAbs : Int))
  (u1.2, c, bit (fails 0) + 2 * bit (fails 1))

/-- The evaluation of a driven mirror in its mode in force, with the move that waits (R340, R371 to R373). `p` are the codes
last sent, or those the chassis reports while the mirror is parked (R337); `lost` drops it to HOLD (R331). -/
def State.evalMirror (s : State) (v b m mode : Nat) (move : Option ModeMove) (w : Work) (z : Sample) (ang : Int × Int) (p : Int × Int)
    (lost : Bool) : MirEval :=
  let old (mv : Option ModeMove) : MirEval :=
    if mode = 0 then s.evalPark v m mv p
    else if mode = 1 then s.evalHold v b m w z mv p
    else s.evalRun v b m mode w z mv p
  if lost then s.evalHold v b m w z none p
  else
    match move with
    | none => old none
    | some q =>
      if q.target = 0 then s.evalPark v m none p
      else if q.target = 1 then
        s.evalHold v b m (if mode = 0 then { w with u := [outputOf p.1, outputOf p.2] } else w) z none p
      else if q.target = mode then old (if 9 ≤ q.attempts then some q else none)
      else
        -- entering from PARK or HOLD, the profile starts at the measured angles
        let idle : Bool := mode < 2
        let z' : Sample := if idle then { z with r := ang, rn := ang } else z
        let w0 : Work := if mode = 0 then { w with u := [outputOf p.1, outputOf p.2] } else w
        let w0 : Work := if q.target = 3 then { w0 with phase := 0 } else w0
        let t := s.attempt v b m q.target w0 z' p
        let start : Option (Int × Int) := if idle then some ang else none
        if t.2.2 = 0 then
          { evalOf t.1 q.target none (s.outBoth v m p t.2.1 fun _ c => c) with start }
        else if q.attempts < 8 then old (some { q with attempts := q.attempts + 1 })
        else
          let ramp (a : Nat) (c : Int) : Int := axisOf p a + (c - axisOf p a).tdiv 40
          let q' : ModeMove := { target := q.target, attempts := 10, base0 := p.1.toNat, base1 := p.2.toNat }
          { evalOf t.1 q.target (some q') (s.outBoth v m p t.2.1 ramp) with start, forced := some t.2.2 }

/-! ### Profile generator (R358) -/

/-- A profile value as it is held, on 32 bits. What the generator holds when limits above 2³¹ − 1 carry a rate or its change
beyond them is not stated (log 1). -/
def held32 (x : Int) : Int := if (sat32 x).2 = 0 then x else signed 32 (Config.profileOver x)

/-- Sign of an integer. -/
def sgn (x : Int) : Int := if x < 0 then -1 else if 0 < x then 1 else 0

/-- One run of the generator with VMAX, AMAX and JMAX. -/
def Profile.step (x : Profile) (vm am jm : Nat) : Profile :=
  let d := x.p - x.r
  if d = 0 ∧ x.v = 0 ∧ x.a = 0 then x
  else
    let sg := if d ≠ 0 then sgn d else sgn x.v
    let stop := (x.v * x.v).tdiv (2 * am) + (x.v.natAbs * am : Int).tdiv (2 * jm)
    let at' : Int :=
      if 0 < sg * x.v ∧ (d.natAbs : Int) ≤ stop then -(sg * am)
      else if sg * x.v < 0 then sg * am
      else if (x.v.natAbs : Int) < vm then sg * am
      else 0
    let a := x.a + clampInt (-(jm : Int)) jm (at' - x.a)
    let v := clampInt (-(vm : Int)) vm (x.v + a)
    if sgn (x.p - (x.r + v)) ≠ sg ∧ (v.natAbs : Int) ≤ am then { x with r := x.p, v := 0, a := 0 }
    else { x with r := (sat32 (x.r + v)).1, v := held32 v, a := held32 a }

/-- At rest on target. -/
def Profile.atRest (x : Profile) : Bool := x.p == x.r && x.v == 0 && x.a == 0

end Sys2Proof.Machine
end

