-- ==== Sys2Proof/Machine/Circuits.lean ====
section
/-! DEFINITION. Machine/Circuits.lean: trunk circuits (R349 to R370): the descriptor, arming and status, the sequence, the
spiral, the dither slots and the outer loop, and the circuit commands.
The choices of the model here: log 44. -/

namespace Sys2Proof.Machine

/-! ### Servo engines and circuits in the state -/

def State.servo (s : State) (v : Nat) : SrvState := smapGet (fun _ => SrvState.reset) s.srv v

def State.updServo (s : State) (v : Nat) (f : SrvState → SrvState) : State :=
  { s with srv := smapSet (fun _ => SrvState.reset) s.srv v (f (s.servo v)) }

def State.mirror (s : State) (v m : Nat) : Mirror := smapGet (fun _ => Mirror.reset) (s.servo v).mirrors m

def State.updMirror (s : State) (v m : Nat) (f : Mirror → Mirror) : State :=
  s.updServo v fun x => { x with mirrors := smapSet (fun _ => Mirror.reset) x.mirrors m (f (s.mirror v m)) }

def State.circuit (s : State) (p : Nat) : Option Circuit := (s.circ.find? (·.1 == p)).map (·.2)

def State.setCirc (s : State) (p : Nat) (c : Circuit) : State := { s with circ := alSet s.circ p c }

/-- A circuit is in a phase from Armed to Relock: steps before and up to 6 of R365. -/
def Circuit.running (c : Circuit) : Bool := decide (1 ≤ c.phase ∧ c.phase ≤ 7)

/-- The circuit is in steps 1 to 6 of R365. -/
def Circuit.moving (c : Circuit) : Bool := decide (2 ≤ c.phase ∧ c.phase ≤ 7)

def Circuit.lane (c : Circuit) (i : Nat) : CircLane :=
  c.lanes.getD i { lt0 := 0, lt1 := 0, ht0 := 0, ht1 := 0, used := false, point := 0, dwell := 0, g := [], n := 0, pow := 0, conv := 0,
                   lastPow := none, los := false }

def Circuit.usedLanes (c : Circuit) : List Nat := (List.range 16).filter fun i => (c.lane i).used

/-- The mirrors that a circuit of port `p` steers (R349). -/
def Circuit.usedMirrors (c : Circuit) (p : Nat) : List Nat :=
  match c.kind with
  | 0 => c.usedLanes.map fun i => 16 * (p - 6) + i
  | 1 => (c.usedLanes.map fun i => 16 * (p - 6) + i) ++ c.usedLanes.map fun i => 16 * (p - 6) + i + 64
  | _ => []

/-- Every mirror of a trunk port (R349). -/
def portMirrors (p : Nat) : List Nat :=
  ((List.range 16).map fun i => 16 * (p - 6) + i) ++ (List.range 16).map fun i => 16 * (p - 6) + i + 64

/-- The circuit status word (R355). -/
def Circuit.word (c : Circuit) : Nat :=
  c.phase + c.result * 2 ^ 4 + bit c.late * 2 ^ 12 + c.acq % 2 ^ 16 * 2 ^ 16 + c.lit % 2 ^ 16 * 2 ^ 32

/-- A circuit enters a phase. -/
def Circuit.enter (c : Circuit) (ph ft : Nat) : Circuit := { c with phase := ph, phaseFt := ft, leaving := false }

/-! ### Targets and modes of mirrors -/

/-- Set the profile targets of a mirror. -/
def State.aim (s : State) (v m : Nat) (p0 p1 : Int) : State :=
  s.updMirror v m fun x => { x with prof0 := { x.prof0 with p := p0 }, prof1 := { x.prof1 with p := p1 } }

/-- Send the mirrors of a lane to its lane targets (R365, R369). -/
def State.aimLane (s : State) (v p : Nat) (c : Circuit) (i : Nat) : State :=
  let l := c.lane i
  let s := s.aim v (16 * (p - 6) + i) l.lt0 l.lt1
  if c.kind = 1 then s.aim v (16 * (p - 6) + i + 64) l.ht0 l.ht1 else s

/-- A mode for a mirror: taken to the next evaluation by the mode handover (R341, R371). In M3 the mirror stays held, and takes its
MODE when the module leaves M3 (R508). -/
def State.wantMode (s : State) (v m mode : Nat) : State :=
  if s.get Reg.PWR_STATUS_STATE = 3 then s.set (Reg.SRV_MIR_CTL_MODE v m) mode
  else (s.set (Reg.SRV_MIR_CTL_MODE v m) mode).updMirror v m fun x =>
    { x with move := some { target := mode, attempts := 0, base0 := 0, base1 := 0 }, written := true, dropped := false }

/-- Set a mirror to PARK unless its mode is already that (R349); an undriven mirror has no other. -/
def State.park (s : State) (v m : Nat) : State := if s.flag (Reg.SRV_MIR_CFG_EN v m) then s.wantMode v m 0 else s

/-- Set a used mirror in PARK or HOLD to NATIVE (R365). -/
def State.driveMirror (s : State) (v m : Nat) : State := if s.get (Reg.SRV_MIR_STATUS_MODE v m) < 2 then s.wantMode v m 2 else s

/-! ### The end of a circuit -/

/-- A circuit ends (R356, R369): the status word, the event, and after a failure the used mirrors' targets. Before the slew a
circuit steers no mirror, and a handover leaves the mirrors to the takeover. -/
def State.circEnd (s : State) (p result : Nat) : State :=
  match s.circuit p with
  | none => s
  | some c =>
    let done : Bool := result == 1 || result == 2 || result == 0x0d
    let s :=
      match s.holder with
      | some v => if !done && decide (3 ≤ c.phase) && result != 0x0b then s.forEach c.usedLanes fun s i => s.aimLane v p c i else s
      | none => s
    let c' : Circuit := { c.enter (if done then 8 else 9) s.ft with result, endFt := s.ft }
    (s.setCirc p c').occur (if done then 0x0b01 else 0x0b02) p (leBytes 8 c'.word)

/-- End the circuit of a port with a failure while it runs. -/
def State.circFail (s : State) (p result : Nat) : State :=
  match s.circuit p with
  | some c => if c.running then s.circEnd p result else s
  | none => s

/-- The port of a circuit in its relock phase is ACTIVE: the record is saved and the circuit is done (R365). -/
def State.circDone (s : State) (p : Nat) : State :=
  match s.circuit p with
  | some c =>
    if c.phase = 7 ∧ s.linkState p = 6 then
      (s.eqSave p).circEnd p (if s.get (Reg.LNK_STATUS_WIDTH p) = 16 then 1 else 2)
    else s
  | none => s

/-- The circuits whose used mirrors include mirror `m`: the port that the mirror belongs to. -/
def mirrorPort (m : Nat) : Nat := 6 + m % 64 / 16

/-- A used mirror of a circuit: fail the circuit when `when'` holds of it. -/
def State.circMirror (s : State) (m result lo hi : Nat) : State :=
  let p := mirrorPort m
  match s.circuit p with
  | some c => if lo ≤ c.phase ∧ c.phase ≤ hi ∧ (c.usedMirrors p).contains m then s.circEnd p result else s
  | none => s

/-! ### Dither slots, spiral and the outer loop -/

/-- Tick `q` lies in an own slot of the circuit (R359). -/
def State.ownTick (s : State) (c : Circuit) (q : Nat) : Bool := (q / 16 % 2 == 0) == decide (s.ownMod < c.peermod)

/-- σ of a dithered axis at a tick (R361): axes 0 and 1 local-side, 2 and 3 hall-side. -/
def sigma (kind x q : Nat) : Int :=
  let l4 : List (List Int) := [[1, 1, -1, -1], [1, -1, 1, -1]]
  let l8 : List (List Int) := [[1, 1, 1, 1, -1, -1, -1, -1], [1, 1, -1, -1, 1, 1, -1, -1], [1, -1, 1, -1, 1, -1, 1, -1],
    [1, -1, -1, 1, 1, -1, -1, 1]]
  if kind = 1 then (l8.getD x []).getD (q % 8) 0 else (l4.getD x []).getD (q % 4) 0

/-- Dithered axes of a lane. -/
def Circuit.axes (c : Circuit) : Nat := if c.kind = 1 then 4 else 2

/-- DIV (R360). -/
def Circuit.div (c : Circuit) : Nat := 2 ^ (if c.kind = 1 ∧ c.divlog = 2 then 3 else c.divlog)

/-- A lane dithers and takes part in the outer loop: acquired in the peak phase (R365), lit and tracking afterwards (R368). -/
def Circuit.tracks (c : Circuit) (i : Nat) : Bool :=
  let l := c.lane i
  l.used && ((c.phase == 6 && c.acq.testBit i)
    || (c.phase == 8 && (c.result == 1 || c.result == 2) && c.track && c.lit.testBit i && !l.los))

/-- The dither of axis `a` of mirror `m` at tick `q` (R361). -/
def State.dither (s : State) (m a q : Nat) : Int :=
  match s.circuit (mirrorPort m) with
  | some c =>
    if s.get Reg.PWR_STATUS_STATE ≠ 3 ∧ c.tracks (m % 16) ∧ (m < 64 ∨ c.kind = 1) ∧ s.ownTick c q then sigma c.kind (a + 2 * (m / 64)) q * c.damp else 0
  | none => 0

/-- Offset of a spiral point (R364). -/
def spiralOffset (n : Nat) : Int × Int :=
  if n = 0 then (0, 0)
  else
    -- ring r begins at point 1 + 4r(r − 1)
    let r := ((List.range 16).filter fun r => decide (0 < r ∧ 1 + 4 * r * (r - 1) ≤ n)).length
    let o := n - (1 + 4 * r * (r - 1))
    let q : Int := (o % (2 * r) : Nat)
    let r' : Int := r
    match o / (2 * r) with
    | 0 => (r', -r' + 1 + q)
    | 1 => (r' - 1 - q, r')
    | 2 => (-r', r' - 1 - q)
    | _ => (-r' + 1 + q, -r')

/-- Points of the spiral. -/
def spiralPoints (c : Circuit) : Nat := 1 + 4 * c.spring * (c.spring + 1)

/-- The local-side target of a lane at its spiral point. -/
def spiralTarget (c : Circuit) (l : CircLane) (n : Nat) : Int × Int :=
  let o := spiralOffset n
  ((sat32 (l.lt0 + o.1 * c.spstep)).1, (sat32 (l.lt1 + o.2 * c.spstep)).1)

/-- Change a lane of a circuit. -/
def Circuit.updLane (c : Circuit) (i : Nat) (f : CircLane → CircLane) : Circuit := { c with lanes := c.lanes.modify i f }

/-- Spiral moves for an own tick (R364). -/
def State.spiralMove (s : State) (v p : Nat) : State :=
  match s.circuit p with
  | none => s
  | some c =>
    s.forEach (c.usedLanes.filter fun i => !c.acq.testBit i) fun s i =>
      match s.circuit p with
      | none => s
      | some c =>
        let l := c.lane i
        let n := if l.dwell < c.spdwell then l.point else (l.point + 1) % spiralPoints c
        let d := if l.dwell < c.spdwell then l.dwell + 1 else 1
        let t := spiralTarget c l n
        (s.setCirc p (c.updLane i fun l => { l with point := n, dwell := d })).aim v (16 * (p - 6) + i) t.1 t.2

/-- The peak phase's exit condition (R365): every acquired lane converged at two successive updates, and at least 8 lit. -/
def Circuit.litLanes (c : Circuit) : Nat :=
  (c.usedLanes.filter fun i => c.acq.testBit i && ((c.lane i).lastPow.any fun w => decide (c.rxmin ≤ w))).foldl (fun a i => a + 2 ^ i) 0

def Circuit.peakExit (c : Circuit) : Circuit :=
  if c.phase = 6 ∧ !c.leaving ∧ (c.usedLanes.all fun i => !c.acq.testBit i || decide (2 ≤ (c.lane i).conv)) ∧ 8 ≤ popCount 16 c.litLanes then
    { c with lit := c.litLanes, leaving := true }
  else c

/-- The outer-loop update of a lane (R363). -/
def State.outerLane (s : State) (v p i : Nat) : State :=
  match s.circuit p with
  | none => s
  | some c =>
    let l := c.lane i
    if l.n = 0 ∨ !c.tracks i then s
    else
      let grad (x : Nat) : Int := (l.g.getD x 0).tdiv l.n
      let dx (x : Nat) : Int := clampInt (-(c.stepmax : Int)) c.stepmax (rnd (c.gain * grad x) 8)
      let conv : Bool := (List.range c.axes).all fun x => decide ((grad x).natAbs ≤ c.pktol)
      let c := c.updLane i fun l =>
        { l with g := List.replicate c.axes 0, n := 0, pow := 0, conv := if conv then l.conv + 1 else 0, lastPow := some (l.pow / l.n) }
      let move (s : State) (m x : Nat) : State :=
        let y := s.mirror v m
        s.aim v m (sat32 (y.prof0.p + dx x)).1 (sat32 (y.prof1.p + dx (x + 1))).1
      let s := move (s.setCirc p c) (16 * (p - 6) + i) 0
      if c.kind = 1 then move s (16 * (p - 6) + i + 64) 2 else s

/-- What a circuit does to its targets in the profile step for tick `q` (R360 to R364). -/
def State.circTargets (s : State) (v p q : Nat) : State :=
  match s.circuit p with
  | none => s
  | some c =>
    let s := if c.phase = 5 ∧ !c.leaving ∧ s.ownTick c q then s.spiralMove v p else s
    if c.dlag + 1 + c.div ≤ q ∧ (q - c.dlag - 1) % c.div = 0 ∧ (c.phase = 6 ∨ c.phase = 8) then
      let s := (List.range 16).foldl (fun s i => s.outerLane v p i) s
      match s.circuit p with
      | some c => s.setCirc p c.peakExit
      | none => s
    else s

/-- A good light word of a trunk lane in the alignment loop (R362, R364, R368), stamped at `t`. -/
def State.circLight (s : State) (p lane : Nat) (w : LightWord) (t : Nat) : State :=
  match s.circuit p, s.holder with
  | some c, some v =>
    let los : Bool := w.flags.testBit 0
    let c := c.updLane lane fun l => { l with los }
    let c :=
      if c.phase = 5 ∧ (c.lane lane).used ∧ c.acqpwr ≤ signed 16 w.rxpwr ∧ !los ∧ !c.acq.testBit lane then
        let c := { c with acq := c.acq + 2 ^ lane }
        if c.usedLanes.all c.acq.testBit then { c with leaving := true } else c
      else c
    let k := (s.servo v).tick.getD 0
    let q := t / 25000 - c.dlag
    let c :=
      if s.get Reg.PWR_STATUS_STATE ≠ 3 ∧ c.tracks lane ∧ c.dlag ≤ t / 25000 ∧ c.dlag ≤ k ∧ q / c.div = (k - c.dlag) / c.div ∧ s.ownTick c q then
        let rx : Int := if w.rxpwr = 0x8000 ∨ los then -5000 else signed 16 w.rxpwr
        c.updLane lane fun l =>
          { l with g := (List.range c.axes).map fun x => l.g.getD x 0 + sigma c.kind x q * rx, n := l.n + 1, pow := l.pow + rx }
      else c
    s.setCirc p c
  | _, _ => s

/-! ### The sequence -/

/-- Every used mirror is at rest on target: the slew is complete (R365). -/
def State.slewDone (s : State) (v p : Nat) (c : Circuit) : Bool :=
  (c.usedMirrors p).all fun m =>
    decide (2 ≤ s.get (Reg.SRV_MIR_STATUS_MODE v m)) && (s.mirror v m).prof0.atRest && (s.mirror v m).prof1.atRest

/-- The phase after one whose exit condition has held begins, at a servo tick (R365). -/
def State.circNext (s : State) (v p : Nat) : State :=
  match s.circuit p with
  | none => s
  | some c =>
    if !c.leaving then s
    else
      match c.phase with
      | 2 =>
        let s := s.setCirc p (c.enter 3 s.ft)
        if c.kind = 2 then s.forEach (portMirrors p) fun s m => s.park v m
        else
          let s := s.set (Reg.LNK_EQSAVE_ADDR p) c.eqaddr
          let used := c.usedMirrors p
          let s := s.forEach used fun s m => s.driveMirror v m
          let s := s.forEach ((portMirrors p).filter fun m => !used.contains m) fun s m => s.park v m
          s.forEach c.usedLanes fun s i => s.aimLane v p c i
      | 3 => s.setCirc p { c.enter 4 s.ft with settled := 0 }
      | 4 =>
        let lanes := c.lanes.map fun l => { l with point := 0, dwell := 0 }
        s.setCirc p { c.enter 5 s.ft with acq := 0, lanes := lanes }
      | 5 =>
        let lanes := c.lanes.map fun l => { l with g := List.replicate c.axes 0, n := 0, pow := 0, conv := 0, lastPow := none }
        s.setCirc p { c.enter 6 s.ft with lanes := lanes }
      | 6 => (s.setCirc p (c.enter 7 s.ft)).circDone p
      | _ => s

/-- The slew's exit, after the profiles of a tick have run. -/
def State.circSlew (s : State) (v p : Nat) : State :=
  match s.circuit p with
  | some c => if c.phase = 3 ∧ c.kind ≠ 2 ∧ s.slewDone v p c then s.setCirc p { c with leaving := true } else s
  | none => s

/-- The settle phase at an evaluated sample (R365): `inTol` says whether a mirror's sample lies within SETTOL. -/
def State.circSettle (s : State) (p : Nat) (inTol : Nat → Nat → Bool) : State :=
  match s.circuit p with
  | some c =>
    if c.phase = 4 ∧ !c.leaving then
      let n := if (c.usedMirrors p).all (inTol c.settol) then c.settled + 1 else 0
      s.setCirc p { c with settled := n, leaving := decide (c.setn ≤ n) }
    else s
  | none => s

/-- A KIND 2 circuit whose mirrors are all reported PARKED is done (R365). -/
def State.circParked (s : State) (v p : Nat) : State :=
  match s.circuit p with
  | some c =>
    if c.kind = 2 ∧ c.phase = 3 ∧ ((portMirrors p).all fun m => s.flag (Reg.SRV_MIR_STATUS_PARKED v m)) then s.circEnd p 0x0d else s
  | none => s

/-- START of an armed circuit fires (R357). -/
def State.circStart (s : State) (p : Nat) (late : Bool) : State :=
  match s.circuit p with
  | some c => if c.phase = 1 then s.setCirc p { c.enter 2 s.ft with late } else s
  | none => s

/-! ### The descriptor -/

/-- A descriptor's header fields and lane entries, each with its offset and whether it is in range (R350 to R352). -/
def descriptorChecks (d : List Byte) (port own : Nat) : List (Nat × Bool) :=
  let f (o n : Nat) : Nat := leAt d o n
  let kind := f 5 1
  let zero (o n : Nat) : Bool := (slice d o n).all (· == 0)
  let uses := ((List.range 16).filter fun i => f (128 + 32 * i + 16) 1 == 1).length
  [(0, f 0 4 == 0x54435243), (4, decide (6 ≤ f 4 1 ∧ f 4 1 ≤ 9) && f 4 1 == port), (5, decide (kind ≤ 2)),
   (6, decide (f 6 2 < 8192) && f 6 2 != own), (8, decide (6 ≤ f 8 1 ∧ f 8 1 ≤ 9)), (9, decide (2 ≤ f 9 1 ∧ f 9 1 ≤ 6)),
   (10, decide (1 ≤ f 10 1 ∧ f 10 1 ≤ 8)), (11, decide (f 11 1 ≤ 7)), (12, decide (1 ≤ f 12 1 ∧ f 12 1 ≤ 64)),
   (13, decide (1 ≤ f 13 1 ∧ f 13 1 ≤ 15)), (14, decide (f 14 1 ≤ 1)), (15, zero 15 1)]
  ++ [(24, f 24 8 % 64 == 0 && decide (f 24 8 < dramEnd)), (32, f 32 4 != 0), (36, f 36 4 != 0), (40, f 40 4 != 0), (44, f 44 4 != 0),
   (48, f 48 4 != 0), (52, f 52 4 != 0), (82, zero 82 46)]
  ++ (List.range 16).flatMap fun i =>
    let o := 128 + 32 * i
    [(o + 16, kind == 2 || (decide (f (o + 16) 1 ≤ 1) && (i != 0 || decide (8 ≤ uses)))), (o + 17, zero (o + 17) 15)]

/-- A circuit from its descriptor. -/
def parseCircuit (d : List Byte) : Circuit :=
  let f (o n : Nat) : Nat := leAt d o n
  let sg (o : Nat) : Int := signed 32 (f o 4)
  let lane (i : Nat) : CircLane :=
    let o := 128 + 32 * i
    { lt0 := sg o, lt1 := sg (o + 4), ht0 := sg (o + 8), ht1 := sg (o + 12), used := f 5 1 != 2 && f (o + 16) 1 == 1, point := 0, dwell := 0,
      g := [], n := 0, pow := 0, conv := 0, lastPow := none, los := false }
  { kind := f 5 1, peermod := f 6 2, peerport := f 8 1, divlog := f 9 1, spdwell := f 10 1, dlag := f 11 1, setn := f 12 1, spring := f 13 1,
    track := (f 14 1).testBit 0, start := f 16 8, eqaddr := f 24 8, vmax0 := f 32 4, amax0 := f 36 4, jmax0 := f 40 4, vmax1 := f 44 4,
    amax1 := f 48 4, jmax1 := f 52 4, settol := f 56 4, spstep := f 60 4, damp := f 64 4, stepmax := f 68 4, gain := f 72 4,
    acqpwr := signed 16 (f 76 2), rxmin := signed 16 (f 78 2), pktol := f 80 2, lanes := (List.range 16).map lane, phase := 1, result := 0,
    late := false, acq := 0, lit := 0, phaseFt := 0, endFt := 0, leaving := false, settled := 0 }

/-! ### Commands -/

/-- Response registers 1 to 3 of a circuit command (R355). -/
def State.circResponse (s : State) (p : Nat) : List Nat :=
  match s.circuit p with
  | some c => [c.word, c.phaseFt, c.endFt]
  | none => [0, 0, 0]

/-- A circuit command of mailbox `n`: its port code, or STATUS 0x0002 (R353). -/
def State.circCommand (s : State) (n cmd : Nat) (f : State → Nat → State) : State :=
  s.mbxRun n cmd fun s =>
    let p := s.mbxArg n 0 % 16
    if 6 ≤ p ∧ p ≤ 9 then f s p else s.mbxFail n 0x0002

/-- CIRC_ARM (R353, R354, R357). -/
def execCircArm (n : Fin 8) (s : State) : Out := s.run fun s => s.circCommand n 0x0d01 fun s p =>
  let a := s.mbxArg n 1 % 2 ^ 43
  let st := s.linkState p
  if a % 64 ≠ 0 ∨ dramEnd < a + 640 then s.mbxFail n 0x0002
  else if st = 12 ∨ st = 11 ∨ 2 ≤ s.get Reg.PWR_STATUS_STATE ∨ !s.flag Reg.JIG_STATUS_LOADED then s.mbxDone n 0x0104 4 (s.circResponse p)
  else if (s.circuit p).any Circuit.running then s.mbxDone n 0x0103 4 (s.circResponse p)
  else
    let r := s.memRead a 640 false
    let s := r.2
    match r.1 with
    | none => s.mbxDone n 0x0101 4 [0, 0, 0]
    | some d =>
      match (descriptorChecks d p s.ownMod).find? fun e => !e.2 with
      | some e => s.mbxDone n 0x0101 4 [e.1, 0, 0]
      | none =>
        let c := { parseCircuit d with phaseFt := s.ft }
        let v := s.evr
        if (c.usedMirrors p).any fun m => !s.flag (Reg.SRV_MIR_CFG_EN v m) then s.mbxDone n 0x0102 4 (s.circResponse p)
        else
          let s := s.setCirc p c
          let s := if c.start < s.ft then (s.circStart p true).set Reg.FTU_STATUS_LATE 1 else s
          s.mbxDone n 0x0000 4 (s.circResponse p)

/-- CIRC_CANCEL (R354, R370). -/
def execCircCancel (n : Fin 8) (s : State) : Out := s.run fun s => s.circCommand n 0x0d02 fun s p =>
  if (s.circuit p).any Circuit.running then
    let s := s.circEnd p 0x0a
    s.mbxDone n 0x0000 4 (s.circResponse p)
  else s.mbxDone n 0x0105 4 (s.circResponse p)

/-- CIRC_STATUS (R355). -/
def execCircStatus (n : Fin 8) (s : State) : Out := s.run fun s => s.circCommand n 0x0d03 fun s p =>
  s.mbxDone n 0x0000 4 (s.circResponse p)

/-- CIRCUIT_SWITCH_MOMENT: fabric time reaches START of the armed circuit on trunk port K`k` (R357); a routing-table swap due by then
comes first (R313). -/
def execCircuitSwitchMoment (k : Fin 4) (s : State) : Out := s.run fun s =>
  match s.circuit (6 + k) with
  | some c => if c.start ≤ s.ft ∧ !s.swapDue c.start then s.circStart (6 + k) false else s
  | none => s

/-- QUIESCE_END: the port is empty, or the bound of 1 ms is reached (R365); the slew begins at the next servo tick. -/
def execQuiesceEnd (k : Fin 4) (s : State) : Out := s.run fun s =>
  match s.circuit (6 + k) with
  | some c =>
    if c.phase = 2 ∧ (s.portEmpty (6 + k) ∨ c.start + 1000000 ≤ s.ft) then s.setCirc (6 + k) { c with leaving := true } else s
  | none => s

/-- FT at which the phase of a circuit reaches its bound (R365, R370); the relock's bound is the cold one. -/
def Circuit.bound (c : Circuit) : Nat :=
  match c.phase with
  | 2 => c.start + 1000000
  | 3 => c.phaseFt + (if c.kind = 2 then 60000000 else 3000000)
  | 4 => c.phaseFt + 2000000
  | 5 => c.phaseFt + 4000000
  | 6 => c.phaseFt + 3000000
  | _ => c.phaseFt + 128000000

/-- CIRCUIT_PHASE_BOUND: a phase whose exit condition has not held reaches its bound (R365). -/
def execCircuitPhaseBound (k : Fin 4) (s : State) : Out := s.run fun s =>
  let p : Nat := 6 + k
  match s.circuit p with
  | none => s
  | some c =>
    if c.leaving ∨ s.ft < c.bound then s
    else
      match c.phase with
      | 2 => s.setCirc p { c with leaving := true }
      | 3 => s.circEnd p 0x03
      | 4 => s.circEnd p 0x04
      | 5 =>
        if popCount 16 c.acq < 8 then s.circEnd p 0x05
        else
          let rest := c.usedLanes.filter fun i => !c.acq.testBit i
          let s := s.forEach rest fun s i => match s.holder with | some v => s.aimLane v p c i | none => s
          s.setCirc p { rest.foldl (fun c i => c.updLane i fun l => { l with used := false }) c with leaving := true }
      | 6 =>
        let s := s.setCirc p { c with lit := c.litLanes }
        if popCount 16 c.litLanes < 8 then s.circEnd p 0x06 else s.setCirc p { c with lit := c.litLanes, leaving := true }
      | 7 => s.circEnd p 0x07
      | _ => s

end Sys2Proof.Machine
end

