-- ==== Sys2Proof/Machine/ServoLine.lean ====
section
/-! DEFINITION. Machine/ServoLine.lean: the line coding and the frames of a servo port (R317 to R322): the scrambler, 66-bit blocks,
and the bytes of drive and sense frames. A block is a number of 66 bits: its sync header in bits 1:0, its 64 bits above them.
The choices of the model here: log 43. -/

namespace Sys2Proof.Machine

/-! ### The scrambler (R317) -/

/-- One bit through the scrambler 1 + x³⁹ + x⁵⁸, after the last 58 bits of the line, the newest in bit 57: the bit of the line, and
the last 58 then. -/
def scrambleBit (line : Nat) (b : Bool) : Bool × Nat :=
  let o := b ^^ line.testBit 19 ^^ line.testBit 0
  (o, line / 2 + bit o * 2 ^ 57)

/-- One bit of the line through the descrambler: the bit sent, and the last 58 bits of the line then. -/
def descrambleBit (line : Nat) (o : Bool) : Bool × Nat := (o ^^ line.testBit 19 ^^ line.testBit 0, line / 2 + bit o * 2 ^ 57)

/-- 64 bits through either, least significant first. -/
def lineWord (f : Nat → Bool → Bool × Nat) (line w : Nat) : Nat × Nat :=
  (List.range 64).foldl (fun acc i =>
    let r := f acc.2 (w.testBit i)
    (acc.1 + bit r.1 * 2 ^ i, r.2)) (0, line)

/-- Blocks, header and 64 bits, as they go out on the line. -/
def lineOut : Nat → List (Nat × Nat) → List Nat
  | _, [] => []
  | line, b :: l =>
    let r := lineWord scrambleBit line b.2
    (b.1 + 4 * r.1) :: lineOut r.2 l

/-- A frame as blocks (R318): SOF, its bytes in data blocks, EOF. -/
def frameBlocks (l : List Byte) : List (Nat × Nat) :=
  (2, 0x33) :: (List.range ((l.length + 7) / 8)).map (fun i => (1, leAt l (8 * i) 8)) ++ [(2, 0xe1)]

/-! ### Frames -/

/-- A drive entry as its 64-bit value (R320). -/
def DriveEntry.word (e : DriveEntry) : Nat := e.chaddr + 2 ^ 13 * bit e.park + 2 ^ 16 * e.code0 + 2 ^ 36 * e.code1

/-- The bytes of a drive frame (R319). -/
def DriveFrame.bytes (f : DriveFrame) : List Byte :=
  let l := leBytes 1 1 ++ leBytes 1 (bit f.active) ++ leBytes 2 f.gen ++ leBytes 4 f.seq ++ leBytes 8 f.ft ++ leBytes 2 f.modnum
    ++ leBytes 1 f.pylon ++ leBytes 5 0 ++ f.entries.flatMap fun e => leBytes 8 e.word
  l ++ leBytes 4 (crc32c l) ++ leBytes 4 0

/-- The sense entry whose bytes begin at `o` (R322). -/
def senseEntry (l : List Byte) (o : Nat) : SenseEntry :=
  let a := leAt l o 2
  { chaddr := a % 8192, valid := a.testBit 13, parked := a.testBit 14, holding := a.testBit 15, rng := leAt l (o + 2) 2 % 4,
    pos0 := leAt l (o + 4) 3 % 2 ^ 18, pos1 := leAt l (o + 7) 3 % 2 ^ 18, code0 := leAt l (o + 10) 3 % 2 ^ 20,
    code1 := leAt l (o + 13) 3 % 2 ^ 20 }

/-- A good sense frame: FTYPE, length and CRC (R318, R321). -/
def senseGood (l : List Byte) : Bool := l.length == 2072 && leAt l 0 1 == 2 && leAt l 2064 4 == crc32c (l.take 2064)

/-- What a sense frame says (R321). -/
def senseParse (l : List Byte) : SenseFrame :=
  { cstat := leAt l 1 1, gen := leAt l 2 2, seq := leAt l 4 4, temp := leAt l 8 1, chid := leAt l 10 2,
    entries := (List.range 128).map fun m => senseEntry l (16 + 16 * m) }

end Sys2Proof.Machine
end

