-- ==== Sys2Proof/Machine/Servo.lean ====
section
/-! DEFINITION. Machine/Servo.lean: the commands of the mirror servo engines (R319 to R348): ticks, sense frames, evaluations and
register writes with an effect of their own.
The choices of the model here: log 43. -/

namespace Sys2Proof.Machine

/-! ### Engines -/

/-- The engine drives: its pylon holds the token and its takeover is done (R327, R328). -/
def State.srvDrives (s : State) (v : Nat) : Bool := s.holder == some v && (s.servo v).ready

/-- The engine sends drive frames (R327); its pylon's island has power. -/
def State.srvSends (s : State) (v : Nat) : Bool :=
  s.flag (Reg.SRV_CTL_EN v) && !s.flag (Reg.SRV_CTL_TEST v) && s.flag Reg.JIG_STATUS_LOADED && s.get (Reg.PYL_STATUS_STATE v) != 0

/-- The tick whose step 1 falls now, within ±10 ns (R330). -/
def State.tickNow (s : State) (v : Nat) : Option Nat :=
  let x := s.ft + s.get (Reg.SRV_TIME_LEAD v) + 3538 + 10
  if x % 25000 ≤ 20 then some (x / 25000) else none

/-- Coefficient, BANK and MODE writes are ignored (R329). -/
def State.srvShut (s : State) (v : Nat) : Bool := s.holder != some v || !(s.servo v).activeSent

/-- A mirror is driven (R347). -/
def State.driven (s : State) (v m : Nat) : Bool := s.flag (Reg.SRV_MIR_CFG_EN v m)

/-! ### SERVO_TICK -/

/-- VMAX, AMAX and JMAX of an axis of a mirror: those of its port's last armed circuit (R358). -/
def State.profileLimits (s : State) (m a : Nat) : Nat × Nat × Nat :=
  match s.circuit (mirrorPort m) with
  | some c => if a = 0 then (c.vmax0, c.amax0, c.jmax0) else (c.vmax1, c.amax1, c.jmax1)
  | none => (Config.profileLimit (3 * a) + 1, Config.profileLimit (3 * a + 1) + 1, Config.profileLimit (3 * a + 2) + 1)

/-- The profile step of a mirror for tick `q`, and the set-points it delivers (R358, R361). -/
def State.profileStep (s : State) (v m q : Nat) : State :=
  let x := s.mirror v m
  let l0 := s.profileLimits m 0
  let l1 := s.profileLimits m 1
  let p0 := x.prof0.step l0.1 l0.2.1 l0.2.2
  let p1 := x.prof1.step l1.1 l1.2.1 l1.2.2
  let rk0 := signed 32 (s.get (Reg.SRV_MIR_SETPT_R0 v m))
  let rk1 := signed 32 (s.get (Reg.SRV_MIR_SETPT_R1 v m))
  let s' := s.updMirror v m fun x => { x with prof0 := p0, prof1 := p1, rk0, rk1 }
  (s'.set (Reg.SRV_MIR_SETPT_R0 v m) (unsigned 32 (sat32 (p0.r + s.dither m 0 q)).1)).set (Reg.SRV_MIR_SETPT_R1 v m)
    (unsigned 32 (sat32 (p1.r + s.dither m 1 q)).1)

/-- The mode that decides a PARK bit: that of the engine that drives (R327). -/
def State.parkMode (s : State) (v m : Nat) : Nat := s.get (Reg.SRV_MIR_STATUS_MODE (s.holder.getD v) m)

/-- Drive entry of a mirror (R320, R326, R327). -/
def State.driveEntry (s : State) (v m : Nat) (active : Bool) : DriveEntry :=
  { chaddr := s.get (Reg.SRV_MIR_CFG_CHADDR v m), park := !s.driven v m || s.parkMode v m == 0,
    code0 := if active then s.get (Reg.SRV_MIR_OUT_CODE0 v m) else 0, code1 := if active then s.get (Reg.SRV_MIR_OUT_CODE1 v m) else 0 }

/-- The drive frame of tick `k` begins (R317 to R319, R327, R330). What the scrambler holds then follows from the idles sent before, whose
number is not stated (log 43). -/
def State.driveFrame (s : State) (v k : Nat) (active : Bool) : State :=
  let codes := if active then (s.servo v).next.getD [] else []
  let s := s.forEach codes fun s e => (s.set (Reg.SRV_MIR_OUT_CODE0 v e.1) e.2.1).set (Reg.SRV_MIR_OUT_CODE1 v e.1) e.2.2
  let f : DriveFrame :=
    { active, gen := s.get (Reg.SRV_STATUS_GEN v), seq := k % 2 ^ 32, ft := k * 25000, modnum := s.ownMod, pylon := v,
      entries := (List.range 128).map fun m => s.driveEntry v m active }
  let line := s.fresh % 2 ^ 58
  let s := s.drawn.updServo v fun x =>
    { x with tick := some k, lastFrame := some f, sent := lineOut line (frameBlocks f.bytes), next := none, activeSent := x.activeSent || active }
  ((s.set (Reg.SRV_STATUS_ACTIVE v) (bit active)).inc (Reg.SRV_CNT_SENT v) 1).count 6 v 0x001 1

/-- SERVO_TICK: step 1 of a tick on engine `v` (R330): the profiles run and the drive frame begins. An evaluation that has not
ended is discarded. -/
def execServoTick (v : Fin 2) (s : State) : Out := s.run fun s =>
  match s.tickNow v with
  | none => s
  | some k =>
    if !s.srvSends v ∨ (s.servo v).tick.any fun t => decide (k ≤ t) then s
    else
      let active := s.srvDrives v
      let s := if (s.servo v).evaluating.isSome then
          (s.updServo v fun x => { x with evaluating := none }).set (Reg.SRV_STATUS_OVERRUN v) 1 else s
      let s :=
        if active then
          let ports := [6, 7, 8, 9]
          let s := s.forEach ports fun s p => s.circNext v p
          let s := s.forEach ports fun s p => s.circTargets v p (k + 1)
          let s := (List.range 128).foldl (fun s m =>
            if s.driven v m ∧ 2 ≤ s.get (Reg.SRV_MIR_STATUS_MODE v m) then s.profileStep v m (k + 1) else s) s
          s.forEach ports fun s p => s.circSlew v p
        else s
      s.driveFrame v k active

/-! ### Sense frames and samples -/

/-- GEN `g` is older than `h` (R323). -/
def genOlder (g h : Nat) : Bool := let d := (h + 65536 - g) % 65536; decide (1 ≤ d ∧ d ≤ 32767)

/-- An entry's measured angle on an axis (R334). -/
def angleOf (pos : Nat) : Int := signed 18 pos * 2 ^ 14

/-- The registers that a good sense frame fills (R321, R322, R346, R347). -/
def State.senseStore (s : State) (v : Nat) (f : SenseFrame) : State :=
  let s := s.updServo v fun x => { x with sense := some f, senseAt := s.now }
  let s := (((s.set (Reg.SRV_CHASSIS_CSTAT v) f.cstat).set (Reg.SRV_CHASSIS_TEMP v) f.temp).set (Reg.SRV_CHASSIS_CHID v) f.chid).set
    (Reg.SRV_CHASSIS_GEN v) f.gen
  (f.entries.zipIdx).foldl (fun s e =>
    let m := e.2
    let x := e.1
    let s := ((s.set (Reg.SRV_MIR_POS_POS0 v m) x.pos0).set (Reg.SRV_MIR_POS_POS1 v m) x.pos1).set (Reg.SRV_MIR_POS_VALID v m) (bit x.valid)
    (s.set (Reg.SRV_MIR_STATUS_PARKED v m) (bit x.parked)).set (Reg.SRV_MIR_STATUS_HOLDING v m) (bit x.holding)) s

/-- The state of a mirror after a takeover (R328): x̂0 and x̂4 the measured angles, everything else 0. -/
def State.storeWork (s : State) (v m : Nat) (w : Work) : State :=
  let s := (List.range 4).foldl (fun s k =>
    let nx := w.nx.getD k (0, 0)
    let nw := w.nw.getD k (0, 0)
    let s := (s.set (Reg.SRV_STATE_X_LO v m k) (unsigned 32 (w.xAt (2 * k)))).set (Reg.SRV_STATE_X_HI v m k) (unsigned 32 (w.xAt (2 * k + 1)))
    let s := (s.set (Reg.SRV_STATE_NX_X1 v m k) (unsigned 32 nx.1)).set (Reg.SRV_STATE_NX_X2 v m k) (unsigned 32 nx.2)
    (s.set (Reg.SRV_STATE_NW_W1 v m k) (unsigned 32 nw.1)).set (Reg.SRV_STATE_NW_W2 v m k) (unsigned 32 nw.2)) s
  let s := (s.set (Reg.SRV_STATE_U_U0 v m) (unsigned 32 (w.uAt 0))).set (Reg.SRV_STATE_U_U1 v m) (unsigned 32 (w.uAt 1))
  let s := s.set (Reg.SRV_STATE_PH_PHASE v m) w.phase
  w.rcw.reverse.foldl (fun s e =>
    let q := 2 * m + e.1
    let l := if e.2.1 % 2 = 0 then Reg.SRV_RC_LO v q (e.2.1 / 2) else Reg.SRV_RC_HI v q (e.2.1 / 2)
    s.set l (unsigned 32 e.2.2)) s

/-- Set a flag of SRV_MIR_STATUS that a limit action raises; the first setting logs an event (R338). -/
def State.limitFlag (s : State) (v m : Nat) (l : Loc) (n : Nat) : State :=
  if n = 0 ∨ s.flag l then s
  else
    let s := s.set l 1
    s.occur 0x0a01 v (leBytes 1 m ++ leBytes 1 (bits (s.reg (Reg.SRV_MIR_STATUS v m)).toNat 4 4))

/-- Range and slew actions of the two axes are counted and flagged (R338). -/
def State.limitActions (s : State) (v m : Nat) (ranges slews : Nat × Nat) : State :=
  let r := ranges.1 + ranges.2
  let w := slews.1 + slews.2
  let s := (s.sat (Reg.SRV_LIMCNT_RANGE v) r).sat (Reg.SRV_LIMCNT_SLEW v) w
  let s := (s.count 6 v 0x004 r).count 6 v 0x005 w
  let s := s.limitFlag v m (Reg.SRV_MIR_STATUS_RANGE0 v m) ranges.1
  let s := s.limitFlag v m (Reg.SRV_MIR_STATUS_SLEW0 v m) slews.1
  let s := s.limitFlag v m (Reg.SRV_MIR_STATUS_RANGE1 v m) ranges.2
  s.limitFlag v m (Reg.SRV_MIR_STATUS_SLEW1 v m) slews.2

/-- 32-bit saturations are counted and flagged (R333). -/
def State.satActions (s : State) (v m n : Nat) : State :=
  if n = 0 then s else ((s.sat (Reg.SRV_LIMCNT_SAT v) n).count 6 v 0x006 n).set (Reg.SRV_MIR_STATUS_SAT v m) 1

/-- Servo takeover from a sense frame (R328); in M3 the mirrors stay held (R508). -/
def State.srvTakeover (s : State) (v : Nat) (srvgen : Option Nat) (f : SenseFrame) : State :=
  let base := match srvgen with
    | some g => if genOlder g f.gen then f.gen else g
    | none => f.gen
  let s := s.set (Reg.SRV_STATUS_GEN v) (base + 1)
  let r := ((List.range 128).filter fun m => s.driven v m).foldl (fun (acc : List (Nat × Nat × Nat) × State) m =>
    match f.entries[m]? with
    | none => acc
    | some e =>
      let s := acc.2
      let y0 := angleOf e.pos0
      let y1 := angleOf e.pos1
      let w : Work := { Work.zero with x := [y0, 0, 0, 0, y1, 0, 0, 0], u := [outputOf e.code0, outputOf e.code1] }
      let s := (s.storeWork v m w).set (Reg.SRV_MIR_STATUS_MODE v m) 1
      let move : ModeMove := { target := s.get (Reg.SRV_MIR_CTL_MODE v m), attempts := 0, base0 := 0, base1 := 0 }
      let s := s.updMirror v m fun x =>
        { x with move := if s.get Reg.PWR_STATUS_STATE = 3 then none else some move, bank := s.get (Reg.SRV_MIR_CTL_BANK v m) }
      let o := s.outBoth v m (e.code0, e.code1) (e.code0, e.code1) fun _ c => c
      let s := s.limitActions v m (o.1.2.1, o.2.2.1) (o.1.2.2, o.2.2.2)
      let s := (s.set (Reg.SRV_MIR_OUT_CODE0 v m) e.code0).set (Reg.SRV_MIR_OUT_CODE1 v m) e.code1
      (acc.1 ++ [(m, o.1.1.toNat, o.2.1.toNat)], s)) ([], s)
  r.2.updServo v fun x => { x with takeover := none, ready := true, next := some r.1, evaluating := none, sampled := x.tick }

/-- The registers of an engine. -/
def State.srvRegs (s : State) (v : Nat) : List (Nat × Word64) :=
  s.regs.filter fun e => decide (Reg.SRV_ID v ≤ e.1) && decide (e.1 < Reg.SRV_ID v + 0x1000000)

/-- The evaluation of sample `k` begins (R330, R331). -/
def State.evalBegin (s : State) (v k : Nat) (entries : Option (List SenseEntry)) : State :=
  let e : Evaluation := { sample := k, entries, snap := s.srvRegs v, mirrors := (s.servo v).mirrors, since := s.now }
  s.updServo v fun x =>
    { x with evaluating := some e, sampled := some k, mirrors := x.mirrors.map fun y => (y.1, { y.2 with written := false }) }

/-- A good sense frame has arrived whole on servo port `v` (R321, R328, R331). -/
def State.senseIn (s : State) (v : Nat) (f : SenseFrame) : State :=
  let s := (s.senseStore v f).count 6 v 0x002 1
  if s.holder ≠ some v then s
  else
    let s := [6, 7, 8, 9].foldl (fun s p => s.circParked v p) s
    match (s.servo v).takeover with
    | some g => s.srvTakeover v g f
    | none =>
      match (s.servo v).tick with
      | some k =>
        if (s.servo v).ready ∧ f.seq = k % 2 ^ 32 ∧ (s.servo v).sampled ≠ some k ∧ s.ft ≤ k * 25000 + s.get (Reg.SRV_TIME_RXDL v) then
          s.evalBegin v k (some f.entries)
        else s
      | none => s

/-- A frame that has begun and meets an idle or another SOF has no EOF: it is discarded as one of the wrong length (R318, log 43). -/
def State.frameCut (s : State) (v : Nat) : State :=
  if (s.servo v).rx.isSome then (s.sat (Reg.SRV_CNT_BAD v) 1).updServo v fun x => { x with rx := none } else s

/-- The block that a locked receiver takes, descrambled: its sync header and its 64 bits (R318). -/
def State.blockIn (s : State) (v h d : Nat) : State :=
  if h = 1 then s.updServo v fun x => { x with rx := x.rx.map fun l => l ++ leBytes 8 d }
  else
    match d % 256 with
    | 0x1e => s.frameCut v
    | 0x33 => (s.frameCut v).updServo v fun x => { x with rx := some [] }
    | 0xe1 =>
      match (s.servo v).rx with
      | none => s
      | some l =>
        let s := s.updServo v fun x => { x with rx := none }
        if senseGood l then s.senseIn v (senseParse l) else s.sat (Reg.SRV_CNT_BAD v) 1
    | _ => s.sat (Reg.SRV_CNT_BAD v) 1

/-- A sync header is valid (R317). -/
def syncValid (b : Nat) : Bool := b % 4 == 1 || b % 4 == 2

/-- A 66-bit block of the line reaches servo port `v` (R317): 64 valid headers in succession give block lock, 16 invalid ones of any 64
take it. In pattern test the lane carries no blocks (R345). -/
def State.lineBlock (v : Nat) (s : State) (b : Nat) : State :=
  if s.flag (Reg.SRV_CTL_TEST v) then s
  else
    let x := s.servo v
    let hs := (syncValid b :: x.headers).take 64
    let locked := if x.locked then decide ((hs.filter (!·)).length < 16) else hs.length == 64 && hs.all id
    let d := lineWord descrambleBit x.line (b / 4)
    let s := s.updServo v fun x => { x with headers := hs, locked, line := d.2, rx := if locked then x.rx else none }
    if x.locked && locked && syncValid b then s.blockIn v (b % 4) d.1 else s

/-- SENSE_FRAME: the blocks of a frame arrive on servo port `v` (R317, R318). -/
def execSenseFrame (v : Fin 2) (blocks : List Nat) (s : State) : Out := s.run fun s => blocks.foldl (State.lineBlock v) s

/-- SERVO_BLOCK_LOCK and SERVO_BLOCK_LOCK_LOSS: blocks arrive whose sync headers give block lock, or take it (R317). -/
def execServoBlockLock (b : ServoBlocks) (s : State) : Out := s.run fun s => b.blocks.foldl (State.lineBlock b.engine) s
def execServoBlockLockLoss (b : ServoBlocks) (s : State) : Out := s.run fun s => b.blocks.foldl (State.lineBlock b.engine) s

/-- SAMPLE_DEADLINE: T + RXDL passes without the sample's sense frame (R331). -/
def execSampleDeadline (v : Fin 2) (s : State) : Out := s.run fun s =>
  match (s.servo v).tick with
  | some k =>
    if s.srvDrives v ∧ (s.servo v).sampled ≠ some k ∧ k * 25000 + s.get (Reg.SRV_TIME_RXDL v) ≤ s.ft then
      (s.sat (Reg.SRV_CNT_MISSED v) 1).evalBegin v k none
    else s
  | none => s

/-! ### EVALUATION_COMPLETE -/

/-- The entry of a mirror in a sample, when its positions are valid. -/
def entryOf (l : Option (List SenseEntry)) (m : Nat) : Option SenseEntry :=
  match l with
  | some l => match l[m]? with
    | some e => if e.valid then some e else none
    | none => none
  | none => none

/-- Evaluate one driven mirror: `z` is the state with the registers as they stood when the evaluation began. -/
def State.evalOne (s z : State) (v m : Nat) (x : Mirror) (entries : Option (List SenseEntry)) : State × (Nat × Nat × Nat) :=
  let en := entryOf entries m
  let mode := z.get (Reg.SRV_MIR_STATUS_MODE v m)
  let bank := z.get (Reg.SRV_MIR_CTL_BANK v m)
  let miss := if en.isSome then 0 else min 255 (z.get (Reg.SRV_MIR_STATUS_MISSRUN v m) + 1)
  let lost : Bool := mode != 0 && !x.dropped && decide (max 1 (z.get (Reg.SRV_CTL_MISSMAX v)) ≤ miss)
  let w := z.work v m
  let w := if bank ≠ x.bank ∧ z.nper v bank m ≠ z.nper v x.bank m then { w with phase := 0 } else w
  let y : Option (Int × Int) := en.map fun e => (angleOf e.pos0, angleOf e.pos1)
  let ang := y.getD (angleOf (z.get (Reg.SRV_MIR_POS_POS0 v m)), angleOf (z.get (Reg.SRV_MIR_POS_POS1 v m)))
  let smp : Sample :=
    { y, r := (x.rk0, x.rk1), rn := (signed 32 (z.get (Reg.SRV_MIR_SETPT_R0 v m)), signed 32 (z.get (Reg.SRV_MIR_SETPT_R1 v m))) }
  let told : Int × Int :=
    match (s.servo v).sense with
    | some f => match f.entries[m]? with
      | some e => (e.code0, e.code1)
      | none => (0, 0)
    | none => (0, 0)
  let p : Int × Int := if mode = 0 then told else (z.get (Reg.SRV_MIR_OUT_CODE0 v m), z.get (Reg.SRV_MIR_OUT_CODE1 v m))
  let e := z.evalMirror v bank m mode x.move w smp ang p lost
  let s := (s.storeWork v m e.work).set (Reg.SRV_MIR_STATUS_MODE v m) e.mode
  let s := s.set (Reg.SRV_MIR_STATUS_MISSRUN v m) miss
  let s := if en.isSome then s else s.count 6 v 0x003 1
  let s := s.updMirror v m fun c =>
    { c with bank, move := if c.written then c.move else e.move, dropped := !c.written && en.isNone && (x.dropped || lost) }
  let s :=
    match e.start with
    | some a =>
      let s := s.updMirror v m fun c =>
        { c with prof0 := { c.prof0 with r := a.1, v := 0, a := 0 }, prof1 := { c.prof1 with r := a.2, v := 0, a := 0 } }
      (s.set (Reg.SRV_MIR_SETPT_R0 v m) (unsigned 32 a.1)).set (Reg.SRV_MIR_SETPT_R1 v m) (unsigned 32 a.2)
    | none => s
  let s := (s.satActions v m e.work.sats).limitActions v m e.ranges e.slews
  let s := match e.forced with
    | some axes => s.occur 0x0b03 v (leBytes 1 m ++ leBytes 1 axes)
    | none => s
  let s := if lost then
      ((s.set (Reg.SRV_MIR_STATUS_LOST v m) 1).occur 0x0a02 v (leBytes 1 m)).circMirror m 0x0c 3 7 else s
  (s, (m, e.codes.1.toNat, e.codes.2.toNat))

/-- EVALUATION_COMPLETE: the evaluation of engine `v` ends, with the next codes and states (R330, R334, R340, R371). -/
def execEvaluationComplete (v : Fin 2) (s : State) : Out := s.run fun s =>
  match (s.servo v).evaluating with
  | none => s
  | some ev =>
    let s := (s.updServo v fun x => { x with evaluating := none }).histEnter (15 + v) (s.now - ev.since)
    let z := { s with regs := ev.snap }.updServo v fun x => { x with mirrors := ev.mirrors }
    let r := ((List.range 128).filter fun m => z.driven v m).foldl (fun (acc : State × List (Nat × Nat × Nat)) m =>
      let e := acc.1.evalOne z v m (z.mirror v m) ev.entries
      (e.1, acc.2 ++ [e.2])) (s, [])
    let s' := r.1.updServo v fun x => { x with next := some r.2 }
    [6, 7, 8, 9].foldl (fun t p => t.circSettle p fun tol m =>
      match entryOf ev.entries m with
      | some e =>
        let x := z.mirror v m
        decide ((angleOf e.pos0 - x.rk0).natAbs ≤ tol) && decide ((angleOf e.pos1 - x.rk1).natAbs ≤ tol)
      | none => false) s'

/-! ### Register writes -/

/-- SERVO_ENABLE: a write of SRV_CTL.EN (R327). -/
def State.srvEnable (s : State) (v : Nat) (en : Bool) : State :=
  let s := s.set (Reg.SRV_CTL_EN v) (bit en)
  if en then s else s.set (Reg.SRV_STATUS_ACTIVE v) 0

def execServoEnable (v : Fin 2) (en : Bool) (s : State) : Out := s.run fun s =>
  s.writeTo (Reg.SRV_CTL v) fun s => s.srvEnable v en

/-- SERVO_TEST: a write of SRV_CTL.TEST (R345). Leaving the test stops the generator and the checker. -/
def State.srvTest (s : State) (v : Nat) (on : Bool) : State :=
  if on then
    if s.holder = some v ∧ s.flag Reg.JIG_STATUS_LOADED then s else (s.set (Reg.SRV_CTL_TEST v) 1).set (Reg.SRV_STATUS_ACTIVE v) 0
  else (s.set (Reg.SRV_CTL_TEST v) 0).set (Reg.SRV_PAT_CTL_LOCK v) 0

def execServoTest (v : Fin 2) (on : Bool) (s : State) : Out := s.run fun s =>
  s.writeTo (Reg.SRV_CTL v) fun s => s.srvTest v on

/-- SRV_TIME_WRITE (R330). -/
def State.srvTime (s : State) (v : Nat) (w : Word64) : State :=
  let lead := bits w.toNat 0 16
  let rxdl := bits w.toNat 16 16
  if 8000 ≤ rxdl ∧ rxdl ≤ 14000 ∧ rxdl + lead ≤ 15000 then (s.set (Reg.SRV_TIME_LEAD v) lead).set (Reg.SRV_TIME_RXDL v) rxdl else s

def execSrvTimeWrite (v : Fin 2) (w : Word64) (s : State) : Out := s.run fun s =>
  s.writeTo (Reg.SRV_TIME v) fun s => s.srvTime v w

/-- MODE_WRITE by the driver (R329, R340, R341, R370, R373). -/
def State.modeWrite (s : State) (v m mode : Nat) : State :=
  if s.srvShut v then s.set (Reg.SRV_STATUS_IGNWR v) 1
  else if !s.driven v m ∨ 4 ≤ mode then s
  else (s.wantMode v m mode).circMirror m 0x0a 3 6

def execModeWrite (v : Fin 2) (m : Fin 128) (mode : Fin 8) (s : State) : Out := s.run fun s =>
  s.writeTo (Reg.SRV_MIR_CTL v m) fun s => s.modeWrite v m mode

/-- BANK_WRITE (R329, R342). -/
def State.bankWrite (s : State) (v m b : Nat) : State :=
  if s.srvShut v then s.set (Reg.SRV_STATUS_IGNWR v) 1 else s.set (Reg.SRV_MIR_CTL_BANK v m) b

def execBankWrite (v : Fin 2) (m : Fin 128) (b : Fin 2) (s : State) : Out := s.run fun s =>
  s.writeTo (Reg.SRV_MIR_CTL v m) fun s => s.bankWrite v m b

/-- Whether entry `o` of a coefficient bank is a coefficient (R343): PARAM is entry 152, and every other one is not listed. -/
def coefEntry (o : Nat) : Bool := decide (o < 114) || (decide (128 ≤ o) && decide (o < 152))

/-- COEFFICIENT_WRITE (R329, R342 to R344): entry `o` of a bank. -/
def State.coefWrite (s : State) (v b m o : Nat) (w : Word64) : State :=
  let a := Reg.SRV_COEF_A v b m o
  if s.srvShut v ∨ s.get (Reg.SRV_MIR_CTL_BANK v m) = b then s.set (Reg.SRV_STATUS_IGNWR v) 1
  else if coefEntry o then s.setReg a (w &&& 0x1fffffffff)
  else if o = 152 then s.setReg a (w &&& 0xf03ff07ff)
  else s

def execCoefficientWrite (v : Fin 2) (b : Fin 2) (m : Fin 128) (o : Fin 256) (w : Word64) (s : State) : Out :=
  s.run fun s => s.writeTo (Reg.SRV_COEF_A v b m o) fun s => s.coefWrite v b m o w

/-- RC_BUFFER_WRITE (R336): words 2n and 2n + 1 of the repetitive buffer of an axis. -/
def State.rcWrite (s : State) (v m a n : Nat) (w : Word64) : State :=
  if s.get (Reg.SRV_MIR_STATUS_MODE v m) = 3 then s.set (Reg.SRV_STATUS_IGNWR v) 1 else s.setReg (Reg.SRV_RC v (2 * m + a) n) w

def execRcBufferWrite (v : Fin 2) (m : Fin 128) (a : Fin 2) (n : Fin 512) (w : Word64) (s : State) : Out :=
  s.run fun s => s.writeTo (Reg.SRV_RC v (2 * m + a) n) fun s => s.rcWrite v m a n w

/-- SRV_STATUS.LINK (R346): block lock, and a good sense frame within the last 100 µs. -/
def State.srvLink (s : State) (v : Nat) : Bool :=
  (s.servo v).locked && (s.servo v).sense.isSome && decide (s.now ≤ (s.servo v).senseAt + 100000)

end Sys2Proof.Machine
end

