-- ==== Sys2Proof/Machine/FabTime.lean ====
section
/-! DEFINITION. Machine/FabTime.lean: fabric time (R300 to R316): the counter and its steps, the exchange of TIME flits, the sync
states, and the fabric-time commands.
The choices of the model here: logs 42 and 45. -/

namespace Sys2Proof.Machine

/-! ### Steps of FT -/

/-- The one-shot triggers armed for a value strictly between two times (R311, R312): armed value, place in the table of R311,
and what is armed. -/
inductive OneShot where
  | swap
  | start (port : Nat)
  | bar (set : Nat)
  deriving DecidableEq, Repr

/-- Insert by armed value, equal values after those already there. -/
def shotInsert (x : Nat × OneShot) : List (Nat × OneShot) → List (Nat × OneShot)
  | [] => [x]
  | y :: l => if x.1 < y.1 then x :: y :: l else y :: shotInsert x l

/-- The triggers that a forward step skips, in the order in which they fire (R312, R313). -/
def State.skipped (s : State) (old new : Nat) : List (Nat × OneShot) :=
  let swap := if s.flag Reg.RTR_SWAP_CTL_ARM then [(s.get Reg.RTR_SWAP_FT_FT, OneShot.swap)] else []
  let starts := [6, 7, 8, 9].flatMap fun p =>
    match s.circuit p with
    | some c => if c.phase = 1 then [(c.start, OneShot.start p)] else []
    | none => []
  let bars := (List.range 36).filterMap fun set => (s.barArmed set).map fun t => (t, OneShot.bar set)
  ((swap ++ starts ++ bars).filter fun x => decide (old < x.1) && decide (x.1 < new)).foldl (fun l x => shotInsert x l) []

/-- A skipped trigger fires late (R312); a barrier with a gang still to come is released when the last arrives. -/
def State.fireLate (s : State) (x : Nat × OneShot) : State :=
  (match x.2 with
  | .swap => s.routingSwap true
  | .start p => s.circStart p true
  | .bar set => if s.barReady set then s.barRelease set else s).set Reg.FTU_STATUS_LATE 1

/-- The servo engine across a step (R314, R332): the first frame carries the codes last sent, and no state is advanced. -/
def State.servoStep (s : State) (v old new : Nat) : State :=
  let lead := s.get (Reg.SRV_TIME_LEAD v) + 3538
  if new < old then
    s.updServo v fun x => { x with next := none, evaluating := none, tick := none, sampled := none }
  else
    -- ticks whose step 1 lies strictly between the two times
    let n := (new + lead - 1) / 25000 - (old + lead) / 25000
    if n = 0 ∨ !s.srvSends v then s
    else (s.sat (Reg.SRV_CNT_SKIPPED v) n).updServo v fun x => { x with next := none, evaluating := none, sampled := x.tick }

/-- FT becomes `t`, in 1/256 ns (R312, R314). -/
def State.ftTo (s : State) (t : Nat) : State :=
  let t := t % 2 ^ 72
  let old := s.ft
  let fwd : Bool := s.ftu.ft256 < t
  if t = s.ftu.ft256 then s
  else
    let s := { s with ftu := { s.ftu with ft256 := t } }.sat Reg.FTU_STATUS_STEPS 1
    let s := (s.servoStep 0 old s.ft).servoStep 1 old s.ft
    if fwd then { s with ctr := { s.ctr with resume := s.ft } }.forEach (s.skipped old s.ft) State.fireLate
    else { s with ctr := { s.ctr with epoch := none, resume := s.ft + 1 }, ev := { s.ev with sumFt := s.ev.sumFt.map fun _ => s.ft } }.set Reg.FTU_STATUS_BACK 1

/-- FT moves by an offset in 1/256 ns. -/
def State.ftMove (s : State) (d : Int) : State := s.ftTo (((s.ftu.ft256 : Int) + d) % (2 ^ 72 : Nat)).toNat

/-- One ns of the local reference (R300): FT counts, with the rate adjustment except while OFF. -/
def State.ftTick (s : State) : State :=
  let r : Int := if s.get Reg.FTU_STATUS_STATE = 0 then 0 else signed 32 (s.get Reg.FTU_RATE_RATE)
  let acc := s.ftu.rateAcc + r * 256
  let w := acc / 1000000000
  { s with ftu := { s.ftu with ft256 := (((s.ftu.ft256 : Int) + 256 + w) % (2 ^ 72 : Nat)).toNat, rateAcc := acc % 1000000000 } }

/-! ### The exchange -/

def State.timePort (s : State) (p : Nat) : TimePort :=
  alGet { tseq := 0, t1 := none, reqAt := none, respAt := none, tflags := 0, rootmod := 0, depth := 0 } s.ftu.ports p

def State.setTimePort (s : State) (p : Nat) (x : TimePort) : State := { s with ftu := { s.ftu with ports := alSet s.ftu.ports p x } }

/-- A TIME payload (R304). -/
def State.timePayload (s : State) (top tseq t1 t2 t3 : Nat) : List Byte :=
  leBytes 1 top ++ leBytes 1 (bit (s.get Reg.FTU_STATUS_STATE == 3) + 2 * bit (s.flag Reg.FTU_CTL_ROOT)) ++ leBytes 2 (s.get Reg.FTU_PARENT_ROOTMOD)
    ++ leBytes 1 (s.get Reg.FTU_STATUS_DEPTH) ++ leBytes 1 tseq ++ leBytes 2 0 ++ leBytes 8 t1 ++ leBytes 8 t2 ++ leBytes 8 t3

/-- TIME requests are sent and answered on the port (R303): its link carries flits, RECAL apart. -/
def State.timeCarries (s : State) (i : Nat) : Bool := s.linkCarries i && s.linkState i != 12

/-- TIME_REQUEST_SEND on port `i`: a request every PERIOD µs (R303). -/
def execTimeRequestSend (i : Fin 11) (s : State) : Out := s.run fun s =>
  let x := s.timePort i
  if !s.timeCarries i ∨ x.reqAt.any (fun t => decide (s.now < t + 1000 * max 1 (s.get Reg.FTU_CTL_PERIOD))) then s
  else
    let q := (x.tseq + 1) % 256
    (s.setTimePort i { x with tseq := q, t1 := some s.ftu.ft256, reqAt := some s.now }).sendPlain i 6 (s.timePayload 1 q s.ftu.ft256 0 0)

/-- A received TIME flit (R303, R304): a reserved TOP is discarded and counted. -/
def State.timeIn (s : State) (i : Nat) (f : Flit) (top : Nat) (use : State → State) : State :=
  if f.ftype ≠ 6 then s
  else
    let r := s.flitIn i f
    if !r.1 then r.2
    else
      let t := leAt f.payload 0 1
      if t = 0 ∨ 2 < t then r.2.sat (Reg.LNK_ERR_BADCTL i) 1 else if t = top then use r.2 else r.2

/-- TIME_REQUEST: a request is answered (R303); it is received and answered at one time. -/
def execTimeRequest (i : Fin 11) (f : Flit) (s : State) : Out := s.run fun s => s.timeIn i f 1 fun s =>
  if !s.timeCarries i then s
  else s.sendPlain i 6 (s.timePayload 2 (leAt f.payload 5 1) (leAt f.payload 8 8) s.ftu.ft256 s.ftu.ft256)

/-! ### Sync states -/

/-- A response arrived on the port within the last 100 µs (R307, R315). -/
def State.timeFresh (s : State) (p : Nat) : Bool := (s.timePort p).respAt.any fun t => decide (s.now ≤ t + 100000)

/-- A port is eligible as a parent (R307). -/
def State.eligible (s : State) (p : Nat) : Bool :=
  let x := s.timePort p
  decide (p < 10) && s.linkCarries p && s.timeFresh p && x.tflags.testBit 0 && x.rootmod == s.ftu.rootmod

/-- The parent in use (R307). -/
def State.parentNow (s : State) : Option Nat := s.ftu.parents.find? s.eligible

/-- A response has arrived: FTU_PARENT as it now stands is in force (R316). -/
def State.parentTake (s : State) : State :=
  { s with ftu := { s.ftu with parents := [s.get Reg.FTU_PARENT_P0, s.get Reg.FTU_PARENT_P1, s.get Reg.FTU_PARENT_P2],
                               rootmod := s.get Reg.FTU_PARENT_ROOTMOD } }

/-- 1 µs in 1/256 ns. -/
def ftMicro : Int := 256000

/-- Filtered offset (R307): the mean of the last 8. -/
def filtered (l : List Int) : Int := if l.isEmpty then 0 else l.foldl (· + ·) 0 / l.length

/-- LOCKED is entered (R307, R309). -/
def State.ftLocked (s : State) (depth : Nat) : State :=
  let s := ((s.set Reg.FTU_STATUS_STATE 3).set Reg.FTU_STATUS_DEPTH (min 255 depth)).set Reg.FTU_STATUS_OOS 0
  { s with ftu := { s.ftu with wasLocked := true } }

/-- A signed value in 32 bits of a register. One that does not fit has no stated form: free bits (log 42). -/
def State.setSigned32 (s : State) (r : Loc) (x : Int) : State :=
  if -(2 ^ 31 : Int) ≤ x ∧ x < 2 ^ 31 then s.set r (unsigned 32 x) else s.drawn.set r (s.fresh % 2 ^ 32)

/-- A response of the parent in use: the filtered offset moves on (R307). -/
def State.ftNote (s : State) (theta : Int) : State :=
  let l := (theta :: s.ftu.thetas).take 8
  { s with ftu := { s.ftu with thetas := l } }.setSigned32 Reg.FTU_OFFSET_OFFSET (filtered l)

/-- The filtered offset is removed by rate (R308): a time constant of 16 × PERIOD, at most 200 ns per ms. -/
def State.ftRate (s : State) : State :=
  let per : Nat := max 1 (s.get Reg.FTU_CTL_PERIOD)
  s.set Reg.FTU_RATE_RATE (unsigned 32 (clampInt (-200000) 200000 (filtered s.ftu.thetas * 15625 / (64 * per))))

/-- A response from the parent in use steers FT (R307, R316). -/
def State.ftSteer (s : State) (p : Nat) (theta : Int) : State :=
  let changed : Bool := s.get Reg.FTU_STATUS_PARENT != p
  let s := (s.set Reg.FTU_STATUS_PARENT p).ftNote theta
  let depth := (s.timePort p).depth + 1
  let back : Bool := theta < 0 && decide ((s.get Reg.FTU_CTL_BACKMAX : Int) * ftMicro < -theta)
  let fault (s : State) : State := (s.set Reg.FTU_STATUS_STATE 5).occur 0x0903 0 (leBytes 4 (unsigned 32 theta))
  match s.get Reg.FTU_STATUS_STATE with
  | 1 =>
    let s := s.ftMove theta
    { s with ftu := { s.ftu with good := 0 } }.set Reg.FTU_STATUS_STATE 2
  | 2 =>
    let n := if (filtered s.ftu.thetas).natAbs < 8 * 256 then s.ftu.good + 1 else 0
    let s := if ftMicro ≤ theta.natAbs then s.ftMove theta else s.ftRate
    let s := { s with ftu := { s.ftu with good := n } }
    if 16 ≤ n then s.ftLocked depth else s
  | 3 =>
    if back then fault s
    else
      let s := s.set Reg.FTU_STATUS_DEPTH (min 255 depth)
      if changed ∧ ftMicro ≤ theta then s.ftMove theta else s.ftRate
  | 4 =>
    if back then fault s
    else
      let s := s.ftLocked depth
      if ftMicro ≤ theta then s.ftMove theta else s.ftRate
  | _ => s

/-- TIME_RESPONSE (R306, R307): a response to the last request gives offset and delay, and puts FTU_PARENT in force (R316). -/
def execTimeResponse (i : Fin 11) (f : Flit) (s : State) : Out := s.run fun s => s.timeIn i f 2 fun s =>
  let x := s.timePort i
  let t1 := leAt f.payload 8 8
  let t2 := leAt f.payload 16 8
  let t3 := leAt f.payload 24 8
  let diff (a b : Nat) : Int := signed 64 (a + 2 ^ 64 - b)
  if x.t1.isNone ∨ leAt f.payload 5 1 ≠ x.tseq ∨ 256000000 < diff t3 t2 then s
  else
    let out := diff t2 t1
    let inn := diff (s.ftu.ft256 % 2 ^ 64) t3
    let asym : Int := if i.val < 10 then signed 16 (s.get (Reg.FTU_PORT_ASYM i)) else 0
    let theta := (out - inn - asym) / 2
    let delay := (out + inn) / 2
    let s := s.parentTake.setTimePort i { x with respAt := some s.now, tflags := leAt f.payload 1 1, rootmod := leAt f.payload 2 2,
                                                 depth := leAt f.payload 4 1 }
    if i.val < 10 then
      let s := (s.setSigned32 (Reg.FTU_PORT_DELAY i) delay).set (Reg.FTU_PORT_PEERLOCK i) (leAt f.payload 1 1)
      if s.flag Reg.FTU_CTL_ROOT ∨ s.parentNow ≠ some i.val then s
      else (s.set Reg.FTU_OFFSET_DELAY (s.get (Reg.FTU_PORT_DELAY i))).ftSteer i theta
    else s

/-! ### Register writes and losses -/

/-- FT becomes the value loaded (R302); a load equal to FT moves nothing (R301). -/
def State.ftLoad (s : State) (n : Nat) : State := if n = s.ft then s else s.ftTo (n * 256)

/-- TIME_LOAD (R302): a write of FTU_LOAD. -/
def State.timeLoad (s : State) (v : Word64) : State :=
  let n := v.toNat
  let refuse (s : State) : State := s.occur 0x0901 0 (leBytes 8 n ++ leBytes 8 s.ft)
  if !s.flag Reg.FTU_CTL_ROOT then s
  else
    match s.get Reg.FTU_STATUS_STATE with
    | 0 =>
      if s.ftu.wasLocked ∧ n < s.ft then refuse s
      else
        let s := s.ftLoad n
        { s with ftu := { s.ftu with loadedOff := true } }
    | 1 => (s.ftLoad n).ftLocked 0
    | 3 => if n < s.ft then refuse s else s.ftLoad n
    | _ => s

def execTimeLoad (v : Word64) (s : State) : Out := s.run fun s => s.timeLoad v

/-- FT_ENABLE: EN written 1 (R307). -/
def State.ftEnable (s : State) : State :=
  let s := s.set Reg.FTU_CTL_EN 1
  if s.get Reg.FTU_STATUS_STATE ≠ 0 then s
  else
    let root := s.flag Reg.FTU_CTL_ROOT
    if s.ftu.wasLocked ∨ (root ∧ s.ftu.loadedOff) then s.ftLocked (if root then 0 else s.get Reg.FTU_STATUS_DEPTH)
    else s.set Reg.FTU_STATUS_STATE 1

def execFtEnable (s : State) : Out := s.run State.ftEnable

/-- FT_DISABLE: EN written 0 (R307). -/
def State.ftDisable (s : State) : State :=
  ((s.set Reg.FTU_CTL_EN 0).set Reg.FTU_STATUS_STATE 0).set Reg.FTU_RATE_RATE 0

def execFtDisable (s : State) : Out := s.run State.ftDisable

/-- ROOT_WRITE: ROOT written 1 (R307). -/
def State.rootWrite (s : State) : State :=
  let st := s.get Reg.FTU_STATUS_STATE
  let s := (s.set Reg.FTU_CTL_ROOT 1).set Reg.FTU_STATUS_PARENT 0xf
  if 2 ≤ st ∧ st ≤ 5 then s.ftLocked 0 else s

def execRootWrite (s : State) : Out := s.run State.rootWrite

/-- RESYNC written 1 (R307). -/
def State.resync (s : State) : State :=
  if s.get Reg.FTU_STATUS_STATE = 0 then s
  else ((s.set Reg.FTU_STATUS_STATE 1).set Reg.FTU_STATUS_DEPTH 0xff).set Reg.FTU_STATUS_PARENT 0xf

def execResync (s : State) : Out := s.run State.resync

/-- PARENT_LOST: no parent is eligible (R307). -/
def execParentLost (s : State) : Out := s.run fun s =>
  if s.get Reg.FTU_STATUS_STATE = 3 ∧ !s.flag Reg.FTU_CTL_ROOT ∧ s.parentNow.isNone then
    let s := (s.set Reg.FTU_STATUS_STATE 4).set Reg.FTU_STATUS_PARENT 0xf
    { s with ftu := { s.ftu with holdSince := s.now } }
  else s

/-- HOLDOVER_TIMEOUT: holdover has lasted longer than HOLDMAX (R309). -/
def execHoldoverTimeout (s : State) : Out := s.run fun s =>
  if s.get Reg.FTU_STATUS_STATE = 4 ∧ !s.flag Reg.FTU_STATUS_OOS ∧
      s.ftu.holdSince + 1000000 * s.get Reg.FTU_CTL_HOLDMAX < s.now then
    (s.set Reg.FTU_STATUS_OOS 1).occur 0x0902 0 (leBytes 4 ((s.now - s.ftu.holdSince) / 1000000))
  else s

end Sys2Proof.Machine
end

