-- ==== Sys2Proof/Machine/Links.lean ====
section
/-! DEFINITION. Machine/Links.lean: the commands of the ports: enabling, training, identity, flits, drains, lanes, light words, the
service button, and the pattern generators and checkers (R233 to R267, R345, R491 to R494, R523 to R525).
The choices of the model here: logs 9, 42, 46 and 47. -/

namespace Sys2Proof.Machine

/-! ### Training -/

/-- A training of a port begins, in `st`: trainings after the first are counted, and one that follows a timeout was counted
with it (R247, R265). -/
def State.trainBegin (s : State) (i st : Nat) : State :=
  let x := s.port i
  let s := if x.trainedOnce ∧ x.attempts = 0 then s.sat (Reg.LNK_ERR_RETRAINS i) 1 else s
  (s.updPort i fun x => { x with trainedOnce := true }).linkTo i st

/-- Physical lanes of a port in a mask. -/
def laneMask (i m : Nat) : Nat := m % 2 ^ physLanes i

/-- The signal lanes of a port (R266). -/
def State.setSignal (s : State) (i m : Nat) : State :=
  (List.range (physLanes i)).foldl (fun s n => s.set (Reg.LNK_LANE_STATUS_SIGNAL i n) (bit (m.testBit n))) s

/-- Lanes that have not trained when step 2 ends are failed (R248). -/
def State.setTrained (s : State) (i m : Nat) : State :=
  (List.range (physLanes i)).foldl (fun s n => s.set (Reg.LNK_LANE_STATUS_FAILED i n) (bit (!m.testBit n)))
    (s.updPort i fun x => { x with trained := m, attempts := 0 })

/-- Interpolator cells that training chose (R248, R266; log 1). -/
def State.setInterp (s : State) (i : Nat) : State :=
  (List.range (physLanes i)).foldl (fun s n => (s.set (Reg.LNK_LANE_STATUS_INTERP i n) (s.fresh % 4)).drawn) s

/-- A fast relock loads the saved record (R248): its spare, and the lanes' interpolator cells. -/
def State.eqLoad (s : State) (i : Nat) (r : Option EqRec) : State :=
  match r with
  | none => s
  | some r =>
    let s := if r.spare < physLanes i then s.set (Reg.LNK_LANEMAP_SPARE i) r.spare else s
    (List.range (physLanes i)).foldl (fun s n => s.set (Reg.LNK_LANE_STATUS_INTERP i n) (r.interp.getD n 0)) s

/-- SIGNAL_QUALIFIED: signal on `lanes` for 1 ms in DETECT (R247, R248, R250, R366). -/
def execSignalQualified (i : Fin 11) (lanes : Nat) (s : State) : Out := s.run fun s =>
  let m := laneMask i lanes
  if s.linkState i ≠ 1 ∨ popCount 17 m < 4 ∨ s.circSteers i then s
  else
    let s := s.setSignal i m
    let r := s.eqRead i
    let s := r.2.set (Reg.LNK_EQSAVE_VALID i) (bit r.1.isSome)
    if r.1.isSome ∧ s.flag (Reg.LNK_CTL_FASTEN i) then
      ((s.updPort i fun x => { x with fastPeer := r.1.map (·.peer) }).eqLoad i r.1).trainBegin i 3
    else (s.updPort i fun x => { x with fastPeer := none }).trainBegin i 2

/-- TRAINING_COMPLETE: cold training ends with these lanes trained and this spare chosen (R247, R248, R488, R494). -/
def execTrainingComplete (i : Fin 11) (lanes : Nat) (spare : Fin 17) (s : State) : Out := s.run fun s =>
  let m := laneMask i lanes
  if s.linkState i ≠ 2 ∨ popCount 17 m < needLanes i ∨ physLanes i ≤ spare.val then s
  else
    let s := (((s.setTrained i m).setInterp i).set (Reg.LNK_LANEMAP_SPARE i) spare).set (Reg.LNK_STATUS_RESTORED i) 0
    let s := s.calRun i (logLanes i ≤ popCount 17 m) false
    s.linkTo i 4

/-- TRAINING_TIMEOUT: 128 ms without completion (R247). -/
def execTrainingTimeout (i : Fin 11) (s : State) : Out := s.run fun s =>
  if s.linkState i ≠ 2 ∨ !s.stateFor i 128000000 then s
  else
    let n := (s.port i).attempts + 1
    let s := (s.linkClear i).sat (Reg.LNK_ERR_RETRAINS i) 1
    if n < 3 then (s.updPort i fun x => { x with attempts := n }).linkTo i 1
    else
      let s := (s.updPort i fun x => { x with attempts := 0 }).linkTo i 13
      match s.circuit i with
      | some c => if c.phase = 7 then s.circEnd i 0x07 else s
      | none => s

/-- RELOCK_COMPLETE: a fast relock ends with these lanes trained (R247, R248). -/
def execRelockComplete (i : Fin 11) (lanes : Nat) (s : State) : Out := s.run fun s =>
  let m := laneMask i lanes
  if s.linkState i ≠ 3 ∨ popCount 17 m < needLanes i then s
  else ((s.setTrained i m).set (Reg.LNK_STATUS_RESTORED i) 1).linkTo i 4

/-- RELOCK_TIMEOUT: 1.5 ms without completion (R247); the cold training that follows is counted (R265). -/
def execRelockTimeout (i : Fin 11) (s : State) : Out := s.run fun s =>
  if s.linkState i ≠ 3 ∨ !s.stateFor i 1500000 then s
  else ((s.eqStale i).updPort i fun x => { x with fastPeer := none }).trainBegin i 2

/-- ALIGN_COMPLETE: FEC lock and deskew on these lanes (R247, R248). -/
def execAlignComplete (i : Fin 11) (lanes : Nat) (s : State) : Out := s.run fun s =>
  let m := laneMask i lanes &&& (s.port i).trained
  if s.linkState i ≠ 4 ∨ popCount 17 m < needLanes i then s
  else
    let s := (List.range (physLanes i)).foldl (fun s n =>
      let b := bit (m.testBit n)
      ((s.set (Reg.LNK_LANE_STATUS_BLOCKLOCK i n) b).set (Reg.LNK_LANE_STATUS_FECLOCK i n) b).set (Reg.LNK_LANE_STATUS_FAILED i n) (1 - b)) s
    let s := s.updPort i fun x => { x with trained := m, identCount := 0, identLast := none }
    let spare := s.get (Reg.LNK_LANEMAP_SPARE i)
    (s.setMap i spare (s.healthyLanes i spare)).linkTo i 5

/-! ### Identity -/

/-- WIDTH of an IDENT payload (R251): the lanes trained, 4, 8 or 16. -/
def State.identWidth (s : State) (i : Nat) : Nat :=
  let n := popCount 16 (s.healthyLanes i (s.get (Reg.LNK_LANEMAP_SPARE i)))
  if 16 ≤ n then 16 else if 8 ≤ n then 8 else 4

/-- The port's own IDENT payload (R251, R524). -/
def State.identPayload (s : State) (i : Nat) : List Byte :=
  let serial := (List.range 16).map fun k => Config.serial.getD k 0
  leBytes 2 s.ownMod ++ leBytes 1 i ++ leBytes 1 (s.get (Reg.LNK_ID_EPOCH i)) ++ leBytes 4 (s.get (Reg.LNK_ID_FEAT i)) ++ serial
    ++ leBytes 1 ((s.jig.ident.map (·.span)).getD 0) ++ leBytes 1 (s.identWidth i)
    ++ leBytes 1 (s.get (Reg.LNK_STATUS_SPAREOK i))

/-- A received IDENT payload. -/
def parseIdent (d : List Byte) : IdentInfo :=
  { modnum := leAt d 0 2, port := leAt d 2 1, epoch := leAt d 3 1, feat := leAt d 4 4, serial := slice d 8 16, span := leAt d 24 1,
    width := leAt d 25 1, spareok := leAt d 26 1 }

/-- A peer is the expected one (R253, R524). -/
def State.peerMatches (s : State) (i modnum port : Nat) : Bool :=
  if i = 10 then port == 0x20 && decide (modnum < 4)
  else s.flag (Reg.RTR_PEER_VALID i) && s.get (Reg.RTR_PEER_MODNUM i) == modnum && s.get (Reg.RTR_PEER_PORT i) == port

/-- A peer that matches is accepted (R254): the epochs differ by at most 1, and every mandatory feature is common. -/
def State.peerAccepted (s : State) (i : Nat) : Bool :=
  let own := s.get (Reg.LNK_ID_EPOCH i)
  let peer := s.get (Reg.LNK_STATUS_PEER_EPOCH i)
  let feat := s.get (Reg.LNK_PEER_FEAT i)
  decide (peer ≤ own + 1 ∧ own ≤ peer + 1) && feat.testBit 0 && feat.testBit 1 && feat.testBit 5

/-- The port is offered to the router (R247). -/
def State.activate (s : State) (i : Nat) : State :=
  let s := ((s.set (Reg.LNK_CTL_DRAIN i) 0).linkTo i 6).transitGo
  let s := if i = 10 then s.releaseVecs else s
  s.circDone i

/-- A circuit in its relock phase ends (R366). -/
def State.circIdent (s : State) (i result : Nat) : State :=
  match s.circuit i with
  | some c => if c.phase = 7 then s.circEnd i result else s
  | none => s

/-- The peer does not match (R247, R253, R366). -/
def State.miswire (s : State) (i : Nat) : State :=
  let s := (s.linkTo i 7).occur 0x0702 i (leBytes 2 (s.get (Reg.LNK_PEER_MODNUM i)) ++ leBytes 1 (s.get (Reg.LNK_PEER_PORT i)))
  s.circIdent i 0x08

/-- The comparison of R253 to R255, for a peer whose IDENT is held. A port that becomes ACTIVE without lanes for any width that both ends
run goes down at once, as its row of R247 has it. -/
def State.judgePeer (s : State) (i : Nat) : State :=
  if !s.peerMatches i (s.get (Reg.LNK_PEER_MODNUM i)) (s.get (Reg.LNK_PEER_PORT i)) then s.miswire i
  else if s.peerAccepted i then
    let t := s.activate i
    if (s.identPlan i).isNone then t.linkDown i 1 else t
  else
    let feat := ((s.port i).identLast.map (·.feat)).getD 0
    ((s.linkTo i 8).occur 0x0703 i (leBytes 1 (s.get (Reg.LNK_STATUS_PEER_EPOCH i)) ++ leBytes 4 feat)).circIdent i 0x09

/-- IDENT ends (R246, R250, R251, R254). -/
def State.identEnd (s : State) (i : Nat) (d : IdentInfo) : State :=
  let fast := (s.port i).fastPeer
  if fast.any fun q => q != (d.modnum, d.port) then
    -- the record belongs to another peer: it is stale, and the port trains cold
    let s := s.eqStale i
    (s.updPort i fun x => { x with fastPeer := none, identCount := 0, identLast := none }).trainBegin i 2
  else
    let s := (s.set (Reg.LNK_STATUS_PEER_EPOCH i) d.epoch).set (Reg.LNK_PEER_MODNUM i) d.modnum
    let s := (s.set (Reg.LNK_PEER_PORT i) d.port).set (Reg.LNK_PEER_FEAT i) (s.get (Reg.LNK_ID_FEAT i) &&& d.feat)
    let s := s.updPort i fun x => { x with credits := vcBuffers i }
    match s.identPlan i with
    | none => s.judgePeer i
    | some (sp, m) =>
      let m := if i < 10 ∧ d.width < popCount 16 m then lowLanes m d.width else m
      (s.setMap i sp m).judgePeer i

/-- IDENT_SEND (R251). -/
def execIdentSend (i : Fin 11) (s : State) : Out := s.run fun s =>
  if s.linkState i = 5 then s.sendPlain i 3 (s.identPayload i) else s

/-- IDENT_FLIT (R251, R255): `acked` when the peer's ACK shows that the port's own copies arrived. -/
def execIdentFlit (i : Fin 11) (f : Flit) (acked : Bool) (s : State) : Out := s.run fun s =>
  if f.ftype ≠ 3 then s
  else
    let r := s.flitIn i f
    let s := r.2
    if !r.1 then s
    else
      match s.linkState i with
      | 5 =>
        let d := parseIdent f.payload
        let n := if (s.port i).identLast = some d then (s.port i).identCount + 1 else 1
        let s := s.updPort i fun x => { x with identLast := some d, identCount := n }
        if 3 ≤ n ∧ acked then s.identEnd i d else s
      | 7 => s.sendPlain i 3 (s.identPayload i)
      | 8 => s.sendPlain i 3 (s.identPayload i)
      | _ => s

/-- The expected peer of a port is set, and the comparison made (R253). -/
def State.peerSet (s : State) (p modnum port valid : Nat) : State :=
  let s := ((s.set (Reg.RTR_PEER_MODNUM p) modnum).set (Reg.RTR_PEER_PORT p) port).set (Reg.RTR_PEER_VALID p) valid
  let st := s.linkState p
  let ok := s.peerMatches p (s.get (Reg.LNK_PEER_MODNUM p)) (s.get (Reg.LNK_PEER_PORT p))
  if (s.circuit p).any Circuit.moving then s
  else if st = 7 ∧ ok then s.judgePeer p
  else if !ok ∧ (st = 6 ∨ st = 9 ∨ st = 10 ∨ st = 12 ∨ st = 14) then
    let s := s.miswire p
    if st = 12 then s.calPortEnd p false else s.calPortAbort p
  else s

/-- A port code as a register write stores it (R278): the reserved codes become 0xF. -/
def portCode (n : Nat) : Nat := if 10 ≤ n then 15 else n

/-- A write of RTR_PEER (R253, R278, R298); OWNED of a torus port is not the driver's to write. -/
def State.peerWrite (s : State) (p : Nat) (v : Word64) : State :=
  let n := v.toNat
  let s := if 6 ≤ p then s.set (Reg.RTR_PEER_OWNED p) (bits n 25 1) else s
  s.peerSet p (bits n 0 13) (portCode (bits n 16 4)) (bits n 24 1)

/-! ### Enabling, test and loss of signal -/

/-- LINK_EN_ON: EN written 1 (R247); nothing while the port is held in reset (R510). -/
def State.linkEn (s : State) (i : Nat) : State :=
  if s.portHeld i then s
  else
    let s := s.set (Reg.LNK_CTL_EN i) 1
    if s.linkState i = 0 then s.linkTo i 1 else s

def execLinkEnOn (i : Fin 11) (s : State) : Out := s.run fun s => s.linkEn i

/-- LINK_EN_OFF: EN written 0 (R247). -/
def State.linkOff (s : State) (i : Nat) : State :=
  let s := s.set (Reg.LNK_CTL_EN i) 0
  if s.linkState i = 0 then s else s.linkGone i 0

def execLinkEnOff (i : Fin 11) (s : State) : Out := s.run fun s => s.linkOff i

/-- LINK_TEST_ON: TEST written 1 (R247). -/
def State.testOn (s : State) (i : Nat) : State :=
  let st := s.linkState i
  if !s.portHeld i ∧ (st = 0 ∨ st = 7 ∨ st = 8 ∨ st = 10 ∨ st = 13) then (s.linkGone i 11).set (Reg.LNK_CTL_TEST i) 1 else s

def execLinkTestOn (i : Fin 11) (s : State) : Out := s.run fun s => s.testOn i

/-- LINK_TEST_OFF: TEST written 0 (R247); the checkers stop with the test (R262). -/
def State.testOff (s : State) (i : Nat) : State :=
  let s := s.set (Reg.LNK_CTL_TEST i) 0
  if s.linkState i ≠ 11 then s
  else ((List.range (physLanes i)).foldl (fun s n => s.set (Reg.LNK_PAT_CTL_LOCK i n) 0) s).linkTo i 1

def execLinkTestOff (i : Fin 11) (s : State) : Out := s.run fun s => s.testOff i

/-- SIGNAL_LOST: no signal on any lane for 1 ms (R247). -/
def execSignalLost (i : Fin 11) (s : State) : Out := s.run fun s =>
  let st := s.linkState i
  if st = 7 ∨ st = 8 ∨ st = 9 ∨ st = 10 ∨ st = 12 ∨ st = 13 then
    let s := if st = 9 then (s.set (Reg.LNK_STATUS_PULLED i) 1).linkEvent i 0x0705 [] else s
    let s := s.linkEvent i 0x0706 (leBytes 1 st ++ leBytes 1 2)
    let s := s.linkGone i (s.idleState i)
    if i.val = 10 then s.occur 0x1203 i (leBytes 1 st ++ leBytes 2 s.host.resend) else s
  else s

/-- EQ_SAVE: SAVE written 1 (R250). -/
def execEqSave (i : Fin 11) (s : State) : Out := s.run fun s => s.eqSave i

/-! ### Flits -/

/-- DATA_FLIT (R244, R268). -/
def execDataFlit (i : Fin 11) (f : Flit) (s : State) : Out := s.run fun s =>
  if f.ftype ≠ 1 then s
  else
    let r := s.flitIn i f
    if r.1 then r.2.dataIn i f else r.2

/-- NULL_FLIT: a NULL flit, or one of a reserved type (R243). -/
def execNullFlit (i : Fin 11) (f : Flit) (s : State) : Out := s.run fun s =>
  if f.ftype = 0 ∨ 6 < f.ftype then (s.flitIn i f).2 else s

/-- The retry limit as it acts (R265). -/
def State.retryLimit (s : State) (i : Nat) : Nat := max 1 (s.get (Reg.LNK_CTL_RETRY_LIMIT i))

/-- NAK: the transmitter sends again from ACK + 1 (R245); RETRY_LIMIT NAKs for one SEQ within any 1 ms take the link down. -/
def execNak (i : Fin 11) (f : Flit) (s : State) : Out := s.run fun s =>
  if f.ftype ≠ 2 then s
  else
    let r := s.flitIn i f
    let s := r.2
    if !r.1 then s
    else
      let seq := (f.ack + 1) % 4096
      let s := (s.sat (Reg.LNK_ERR_REPLAYS i) 1).count 4 i 0x005 1
      let old := if (s.port i).naks.1 = seq then (s.port i).naks.2.filter fun t => decide (s.now ≤ t + 1000000) else []
      let q : Nat × List Nat := (seq, s.now :: old)
      let s := s.updPort i fun x => { x with naks := q, replayAt := if x.replay.isEmpty then none else some 0 }
      let st := s.linkState i
      if s.retryLimit i ≤ q.2.length ∧ (st = 6 ∨ st = 9 ∨ st = 12) then s.linkDown i 0 else s

/-- LANECHG (R258): a proposal is accepted, unless this end has proposed and its module number is the lower; an acceptance
makes the change. -/
def execLanechg (i : Fin 11) (f : Flit) (s : State) : Out := s.run fun s =>
  if f.ftype ≠ 4 then s
  else
    let r := s.flitIn i f
    let s := r.2
    if !r.1 then s
    else
      let spare := leAt f.payload 1 1
      let mask := leAt f.payload 2 2
      let num := leAt f.payload 4 1
      let mine := (s.port i).change
      match leAt f.payload 0 1 with
      | 1 =>
        if (mine.any (·.mine)) ∧ s.ownMod < s.get (Reg.LNK_PEER_MODNUM i) then s
        else
          let failed := if spare ≠ s.get (Reg.LNK_LANEMAP_SPARE i) then spare
            else ((List.range 16).find? fun l => !mask.testBit l).elim spare (physOf spare)
          (s.sendControl i 4 (laneChangeBytes 2 spare mask num)).applyLanes i spare mask failed
      | 2 =>
        match mine with
        | some c => if c.mine ∧ c.num = num then s.applyLanes i c.spare c.mask c.failed else s
        | none => s
      | _ => s

/-! ### Drains -/

/-- Both directions are drained (R247, R260, R491). -/
def State.drainDone (s : State) (i : Nat) : State :=
  let x := s.port i
  if s.linkState i ≠ 9 ∨ !x.drainedSent ∨ !x.drainedGot then s
  else if x.calDrain then s.linkTo i 12
  else
    let s := (s.updPort i fun x => { x with safeFromDrain := true }).linkTo i 10
    s.circFail i 0x0a

/-- A drained or draining port returns to ACTIVE (R247). -/
def State.drainBack (s : State) (i : Nat) (tell : Bool) : State :=
  let s := if tell then s.sendControl i 5 [3, 0] else s
  (s.updPort i fun x => { x with calDrain := false, safeFromDrain := false, drainedSent := false, drainedGot := false }).activate i

/-- A service drain of an ACTIVE port, or in place of a calibration drain (R247, R260, R493). -/
def State.serviceDrain (s : State) (i : Nat) : State :=
  if s.linkState i = 6 then s.drainBegin i false true
  else if s.linkState i = 9 ∧ (s.port i).calDrain then (s.calPortAbort i).drainBegin i false true
  else s

/-- LINK_DRAIN_WRITE: DRAIN written 1 (R260, R493). -/
def State.drainWrite (s : State) (i : Nat) : State := (s.set (Reg.LNK_CTL_DRAIN i) 1).serviceDrain i

def execLinkDrainWrite (i : Fin 11) (s : State) : Out := s.run fun s => s.drainWrite i

/-- A second press or DRAIN written 0 (R247). -/
def State.drainCancel (s : State) (i : Nat) : State :=
  let st := s.linkState i
  let x := s.port i
  if (st = 9 ∧ !x.calDrain) ∨ (st = 10 ∧ x.safeFromDrain) then s.drainBack i true
  else if st = 10 then s.linkTo i (s.idleState i)
  else s

/-- LINK_DRAIN_CANCEL: DRAIN written 0 (R247). -/
def State.drainUnwrite (s : State) (i : Nat) : State := (s.set (Reg.LNK_CTL_DRAIN i) 0).drainCancel i

def execLinkDrainCancel (i : Fin 11) (s : State) : Out := s.run fun s => s.drainUnwrite i

/-- A condition of R490 that keeps a port from calibration; `peer` leaves out the declines of the peer, which a peer's own
request overrides. -/
def State.portCalBlocked (s : State) (i : Nat) (peer : Bool) : Bool :=
  decide (2 ≤ s.get Reg.PWR_STATUS_STATE) || s.linkState i != 6 || ((s.circuit i).any Circuit.moving) || s.serdesOn i
    || (!peer && s.cal.declined.any fun d => d.1 == i && decide (s.now < d.2 + 10000000))

/-- DRAIN_FLIT (R243, R260, R491, R492). -/
def execDrainFlit (i : Fin 11) (f : Flit) (s : State) : Out := s.run fun s =>
  if f.ftype ≠ 5 then s
  else
    let r := s.flitIn i f
    let s := r.2
    if !r.1 then s
    else
      let st := s.linkState i
      let x := s.port i
      match leAt f.payload 0 1 with
      | 1 =>
        if leAt f.payload 1 1 = 1 then
          if st = 9 ∧ x.calDrain then s
          else if (s.get Reg.CAL_STATUS_PORTRUN != 0x7f && s.get Reg.CAL_STATUS_PORTRUN != i) || s.portCalBlocked i true then
            s.sendControl i 5 [3, 0]
          else (s.set Reg.CAL_STATUS_PORTRUN i).drainBegin i true false
        else if st = 6 then s.drainBegin i false false
        else if st = 9 ∧ x.calDrain then (s.calPortAbort i).drainBegin i false false
        else s
      | 2 => if st = 9 then (s.updPort i fun x => { x with drainedGot := true }).drainDone i else s
      | 3 =>
        if st = 9 ∧ x.calDrain then
          let s := s.calPortAbort i
          let s := { s with cal := { s.cal with declined := alSet s.cal.declined i s.now } }
          s.drainBack i false
        else if st = 9 ∨ (st = 10 ∧ x.safeFromDrain) then s.drainBack i false
        else s
      | _ => s

/-- DRAIN_BUFFER_EMPTY: queued flits are sent and the replay buffer is empty (R260). -/
def execDrainBufferEmpty (i : Fin 11) (s : State) : Out := s.run fun s =>
  let x := s.port i
  if s.linkState i = 9 ∧ !x.drainedSent ∧ s.portEmpty i ∧ x.replay.isEmpty ∧ x.ctlQ.isEmpty then
    ((s.updPort i fun x => { x with drainedSent := true }).sendControl i 5 [2, 0]).drainDone i
  else s

/-! ### Lanes and light -/

/-- The port's lanes are trained and carry blocks. -/
def State.lanesUp (s : State) (i : Nat) : Bool :=
  match s.linkState i with
  | 5 => true
  | 6 => true
  | 7 => true
  | 8 => true
  | 9 => true
  | 10 => (s.port i).safeFromDrain
  | 12 => true
  | 14 => true
  | _ => false

/-- A lane fails for what its control blocks show, once. -/
def State.laneFailIf (s : State) (i n : Nat) (c : Bool) : State := if c && !s.flag (Reg.LNK_LANE_STATUS_FAILED i n) then s.laneFail i n else s

/-- Codewords that the receiver of a lane has corrected or could not correct (R236, R256, R266): more uncorrectable ones in 1 ms than
UCW_LIMIT fail the lane. -/
def State.codewords (s : State) (i n fixed lost : Nat) : State :=
  let s := (s.inc (Reg.LNK_FEC_CORRECTED i n) fixed).sat (Reg.LNK_FEC_UNCORR i n) lost
  let old := (s.port i).ucw.filter fun (e : Nat × Nat × Nat) => decide (s.now < e.2.1 + 1000000)
  let l := if lost = 0 then old else (n, s.now, lost) :: old
  let s := s.updPort i fun x => { x with ucw := l }
  s.laneFailIf i n (decide (s.get (Reg.LNK_CTL_UCW_LIMIT i) < ((l.filter (·.1 == n)).map (·.2.2)).sum))

/-- A control block's CRC is good (R237). -/
def blockGood (d : List Byte) : Bool := leAt d 28 4 == crc32c (d.take 28)

/-- The marker that a port sends on a lane at a count (R237, R238): on every lane at the same block time, every 16,384 blocks. -/
def State.markerBlock (s : State) (i n count : Nat) : List Byte :=
  let d := leBytes 1 1 ++ leBytes 1 (s.get (Reg.LNK_LANE_STATUS_LOGICAL i n)) ++ leBytes 1 n ++ leBytes 1 0 ++ leBytes 2 count ++ List.replicate 22 0
  d ++ leBytes 4 (crc32c d)

/-- LANE_MARKER: a control block arrives on a physical lane, with the codewords that the receiver has corrected and could not correct since
the last one (R237, R238, R256). Of a marker the count is kept, by which the lane is deskewed; 4 markers in succession with a bad CRC fail
the lane. A block of a reserved type is discarded and counted; an idle says nothing, and a light word has its own command. -/
def execLaneMarker (i : Fin 11) (lane : Fin 17) (m : MarkerBlock) (s : State) : Out := s.run fun s =>
  let d := m.block
  if !s.lanesUp i ∨ physLanes i ≤ lane.val then s
  else
    let s := s.codewords i lane m.fixed m.lost
    match leAt d 0 1 with
    | 0 => s
    | 1 =>
      let ok := blockGood d
      let n := if ok then 0 else alGet 0 (s.port i).markerFails lane.val + 1
      let s := s.updPort i fun x =>
        { x with markerFails := alSet x.markerFails lane.val (if n = 4 then 0 else n),
                 markers := if ok then alSet x.markers lane.val (leAt d 4 2) else x.markers }
      s.laneFailIf i lane (n == 4)
    | 2 => s
    | _ => s.sat (Reg.LNK_ERR_BADCTL i) 1

/-- LANE_FAILURE: block lock is lost for 1 µs (R256, R257); the other two causes come with the lane's markers. -/
def execLaneFailure (i : Fin 11) (lane : Fin 17) (s : State) : Out := s.run fun s =>
  if !s.lanesUp i ∨ physLanes i ≤ lane.val then s
  else
    let s := s.set (Reg.LNK_LANE_STATUS_BLOCKLOCK i lane) 0
    if s.flag (Reg.LNK_LANE_STATUS_FAILED i lane) then s else s.laneFail i lane

/-- The bytes of a light word that its CRC covers (R240). -/
def lightBytes (w : LightWord) : List Byte :=
  leBytes 1 2 ++ leBytes 1 w.lane ++ leBytes 2 w.rxpwr ++ leBytes 2 w.txpwr ++ leBytes 1 w.flags ++ leBytes 1 w.seq ++ leBytes 4 w.conv ++ leBytes 16 0

/-- LIGHT_WORD (R241): stored and passed to the alignment loop, or discarded and counted. -/
def execLightWord (i : Fin 11) (w : LightWord) (s : State) : Out := s.run fun s =>
  if i.val < 6 ∨ i.val = 10 ∨ w.crc ≠ crc32c (lightBytes w) ∨ 16 ≤ w.lane then s.sat (Reg.LNK_ERR_BADCTL i) 1
  else
    let n := physOf (s.get (Reg.LNK_LANEMAP_SPARE i)) w.lane
    let s := ((s.set (Reg.LNK_LIGHT_RXPWR i n) w.rxpwr).set (Reg.LNK_LIGHT_TXPWR i n) w.txpwr).set (Reg.LNK_LIGHT_FLAGS i n) w.flags
    let s := (s.set (Reg.LNK_LIGHT_SEQ i n) w.seq).set (Reg.LNK_LIGHT_VALID i n) 1
    ((s.updPort i fun x => { x with lightAt := alSet x.lightAt n s.now }).count 4 i 0x008 1).circLight i w.lane w s.ft

/-- LIGHT_WORD_TIMEOUT: 100 µs without a good light word on a logical lane (R241). -/
def execLightWordTimeout (i : Fin 11) (lane : Fin 16) (s : State) : Out := s.run fun s =>
  let n := physOf (s.get (Reg.LNK_LANEMAP_SPARE i)) lane
  if (s.port i).lightAt.any fun x => x.1 == n && decide (s.now < x.2 + 100000) then s else s.set (Reg.LNK_LIGHT_VALID i n) 0

/-- LNK_LIGHT.AGE (R266): µs since the last good light word, saturating. -/
def State.lightAge (s : State) (i n : Nat) : Nat :=
  match (s.port i).lightAt.find? (·.1 == n) with
  | some (_, t) => min 0x7fff ((s.now - t) / 1000)
  | none => 0x7fff

/-! ### The service button -/

/-- What an accepted press does, by state (R247, R259, R493). -/
def State.press (s : State) (i : Nat) : State :=
  let x := s.port i
  match s.linkState i with
  | 6 => s.serviceDrain i
  | 9 => if x.calDrain then s.serviceDrain i else s.drainCancel i
  | 10 => s.drainCancel i
  | 11 => s
  | 12 => s.updPort i fun x => { x with pressWaits := true }
  | 14 => s
  | _ => (s.linkGone i 10).circFail i 0x0a

/-- SERVICE_PRESS: an accepted press (R259, R261): in TEST and PARK the port's state ignores it, but it is shown, logged and raises the
interrupt like any accepted press. -/
def execServicePress (i : Fin 11) (s : State) : Out := s.run fun s =>
  if s.portHeld i then s
  else (((s.set (Reg.LNK_STATUS_BUTTON i) 1).occur 0x0704 i (leBytes 1 (s.linkState i))).press i).raiseVec 9

/-! ### Pattern generators and checkers -/

/-- The registers of a pattern set. -/
def patBase (p : PatSet) : Nat :=
  match p with
  | .lane i n => Reg.LNK_PAT_CTL i n
  | .mesh m c => Reg.MSH_PAT_CTL m c
  | .servo v => Reg.SRV_PAT_CTL v

def patPat (p : PatSet) : Loc := ⟨patBase p, 0, 4⟩
def patGen (p : PatSet) : Loc := ⟨patBase p, 4, 1⟩
def patChk (p : PatSet) : Loc := ⟨patBase p, 5, 1⟩
def patLock (p : PatSet) : Loc := ⟨patBase p, 6, 1⟩
def patErrors (p : PatSet) : Loc := ⟨patBase p + 0x10, 0, 48⟩
def patBits (p : PatSet) : Loc := ⟨patBase p + 0x18, 0, 64⟩

/-- The set exists: H has 5 lanes. -/
def patThere (p : PatSet) : Bool :=
  match p with
  | .lane i n => decide (n.val < physLanes i)
  | _ => true

/-- The generator and checker of a set may run (R262, R264, R345). -/
def State.patRuns (s : State) (p : PatSet) : Bool :=
  match p with
  | .lane i _ => s.linkState i == 11
  | .mesh _ _ => !s.flag Reg.JIG_STATUS_LOADED
  | .servo v => s.flag (Reg.SRV_CTL_TEST v)

/-- What the set sends comes back to its own checker: a bridge's wires, and a lane that loops (R263, R264). -/
def State.patLoops (s : State) (p : PatSet) : Bool :=
  match p with
  | .lane i _ => s.flag (Reg.LNK_CTL_LOOP i)
  | .mesh _ _ => true
  | .servo v => s.flag (Reg.SRV_CTL_LOOP v)

/-- PAT values that a set accepts (R262, R264, R345). -/
def patAllowed (p : PatSet) (n : Nat) : Bool :=
  match p with
  | .lane _ _ => decide (n ≤ 9)
  | _ => decide (n ≤ 5) || n == 9

/-- CLR (R267). -/
def State.patClear (s : State) (p : PatSet) : State := (s.set (patErrors p) 0).set (patBits p) 0

/-- INJ inverts one transmitted bit (R266, R267): one error for a checker that sees it. -/
def State.patInject (s : State) (p : PatSet) : State :=
  if s.patRuns p ∧ s.flag (patGen p) ∧ s.patLoops p ∧ s.flag (patLock p) then s.sat (patErrors p) 1 else s

/-- PATTERN_INJECT and PATTERN_CLEAR (R267). -/
def execPatternInject (p : PatSet) (s : State) : Out := s.run fun s => if patThere p then s.patInject p else s
def execPatternClear (p : PatSet) (s : State) : Out := s.run fun s => if patThere p then s.patClear p else s

/-- The earlier bits whose sum is the next bit of a pattern (R262): the exponents of its polynomial; a USER pattern repeats after 64 bits.
The PAM4 patterns are taken as bits after Gray decoding. None for SSPRQ, which IEEE 802.3dj defines. -/
def patTaps (pat : Nat) : List Nat :=
  match pat with
  | 0 => [7, 6]
  | 1 => [9, 5]
  | 2 => [13, 12, 2, 1]
  | 3 => [15, 14]
  | 4 => [23, 18]
  | 5 => [31, 28]
  | 6 => [13, 12, 2, 1]
  | 7 => [31, 28]
  | 9 => [64]
  | _ => []

/-- The next bit after these, newest first. -/
def patNext (taps : List Nat) (h : List Bool) : Bool := taps.foldl (fun b k => b != h.getD (k - 1) false) false

/-- The bits that a generator sends after these (R262), and so the pattern from its first bits on. -/
def patRun (taps : List Nat) : Nat → List Bool → List Bool
  | 0, _ => []
  | n + 1, h => patNext taps h :: patRun taps n ((patNext taps h :: h).take 64)

/-- The bits of a USER pattern, bit 0 first, rotated by `k` (R262, R263). -/
def userBits (w k : Nat) : List Bool := (List.range 64).map fun n => w.testBit ((n + k) % 64)

/-- A checker: locked, matching bits in succession, bits received, newest first, and errors. -/
abbrev Checker := Bool × Nat × List Bool × Nat

/-- A bit arrives at a checker (R263). Until it locks, the checker takes the received bits for its seed, and it locks after 128 bits that
match the ones before them, or after four USER words; locked, it compares with its own pattern. -/
def checkBit (taps : List Nat) (user : Option Nat) (c : Checker) (b : Bool) : Checker :=
  let (locked, run, h, errs) := c
  let deg := taps.foldl max 0
  let p := patNext taps h
  if locked then (true, run, (p :: h).take 64, errs + bit (b != p))
  else
    let run := if h.length < deg then 0 else if b = p then run + 1 else 0
    let h := (b :: h).take 64
    match user with
    | none => (decide (128 ≤ run), run, h, errs)
    | some w => (decide (192 ≤ run) && (List.range 64).any fun k => userBits w k == h.reverse, run, h, errs)

/-- CHECKER_LOCK: received bits reach a checker that is on (R263). It locks on those that make up its pattern, and while it is locked it
counts those in error. Whether bits make up SSPRQ is not stated in the specification (log 75). -/
def execCheckerLock (c : CheckerBits) (s : State) : Out := s.run fun s =>
  let p := c.set
  let bits := c.bits
  if !patThere p || !s.patRuns p || !s.flag (patChk p) then s
  else
    let pat := s.get (patPat p)
    if pat = 8 then
      if s.flag (patLock p) then s.sat (patErrors p) (Config.ssprqErrors bits)
      else if 128 ≤ bits.length ∧ Config.ssprqErrors bits = 0 then s.set (patLock p) 1
      else s
    else
      let old := alGet (0, []) s.chk (patBase p)
      let user := if pat = 9 then some (s.reg (patBase p + 8)).toNat else none
      let c := bits.foldl (checkBit (patTaps pat) user) (s.flag (patLock p), old.1, old.2, 0)
      let s : State := { s with chk := alSet s.chk (patBase p) (c.2.1, c.2.2.1) }
      (s.set (patLock p) (bit c.1)).sat (patErrors p) c.2.2.2

/-- CHECKER_LOCK_LOSS: `errs` of the last 16,384 bits are in error, which is more than a locked checker bears (R263). -/
def execCheckerLockLoss (p : PatSet) (errs : Nat) (s : State) : Out := s.run fun s =>
  if patThere p ∧ s.flag (patLock p) ∧ 1024 < errs then
    ({ s with chk := s.chk.filter (·.1 != patBase p) }.sat (patErrors p) errs).set (patLock p) 0
  else s

/-- A write of a pattern control register (R262, R264, R267, R345): PAT when the set accepts it, GEN and CHK where they may
run, then CLR and INJ in that order. A checker that is turned off is not locked. -/
def State.patWrite (s : State) (p : PatSet) (w : Word64) : State :=
  let n := w.toNat
  let s := if patAllowed p (bits n 0 4) then s.set (patPat p) (bits n 0 4) else s
  let s := if bits n 4 1 = 0 ∨ s.patRuns p then s.set (patGen p) (bits n 4 1) else s
  let s := if bits n 5 1 = 0 ∨ s.patRuns p then s.set (patChk p) (bits n 5 1) else s
  let s := if bits n 5 1 = 0 then { s with chk := s.chk.filter (·.1 != patBase p) }.set (patLock p) 0 else s
  let s := if bits n 8 1 = 1 then s.patClear p else s
  if bits n 7 1 = 1 then s.patInject p else s

end Sys2Proof.Machine
end

