-- ==== Sys2Proof/Machine/Measure.lean ====
section
/-! DEFINITION. Machine/Measure.lean: measurement registers, extend and the measurement log (R438 to R443), and the firmware
keys in the fuse slots (R445).
The choices of the model here: log 53. -/

namespace Sys2Proof.Machine

/-- Bytes written to consecutive registers of 8 bytes. -/
def State.putWords (s : State) (a : Nat) (l : List Byte) : State :=
  s.forEach (List.range (l.length / 8)) fun s k => s.setReg (a + 8 * k) (BitVec.ofNat 64 (leAt l (8 * k) 8))

/-- Bytes held in `n` consecutive registers. -/
def State.words (s : State) (a n : Nat) : List Byte :=
  ((List.range n).map fun k => leBytes 8 (s.reg (a + 8 * k)).toNat).flatten

/-- A list of bytes cut or filled with zeros to a length. -/
def padTo (n : Nat) (l : List Byte) : List Byte := l.take n ++ List.replicate (n - l.length) 0

/-- The 64 bytes of MEAS r. -/
def State.meas (s : State) (r : Nat) : List Byte := s.words (Reg.SEC_MEAS r 0) 8

/-- A measurement log entry (R443). -/
def logEntry (seq r kind ft : Nat) (d label : List Byte) : List Byte :=
  leBytes 4 seq ++ leBytes 1 r ++ leBytes 1 kind ++ leBytes 2 0 ++ leBytes 8 ft ++ padTo 64 d ++ padTo 16 label
    ++ List.replicate 32 0

/-- Extend MEAS r by a digest (R438): MEAS r ← SHAKE256(MEAS r ‖ D), its count, and a log entry. -/
def State.extendWith (s : State) (r kind : Nat) (d label : List Byte) : State :=
  let s := s.putWords (Reg.SEC_MEAS r 0) (shake256 64 (s.meas r ++ padTo 64 d))
  let s := s.inc (Reg.SEC_EXTCNT_COUNT r) 1
  let n := s.get Reg.SEC_LOGSEQ_NEXT
  (s.putWords (Reg.SEC_LOG (n % 512) 0) (logEntry n r kind s.ft d label)).inc Reg.SEC_LOGSEQ_NEXT 1

/-- An extend by the hardware, with the component's name as LABEL. -/
def State.extend (s : State) (r kind : Nat) (d : List Byte) : State :=
  s.extendWith r kind d (leBytes 16 (Config.logLabel kind r))

/-- The first 32 bytes of SHAKE256 over a public key: the root that it hashes to (R445, R472). -/
def keyRoot (pk : List Byte) : List Byte := shake256 32 pk

/-- The root in fuse slot k (R445). -/
def State.fuseRoot (s : State) (k : Nat) : List Byte := s.words (Reg.SEC_FUSEROOT k 0) 4

/-- The fuse slot in state 1 whose root a key hashes to (R445). -/
def State.keySlot (s : State) (root : List Byte) : Option Nat :=
  (List.range 4).find? fun k => s.get (Reg.SEC_KEYSLOT_STATE k) == 1 && s.fuseRoot k == root

/-- The digest of the fuse block (R440). -/
def State.fuseDigest (s : State) : List Byte :=
  leBytes 64 (Config.fuseDigest ((List.range 4).map fun k => leNat (s.fuseRoot k) * 4 + s.get (Reg.SEC_KEYSLOT_STATE k)))

end Sys2Proof.Machine
end

