-- ==== Sys2Proof/Machine/Settings.lean ====
section
/-! DEFINITION. Machine/Settings.lean: the power envelope (R500 to R502), what runs in each component (R460, R465), and the
settings store (R479, R480, R518, R519).
The choices of the model here: log 56. -/

namespace Sys2Proof.Machine

/-! ### Envelope -/

/-- The spindle clock cap of an envelope in MHz (R500). -/
def envCap (e : Nat) : Nat := if e = 0 then 2000 else if e = 1 then 1600 else 1100

/-- The limits of an envelope in W: the 1 ms average and any 10 µs sample (R500). -/
def envLimit (e : Nat) : Nat × Nat := if e = 0 then (2400, 2760) else if e = 1 then (1800, 2070) else (1200, 1380)

/-- The envelope in force (R501): the lower-power of ENV, where 3 acts as 2, and the ceiling; its cap applies at once, and a
rise of the clock is left to R502. -/
def State.envApply (s : State) : State :=
  let e := max (min 2 (s.get Reg.PWR_CTL_ENV)) (s.get Reg.PWR_STATUS_CEIL)
  let mhz := min (s.get Reg.PWR_STATUS_SPNMHZ) (envCap e)
  ((s.set Reg.PWR_STATUS_ENVNOW e).set Reg.PWR_STATUS_SPNMHZ mhz).set Reg.PWR_STATUS_THROTTLED (bit (decide (mhz < envCap e)))

/-- A write of ENV (R501): one that names more power than the ceiling is clamped and reported. -/
def State.envWrite (s : State) (env : Nat) : State :=
  let c := s.get Reg.PWR_STATUS_CEIL
  let s := (s.set Reg.PWR_CTL_ENV env).envApply
  if min 2 (env % 4) < c then (s.set Reg.PWR_STATUS_CLAMP 1).occur 0x1101 0 (leBytes 1 (env % 4) ++ leBytes 1 c) else s

/-- The ceiling changes (R501). -/
def State.ceilWrite (s : State) (c : Nat) : State := (s.set Reg.PWR_STATUS_CEIL c).envApply

/-! ### Components -/

/-- Place of a component in `UpdState.comps`; COMP 1 and 2 have one place for each pylon. -/
def compIx (c k : Nat) : Nat := if c = 1 then k else if c = 2 then 2 + k else c + 1

/-- A component in the place that pylon k uses. -/
def State.comp (s : State) (c k : Nat) : Comp :=
  s.upd.comps.getD (compIx c k) { slots := [], bootA := (0, 0, true), bootB := (0, 0, true), running := 0, image := Slot.none, started := false }

/-- Change a component. -/
def State.updComp (s : State) (c k : Nat) (f : Comp → Comp) : State :=
  { s with upd := { s.upd with comps := s.upd.comps.modify (compIx c k) f } }

def Comp.slot (x : Comp) (i : Nat) : Slot := x.slots.getD i Slot.none

/-- The image that a component runs in the place of pylon k. -/
def State.image (s : State) (c k : Nat) : Slot := (s.comp c k).image

/-- The component starts the image in a slot. -/
def Comp.start (x : Comp) (i : Nat) : Comp := { x with running := i, image := x.slot i, started := true }

/-- The places that hold a component. -/
def compHomes (c : Nat) : List Nat := if c ≤ 2 then [0, 1] else [0]

/-- The places whose image counts as running (R465): those that have started one, or all when none has. -/
def State.runners (s : State) (c : Nat) : List Nat :=
  let l := (compHomes c).filter fun k => (s.comp c k).started
  if l.isEmpty then compHomes c else l

/-- EP(c) (R465): for COMP 1 and 2 the lower of the two pylons' epochs. -/
def State.ep (s : State) (c : Nat) : Nat :=
  (s.runners c).foldl (fun m k => min m (s.image c k).epoch) 255

/-- The REQ byte of the running image of component c for component d (R465): the higher of the two pylons'. -/
def State.reqOf (s : State) (c d : Nat) : Nat :=
  (s.runners c).foldl (fun m k => max m ((s.image c k).req.getD (d - 1) 0)) 0

/-- The pylons run different slots of a component (R485). -/
def State.mixed (s : State) (c : Nat) : Bool := decide (c ≤ 2) && (s.comp c 0).running != (s.comp c 1).running

/-! ### Settings store -/

/-- The fields of R518 in order; recorder settings are those of the recorder `r`. -/
def settingLocs (r : Nat) : List Loc :=
  [Reg.PWR_CTL_ENV, Reg.PWR_CTL_THROT, Reg.CAL_CTL_AUTOPORT, Reg.CAL_CTL_AUTOMEM, Reg.CAL_CTL_DELTA,
   Reg.EVR_CTL_FRZMAX r, Reg.EVR_CTL_SUMPERIOD r, Reg.EVR_RATE_RATE r, Reg.EVR_RATE_BURST r, Reg.EVR_VAULT_VPERIOD r,
   Reg.EVR_NOTIFY_MINSEV r, Reg.EVR_NOTIFY_HOSTIRQ r, Reg.EVR_NOTIFY_NBUDGET r, Reg.EVR_NOTIFY_COALESCE r,
   Reg.EVR_NTARGET_T0 r, Reg.EVR_NTARGET_V0 r, Reg.EVR_NTARGET_T1 r, Reg.EVR_NTARGET_V1 r, Reg.EVR_NTARGET_T2 r,
   Reg.EVR_NTARGET_V2 r, Reg.EVR_NTARGET_T3 r, Reg.EVR_NTARGET_V3 r]
  ++ ((List.range 64).map fun n =>
      [Reg.EVR_RLOVR_CODE r n, Reg.EVR_RLOVR_RATE r n, Reg.EVR_RLOVR_BURST r n, Reg.EVR_RLOVR_VALID r n]).flatten
  ++ [Reg.AON_ALERT_MASK, Reg.SEC_CTL_AVC7EN, Reg.SEC_CTL_LOWMARK, Reg.SEC_ARATE_RATE, Reg.SEC_ARATE_BURST,
      Reg.UPD_CTL_FABEN, Reg.UPD_CTL_IDLE, Reg.PYL_WDOG_PERIOD 0, Reg.PYL_WDOG_PERIOD 1, Reg.SRV_CTL_MISSMAX 0,
      Reg.SRV_CTL_MISSMAX 1, Reg.SRV_TIME_LEAD 0, Reg.SRV_TIME_RXDL 0, Reg.SRV_TIME_LEAD 1, Reg.SRV_TIME_RXDL 1,
      Reg.FTU_CTL_ROOT, Reg.FTU_CTL_EN, Reg.FTU_CTL_PERIOD, Reg.FTU_CTL_BACKMAX, Reg.FTU_CTL_HOLDMAX,
      ⟨Reg.FTU_PARENT, 0, 64⟩]
  ++ ((List.range 10).map fun p => Reg.FTU_PORT_ASYM p)
  ++ [⟨Reg.RTR_MGMTPEER, 0, 64⟩]

/-- The SETFMT of the firmware that pylon k runs. -/
def State.setfmt (s : State) (k : Nat) : Nat := (s.image 1 k).setfmt

/-- The region of a format with the highest write counter among those whose check is right, by place (R479). -/
def State.regionOf (s : State) (fmt : Nat) : Option (Nat × Region) :=
  s.pwr.regions.zipIdx.foldl (fun best e =>
    if e.1.good && e.1.fmt == fmt && (match best with
      | some (_, b) => decide (b.count < e.1.count)
      | none => true) then some (e.2, e.1) else best) none

/-- A stored value of a whole register as a write of it leaves it: reserved bits stay 0 (R10), and reserved port codes become 0xF (R278). -/
def storedBits (a v : Nat) : Nat :=
  let mask := match Reg.find a with
    | some (row, _) => Reg.maskOf (· == .rw) row.fields
    | none => 0
  let v := if a = Reg.FTU_PARENT then v / 4096 * 4096 + portCode (bits v 0 4) + 16 * portCode (bits v 4 4) + 256 * portCode (bits v 8 4) else v
  v &&& mask

/-- Write one stored value: as a write of the field, with what such a write brings about. -/
def State.settingWrite (s : State) (l : Loc) (v : Nat) : State :=
  if l = Reg.PWR_CTL_ENV then s.envWrite v
  else if l = Reg.FTU_CTL_EN then (if v = 1 then s.ftEnable else s)
  else if l = Reg.FTU_CTL_ROOT then (if v = 1 then s.rootWrite else s)
  else s.set l (if l.width = 64 then storedBits l.addr v else v)

/-- Put a region into the store in place of another. -/
def State.putRegion (s : State) (place : Nat) (r : Region) : State :=
  { s with pwr := { s.pwr with regions := s.pwr.regions.set place r } }

/-- The highest write counter. -/
def State.regionCount (s : State) : Nat := s.pwr.regions.foldl (fun m r => max m r.count) 0

/-- The present values of every field of R518. -/
def State.settingValues (s : State) (r : Nat) : List Nat := (settingLocs r).map s.get

/-- The region that firmware of the format uses when it takes the token, after any conversion of an older one (R479, R480). -/
def State.settingsOpen (s : State) (k : Nat) : State :=
  let fmt := s.setfmt k
  if s.pwr.regions.any fun r => r.fmt == fmt then s
  else
    match s.pwr.regions.zipIdx.find? fun e => decide (0 < e.1.fmt) && decide (e.1.fmt < fmt) with
    | none => s
    | some (old, i) =>
      let n := s.regionCount + 1
      if old.good && Config.settingsReadable old.fmt fmt then
        s.putRegion (1 - i) { fmt, count := n, good := true, values := old.values.map (Config.settingsConvert old.fmt fmt) }
      else
        let s := s.putRegion (1 - i) { fmt, count := n, good := true, values := some (s.settingValues k) }
        (s.set Reg.UPD_STATUS_SETUNREAD 1).occur 0x0f07 0 (leBytes 2 old.fmt ++ leBytes 2 fmt)

/-- The pylon of the first grant writes the stored values (R519). -/
def State.settingsRestore (s : State) (k : Nat) : State :=
  let s := s.settingsOpen k
  match s.regionOf (s.setfmt k) with
  | some (_, r) =>
    match r.values with
    | some vs => s.forEach ((settingLocs k).zip vs) fun s e => s.settingWrite e.1 e.2
    | none => s
  | none =>
    match s.pwr.regions.find? fun r => r.fmt == s.setfmt k && !r.good with
    | some r => s.occur 0x1107 0 (leBytes 2 r.fmt)
    | none => s

/-- A pylon that leaves a pylon reset restores the fields of its own PYL and SRV instances (R519). -/
def State.settingsOwn (s : State) (k : Nat) : State :=
  match s.regionOf (s.setfmt k) with
  | some (_, r) =>
    match r.values with
    | some vs =>
      s.forEach ((settingLocs k).zip vs) fun s e =>
        if e.1 = Reg.PYL_WDOG_PERIOD k ∨ e.1 = Reg.SRV_CTL_MISSMAX k ∨ e.1 = Reg.SRV_TIME_LEAD k ∨ e.1 = Reg.SRV_TIME_RXDL k then
          s.set e.1 e.2 else s
    | none => s
  | none => s

/-- SETTINGS_SAVE (R519): every field captured into the region of the current format. -/
def State.settingsSave (s : State) (k : Nat) (good : Bool) : State :=
  let fmt := s.setfmt k
  let place := match s.regionOf fmt with
    | some (i, _) => i
    | none => ((s.pwr.regions.zipIdx.find? fun e => e.1.fmt == fmt || e.1.fmt == 0).map (·.2)).getD 0
  s.putRegion place { fmt, count := s.regionCount + 1, good, values := some (s.settingValues k) }

def execSettingsSave (n : Fin 8) (good : Bool) (s : State) : Out := s.run fun s => s.mbxRun n 0x1201 fun s =>
  match s.nvHolder with
  | some k => (s.settingsSave k good).mbxDone n (if good then 0 else 0x0101) 1 []
  | none => s

/-- SETTINGS_DEFAULT (R519): the region is marked empty. -/
def execSettingsDefault (n : Fin 8) (s : State) : Out := s.run fun s => s.mbxRun n 0x1202 fun s =>
  match s.nvHolder with
  | some k =>
    let s := match s.regionOf (s.setfmt k) with
      | some (i, r) => s.putRegion i { r with values := none }
      | none => s
    s.mbxDone n 0 1 []
  | none => s

end Sys2Proof.Machine
end

