-- ==== Sys2Proof/Machine/Pylons.lean ====
section
/-! DEFINITION. Machine/Pylons.lean: the pylons (chapter 14): the token latch (R376 to R380), pylon states (R381), self-test and
health (R382 to R384), the cross-link (R385), the handover store (R386 to R390), takeover (R391, R392) and planned handover
(R397, R398).
The choices of the model here: logs 11 and 52. -/

namespace Sys2Proof.Machine

/-! ### Pylons and their state -/

def State.pylon (s : State) (k : Nat) : Pylon := s.pyl.pylons.getD k Pylon.reset

def State.updPylon (s : State) (k : Nat) (f : Pylon → Pylon) : State :=
  { s with pyl := { s.pyl with pylons := s.pyl.pylons.modify k f } }

def State.pylState (s : State) (k : Nat) : Nat := s.get (Reg.PYL_STATUS_STATE k)

/-- The pylon runs: STANDBY, READY or ACTIVE (R382). -/
def State.pylRuns (s : State) (k : Nat) : Bool := decide (2 ≤ s.pylState k ∧ s.pylState k ≤ 4)

def State.pylReady (s : State) (k : Nat) : Bool := s.flag (Reg.PYL_HEALTH_READY k)

def State.gateOpen (s : State) (k : Nat) : Bool := s.pyl.gates.getD k false

def State.setGate (s : State) (k : Nat) (v : Bool) : State := { s with pyl := { s.pyl with gates := s.pyl.gates.set k v } }

/-- PASS bits 0 to 7 and 9, which READY needs (R383). -/
def passNeeded : Nat := 0x2ff

/-- READY and the state follow PASS (R381, R383). -/
def State.readySync (s : State) (k : Nat) : State :=
  let st := s.pylState k
  let ok := s.pylRuns k && (s.get (Reg.PYL_HEALTH_PASS k) &&& passNeeded) == passNeeded
  let s := s.set (Reg.PYL_HEALTH_READY k) (bit ok)
  if ok && st == 2 then s.set (Reg.PYL_STATUS_STATE k) 3
  else if !ok && st == 3 then s.set (Reg.PYL_STATUS_STATE k) 2
  else s

/-- A bit of PASS. -/
def passBit (k n : Nat) : Loc := ⟨Reg.PYL_HEALTH k, n, 1⟩
/-- A bit of FAILSEEN. -/
def failBit (k n : Nat) : Loc := ⟨Reg.PYL_HEALTH k, 16 + n, 1⟩

/-- A self-test gives its result (R382). -/
def State.testResult (s : State) (k n : Nat) (pass : Bool) : State :=
  let s := s.set (passBit k n) (bit pass)
  let s := if pass then s
    else ((s.set (failBit k n) 1).sat (Reg.PYL_CNT_STFAIL k) 1).occur 0x0c01 k (leBytes 1 k ++ leBytes 1 n)
  s.readySync k

/-! ### Update lock -/

/-- The update lock is released and the staging store cleared (R470). A REVERT needs no lock, and goes on (R468). -/
def State.updUnlock (s : State) : State :=
  let s := ((s.set Reg.UPD_STATUS_LOCK 0).set Reg.UPD_STATUS_LOCKMOD 0).set Reg.UPD_STATUS_PHASE 0
  let s := s.clearReg Reg.UPD_STAGE
  { s with upd := { s.upd with staging := [], starter := none, committing := none, act := s.upd.act.filter (·.revert) } }

/-- Pylon k is not in ROM recovery mode any more. Once neither is, the lock is freed, or goes back to a host whose staged image is
still there (R482). -/
def State.recoveryOff (s : State) (k : Nat) : State :=
  let s := s.updPylon k fun x => { x with recovery := false }
  let s := s.set (if k = 0 then Reg.UPD_RECOV_ACTA else Reg.UPD_RECOV_ACTB) 0
  if s.get Reg.UPD_STATUS_LOCK = 3 ∧ !(s.pylon 0).recovery ∧ !(s.pylon 1).recovery then
    if s.upd.staging.isEmpty then s.updUnlock
    else
      let s := s.set Reg.UPD_STATUS_LOCK 1
      { s with upd := { s.upd with lockAt := s.now } }
  else s

/-! ### Release of the token -/

/-- Causes 3 to 7 are fault releases (R377). -/
def faultCause (c : Nat) : Bool := decide (3 ≤ c ∧ c ≤ 7)

/-- Release the token with a cause (R377, R378, R391 step 1): nothing when the pylon does not hold it. The recorder's holding
queue goes behind the FIFO (R406, R418), and a fault release ends an activation in progress (R477). -/
def State.release (s : State) (k cause : Nat) : State :=
  if s.holder ≠ some k then s
  else
    let s := ((s.set Reg.AON_TOKEN_OWNER 0).set Reg.AON_TOKEN_LASTCAUSE cause).set Reg.AON_TOKEN_LASTFROM (k + 1)
    let s := (s.set Reg.AON_RELFT_FT s.ft).sat (Reg.PYL_CNT_RELEASES k) 1
    let s := if faultCause cause then s.setGate k false else s
    let s : State := if faultCause cause && s.upd.act.isSome then
        let s := if s.upd.act.any (·.revert) then s else s.updUnlock
        { s with upd := { s.upd with act := none } }
      else s
    let s : State := { s with
      ev := { s.ev with fifo := s.ev.fifo ++ s.ev.held, held := [] }
      pyl := { s.pyl with takeover := none, handover := s.pyl.handover.map fun h => (h.1, true) } }
    if s.pylState k = 4 then s.set (Reg.PYL_STATUS_STATE k) 2 else s

/-- A fault in a pylon (R377, R381, R401): a fault release when it holds the token, and FAULTED. -/
def State.pylFault (s : State) (k cause : Nat) : State :=
  if !s.pylRuns k then s
  else
    let s := s.release k cause
    let s := ((s.set (Reg.PYL_STATUS_STATE k) 5).set (Reg.PYL_STATUS_FAULT k) cause).set (Reg.PYL_HEALTH_READY k) 0
    s.updPylon k fun x => { x with kicked := none }

/-- A pylon's island loses its contents (R510, R517): its PYL registers, its SRV instance but for the jig fields, its EVR
instance but for the ring and DEGRADED, which ends only by the ring test of the boot ROM (R413). -/
def State.pylonClear (s : State) (k : Nat) : State :=
  let s := s.clearRange (Reg.PYL_ID k) (Reg.PYL_ID k + 0x100000)
  let degraded := s.get (Reg.EVR_STATUS_DEGRADED k)
  let s := (s.clearRange (Reg.EVR_ID k) (Reg.EVR_ID k + 0x100000)).set (Reg.EVR_STATUS_DEGRADED k) degraded
  let jigFields := fun a =>
    decide (Reg.SRV_MIR_CFG k 0 ≤ a) && decide (a < Reg.SRV_MIR_CFG k 128) && decide ((a - Reg.SRV_MIR_CFG k 0) % 64 < 24)
  let s := { s with regs := s.regs.filter fun e =>
    !(decide (Reg.SRV_ID k ≤ e.1) && decide (e.1 < Reg.SRV_ID k + 0x1000000)) || jigFields e.1 }
  let s := s.updServo k fun _ => SrvState.reset
  (s.recoveryOff k).updPylon k fun x => { Pylon.reset with recoverNext := x.recoverNext }

/-- Pylon reset (R377, R380, R381, R510): a release of cause 6 when it holds the token; the pylon is in BOOT. -/
def State.pylonReset (s : State) (k : Nat) : State := ((s.release k 6).pylonClear k).set (Reg.PYL_STATUS_STATE k) 1

/-- FORCEREL (R377, R380, R400): nothing without the key, or when the pylon does not hold the token. -/
def State.forceRel (s : State) (k : Nat) (v : Word64) : State :=
  if v.getLsbD 0 && bits v.toNat 16 16 == 0xa55a then s.release k 2 else s

def execForcerel (k : Fin 2) (v : Word64) (s : State) : Out := s.run fun s => s.forceRel k v

def execLockstepMiscompare (k : Fin 2) (s : State) : Out := s.run fun s => s.pylFault k 3
def execSramUncorrectable (k : Fin 2) (s : State) : Out := s.run fun s => s.pylFault k 4

/-- WATCHDOG_EXPIRY (R377, R401): no kick for PERIOD ms while the watchdog runs. -/
def execWatchdogExpiry (k : Fin 2) (s : State) : Out := s.run fun s =>
  if (s.pylon k).kicked.any fun t => decide (t + 1000000 * (s.pylon k).period ≤ s.now) then s.pylFault k 5 else s

/-- WATCHDOG_KICK (R400, R401): the watchdog starts or restarts, with the period as it stands now. -/
def State.kick (s : State) (k : Nat) : State :=
  if !s.pylRuns k then s
  else s.updPylon k fun x => { x with kicked := some s.now, period := clampNat 1 8 (s.get (Reg.PYL_WDOG_PERIOD k)) }

def execWatchdogKick (k : Fin 2) (s : State) : Out := s.run fun s => s.kick k

/-- PYLON_POWER_CLOCK_FAULT (R377, R381): OFF when the island has lost power, else FAULTED. -/
def execPylonPowerClockFault (k : Fin 2) (lost : Bool) (s : State) : Out := s.run fun s =>
  if lost then ((s.release k 7).pylonClear k).set (Reg.PYL_STATUS_STATE k) 0 else s.pylFault k 7

/-- PYLON_ISLAND_POWER_RESTORED (R381): the island is powered again and the pylon enters BOOT. -/
def execPylonIslandPowerRestored (k : Fin 2) (s : State) : Out := s.run fun s =>
  if s.pylState k = 0 then s.set (Reg.PYL_STATUS_STATE k) 1 else s

/-! ### Outbox -/

/-- A management frame of a pylon (R269, R294). -/
def State.mgmtFrame (s : State) (k dst tag code : Nat) (body : List Byte) : Frame :=
  { fkind := 7, flags := 16 * k, blen := body.length, skey := s.get Reg.RTR_SKEY_SKEY, srcmod := s.ownMod, dstmod := dst, cls := 0,
    hops := 1, tag, addr := 0, len := 0, code, aop := 0, body }

/-- MOP of a management frame. -/
def mopOf (f : Frame) : Nat := leAt f.body 0 1

/-- An outbox entry's frame is sent by a pylon (R378, R393, R394): the gate may stop it. -/
def State.outSend (s : State) (k i : Nat) : State :=
  match s.pyl.outbox.find? (·.1 == i) with
  | none => s
  | some (_, e) =>
    if !s.gateOpen k then s
    else
      let first := if e.st = 1 then s.ft else e.first
      let s := { s with pyl := { s.pyl with outbox := s.pyl.outbox.map fun (x : Nat × OutEntry) => if x.1 == i then (i, { e with st := 2, first }) else x } }
      s.originate { e.frame with flags := e.frame.flags % 16 + 16 * k }

/-- A pylon originates a request or a notice (R393): it takes the next TAG, is written into the next outbox entry, and is sent. -/
def State.mgmtOriginate (s : State) (k dst : Nat) (body : List Byte) : State :=
  let i := s.pyl.outNext
  let e : OutEntry := { frame := s.mgmtFrame k dst (s.get Reg.AON_MSEQ_NEXT) 0 body, first := 0, st := 1, frags := [] }
  let s := s.inc Reg.AON_MSEQ_NEXT 1
  let s := { s with pyl := { s.pyl with outbox := (s.pyl.outbox.filter fun (x : Nat × OutEntry) => x.1 != i) ++ [(i, e)], outNext := (i + 1) % 256 } }
  s.outSend k i

/-- A pylon answers a management frame (R294, R393): the TAG is copied. -/
def State.mgmtAnswer (s : State) (dst tag code : Nat) (body : List Byte) : State :=
  match s.holder with
  | some k => if s.gateOpen k then s.originate (s.mgmtFrame k dst tag code body) else s
  | none => s

/-- A report or refusal fragment (R455). -/
def fragBody (frag nfrag astat : Nat) (d : List Byte) : List Byte :=
  [0x83] ++ List.replicate 7 0 ++ leBytes 2 frag ++ leBytes 2 nfrag ++ leBytes 2 d.length ++ leBytes 1 astat ++ leBytes 1 0 ++ d

/-- Send every fragment of a report, in FRAG order (R455). -/
def State.sendReport (s : State) (dst tag : Nat) (d : List Byte) : State :=
  s.forEach (List.range 30) fun s i => s.mgmtAnswer dst tag 0 (fragBody i 30 0 ((d.drop (208 * i)).take 208))

/-- Send the stored reports whose sending a handover interrupted (R455). -/
def State.sendReports (s : State) : State :=
  let s := s.forEach (s.sec.reports.filter fun r => !r.2.2.2) fun s r => s.sendReport r.1 r.2.1 r.2.2.1
  { s with sec := { s.sec with reports := s.sec.reports.map fun (r : Nat × Nat × List Byte × Bool) => (r.1, r.2.1, r.2.2.1, true) } }

/-- Whether step 3 of R391 sends an entry again (R394): every entry in state 1, every request in state 2, and a notice in state 2
first sent within the last 5 ms. -/
def OutEntry.again (e : OutEntry) (ft : Nat) : Bool :=
  e.st == 1 || (e.st == 2 && (mopOf e.frame != 4 || decide (ft ≤ e.first + 5000000)))

/-- The outbox entries that a takeover sends again, in TAG order (R394). -/
def State.outAgain (s : State) : List Nat :=
  ((s.pyl.outbox.filter fun x => x.2.again s.ft).mergeSort fun a b => decide (a.2.frame.tag ≤ b.2.frame.tag)).map (·.1)

/-- VC7_GATE_CLOSE (R378): after a planned or forced release the outbox entries not yet sent leave within 5 ms, and the gate
closes. -/
def execVc7GateClose (k : Fin 2) (s : State) : Out := s.run fun s =>
  if s.holder = some k.val ∨ !s.gateOpen k then s
  else
    let l := (s.pyl.outbox.filter fun x => x.2.st == 1).map (·.1)
    let s := if s.ft ≤ s.get Reg.AON_RELFT_FT + 5000000 then s.forEach l fun s i => s.outSend k i else s
    s.setGate k false

/-! ### Self-test, health and cross-link -/

def execSelfTest (k : Fin 2) (n : Fin 10) (pass : Bool) (s : State) : Out := s.run fun s =>
  if s.pylRuns k then s.testResult k n pass else s

/-- HEALTH_PUBLICATION (R383): a running pylon writes PYL_HEALTH and PYL_HEALTH_FT. -/
def execHealthPublication (k : Fin 2) (s : State) : Out := s.run fun s =>
  if s.pylRuns k then (s.readySync k).set (Reg.PYL_HEALTH_FT_FT k) s.ft else s

/-- Place of the newest valid slot, and the slot (R386). -/
def State.newestSlot (s : State) : Option (Nat × Checkpoint) :=
  match s.pyl.slots with
  | [a, b] => if a.valid && (!b.valid || decide (b.gen < a.gen)) then some (0, a) else if b.valid then some (1, b) else none
  | _ => none

/-- HEARTBEAT_SEND: one every 100 µs (R385). -/
def execHeartbeatSend (k : Fin 2) (s : State) : Out := s.run fun s =>
  if !s.pylRuns k ∨ (s.pylon k).sentAt.any (fun t => decide (s.now < t + 100000)) then s
  else
    let b : Beat := { state := s.pylState k, pass := s.get (Reg.PYL_HEALTH_PASS k), ready := s.get (Reg.PYL_HEALTH_READY k),
                      gen := (s.newestSlot.map (·.2.gen)).getD 0 }
    s.updPylon k fun x => { x with sent := x.sent ++ [b], sentAt := some s.now }

/-- HEARTBEAT (R385): pylon k receives a good heartbeat; ten in succession set XLINK and PASS bit 8 again. -/
def execHeartbeat (k : Fin 2) (s : State) : Out := s.run fun s =>
  let o := 1 - k.val
  match (s.pylon o).sent with
  | [] => s
  | b :: rest =>
    let s := s.updPylon o fun x => { x with sent := rest }
    if !s.pylRuns k then s
    else
      let s := s.updPylon k fun x => { x with beats := x.beats + 1, beat := some b, beatAt := s.now }
      if 10 ≤ (s.pylon k).beats then ((s.set (Reg.PYL_STATUS_XLINK k) 1).set (passBit k 8) 1).readySync k else s

/-- HEARTBEAT_LOSS (R385): no good heartbeat for 1 ms. -/
def execHeartbeatLoss (k : Fin 2) (s : State) : Out := s.run fun s =>
  if !s.pylRuns k ∨ s.now < (s.pylon k).beatAt + 1000000 then s
  else
    let s := s.updPylon k fun x => { x with beats := 0 }
    if !s.flag (Reg.PYL_STATUS_XLINK k) then s
    else
      let s := ((s.set (Reg.PYL_STATUS_XLINK k) 0).testResult k 8 false).sat (Reg.PYL_CNT_XLOSS k) 1
      s.occur 0x0c02 k []

/-! ### Checkpoints -/

/-- Registers of an address range, as offsets from a base. -/
def State.regSection (s : State) (base lo hi : Nat) : List (Nat × Word64) :=
  (s.regs.filter fun e => decide (lo ≤ e.1) && decide (e.1 < hi)).map fun e => (e.1 - base, e.2)

/-- Write a register section to a base. -/
def State.putSection (s : State) (base : Nat) (l : List (Nat × Word64)) : State := s.forEach l fun s e => s.setReg (base + e.1) e.2

/-- The recorder's settings, which the RECORDER section carries with the commit mark (R411). -/
def State.recorderSection (s : State) (k : Nat) : List (Nat × Word64) :=
  ([Reg.EVR_CTL k, Reg.EVR_RATE k, Reg.EVR_VAULT k, Reg.EVR_NOTIFY k, Reg.EVR_NTARGET k] ++ (List.range 64).map (Reg.EVR_RLOVR k)).map
    fun a => (a - Reg.EVR_ID k, s.reg a)

/-- The contents of a checkpoint written now by pylon k (R387, R388). -/
def State.checkpointOf (s : State) (k : Nat) (handoff : Bool) : Checkpoint :=
  { valid := true, epoch := (s.image 1 k).epoch, fromPylon := k, gen := (s.newestSlot.map (·.2.gen)).getD 0 + 1, ft := s.ft, handoff,
    srvgen := s.get (Reg.SRV_STATUS_GEN k), coef := s.regSection (Reg.SRV_ID k) (Reg.SRV_COEF_A k 0 0 0) (Reg.SRV_STATE_X k 0 0),
    mirrorRegs := (List.range 128).map fun m => (Reg.SRV_MIR_CTL k m - Reg.SRV_ID k, s.reg (Reg.SRV_MIR_CTL k m)),
    mirrors := (s.servo k).mirrors, circuits := s.circ,
    mailbox := (List.range 8).map fun n => (s.flag (Reg.MBX_CTL_GO n), s.get (Reg.MBX_CTL_CMD n), s.get (Reg.MBX_CTL_SEQ n)),
    recorder := s.recorderSection k }

/-- A checkpoint goes into the slot that does not hold the newest valid one (R386). -/
def State.putCheckpoint (s : State) (c : Checkpoint) : State :=
  let place := match s.newestSlot with
    | some (i, _) => 1 - i
    | none => 0
  { s with pyl := { s.pyl with slots := s.pyl.slots.set place c } }

/-- CHECKPOINT_WRITE (R386): by the active pylon, once it has taken the service over. -/
def execCheckpointWrite (s : State) : Out := s.run fun s =>
  match s.holder with
  | some k => if s.pyl.takeover.isSome then s else s.putCheckpoint (s.checkpointOf k false)
  | none => s

/-- The NV copy is written from the newest slot (R386). -/
def State.nvCopy (s : State) : State :=
  match s.newestSlot with
  | some (_, c) => { s with pyl := { s.pyl with nv := c, nvAt := some s.now } }
  | none => s

/-- CHECKPOINT_NV_COPY (R386): at most once a second, and only when GEN has changed. -/
def execCheckpointNvCopy (s : State) : Out := s.run fun s =>
  match s.holder, s.newestSlot with
  | some _, some (_, c) =>
    let due := s.pyl.nvAt.all fun t => decide (t + 1000000000 ≤ s.now)
    if due && !(s.pyl.nv.valid && s.pyl.nv.gen == c.gen) then s.nvCopy else s
  | _, _ => s

/-- The firmware of pylon k accepts a checkpoint (R390, R466). -/
def State.accepts (s : State) (k : Nat) (c : Checkpoint) : Bool :=
  c.valid && decide ((s.image 1 k).hemin ≤ c.epoch) && decide (c.epoch ≤ (s.image 1 k).hemax)

/-- The checkpoint that an incoming pylon takes (R390): the newer slot, the older slot, then the NV copy. -/
def State.chooseCheckpoint (s : State) (k : Nat) : Option Checkpoint :=
  let order := match s.newestSlot with
    | some (i, c) => [c, s.pyl.slots.getD (1 - i) Checkpoint.none]
    | none => s.pyl.slots
  (order ++ [s.pyl.nv]).find? fun c => s.accepts k c

/-! ### Grant and takeover -/

/-- The latch grants the token to a pylon that requests it (R376, R379). The first grant after power-on or module reset restores
the settings (R519) and loads no checkpoint (R517); a later one begins a takeover, whose step 3 sends outbox entries again
(R391, R394). -/
def State.grant (s : State) (k : Nat) : State :=
  let first := !s.pyl.granted
  let s := (s.set Reg.AON_TOKEN_OWNER (k + 1)).set (Reg.PYL_STATUS_STATE k) 4
  let s := (if first then s else s.sat Reg.AON_TOKEN_HANDOVERS 1).sat (Reg.PYL_CNT_TAKEOVERS k) 1
  let s := s.setGate k true
  let s := { s with pyl := { s.pyl with granted := true, takeover := if first then none else some .loading } }
  let s := s.updServo k fun x => { x with activeSent := false, ready := false, takeover := if first then some none else none }
  if first then s.settingsRestore k else ((s.settingsOpen k).forEach s.outAgain fun s i => s.outSend k i).sendReports

/-- A pylon may be granted the token (R376). -/
def State.mayRequest (s : State) (k : Nat) : Bool := s.pylReady k && (s.pylState k == 2 || s.pylState k == 3)

/-- TOKEN_GRANT (R376, R379): within the first 2 s only the pylon that PREF names, and of two that are READY at their end that one. -/
def execTokenGrant (k : Fin 2) (s : State) : Out := s.run fun s =>
  let first : Bool := s.get Reg.AON_TOKEN_PREF == k.val
  let may : Bool := first || (s.pyl.prefOver && (s.pyl.granted || !s.mayRequest (1 - k)))
  if s.get Reg.AON_TOKEN_OWNER = 0 ∧ s.mayRequest k ∧ may then s.grant k else s

/-- PREF_WINDOW_EXPIRY: 2 s have passed since RESET_N was deasserted (R379). -/
def execPrefWindowExpiry (s : State) : Out := s.run fun s =>
  if s.pwr.resetN ∧ s.pwr.startAt + 2000000000 ≤ s.now then { s with pyl := { s.pyl with prefOver := true } } else s

/-- CHECKPOINT_LOAD (R390, R391 step 4). Without a checkpoint every coefficient is 0 and every driven mirror is to stay in HOLD. -/
def execCheckpointLoad (s : State) : Out := s.run fun s =>
  match s.holder, s.pyl.takeover with
  | some k, some .loading =>
    let c := s.chooseCheckpoint k
    let s := s.clearRange (Reg.SRV_COEF_A k 0 0 0) (Reg.SRV_STATE_X k 0 0)
    let s := s.clearRange (Reg.SRV_RC k 0 0) (Reg.SRV_RC k 256 0)
    let s :=
      match c with
      | some c =>
        let s := (s.putSection (Reg.SRV_ID k) c.coef).putSection (Reg.SRV_ID k) c.mirrorRegs
        s.updServo k fun x => { x with mirrors := c.mirrors, takeover := some (some c.srvgen) }
      | none =>
        let s := (s.set (Reg.PYL_STATUS_CKPTLOST k) 1).occur 0x0c03 k []
        let s := s.forEach ((List.range 128).filter fun m => s.driven k m) fun s m => s.set (Reg.SRV_MIR_CTL_MODE k m) 1
        s.updServo k fun x => { x with mirrors := [], takeover := some none }
    { s with pyl := { s.pyl with takeover := some (.loaded c) } }
  | _, _ => s

/-- Mailbox commands that their chapters mark idempotent (R47). -/
def mbxIdempotent (cmd : Nat) : Bool :=
  [0x0d02, 0x0d03, 0x0f01, 0x1002, 0x1102, 0x1104, 0x1106, 0x1108, 0x1201, 0x1202, 0x1301].contains cmd

/-- Open mailbox n at a handover (R47): an idempotent command is executed again by the incoming pylon, another completes with
0x0004. DESIGN CHOICE: open is a mailbox whose GO is 1, also while DONE is still 1 from an earlier command (log 77). PYL_HANDOVER (R397) and an activation of pylon firmware across its own handover (R477) are completed by their own rules. -/
def State.mbxReopen (s : State) (n : Nat) : State :=
  if !s.flag (Reg.MBX_CTL_GO n) then s
  else
    let cmd := s.get (Reg.MBX_CTL_CMD n)
    let mine := Asker.mailbox n
    if s.pyl.handover.any (fun h => h.1 == some n) || s.upd.act.any (fun a => a.who == mine) then s
    else if mbxIdempotent cmd then
      if s.upd.committing = some mine then
        let s := s.set Reg.UPD_STATUS_PHASE 2
        { s with upd := { s.upd with committing := none } }
      else s
    else
      let gone := fun (w : Asker) => if w == mine then Asker.gone else w
      let s := { s with
        sec := { s.sec with queue := s.sec.queue.map fun (q : SignReq) => { q with who := gone q.who } },
        upd := { s.upd with starter := s.upd.starter.map gone } }
      s.mbxFail n 0x0004

/-- The handover interrupt of a takeover (R391, R532). -/
def takeoverVec : Nat := 10

/-- TAKEOVER_COMPLETE (R391 step 6): after the first ACTIVE = 1 frame. -/
def execTakeoverComplete (s : State) : Out := s.run fun s =>
  match s.holder, s.pyl.takeover with
  | some k, some (.loaded c) =>
    if !(s.servo k).activeSent then s
    else
      let s := { s with circ := ((c.map Checkpoint.circuits).getD []) }
      let s := s.forEach [6, 7, 8, 9] fun s p => if (s.circuit p).any Circuit.moving then s.circEnd p 0x0b else s
      let vfail := s.get (Reg.EVR_VAULT_VFAIL k)
      let s := s.putSection (Reg.EVR_ID k) ((c.map Checkpoint.recorder).getD [])
      let s := (s.set (Reg.EVR_CTL_FREEZE k) (s.get (Reg.EVR_STATUS_FROZEN k))).set (Reg.EVR_VAULT_VFAIL k) vfail
      let s := s.forEach (List.range 8) State.mbxReopen
      let h := s.pyl.handover
      let s := { s with pyl := { s.pyl with takeover := none, handover := none } }
      let s := s.occur 0x0c04 k (leBytes 1 (s.get Reg.AON_TOKEN_LASTCAUSE) ++ leBytes 8 (s.get Reg.AON_RELFT_FT))
      let s := match h with
        | some (some n, _) => s.mbxDone n 0 2 [s.ft]
        | _ => s
      s.raiseVec takeoverVec
  | _, _ => s

/-! ### Planned handover -/

/-- The refusal of a planned handover, 0 for none (R397). -/
def State.handoverCheck (s : State) (k : Nat) : Nat :=
  if !s.pylReady (1 - k) then 0x0101
  else if !s.flag (Reg.PYL_STATUS_XLINK 0) || !s.flag (Reg.PYL_STATUS_XLINK 1) then 0x0102
  else if [6, 7, 8, 9].any fun p => (s.circuit p).any Circuit.moving then 0x0103
  else 0

/-- PYL_HANDOVER (R397, R398 step 1); one that runs already is not begun again. -/
def execPylHandover (n : Fin 8) (s : State) : Out := s.run fun s => s.mbxRun n 0x0e01 fun s =>
  match s.holder with
  | none => s
  | some k =>
    if s.pyl.handover.isSome ∨ s.pyl.takeover.isSome then s
    else
      let c := s.handoverCheck k
      if c ≠ 0 then s.mbxFail n c else { s with pyl := { s.pyl with handover := some (some n.val, false) } }

/-- HANDOFF_CHECKPOINT (R398 steps 2 and 3): the final checkpoint is written and read back, and the token released. -/
def execHandoffCheckpoint (good : Bool) (s : State) : Out := s.run fun s =>
  match s.holder, s.pyl.handover with
  | some k, some (who, false) =>
    let s := s.putCheckpoint { s.checkpointOf k true with valid := good }
    let stop := fun (st : Nat) =>
      let s := { s with pyl := { s.pyl with handover := none } }
      match who with
      | some n => s.mbxFail n st
      | none => s
    if !good then stop 0x0104
    else if !s.pylReady (1 - k) then stop 0x0101
    else s.release k 1
  | _, _ => s

end Sys2Proof.Machine
end

