-- ==== Sys2Proof/Machine/Events.lean ====
section
/-! DEFINITION. Machine/Events.lean: the event recorder behind the front end (chapter 15): records and the ring (R402, R410), the
vault (R411, R412), degraded mode (R413), freeze (R409), summaries (R408) and notices (R414).
The choices of the model here: log 48. -/

namespace Sys2Proof.Machine

/-! ### Records -/

/-- The 64 bytes of a record (R402). -/
def evBytes (r : EvRecord) : List Byte :=
  leBytes 2 r.occ.code ++ leBytes 1 (r.occ.sev % 8) ++ leBytes 1 r.flags ++ leBytes 4 r.seq ++ leBytes 8 r.occ.ft ++ leBytes 2 r.occ.src
    ++ leBytes 2 r.occ.count ++ leBytes 4 0 ++ padTo 40 r.occ.data

/-- The ring of recorder k. -/
def State.ring (s : State) (k : Nat) : List (Nat × EvRecord) := if k = 0 then s.ev.ringA else s.ev.ringB

def State.setRing (s : State) (k : Nat) (l : List (Nat × EvRecord)) : State :=
  if k = 0 then { s with ev := { s.ev with ringA := l } } else { s with ev := { s.ev with ringB := l } }

/-- The window of sequence numbers from the commit mark up to AON_EVSEQ, which wraps. -/
def State.uncommitted (s : State) (k seq : Nat) : Bool :=
  let m := s.get (Reg.EVR_VAULT_MARK k)
  decide ((seq + 2 ^ 32 - m) % 2 ^ 32 < (s.get Reg.AON_EVSEQ_NEXT + 2 ^ 32 - m) % 2 ^ 32)

/-- Put a record into the vault at the place of its sequence number (R411). -/
def State.vaultPut (s : State) (r : EvRecord) : State := { s with ev := { s.ev with vault := alSet s.ev.vault (r.seq % 1048576) r } }

/-! ### Notices -/

/-- The notice-drop count of a class increases. -/
def State.noticeDrop (s : State) (sev : Nat) : State :=
  { s with ev := { s.ev with drops := s.ev.drops.modify sev fun n => satAdd 16 n 1 } }

/-- Queue a record for notice (R414): it is absorbed by one of the same CODE and SRC that waits, or queued, or counted as dropped. -/
def State.noticeAdd (s : State) (k : Nat) (r : EvRecord) : State :=
  let min := s.get (Reg.EVR_NOTIFY_MINSEV k)
  if 4 < min ∨ r.occ.sev < min then s
  else
    let s := if s.flag (Reg.EVR_NOTIFY_HOSTIRQ k) then s.raiseVec 11 else s
    let w := 1000000 * s.get (Reg.EVR_NOTIFY_COALESCE k)
    let absorbs := fun (q : EvRecord) => q.occ.code == r.occ.code && q.occ.src == r.occ.src && decide (r.occ.ft ≤ q.occ.ft + w)
    match s.ev.notices.findIdx? absorbs with
    | some i =>
      let up := fun (q : EvRecord) => { q with occ := { q.occ with count := satAdd 16 q.occ.count r.occ.count }, flags := q.flags ||| 8 }
      { s with ev := { s.ev with notices := s.ev.notices.modify i up } }
    | none =>
      if 64 ≤ (s.ev.notices.filter fun q => q.occ.sev == r.occ.sev).length then s.noticeDrop r.occ.sev
      else { s with ev := { s.ev with notices := s.ev.notices ++ [r] } }

/-- Order of sending: descending SEV, then ascending SEQ (R414). -/
def noticeBefore (a b : EvRecord) : Bool := decide (b.occ.sev < a.occ.sev) || (a.occ.sev == b.occ.sev && decide (a.seq ≤ b.seq))

/-- The valid targets (R416). -/
def State.noticeTargets (s : State) (k : Nat) : List Nat :=
  [(Reg.EVR_NTARGET_T0 k, Reg.EVR_NTARGET_V0 k), (Reg.EVR_NTARGET_T1 k, Reg.EVR_NTARGET_V1 k), (Reg.EVR_NTARGET_T2 k, Reg.EVR_NTARGET_V2 k),
   (Reg.EVR_NTARGET_T3 k, Reg.EVR_NTARGET_V3 k)].filterMap fun e => if s.flag e.2 then some (s.get e.1) else none

/-- A notice body (R414). -/
def noticeBody (l : List EvRecord) : List Byte :=
  [4] ++ List.replicate 7 0 ++ leBytes 1 l.length ++ List.replicate 7 0 ++ (l.map evBytes).flatten

/-- NOTICE_SEND (R414): up to three records as one frame to each valid target, within the budget of the 1 ms window. -/
def execNoticeSend (s : State) : Out := s.run fun s =>
  match s.holder with
  | none => s
  | some k =>
    if s.pyl.takeover.isSome ∨ s.pyl.handover.isSome then s
    else
      let ms := s.ft / 1000000
      let s := if s.ev.budgetMs = ms then s else { s with ev := { s.ev with budgetMs := ms, budgetUsed := 0 } }
      let s :=
        if s.ev.sendTo.isEmpty then
          let l := s.ev.notices.mergeSort noticeBefore
          { s with ev := { s.ev with sending := l.take 3, notices := l.drop 3, sendTo := if l.isEmpty then [] else s.noticeTargets k } }
        else s
      let n := max 1 (s.get (Reg.EVR_NOTIFY_NBUDGET k)) - s.ev.budgetUsed
      let now := s.ev.sendTo.take n
      let body := noticeBody s.ev.sending
      let s := { s with ev := { s.ev with sendTo := s.ev.sendTo.drop n, budgetUsed := s.ev.budgetUsed + now.length } }
      s.forEach now fun s d => s.mgmtOriginate k d body

/-! ### The writer -/

/-- The flags of a record that recorder k writes: PYLON and SUMMARY. -/
def recFlags (k : Nat) (o : Occ) : Nat := 2 * k + 4 * bit o.summary

/-- A record has been written: Critical ones set CRIT (R403), and it may go out as a notice. -/
def State.recorded (s : State) (k : Nat) (r : EvRecord) : State :=
  (if r.occ.sev = 4 then s.set Reg.AON_ALERT_CRIT 1 else s).noticeAdd k r

/-- The next sequence number is used (R410). -/
def State.nextSeq (s : State) : Nat × State := (s.get Reg.AON_EVSEQ_NEXT, s.inc Reg.AON_EVSEQ_NEXT 1)

/-- Write a record straight to the vault in degraded mode (R413); when the vault has failed too, it goes to notices only and is
counted in its class. -/
def State.writeDirect (s : State) (k : Nat) (o : Occ) : State :=
  let q := s.nextSeq
  let r : EvRecord := { occ := o, seq := q.1, flags := recFlags k o + 16 }
  let s := if q.2.flag (Reg.EVR_VAULT_VFAIL k) then q.2.sat (evSevLost k o.sev) 1 else q.2.vaultPut r
  s.recorded k r

/-- Write a record into the ring (R410); a record not committed that it overwrites is lost from the vault (R411). -/
def State.writeRing (s : State) (k : Nat) (o : Occ) : State :=
  let q := s.nextSeq
  let place := q.1 % 16384
  let r : EvRecord := { occ := o, seq := q.1, flags := recFlags k o }
  let s := q.2
  let s := match (s.ring k).find? (·.1 == place) with
    | some (_, old) => if s.uncommitted k old.seq then s.sat (Reg.EVR_LOST_VLOST k) 1 else s
    | none => s
  (s.setRing k (alSet (s.ring k) place r)).recorded k r

/-- The sentinel bit of a ring (R413, R417). -/
def ringBit (k : Nat) : Loc := if k = 0 then Reg.AON_EVSENT_RINGA else Reg.AON_EVSENT_RINGB

/-- A ring word fails (R413): degraded mode begins, the record goes to the vault, and code 0x0003 with it. -/
def State.degrade (s : State) (k : Nat) (o : Occ) : State :=
  let off := 0x100000 + 64 * (s.get Reg.AON_EVSEQ_NEXT % 16384)
  let s := (s.set (Reg.EVR_STATUS_DEGRADED k) 1).set (ringBit k) 1
  (s.writeDirect k o).writeDirect k
    { code := 0x0003, sev := 4, ft := s.ft, src := k, count := 1, summary := false, data := leBytes 8 off }

/-- RECORD_WRITE (R406 step 5, R410, R413): the writer takes the head of the FIFO; `good` tells whether the ring word and the
read-back are good. It does not run while frozen, and after a takeover not before step 6 of R391. -/
def execRecordWrite (good : Bool) (s : State) : Out := s.run fun s =>
  match s.holder, s.ev.fifo with
  | some k, o :: rest =>
    if s.pyl.takeover.isSome ∨ s.evFrozen then s
    else
      let s := { s with ev := { s.ev with fifo := rest } }
      if s.flag (Reg.EVR_STATUS_DEGRADED k) then s.writeDirect k o
      else if good then s.writeRing k o
      else s.degrade k o
  | _, _ => s

/-- OCCURRENCE (R404, R406): hardware codes have the severity of their chapter, firmware codes the one given. -/
def execOccurrence (code : Fin 65536) (sev : Fin 5) (src : Nat) (data : List Byte) (s : State) : Out := s.run fun s =>
  s.occurSev code (if 0x8000 ≤ code.val then sev else evSev code) src (data.take 40)

/-! ### Summaries -/

/-- A summary record (R408). -/
def summaryOcc (ft code : Nat) (x : Suppressed) : Occ :=
  { code := 0x0001, sev := x.sev, ft, src := 0, count := satAdd 16 x.rl x.ov, summary := true,
    data := leBytes 2 code ++ leBytes 2 x.rl ++ leBytes 2 x.ov ++ leBytes 2 0 ++ leBytes 8 x.first ++ leBytes 8 x.last }

/-- A queue has room for a summary: the holding queue while the writer is frozen, else the FIFO. -/
def State.summaryRoom (s : State) : Bool := if s.evFrozen then decide (s.ev.held.length < 256) else !s.evFull

/-- Queue summaries in ascending code as far as there is room (R408). -/
def State.summaries : Nat → State → List (Nat × Suppressed) → State
  | 0, s, _ => s
  | _ + 1, s, [] => s
  | n + 1, s, (c, x) :: l =>
    if s.summaryRoom then
      let s := { s with ev := { s.ev with supp := s.ev.supp.filter fun e => e.1 != c } }
      State.summaries n (s.evEnqueue (summaryOcc s.ft c x)) l
    else s

/-- Five 2-byte counts. -/
def counts5 (l : List Nat) : List Byte := ((List.range 5).map fun i => leBytes 2 (l.getD i 0)).flatten

/-- SUMMARY_PERIOD (R408, R414): fabric time reaches a multiple of SUMPERIOD ms. The notice-drop counts go out with it. -/
def execSummaryPeriod (s : State) : Out := s.run fun s =>
  let p := 1000000 * max 1 (s.get (Reg.EVR_CTL_SUMPERIOD s.evr))
  if s.ev.sumFt.any fun t => decide (s.ft / p ≤ t / p) then s
  else
    let s := State.summaries 256 { s with ev := { s.ev with sumFt := some s.ft } } s.ev.supp
    if s.ev.drops.all (· == 0) then s
    else ({ s with ev := { s.ev with drops := [0, 0, 0, 0, 0] } }).occur 0x0005 s.evr (counts5 s.ev.drops)

/-! ### Freeze -/

/-- FREEZE written 1 (R409): the writer of the token-holding recorder stops; on the other instance nothing stops. -/
def State.freeze (s : State) (i : Nat) : State :=
  let s := if s.flag (Reg.EVR_STATUS_FROZEN i) then s else { s with ev := { s.ev with frozenAt := s.ev.frozenAt.set i s.now } }
  (s.set (Reg.EVR_CTL_FREEZE i) 1).set (Reg.EVR_STATUS_FROZEN i) 1

def execFreeze (i : Fin 2) (s : State) : Out := s.run fun s => s.writeTo (Reg.EVR_CTL i) fun s => s.freeze i

/-- The counts of EVR_SEVLOST. -/
def State.sevLost (s : State) (i : Nat) : List Nat := (List.range 5).map fun c => s.get (evSevLost i c)

/-- A freeze ends (R409): the held entries go behind the FIFO's, and last a freeze summary that carries and clears the counts. -/
def State.freezeEnd (s : State) (i : Nat) : State :=
  let was := s.flag (Reg.EVR_STATUS_FROZEN i)
  let s := (s.set (Reg.EVR_CTL_FREEZE i) 0).set (Reg.EVR_STATUS_FROZEN i) 0
  if !was ∨ s.holder ≠ some i then s
  else
    let lost := s.sevLost i
    let sum : List Occ := if lost.all (· == 0) then []
      else [{ code := 0x0002, sev := 1, ft := s.ft, src := i, count := 1, summary := false, data := counts5 lost }]
    let s := { s with ev := { s.ev with fifo := s.ev.fifo ++ s.ev.held ++ sum, held := [] } }
    s.forEach (List.range 5) fun s c => s.set (evSevLost i c) 0

def execFreezeEnd (i : Fin 2) (s : State) : Out := s.run fun s => s.writeTo (Reg.EVR_CTL i) fun s => s.freezeEnd i

/-- FREEZE_TIMEOUT (R409): the freeze has lasted FRZMAX ms. -/
def execFreezeTimeout (i : Fin 2) (s : State) : Out := s.run fun s =>
  if s.flag (Reg.EVR_STATUS_FROZEN i) ∧ s.ev.frozenAt.getD i 0 + 1000000 * max 1 (s.get (Reg.EVR_CTL_FRZMAX i)) ≤ s.now then s.freezeEnd i else s

/-! ### Vault -/

/-- The records of the rings, the recorder's own first, that lie between the commit mark and the newest. -/
def State.toCommit (s : State) (k : Nat) : List EvRecord :=
  ((s.ring k ++ s.ring (1 - k)).map (·.2)).filter fun r => s.uncommitted k r.seq

/-- Copy records into the vault; a place keeps the first copy of its sequence number. -/
def State.vaultAll (s : State) (l : List EvRecord) : State := s.forEach l.reverse fun s r => s.vaultPut r

/-- A vault commit (R411). -/
def State.vaultCommit (s : State) (k : Nat) (good : Bool) : State :=
  if good then
    let s := (s.vaultAll (s.toCommit k)).set (Reg.EVR_VAULT_MARK k) (s.get Reg.AON_EVSEQ_NEXT)
    { s with ev := { s.ev with failRun := 0 } }
  else
    let s := { s with ev := { s.ev with failRun := s.ev.failRun + 1 } }
    let s := if 3 ≤ s.ev.failRun then s.set (Reg.EVR_VAULT_VFAIL k) 1 else s
    s.occur 0x0004 k (leBytes 4 (s.get (Reg.EVR_VAULT_MARK k)))

/-- VAULT_COMMIT by the active recorder; `good` tells whether the read-back is good. -/
def execVaultCommit (good : Bool) (s : State) : Out := s.run fun s =>
  match s.nvHolder with
  | some k => if s.pyl.takeover.isSome then s else s.vaultCommit k good
  | none => s

/-- The 64 bytes that the vault gives for a sequence number (R412). -/
def State.vaultRead (s : State) (seq : Nat) : List Byte :=
  match s.ev.vault.find? (·.1 == seq % 1048576) with
  | some (_, r) => if r.seq = seq then evBytes r else List.replicate 64 0
  | none => List.replicate 64 0

def execVaultRead (n : Fin 8) (s : State) : Out := s.run fun s => s.mbxRun n 0x0f01 fun s =>
  let first := s.mbxArg n 1 % 2 ^ 32
  let count := s.mbxArg n 2 % 4
  if count = 0 then s.mbxFail n 0x0002
  else
    let d := padTo 192 ((List.range count).map fun i => s.vaultRead ((first + i) % 2 ^ 32)).flatten
    s.mbxDone n 0 26 ((List.range 24).map (fun i => leAt d (8 * i) 8) ++ [s.get (Reg.EVR_VAULT_MARK s.evr)])

end Sys2Proof.Machine
end

