-- ==== Sys2Proof/Machine/Counters.lean ====
section
/-! DEFINITION. Machine/Counters.lean: counter banks as registers (R420 to R425), the central counter reader (R429 to R431, R437),
random instruction tagging (R434, R435) and histograms (R436).
The choices of the model here: log 49. -/

namespace Sys2Proof.Machine

/-! ### Banks -/

/-- Codes that a bank kind counts (R426, R427): 1 up to this. -/
def pmcCodes (kind : Nat) : Nat := [0x12, 7, 0xd, 8, 8, 9, 7].getD kind 0

/-- The bank exists (R419). -/
def bankExists (kind inst : Nat) : Bool := bankCount.any fun e => e.1 == kind && decide (inst < e.2)

/-- A lathe group belongs to no spindle set, and is power-gated (R504). -/
def State.groupFree (s : State) (g : Nat) : Bool := s.setOf (8 * g) == 0x3f

/-- The bank's die is in reset or gated, and it counts nothing (R425, R504). -/
def State.bankAbsent (s : State) (kind inst : Nat) : Bool :=
  match kind with
  | 0 => s.groupFree (inst / 8) || !s.pwr.latheReady.getD (inst / 144) false
  | 1 => s.groupFree inst || !s.pwr.latheReady.getD (inst / 18) false
  | 2 => !s.pwr.pierReady.getD inst false
  | _ => false

/-- CLR (R421): the cycle counter, the counts and the overflow bits become 0. -/
def State.pmcClear (s : State) (b : Nat) : State :=
  let s := (s.set (pmcCycle b) 0).set ⟨b + 0x18, 0, 6⟩ 0
  s.forEach (List.range 6) fun s n => s.set (pmcCnt b n) 0

def execCounterClear (kind : Fin 7) (inst : Nat) (s : State) : Out := s.run fun s =>
  let b := bankBase kind inst
  if bankExists kind inst then s.writeTo b fun s => s.pmcClear b else s

/-- A write of PMC_CTL (R421). -/
def State.pmcCtlWrite (s : State) (b : Nat) (v : Word64) : State :=
  let s := (s.set (pmcEn b) (bit (v.getLsbD 0))).set (pmcOvfFrz b) (bit (v.getLsbD 2))
  if v.getLsbD 1 then s.pmcClear b else s

/-- A write of PMC_SEL (R421): a reserved event code is stored as 0x000, and CHAIN of an even counter stays 0. -/
def State.pmcSelWrite (s : State) (kind b n : Nat) (v : Word64) : State :=
  let w := v.toNat
  let e := bits w 8 10
  let s := s.setReg (b + 0x40 + 8 * n) (BitVec.ofNat 64 (bits w 0 4 + bits w 24 16 * 2 ^ 24))
  let s := { s with ctr := { s.ctr with high := s.ctr.high.filter (· != (pmcCnt b n).addr) } }
  let s := s.set (pmcSelEvent b n) (if e ≤ pmcCodes kind then e else 0)
  if n % 2 = 0 then s.set (pmcSelChain b n) 0 else s

/-- COUNTER_OVERFLOW (R423): counter n of an enabled bank passes 2⁴⁸ − 1. -/
def execCounterOverflow (kind : Fin 7) (inst : Nat) (n : Fin 6) (s : State) : Out := s.run fun s =>
  let b := bankBase kind inst
  if bankExists kind inst ∧ !s.bankAbsent kind inst ∧ s.flag (pmcEn b) ∧ s.flag (pmcSelEn b n) then s.pmcAdd b n (2 ^ 48 - s.get (pmcCnt b n))
  else s

/-! ### Snapshots -/

/-- PERIOD in force in ns, and PHASE (R437). -/
def State.ctrPeriod (s : State) : Nat := 1000 * max 50 (s.get Reg.CTR_PERIOD_PERIOD)
def State.ctrPhase (s : State) : Nat := min (1000 * s.get Reg.CTR_PERIOD_PHASE) (s.ctrPeriod - 1000)

/-- The number of the last epoch at or before now, none before the first (R429). -/
def State.epochNow (s : State) : Option Nat :=
  if s.ft < s.ctrPhase then none else some ((s.ft - s.ctrPhase) / s.ctrPeriod)

/-- The banks of a record, in its order (R431). -/
def State.ctrBanks (s : State) : List (Nat × Nat) :=
  let m := s.get Reg.CTR_MASK_MASK
  (bankCount.map fun e => if m.testBit e.1 then (List.range e.2).map fun i => (e.1, i) else []).flatten

/-- Histogram sets of a record. -/
def State.ctrHists (s : State) : Nat := if (s.get Reg.CTR_MASK_MASK).testBit 7 then 17 else 0

/-- RECLEN and SLOTS (R430, R431). -/
def State.ctrReclen (s : State) : Nat := 64 + 64 * s.ctrBanks.length + 256 * s.ctrHists
def State.ctrSlots (s : State) : Nat := s.get Reg.CTR_BUFSZ_SIZE / s.ctrReclen

/-- A bank entry (R431). -/
def State.bankEntry (s : State) (e : Nat × Nat) : List Byte :=
  let b := bankBase e.1 e.2
  let away := bit (s.bankAbsent e.1 e.2)
  leBytes 8 (s.get (pmcCycle b)) ++
    ((List.range 6).map fun n => leBytes 8 (s.get (pmcCnt b n) + s.get (pmcOvf b n) * 2 ^ 48 + away * 2 ^ 49)).flatten ++ leBytes 8 0

/-- A histogram entry. -/
def State.histEntry (s : State) (h : Nat) : List Byte :=
  ((List.range 32).map fun b => leBytes 8 (s.get (Reg.CTR_HIST_BIN_COUNT h b))).flatten

/-- A snapshot record (R431). -/
def State.snapshot (s : State) (manual : Bool) (ft : Nat) : List Byte :=
  let head := leBytes 4 0x53504e53 ++ leBytes 2 3 ++ leBytes 1 (s.get Reg.CTR_MASK_MASK) ++ leBytes 1 (bit manual)
    ++ leBytes 4 (s.get Reg.CTR_SEQ_SEQ) ++ leBytes 2 s.ctrBanks.length ++ leBytes 1 s.ctrHists ++ leBytes 1 0 ++ leBytes 8 ft
    ++ leBytes 4 s.ctrReclen ++ leBytes 4 (min s.ctr.missed (2 ^ 32 - 1)) ++ leBytes 4 (min s.ctr.dropped (2 ^ 32 - 1))
    ++ List.replicate 24 0
  let body := (s.ctrBanks.map s.bankEntry).flatten ++ ((List.range s.ctrHists).map s.histEntry).flatten
  head ++ leBytes 4 (crc32c (head ++ body)) ++ body

/-- The first of a kind in any 1 s is logged (R430). -/
def State.ctrLog (s : State) (code : Nat) (last : Option Nat) : State :=
  if last.any fun t => decide (s.now < t + 1000000000) then s else s.occur code 0 []

/-- A record is dropped (R430). -/
def State.ctrDrop (s : State) : State :=
  let s := (s.sat Reg.CTR_STATUS_DROPPED 1).ctrLog 0x0d01 s.ctr.dropLog
  let t := if s.ctr.dropLog.any fun t => decide (s.now < t + 1000000000) then s.ctr.dropLog else some s.now
  { s with ctr := { s.ctr with dropped := s.ctr.dropped + 1, dropLog := t } }

/-- Epochs are missed (R429, R430). -/
def State.ctrMiss (s : State) (n : Nat) : State :=
  if n = 0 then s
  else
    let s := (s.sat Reg.CTR_STATUS_MISSED n).ctrLog 0x0d02 s.ctr.missLog
    let t := if s.ctr.missLog.any fun t => decide (s.now < t + 1000000000) then s.ctr.missLog else some s.now
    { s with ctr := { s.ctr with missed := s.ctr.missed + n, missLog := t } }

/-- A latch and its record (R429 to R431): written, or dropped when the buffer is full and WRAP is 0, or has fewer than two slots. -/
def State.ctrRecord (s : State) (manual : Bool) (ft : Nat) : State :=
  let d := s.snapshot manual ft
  let slots := s.ctrSlots
  let s := s.inc Reg.CTR_SEQ_SEQ 1
  let h := s.get Reg.CTR_HEAD_HEAD
  let t := s.get Reg.CTR_TAIL_TAIL
  let full := decide ((h + 1) % max 1 slots = t)
  if slots < 2 ∨ (full ∧ !s.flag Reg.CTR_CTL_WRAP) then s.ctrDrop
  else
    let s := if full then s.set Reg.CTR_TAIL_TAIL ((t + 1) % slots) else s
    let a := s.get Reg.CTR_BUF_ADDR / 4096 * 4096 + h * d.length
    let s := if a + d.length ≤ dramEnd then (s.memWrite a d false).2 else s
    let s := { s with ctr := { s.ctr with missed := 0, dropped := 0 } }
    s.set Reg.CTR_HEAD_HEAD ((h + 1) % slots)

/-- SNAPSHOT_EPOCH (R429): fabric time has reached an epoch. Epochs that a forward step skipped are missed; after a backward step
epochs are used again, from the first grid point after the new FT (R314). Swaps, switch moments and barriers due by then come first
(R313). -/
def execSnapshotEpoch (s : State) : Out := s.run fun s =>
  if !s.flag Reg.CTR_CTL_EN then s
  else
    match s.epochNow with
    | none => s
    | some n =>
      let t := n * s.ctrPeriod + s.ctrPhase
      if s.ctr.epoch = some n ∨ t < s.ctr.resume ∨ s.swapDue t ∨ s.startDue t ∨ s.barDue t then s
      else
        let miss := match s.ctr.epoch with
          | some m => n - m - 1
          | none => n - (s.ctr.resume - s.ctrPhase + s.ctrPeriod - 1) / s.ctrPeriod
        let s := { s with ctr := { s.ctr with epoch := some n } }
        (s.ctrMiss miss).ctrRecord false t

/-- MANUAL_SNAPSHOT (R429): NOW written 1. -/
def State.ctrNow (s : State) : State := s.ctrRecord true s.ft

def execManualSnapshot (s : State) : Out := s.run State.ctrNow

/-- CTR_ENABLE (R437): EN written 1. -/
def State.ctrEnable (s : State) : State :=
  let was := s.flag Reg.CTR_CTL_EN
  let s := ((s.set Reg.CTR_CTL_EN 1).set Reg.CTR_HEAD_HEAD 0).set Reg.CTR_TAIL_TAIL 0
  let s := s.clearReg Reg.CTR_STATUS
  { s with ctr := { s.ctr with epoch := if was then s.ctr.epoch else s.epochNow, resume := if was then s.ctr.resume else 0 } }

def execCtrEnable (s : State) : Out := s.run State.ctrEnable

/-- A write of CTR_CTL (R437). -/
def State.ctrCtlWrite (s : State) (v : Word64) : State :=
  let s := s.set Reg.CTR_CTL_WRAP (bit (v.getLsbD 2))
  let s := if v.getLsbD 0 then s.ctrEnable else s.set Reg.CTR_CTL_EN 0
  if v.getLsbD 1 then s.ctrNow else s

/-! ### Tagging -/

/-- N of a spindle (R421). -/
def State.tagN (s : State) (i : Nat) : Nat := 2 ^ clampNat 4 20 (s.get (Reg.SPN_PMC_TAG_NLOG i))

/-- Draw a countdown from 1 to 2N − 1 (R434). -/
def State.tagDraw (s : State) (i : Nat) : State :=
  let n := s.fresh % (2 * s.tagN i - 1) + 1
  s.drawn.updSpindle i fun x => { x with tagCount := n }

/-- Some spindle's tagging runs. -/
def State.anyTag (s : State) : Bool := (List.range 288).any fun i => s.flag (Reg.SPN_PMC_TAG_EN i)

/-- A write of PMC_TAG (R421, R434, R437). -/
def State.tagWrite (s : State) (i : Nat) (v : Word64) : State :=
  let was := s.flag (Reg.SPN_PMC_TAG_EN i)
  let on := v.getLsbD 0
  let s := if on && !was && !s.anyTag then (s.set Reg.CTR_TAGHEAD_HEAD 0).set Reg.CTR_TAGTAIL_TAIL 0 else s
  let s := (s.set (Reg.SPN_PMC_TAG_EN i) (bit on)).set (Reg.SPN_PMC_TAG_NLOG i) (bits v.toNat 8 5)
  if on && !was then (if (s.spindle i).tagged.isSome then s else s.tagDraw i)
  else if !on then s.updSpindle i fun x => { x with tagCount := 0 } else s

/-- INSTRUCTION_TAGGED (R434): the instruction at which the countdown ended is in flight as the tagged one. -/
def execInstructionTagged (i : Fin 288) (s : State) : Out := s.run fun s =>
  if (s.spindle i).tagged.isSome then s.set (Reg.SPN_PMC_TAG_BUSY i) 1 else s

/-- A tag record (R435); its stage times and flags are free values. -/
def tagRecord (i : Nat) (t : TagInfo) (times : List Nat) (flags : Nat) : List Byte :=
  leBytes 2 i ++ leBytes 1 t.gang ++ leBytes 1 t.slot ++ leBytes 4 (unsigned 32 t.pc) ++ leBytes 8 t.ft
    ++ ((List.range 6).map fun n => leBytes 4 (times.getD n 0)).flatten ++ leBytes 1 (flags % 64) ++ List.replicate 7 0
    ++ leBytes 8 t.word ++ leBytes 8 0

/-- TAG_RECORD_WRITE (R434, R435): the record is written or dropped, and the next countdown drawn. -/
def execTagRecordWrite (i : Fin 288) (s : State) : Out := s.run fun s =>
  match (s.spindle i).tagged with
  | none => s
  | some t =>
    let l := s.freshList 7
    let s := s.drawnBy 7
    let d := tagRecord i t (l.take 6) (l.getD 6 0)
    let n := s.get Reg.CTR_TAGSZ_RECORDS
    let h := s.get Reg.CTR_TAGHEAD_HEAD
    let a := s.get Reg.CTR_TAGBUF_ADDR / 4096 * 4096 + 64 * h
    let s :=
      if n < 2 ∨ (h + 1) % n = s.get Reg.CTR_TAGTAIL_TAIL then s.sat Reg.CTR_TAGSTAT_DROPPED 1
      else
        let s := if a + 64 ≤ dramEnd then (s.memWrite a d false).2 else s
        (s.set Reg.CTR_TAGHEAD_HEAD ((h + 1) % n)).inc Reg.CTR_TAGSTAT_WRITTEN 1
    let s := (s.updSpindle i fun x => { x with tagged := none }).set (Reg.SPN_PMC_TAG_BUSY i) 0
    if s.flag (Reg.SPN_PMC_TAG_EN i) then s.tagDraw i else s

/-! ### Histograms -/

/-- CLR (R436, R437). -/
def State.histClear (s : State) (h : Nat) : State :=
  (s.forEach (List.range 32) fun s b => s.set (Reg.CTR_HIST_BIN_COUNT h b) 0).set (Reg.CTR_HIST_TOTAL_TOTAL h) 0

def execHistogramClear (h : Fin 17) (s : State) : Out := s.run fun s => s.histClear h

/-- A write of CTR_HIST_CTL (R437). -/
def State.histCtlWrite (s : State) (h : Nat) (v : Word64) : State :=
  let s := (s.set (Reg.CTR_HIST_CTL_EN h) (bit (v.getLsbD 0))).set (Reg.CTR_HIST_CTL_QUAL h) (bits v.toNat 8 8)
  if v.getLsbD 1 then s.histClear h else s

end Sys2Proof.Machine
end

