-- ==== Sys2Proof/Machine/Intake.lean ====
section
/-! DEFINITION. Machine/Intake.lean: the management intake (R394 to R396): duplicates, the queue that waits for a pylon, and the
delivery of responses and notices to firmware (R294, R414).
The choices of the model here: logs 48 and 52. -/

namespace Sys2Proof.Machine

/-- A frame is handed to the firmware of the active pylon. -/
def State.toFirmware (s : State) (f : Frame) : State := { s with pyl := { s.pyl with inbox := s.pyl.inbox ++ [f] } }

/-- A request or notice that the intake accepted within the last 10 ms (R395). -/
def State.mgmtDup (s : State) (f : Frame) : Bool :=
  decide (mopOf f < 0x80) && s.pyl.intake.any fun e =>
    e.1 == f.srcmod && e.2.1 == mopOf f && e.2.2.1 == f.tag && decide (s.now < e.2.2.2 + 10000000)

/-- The intake keeps an accepted request or notice for 10 ms, in 16,384 entries (R395). -/
def State.mgmtKeep (s : State) (f : Frame) : State :=
  if 0x80 ≤ mopOf f then s
  else
    let live := s.pyl.intake.filter fun (e : Nat × Nat × Nat × Nat) => decide (s.now < e.2.2.2 + 10000000)
    let full := decide (16384 ≤ live.length)
    let s := if full then s.sat Reg.AON_MGMT_EVICT 1 else s
    { s with pyl := { s.pyl with intake := (if full then live.drop 1 else live) ++ [(f.srcmod, mopOf f, f.tag, s.now)] } }

/-- Management frames other than register accesses wait while OWNER is none and until step 6 of a takeover (R391, R396). -/
def State.mgmtWaits (s : State) (f : Frame) : Bool :=
  mopOf f != 1 && mopOf f != 2 && (s.holder.isNone || s.pyl.takeover.isSome)

/-- Take in the management frame at the head of VC7 of port p if it is of the kind asked for; one for another module is
forwarded. `p` = 10 takes the oldest frame of the queue of R396, once a pylon serves it. -/
def State.mgmtTakeIf (s : State) (p : Nat) (kind : Frame → Bool) (deliver : State → Frame → State) : State :=
  if p = 10 then
    match s.pyl.heldQ with
    | f :: rest =>
      if kind f ∧ !s.mgmtWaits f then deliver { s with pyl := { s.pyl with heldQ := rest } } f else s
    | [] => s
  else
    match s.headFrame p fun f => f.fkind == 7 && (f.dstmod != s.ownMod || kind f) with
    | none => s
    | some e =>
      let f := s.taken p e.2.2
      let s := s.consume e
      if f.dstmod ≠ s.ownMod then s.forward { port := p, vc := 7, cls := 0 } f
      else
        let s := s.count 5 0 0x002 1
        if s.mgmtDup f then s.sat Reg.AON_MGMT_DUPS 1
        else
          let s := s.mgmtKeep f
          if s.mgmtWaits f then
            if 64 ≤ s.pyl.heldQ.length then s.sat Reg.AON_MGMT_HELDDROP 1
            else { s with pyl := { s.pyl with heldQ := s.pyl.heldQ ++ [f] } }
          else deliver s f

/-- Take in the management frame with this MOP. -/
def State.mgmtTake (s : State) (p mop : Nat) (deliver : State → Frame → State) : State :=
  s.mgmtTakeIf p (fun f => mopOf f == mop) deliver

/-- The outbox entry of the request that a response answers. -/
def State.outEntry (s : State) (f : Frame) : Option (Nat × OutEntry) :=
  s.pyl.outbox.find? fun x => x.2.frame.tag == f.tag && mopOf x.2.frame + 0x80 == mopOf f && x.2.st != 0

def State.updOut (s : State) (i : Nat) (g : OutEntry → OutEntry) : State :=
  { s with pyl := { s.pyl with outbox := s.pyl.outbox.map fun (x : Nat × OutEntry) => if x.1 == i then (i, g x.2) else x } }

/-- A response reaches the pylon that originated its request: the outbox entry is answered, and a second response is a duplicate
(R393, R395). -/
def State.mgmtResponse (s : State) (f : Frame) : State :=
  match s.outEntry f with
  | some (i, e) => if e.st = 3 then s.sat Reg.AON_MGMT_DUPS 1 else (s.updOut i fun x => { x with st := 3 }).toFirmware f
  | none => s.toFirmware f

def execReadResponse (p : Fin 11) (s : State) : Out := s.run fun s => s.mgmtTake p 0x81 State.mgmtResponse
def execWriteResponse (p : Fin 11) (s : State) : Out := s.run fun s => s.mgmtTake p 0x82 State.mgmtResponse
def execUpdateAnswer (p : Fin 11) (s : State) : Out := s.run fun s => s.mgmtTake p 0x85 State.mgmtResponse

/-- EVENT_NOTICE (R414): handed to firmware, and not written into this module's ring. -/
def execEventNotice (p : Fin 11) (s : State) : Out := s.run fun s => s.mgmtTake p 0x04 State.toFirmware

end Sys2Proof.Machine
end

