-- ==== Sys2Proof/Machine/Trust.lean ====
section
/-! DEFINITION. Machine/Trust.lean: driver extends (R440 to R442), attestation (R447 to R456), key revocation (R446) and the owner
root and lock (R472).
The choices of the model here: logs 2, 11, 53 and 57. -/

namespace Sys2Proof.Machine

/-! ### Driver extend -/

/-- A write of SEC_EXTGO (R442, R458): MR outside 11 to 15 is refused; GO extends by SEC_EXTDATA. -/
def State.driverExtend (s : State) (v : Word64) : State :=
  let r := bits v.toNat 0 4
  if r < 11 then s.set Reg.SEC_STATUS_EXTREF 1
  else if !v.getLsbD 4 then s
  else
    let d := s.words (Reg.SEC_EXTDATA 0) 8
    let s := s.extendWith r 0x08 d (d.take 16)
    s.occur 0x0e02 0 (leBytes 1 r ++ leBytes 4 (s.get (Reg.SEC_EXTCNT_COUNT r)))

def execDriverExtend (v : Word64) (s : State) : Out := s.run fun s => s.driverExtend v

/-! ### The signer -/

/-- Signature indices of the key (R447). -/
def sigIndices : Nat := 1048576

def State.sigNext (s : State) : Nat := s.get Reg.SEC_SIGIDX_NEXT
def State.sigResv (s : State) : Nat := s.get Reg.SEC_SIGIDX_RESV

/-- Some pylon is in ROM recovery mode. -/
def State.anyRecovery (s : State) : Bool := (s.pylon 0).recovery || (s.pylon 1).recovery

/-- MODNUM of IDENT, 0xFFFF before a full load. -/
def State.identModnum (s : State) : Nat := (s.jig.ident.map (·.modnum)).getD 0xffff

/-- The first 1,176 bytes of a report (R453). -/
def State.reportHead (s : State) (r : SignReq) : List Byte :=
  let vc7 := match r.who with
    | .vc7 _ _ => true
    | _ => false
  let src := match r.who with
    | .vc7 m _ => m
    | _ => 0xffff
  let flags := bit s.anyRecovery + 2 * s.get Reg.JIG_STATUS_SEALED + 4 * s.get Reg.SEC_STATUS_LOW + 8 * bit vc7
  leBytes 4 0x52545441 ++ leBytes 2 3 ++ leBytes 1 16 ++ leBytes 1 flags ++ leBytes 8 s.ft ++ padTo 16 Config.serial
    ++ leBytes 2 s.identModnum ++ leBytes 2 src ++ leBytes 4 (sigIndices - s.sigNext - 1) ++ leBytes 4 s.sigNext
    ++ leBytes 4 (s.get Reg.SEC_LOGSEQ_NEXT) ++ padTo 32 r.nonce
    ++ ((List.range 16).map s.meas).flatten ++ ((List.range 16).map fun n => leBytes 4 (s.get (Reg.SEC_EXTCNT_COUNT n))).flatten
    ++ ((List.range 4).map fun k => leBytes 1 (s.get (Reg.SEC_KEYSLOT_STATE k))).flatten ++ leBytes 4 0

/-- The signature with an index: the index big-endian, then what the key makes of the message (R447). -/
def signature (index : Nat) (m : List Byte) : List Byte := (leBytes 3 index).reverse ++ padTo 4960 (Config.xmssSign index m)

/-- Begin a raise of RESV unless one is in progress (R448). -/
def State.raiseResv (s : State) : State :=
  if s.sec.raising.isSome ∨ sigIndices ≤ s.sigResv ∨ s.nvShut then s
  else { s with sec := { s.sec with raising := some (s.sigResv + 256, 0) } }

/-- The signer takes the request at the head of its queue: it latches the message, or waits for a reservation (R449, R453). -/
def State.signKick (s : State) : State :=
  match s.sec.queue with
  | [] => s
  | r :: _ =>
    if s.sec.signing.isSome then s
    else if s.sigNext < s.sigResv then
      let s := { s with sec := { s.sec with signing := some (s.reportHead r) } }
      s.set Reg.SEC_STATUS_BUSY 1
    else s.raiseResv

/-- A refusal (R456): one fragment to a module, a STATUS to the host; the first of each kind in an hour is logged. -/
def State.refuseReport (s : State) (who : Asker) (astat : Nat) : State :=
  let src := match who with
    | .vc7 m _ => m
    | _ => 0xffff
  let recent := s.sec.refusedAt.any fun e => e.1 == astat && decide (s.now < e.2 + 3600000000000)
  let s := if recent then s
    else ({ s with sec := { s.sec with refusedAt := alSet s.sec.refusedAt astat s.now } }).occur 0x0e07 0 (leBytes 1 astat ++ leBytes 2 src)
  match who with
  | .mailbox n => s.mbxFail n (0x0100 + astat)
  | .vc7 m tag => s.mgmtAnswer m tag 0 (fragBody 0 1 astat [])
  | .gone => s

/-- A request reaches the signer (R449 to R451, R456). -/
def State.signRequest (s : State) (r : SignReq) : State :=
  if !s.flag Reg.SEC_STATUS_KEYOK then s.refuseReport r.who 0x04
  else if s.flag Reg.SEC_STATUS_EXHAUSTED then s.refuseReport r.who 0x02
  else if s.sec.raiseFailed && decide (s.sigResv ≤ s.sigNext) then s.raiseResv.refuseReport r.who 0x05
  else if 16 ≤ s.sec.queue.length then s.refuseReport r.who 0x03
  else State.signKick { s with sec := { s.sec with queue := s.sec.queue ++ [r] } }

/-- ATT_REPORT (R454). -/
def execAttReport (n : Fin 8) (s : State) : Out := s.run fun s => s.mbxRun n 0x1001 fun s =>
  if s.sec.queue.any fun r => r.who == Asker.mailbox n then s
  else
    let a := s.mbxArg n 5 % 2 ^ 43
    if a % 64 ≠ 0 ∨ dramEnd < a + 6139 then s.mbxFail n 0x0002
    else s.signRequest { who := .mailbox n, nonce := ((List.range 4).map fun k => leBytes 8 (s.mbxArg n (k + 1))).flatten, addr := a }

/-- One token, in the unit of the bucket: RATE tokens an hour rise by RATE of these in a ns. -/
def attToken : Nat := 3600000000000

/-- The level of the bucket now (R452, R459). -/
def State.attLevel (s : State) : Nat :=
  let top := max 1 (s.get Reg.SEC_ARATE_BURST) * attToken
  match s.sec.bucket with
  | none => top
  | some (l, t) => min top (l + (s.now - t) * max 1 (s.get Reg.SEC_ARATE_RATE))

/-- ATTESTATION_REQUEST (R452, R455). -/
def execAttestationRequest (p : Fin 11) (s : State) : Out := s.run fun s => s.mgmtTake p 0x03 fun s f =>
  let who := Asker.vc7 f.srcmod f.tag
  let l := s.attLevel
  if !s.flag Reg.SEC_CTL_AVC7EN ∨ l < attToken then
    let s := { s with sec := { s.sec with bucket := some (l, s.now) } }
    (s.sat Reg.SEC_ARATE_LIMITED 1).refuseReport who 0x01
  else
    let s := { s with sec := { s.sec with bucket := some (l - attToken, s.now) } }
    s.signRequest { who, nonce := slice f.body 8 32, addr := 0 }

/-- ATTESTATION_REPORT_FRAGMENT (R455): kept until all have arrived; one already held is a duplicate (R395). -/
def execAttestationReportFragment (p : Fin 11) (s : State) : Out := s.run fun s => s.mgmtTake p 0x83 fun s f =>
  match s.outEntry f with
  | none => s.toFirmware f
  | some (i, e) =>
    let frag := leAt f.body 8 2
    if e.st = 3 ∨ e.frags.any fun x => x.1 == frag then s.sat Reg.AON_MGMT_DUPS 1
    else
      let s := s.updOut i fun x => { x with frags := x.frags ++ [(frag, f.body.drop 16)] }
      let s := s.toFirmware f
      if leAt f.body 10 2 ≤ e.frags.length + 1 then s.updOut i fun x => { x with st := 3 } else s

/-- The copy of RESV with the lower write counter (R448). -/
def lowerCopy (l : List (Nat × Nat × Bool)) : Nat :=
  match l with
  | [a, b] => if a.2.2 && (!b.2.2 || decide (b.1 < a.1)) then 1 else 0
  | _ => 0

/-- RESV in force in NV: the copy with the higher counter among those whose CRC is right (R448). -/
def resvInForce (l : List (Nat × Nat × Bool)) : Nat := (l.getD (1 - lowerCopy l) (0, 0, false)).2.1

/-- RESV_WRITE_COMPLETE (R448, R449): read back, and in force only then; a second failure refuses the requests that need it. -/
def execResvWriteComplete (good : Bool) (s : State) : Out := s.run fun s =>
  match s.sec.raising with
  | none => s
  | some (v, fails) =>
    let i := lowerCopy s.sec.resv
    let count := s.sec.resv.foldl (fun m c => max m c.1) 0 + 1
    if good then
      let s := { s with sec := { s.sec with resv := s.sec.resv.set i (count, v, true), raising := none, raiseFailed := false } }
      (s.set Reg.SEC_SIGIDX_RESV v).signKick
    else
      let s := { s with sec := { s.sec with resv := s.sec.resv.set i (count, v, false) } }
      if fails = 0 then { s with sec := { s.sec with raising := some (v, 1) } }
      else
        let s : State := { s with sec := { s.sec with raising := none, raiseFailed := true } }
        let s := (s.set Reg.SEC_STATUS_NVFAIL 1).occur 0x0e06 0 (leBytes 4 v)
        if s.sigNext < s.sigResv then s
        else
          let l := s.sec.queue
          let s : State := { s with sec := { s.sec with queue := [] } }
          s.forEach l fun s r => s.refuseReport r.who 0x05

/-- The counts and flags after a signature (R449, R450). -/
def State.sigUsed (s : State) : State :=
  let s := s.inc Reg.SEC_SIGIDX_NEXT 1
  let left := sigIndices - s.sigNext
  let s := if left ≤ s.get Reg.SEC_CTL_LOWMARK ∧ !s.flag Reg.SEC_STATUS_LOW then
      (s.set Reg.SEC_STATUS_LOW 1).occur 0x0e03 0 (leBytes 4 left) else s
  let s := if left = 0 then (s.set Reg.SEC_STATUS_EXHAUSTED 1).occur 0x0e04 0 [] else s
  if s.sigResv - s.sigNext = 64 then s.raiseResv else s

/-- A signed report reaches its requester (R454, R455). -/
def State.deliverReport (s : State) (r : SignReq) (index : Nat) (d : List Byte) : State :=
  match r.who with
  | .mailbox n => ((s.memWrite r.addr d false).2).mbxDone n 0 3 [6139, index]
  | .vc7 m tag =>
    let sent := s.holder.isSome && s.pyl.takeover.isNone
    let s := { s with sec := { s.sec with reports := ((m, tag, d, sent) :: s.sec.reports).take 4 } }
    if sent then s.sendReport m tag d else s
  | .gone => s

/-- SIGNATURE_COMPLETE (R449, R451, R453): the report of the request at the head of the queue, with index NEXT. -/
def execSignatureComplete (s : State) : Out := s.run fun s =>
  match s.sec.signing, s.sec.queue with
  | some m, r :: rest =>
    let wait := match r.who with
      | .mailbox _ => !s.memAvail r.addr 6139
      | _ => false
    if wait then s
    else
      let i := s.sigNext
      let s := { s with sec := { s.sec with signing := none, queue := rest } }
      let s := ((s.set Reg.SEC_STATUS_BUSY 0).sigUsed).deliverReport r i (m ++ signature i m)
      let s := if s.flag Reg.SEC_STATUS_EXHAUSTED then
          let l := s.sec.queue
          let s : State := { s with sec := { s.sec with queue := [] } }
          s.forEach l fun s r => s.refuseReport r.who 0x02
        else s
      s.signKick
  | _, _ => s

/-! ### Records in DRAM -/

/-- Bytes that a command reads from DRAM; none where they do not lie in DRAM or a line fails its checks. -/
def State.dramBytes (s : State) (a n : Nat) : Option (List Byte) × State :=
  if dramEnd < a + n then (none, s) else s.memRead a n false

/-- All bytes of a list are 0. -/
def allZero (l : List Byte) : Bool := l.all (· == 0)

/-- The check of a revocation record (R446): the STATUS, 0 for none, and the slot. -/
def State.revokeCheck (s : State) (d : List Byte) : Nat × Nat :=
  let slot := leAt d 6 1
  let serial := slice d 8 16
  let pk := slice d 24 68
  let other := (List.range 4).any fun k => k != slot && s.get (Reg.SEC_KEYSLOT_STATE k) == 1
  let st :=
    if leAt d 0 4 ≠ 0x4b564552 ∨ leAt d 4 2 ≠ 3 ∨ 3 < slot ∨ leAt d 7 1 ≠ 0 ∨ !allZero (slice d 92 36)
        ∨ !(allZero serial || serial == padTo 16 Config.serial) then 0x0101
    else if (s.keySlot (keyRoot pk)).isNone || !Config.xmssGood pk (d.take 128) (d.drop 128) then 0x0102
    else if s.get (Reg.SEC_KEYSLOT_STATE slot) = 2 then 0
    else if s.fuseRoot slot = keyRoot pk then 0x0103
    else if s.get (Reg.SEC_KEYSLOT_STATE slot) = 1 ∧ !other then 0x0104
    else 0
  (st, slot)

/-- KEY_REVOKE (R446): the fuse is blown, MEAS 10 extended and code 0x0E05 logged; the digest of that extend is a free value. -/
def execKeyRevoke (n : Fin 8) (s : State) : Out := s.run fun s => s.mbxRun n 0x1002 fun s =>
  let a := s.mbxArg n 1 % 2 ^ 43
  if dramEnd < a + 5091 then s.mbxFail n 0x0002
  else if !s.memAvail a 5091 then s
  else
    let r := s.dramBytes a 5091
    let s := r.2
    match r.1 with
    | none => s.mbxFail n 0x0101
    | some d =>
      let c := s.revokeCheck d
      if c.1 ≠ 0 then s.mbxFail n c.1
      else if s.get (Reg.SEC_KEYSLOT_STATE c.2) = 2 then s.mbxDone n 0 1 []
      else
        let s := s.set (Reg.SEC_KEYSLOT_STATE c.2) 2
        let s := s.drawn.extend 10 0x0a (leBytes 64 s.fresh)
        (s.occur 0x0e05 0 (leBytes 1 c.2)).mbxDone n 0 1 []

/-- The outcome of an owner command (R467, R472): LASTCODE and the STATUS. -/
def State.ownerDone (s : State) (n code : Nat) : State :=
  (s.set Reg.UPD_STATUS_LASTCODE code).mbxDone n (if code = 0 then 0 else 0x0100 + code) 1 []

def State.setOwner (s : State) (root : List Byte) : State :=
  let s := { s with upd := { s.upd with owner := root } }
  s.set Reg.UPD_OWNER_SET (bit (!allZero root))

/-- OWNER_SET (R472): only while the owner root is all zero. A line that fails its check delivers nothing (R170): code 0x02 (log 28). -/
def execOwnerSet (n : Fin 8) (s : State) : Out := s.run fun s => s.mbxRun n 0x1108 fun s =>
  let a := s.mbxArg n 1 % 2 ^ 43
  if dramEnd < a + 68 then s.mbxFail n 0x0002
  else if !s.memAvail a 68 ∨ s.nvShut then s
  else if !allZero s.upd.owner then s.ownerDone n 0x09
  else
    let r := s.memRead a 68 false
    match r.1 with
    | some d => (r.2.setOwner (keyRoot d)).ownerDone n 0
    | none => r.2.ownerDone n 0x02

/-- The check of an owner record (R472): the code of R467, 0 for none. -/
def State.ownerCheck (s : State) (d : List Byte) : Nat :=
  let op := leAt d 6 1
  let pk := slice d 64 68
  if leAt d 0 4 ≠ 0x524e574f ∨ leAt d 4 2 ≠ 3 ∨ op = 0 ∨ 3 < op ∨ leAt d 7 1 ≠ 0 ∨ slice d 8 16 ≠ padTo 16 Config.serial
      ∨ leAt d 24 4 ≤ s.get Reg.UPD_OWNER_LOCKSEQ ∨ leAt d 28 4 ≠ 0 ∨ (op ≠ 3 ∧ !allZero (slice d 32 32))
      ∨ keyRoot pk ≠ s.upd.owner ∨ leAt d 132 4 ≠ 0 then 0x02
  else if !Config.xmssGood pk (d.take 136) (d.drop 136) then 0x0b
  else 0

/-- OWNER_RECORD (R472). -/
def execOwnerRecord (n : Fin 8) (s : State) : Out := s.run fun s => s.mbxRun n 0x1109 fun s =>
  let a := s.mbxArg n 1 % 2 ^ 43
  if dramEnd < a + 5099 then s.mbxFail n 0x0002
  else if !s.memAvail a 5099 ∨ s.nvShut then s
  else
    let r := s.memRead a 5099 false
    let s := r.2
    let d := r.1.getD []
    let c := if r.1.isNone then 0x02 else s.ownerCheck d
    if c ≠ 0 then s.ownerDone n c
    else
      let op := leAt d 6 1
      let s := if op = 1 then s.set Reg.UPD_OWNER_LOCKED 1 else if op = 2 then s.set Reg.UPD_OWNER_LOCKED 0
        else s.setOwner (slice d 32 32)
      let s := s.set Reg.UPD_OWNER_LOCKSEQ (leAt d 24 4)
      (s.occur 0x0f0a 0 (leBytes 1 op ++ leBytes 4 (leAt d 24 4))).ownerDone n 0

end Sys2Proof.Machine
end

