-- ==== Sys2Proof/Machine/Update.lean ====
section
/-! DEFINITION. Machine/Update.lean: firmware update (chapter 18): image headers and compatibility, the update lock, staging,
commit, activation, confirmation and reversal, and ROM recovery.
The choices of the model here: logs 11 and 54. -/

namespace Sys2Proof.Machine

/-! ### Images -/

/-- The largest image of a component, in bytes; 0 for a component that does not exist (R460). -/
def largestImage (c : Nat) : Nat :=
  match c with
  | 1 => 16777216
  | 2 => 1048576
  | 3 => 1048576
  | 4 => 4194304
  | 5 => 2097152
  | 6 => 4194304
  | 7 => 2097152
  | _ => 0

/-- Fields of an image header (R462). -/
def imgComp (d : List Byte) : Nat := leAt d 6 1
def imgEpoch (d : List Byte) : Nat := leAt d 7 1
def imgLength (d : List Byte) : Nat := leAt d 12 4
def imgReq (d : List Byte) (c : Nat) : Nat := leAt d (23 + c) 1
def imgPk (d : List Byte) : List Byte := slice d 96 68
/-- The bytes that the signature covers (R462). -/
def imgSigned (d : List Byte) : List Byte := d.take (imgLength d - 4963)

/-- The image as a slot holds it. -/
def imgSlot (d : List Byte) : Slot :=
  { valid := true, version := leAt d 8 4, epoch := imgEpoch d, setfmt := leAt d 18 2, hemin := leAt d 20 1, hemax := leAt d 21 1,
    linkep := leAt d 22 1, req := (List.range 7).map fun c => imgReq d (c + 1), root := keyRoot (imgPk d),
    digest := shake256 64 (imgSigned d) }

/-- The fields that R462 requires to be 0, or within a range, beside those with a check of their own. -/
def headerPlain (d : List Byte) : Bool :=
  let c := imgComp d
  leAt d 23 1 == 0 && leAt d 31 1 == 0 && allZero (slice d 164 28) && imgEpoch d != 0
    && (if c = 1 then leAt d 18 2 != 0 else allZero (slice d 18 4)) && (c == 6 || leAt d 22 1 == 0)

/-- Orders 1 to 4 of R463: the refusal code, 0 for none. -/
def State.headerCheck (s : State) (d : List Byte) : Nat :=
  if leAt d 0 4 ≠ 0x4d495746 ∨ leAt d 4 2 ≠ 3 ∨ !headerPlain d then 0x02
  else if leAt d 16 2 ≠ 3 then 0x03
  else if largestImage (imgComp d) = 0 ∨ imgLength d < 5219 ∨ largestImage (imgComp d) < imgLength d then 0x04
  else if (s.keySlot (keyRoot (imgPk d))).isNone then 0x05
  else 0

/-- An image is compatible with what runs (R465, R466). -/
def State.compatible (s : State) (d : List Byte) : Bool :=
  let c := imgComp d
  let e := imgEpoch d
  let others := [1, 2, 3, 4, 5, 6, 7].filter (· != c)
  others.all (fun o => decide (imgReq d o ≤ s.ep o) && decide (s.reqOf o c ≤ e)) && decide (s.ep c ≤ e + 1)
    && (c != 1 || (s.runners 1).all fun k =>
      let r := s.image 1 k
      decide (leAt d 20 1 ≤ r.epoch) && decide (r.epoch ≤ leAt d 21 1) && decide (r.hemin ≤ e) && decide (e ≤ r.hemax))

/-- The check of R464 on a whole image: the code, 0 for none. -/
def State.imageCheck (s : State) (d : List Byte) : Nat :=
  let signed := imgSigned d
  if shake256 64 (signed.drop 192) ≠ slice d 32 64 then 0x0a
  else if (s.keySlot (keyRoot (imgPk d))).isNone ∨ !Config.xmssGood (imgPk d) signed (d.drop signed.length) then 0x0b
  else 0

/-! ### Refusal conditions -/

/-- Something moves (R471): a circuit in steps 1 to 6, a driven mirror that is not at rest, a mode change deferred or ramping. -/
def State.updMoving (s : State) : Bool :=
  [6, 7, 8, 9].any (fun p => (s.circuit p).any Circuit.moving)
    || [0, 1].any fun v => (s.servo v).mirrors.any fun x =>
      s.driven v x.1 && (x.2.move.isSome || !x.2.prof0.atRest || !x.2.prof1.atRest)

/-- The refusal condition that holds, 0 for none (R471). -/
def State.updBlocked (s : State) : Nat :=
  if s.updMoving then 0x07 else if !s.flag Reg.PWR_STATUS_HOLDUP then 0x08 else if s.flag Reg.UPD_OWNER_LOCKED then 0x09 else 0

/-! ### Answers -/

/-- Who an update answers to, as events carry it: the source and SRCMOD, 0 for the host. -/
def Asker.source : Asker → Nat × Nat
  | .vc7 m _ => (1, m)
  | _ => (0, 0)

/-- The body of an answer (R474). -/
def updBody (uop code next : Nat) : List Byte :=
  [0x85] ++ List.replicate 7 0 ++ leBytes 1 uop ++ leBytes 1 code ++ leBytes 2 0 ++ leBytes 4 next

/-- Answer with a code (R467, R474); LASTCODE takes it. -/
def State.updReply (s : State) (who : Asker) (uop code : Nat) : State :=
  let s := s.set Reg.UPD_STATUS_LASTCODE code
  match who with
  | .mailbox n => s.mbxDone n (if code = 0 then 0 else 0x0100 + code) 1 []
  | .vc7 m tag => s.mgmtAnswer m tag 0 (updBody uop code s.upd.staging.length)
  | .gone => s

/-- Refuse with a code, and log it (R484). A module that lost the lock to recovery has now been told (R482). -/
def State.updRefuse (s : State) (who : Asker) (uop code comp : Nat) : State :=
  let src := who.source
  let s := s.occur 0x0f01 0 (leBytes 1 code ++ leBytes 1 src.1 ++ leBytes 2 src.2 ++ leBytes 1 comp)
  let s : State := if code = 0x10 ∧ src.1 = 1 ∧ s.upd.lost = some src.2 then { s with upd := { s.upd with lost := none } } else s
  s.updReply who uop code

/-! ### The update lock -/

/-- The asker holds the lock: 0, or the refusal code (R468, R482). -/
def State.lockCode (s : State) (who : Asker) : Nat :=
  let src := who.source
  let lock := s.get Reg.UPD_STATUS_LOCK
  if src.1 = 1 ∧ s.upd.lost = some src.2 then 0x10
  else if lock = 0 then 0x0c
  else if lock = 3 then (if src.1 = 0 then 0x10 else 0x01)
  else if src.1 = 0 then (if lock = 1 then 0 else 0x01)
  else if lock = 2 ∧ s.get Reg.UPD_STATUS_LOCKMOD = src.2 then 0
  else 0x01

def State.updPhase (s : State) : Nat := s.get Reg.UPD_STATUS_PHASE

/-- A command or frame of the holder is accepted now (R470). -/
def State.updTouch (s : State) : State := { s with upd := { s.upd with lockAt := s.now } }

def State.updPending (s : State) (c : Nat) : Bool := s.upd.pending.contains c

/-- The component staged. -/
def State.staged (s : State) : Nat := s.get Reg.UPD_STAGE_COMP

/-! ### START -/

/-- The refusal code of a START, 0 for none (R463, R468, R471). -/
def State.startCode (s : State) (who : Asker) (d : List Byte) : Nat :=
  let lock := s.lockCode who
  if lock ≠ 0 ∧ lock ≠ 0x0c then lock
  else if lock = 0 ∧ (s.updPhase = 3 ∨ s.updPhase = 5) then 0x0c
  else
    let c := s.headerCheck d
    if c ≠ 0 then c else if !s.compatible d then 0x06 else s.updBlocked

/-- Stage bytes (R470, R485). -/
def State.stage (s : State) (d : List Byte) : State :=
  let s : State := { s with upd := { s.upd with staging := s.upd.staging ++ d } }
  s.set Reg.UPD_STAGE_RECEIVED s.upd.staging.length

/-- The lock is taken, and the store cleared and filled with the first bytes of an image (R468, R470). A check of the same holder's
earlier image that has not ended ends with it. -/
def State.updBegin (s : State) (who : Asker) (d : List Byte) : State :=
  let s := match s.upd.starter with
    | some w => s.updReply w 2 0x0c
    | none => s
  let src := who.source
  let s := ((s.set Reg.UPD_STATUS_LOCK (src.1 + 1)).set Reg.UPD_STATUS_LOCKMOD src.2).set Reg.UPD_STATUS_PHASE 1
  let s := (s.set Reg.UPD_STAGE_COMP (imgComp d)).set Reg.UPD_STAGE_EPOCH (imgEpoch d)
  let s : State := { s with upd := { s.upd with staging := [], starter := none } }
  (s.stage d).updTouch

/-- What an arbitration logs and shows (R469, R484). -/
def arbData (who : Asker) (d : List Byte) : List Byte :=
  let src := who.source
  slice d 32 32 ++ leBytes 1 src.1 ++ leBytes 2 src.2 ++ leBytes 1 (imgComp d)

def State.arbWin (s : State) (who : Asker) (d : List Byte) : State :=
  (s.putWords (Reg.UPD_DIGW 0) (slice d 32 64)).occur 0x0f02 0 (arbData who d)

def State.arbLose (s : State) (who : Asker) (d : List Byte) : State :=
  ((s.putWords (Reg.UPD_DIGL 0) (slice d 32 64)).occur 0x0f03 0 (arbData who d)).updReply who 1 0x01

/-- UOP of an update frame, and the header that a START carries (R474). -/
def uopOf (f : Frame) : Nat := leAt f.body 8 1
def startHeader (f : Frame) : List Byte := padTo 192 (f.body.drop 16)
def frameAsker (f : Frame) : Asker := .vc7 f.srcmod f.tag

def isUop (u : Nat) (f : Frame) : Bool := mopOf f == 5 && uopOf f == u

/-- Updates from this sender are accepted (R295, R474). -/
def State.fabricOpen (s : State) (f : Frame) : Bool := s.flag Reg.UPD_CTL_FABEN && s.mgmtAllowed f

/-- The START that stands at port p and would reach the update block now. -/
def State.rivalStart (s : State) (p : Nat) : Option Frame :=
  let f? := if p = 10 then s.pyl.heldQ.head?
    else (s.headFrame p fun f => f.fkind == 7 && f.dstmod == s.ownMod && isUop 1 f).map fun e => e.2.2
  match f? with
  | some f => if isUop 1 f && s.fabricOpen f && !s.mgmtWaits f && (p == 10 || !s.mgmtDup f) then some f else none
  | none => none

/-- The fabric STARTs among ports that reach the update block in one cycle, by SRCMOD; none while the lock is held (R469). -/
def State.startRivals (s : State) (ps : List Nat) : List (Nat × Frame) :=
  if s.get Reg.UPD_STATUS_LOCK ≠ 0 then []
  else
    let l := (ps.eraseDups).filterMap fun p => (s.rivalStart p).map fun f => (p, f)
    l.mergeSort fun a b => decide (a.2.srcmod ≤ b.2.srcmod)

/-- The losing STARTs are refused (R469). -/
def State.startLosers (s : State) (l : List (Nat × Frame)) : State :=
  s.forEach l fun s x => s.mgmtTakeIf x.1 (isUop 1) fun s f => s.arbLose (frameAsker f) (startHeader f)

/-- UPD_START (R463, R469, R473): header checks, then the whole image is staged; `rivals` are the ports whose STARTs arrive in the
same cycle. A line that fails its check delivers nothing (R170): a header so lost is malformed, and a body so lost is taken as one that
does not match BODYDIG (log 28). -/
def execUpdStart (n : Fin 8) (rivals : List (Fin 11)) (s : State) : Out := s.run fun s => s.mbxRun n 0x1101 fun s =>
  let who := Asker.mailbox n
  let a := s.mbxArg n 1 % 2 ^ 43
  if s.upd.starter = some who then s
  else if a % 64 ≠ 0 ∨ dramEnd < a + 192 then s.mbxFail n 0x0002
  else if !s.memAvail a 192 then s
  else
    let r := s.memRead a 192 false
    let d := r.1.getD []
    let code := if r.1.isNone ∧ r.2.lockCode who ∈ [0, 0x0c] then 0x02 else r.2.startCode who d
    let len := imgLength d
    if code = 0 ∧ a + len ≤ dramEnd ∧ !r.2.memAvail a len then s
    else
      let losers := r.2.startRivals (rivals.map (·.val))
      let s := if losers.isEmpty then r.2 else r.2.arbWin who d
      let s :=
        if code ≠ 0 then s.updRefuse who 1 code (imgComp d)
        else if dramEnd < a + len then s.mbxFail n 0x0002
        else
          let r := s.memRead a len false
          match r.1 with
          | none => r.2.updRefuse who 1 0x0a (imgComp d)
          | some image =>
            let s := r.2.updBegin who image
            { s with upd := { s.upd with starter := some who } }
      s.startLosers losers

/-- A START frame that the update block judges (R474). -/
def State.frameStart (s : State) (f : Frame) : State :=
  let who := frameAsker f
  let d := startHeader f
  let code := if s.fabricOpen f then s.startCode who d else 0x12
  if code ≠ 0 then s.updRefuse who 1 code (imgComp d) else (s.updBegin who d).updReply who 1 0

/-- FABRIC_UPD_START (R469, R474): of the STARTs that arrive in one cycle the lowest SRCMOD wins. -/
def execFabricUpdStart (p : Fin 11) (rivals : List (Fin 11)) (s : State) : Out := s.run fun s =>
  match s.startRivals (p.val :: rivals.map (·.val)) with
  | w :: l :: ls =>
    let s := s.arbWin (frameAsker w.2) (startHeader w.2)
    (s.mgmtTakeIf w.1 (isUop 1) State.frameStart).startLosers (l :: ls)
  | _ => s.mgmtTakeIf p (isUop 1) State.frameStart

/-! ### DATA and the checks of the whole image -/

/-- A frame of a UOP from an allowed sender; another is refused (R474). -/
def State.fabricUpd (s : State) (p uop : Nat) (k : State → Asker → Frame → State) : State :=
  s.mgmtTakeIf p (isUop uop) fun s f =>
    if s.fabricOpen f then k s (frameAsker f) f else s.updRefuse (frameAsker f) uop 0x12 (leAt f.body 9 1)

/-- FABRIC_UPD_DATA (R474). The frame that completes the image is answered once it is checked. -/
def execFabricUpdData (p : Fin 11) (s : State) : Out := s.run fun s => s.fabricUpd p 2 fun s who f =>
  let d := f.body.drop 16
  let off := leAt f.body 12 4
  let n := s.upd.staging.length
  let len := imgLength s.upd.staging
  let lock := s.lockCode who
  if lock ≠ 0 then s.updRefuse who 2 lock (leAt f.body 9 1)
  else if s.upd.staging.isEmpty then s.updRefuse who 2 0x0c (leAt f.body 9 1)
  else if off < n then s.updTouch.updReply who 2 0
  else if n < off ∨ s.updPhase ≠ 1 ∨ len < n + d.length then s.updRefuse who 2 0x0c (leAt f.body 9 1)
  else
    let s := (s.stage d).updTouch
    if n + d.length < len then s.updReply who 2 0 else { s with upd := { s.upd with starter := some who } }

/-- IMAGE_STAGED (R464): the whole image is checked, and discarded when it fails. -/
def execImageStaged (s : State) : Out := s.run fun s =>
  match s.upd.starter with
  | none => s
  | some who =>
    let uop := match who with
      | .mailbox _ => 1
      | _ => 2
    let comp := s.staged
    let code := s.imageCheck s.upd.staging
    let s : State := { s with upd := { s.upd with starter := none } }
    if code = 0 then ((s.set Reg.UPD_STATUS_PHASE 2).updTouch).updReply who uop 0
    else
      let s := (s.set Reg.UPD_STATUS_PHASE 0).clearReg Reg.UPD_STAGE
      let s : State := { s with upd := { s.upd with staging := [] } }
      s.updTouch.updRefuse who uop code comp

/-! ### COMMIT -/

/-- The inactive slot of every copy of a component is set (R475). -/
def State.putInactive (s : State) (c : Nat) (x : Slot) : State :=
  s.forEach (compHomes c) fun s k => s.updComp c k fun (y : Comp) => { y with slots := y.slots.set (1 - y.boot) x }

/-- COMMIT begins (R475): the slot is invalid until its record is written. A committed image completes at once. -/
def State.updCommit (s : State) (who : Asker) (uop : Nat) : State :=
  let lock := s.lockCode who
  let c := s.staged
  if s.upd.committing = some who ∨ s.nvShut then s
  else if lock ≠ 0 then s.updRefuse who uop lock c
  else if s.updPhase = 4 then s.updTouch.updReply who uop 0
  else if s.updPhase ≠ 2 then s.updRefuse who uop 0x0c c
  else if s.updBlocked ≠ 0 then s.updRefuse who uop s.updBlocked c
  else if s.updPending c then s.updRefuse who uop 0x0d c
  else
    let s := ((s.putInactive c Slot.none).set Reg.UPD_STATUS_PHASE 3).updTouch
    { s with upd := { s.upd with committing := some who } }

def execUpdCommit (n : Fin 8) (s : State) : Out := s.run fun s => s.mbxRun n 0x1102 fun s => s.updCommit (.mailbox n) 3

def execFabricUpdCommit (p : Fin 11) (s : State) : Out := s.run fun s => s.fabricUpd p 3 fun s who _ => s.updCommit who 3

/-- COMMIT_COMPLETE (R475): the slot's record is written last. A refusal condition or a failed read-back leaves the slot invalid
and the image staged. -/
def execCommitComplete (good : Bool) (s : State) : Out := s.run fun s =>
  match (if s.nvShut then none else s.upd.committing) with
  | none => s
  | some who =>
    let c := s.staged
    let code := if s.updBlocked ≠ 0 then s.updBlocked else if good then 0 else 0x0f
    let s : State := { s with upd := { s.upd with committing := none } }
    let s := s.updTouch
    if code ≠ 0 then (s.set Reg.UPD_STATUS_PHASE 2).updRefuse who 3 code c
    else ((s.putInactive c (imgSlot s.upd.staging)).set Reg.UPD_STATUS_PHASE 4).updReply who 3 0

/-! ### Activation -/

/-- The boot record of a copy names the other slot (R476, R477). -/
def State.bootSwitch (s : State) (c k : Nat) : State := s.updComp c k fun (x : Comp) => x.setBoot (1 - x.boot)

/-- Extend the registers of a component by the image that its boot record names (R440, R441, R476). -/
def State.extendComp (s : State) (c : Nat) : State :=
  let d := fun k => ((s.comp c k).slot (s.comp c k).boot).digest
  if c = 1 then (s.extend 1 3 (d 0)).extend 2 3 (d 1)
  else if c = 2 then (s.extend 1 2 (d 0)).extend 2 2 (d 1)
  else s.extend c 4 (d 0)

/-- Settings regions that satisfy a test are freed (R478 to R480). -/
def State.freeRegions (s : State) (f : Nat → Bool) : State :=
  let l := s.pwr.regions.map fun (r : Region) =>
    if r.fmt != 0 && f r.fmt then Region.empty else r
  { s with pwr := { s.pwr with regions := l } }

/-- The lock is released at the end of an ACTIVATE (R470); not when recovery has taken it. -/
def State.actUnlock (s : State) (a : Activation) : State :=
  let s : State := { s with upd := { s.upd with act := none } }
  if a.revert ∨ s.get Reg.UPD_STATUS_LOCK = 3 then s else s.updUnlock

def Activation.uop (a : Activation) : Nat := if a.revert then 6 else 4

/-- The activation is refused or ended with a code; what it has done stands (R477, R481). -/
def State.actFail (s : State) (a : Activation) (code : Nat) : State := (s.actUnlock a).updRefuse a.who a.uop code a.comp

/-- The activation has switched the component (R476, R478): PENDING, the extend, the event, and the lock. -/
def State.actDone (s : State) (a : Activation) : State :=
  let c := a.comp
  let k := s.holder.getD 0
  let s := s.extendComp c
  let s :=
    if a.revert then
      let s : State := { s with upd := { s.upd with pending := s.upd.pending.filter (· != c) } }
      let s := if c ≠ 1 then s
        else
          let own := s.setfmt k
          ((s.freeRegions fun f => decide (own < f)).set Reg.UPD_STATUS_SETUNREAD 0).settingsRestore k
      s.occur 0x0f06 0 (leBytes 1 c ++ leBytes 1 0)
    else
      let s : State := { s with upd := { s.upd with pending := s.upd.pending ++ [c] } }
      let x := s.comp c k
      let i := x.slot x.boot
      s.occur 0x0f04 0 (leBytes 1 c ++ leBytes 1 x.boot ++ leBytes 4 i.version ++ leBytes 1 i.epoch)
  (s.actUnlock a).updReply a.who a.uop 0

/-- A set has a running request or is in the apply phase of a load, so that its switch waits (R476, R481). -/
def State.setBusy (s : State) (t : Nat) : Bool :=
  s.setAttached t != 0 || (s.setLoading t && s.get Reg.JIG_STATUS_PHASE == 4)

/-- The next set from `t` whose switch must wait; 36 when none is left. -/
def State.nextBusySet (s : State) (t : Nat) : Nat := ((List.range 36).find? fun u => decide (t ≤ u) && s.setBusy u).getD 36

/-- The first part of an activation (R476, R477). -/
def State.actBegin (s : State) (a : Activation) : State :=
  let s : State := { s with upd := { s.upd with act := some { a with since := s.now } } }
  match a.comp with
  | 1 => (s.bootSwitch 1 a.standby).pylonReset a.standby
  | 6 => s.reroute 0
  | _ => s

/-- The activation of a component by an asker (R476 to R478). -/
def State.activation (s : State) (c : Nat) (revert : Bool) (who : Asker) : Activation :=
  { comp := c, revert, part := if c = 1 then 2 else if c = 7 then s.nextBusySet 0 else 0, standby := 1 - s.holder.getD 0, who, since := s.now, lowSince := none }

/-- Pylon firmware can be activated only with a READY standby pylon (R477 step 1). -/
def State.standbyReady (s : State) : Bool := s.pylReady (1 - s.holder.getD 0)

/-- ACTIVATE (R467, R471, R476, R477). -/
def State.updActivate (s : State) (who : Asker) : State :=
  let lock := s.lockCode who
  let c := s.staged
  if s.nvShut || s.upd.act.any fun a => a.who == who && !a.revert then s
  else if lock ≠ 0 then s.updRefuse who 4 lock c
  else if s.updPhase ≠ 4 ∨ s.upd.act.isSome then s.updRefuse who 4 0x0c c
  else if s.updBlocked ≠ 0 then s.updRefuse who 4 s.updBlocked c
  else if s.updPending c then s.updRefuse who 4 0x0d c
  else if 3 ≤ c ∧ s.mixed 1 then s.updRefuse who 4 0x0e c
  else if c = 1 ∧ !s.standbyReady then s.updRefuse who 4 0x10 c
  else ((s.set Reg.UPD_STATUS_PHASE 5).updTouch).actBegin (s.activation c false who)

def execUpdActivate (n : Fin 8) (s : State) : Out := s.run fun s => s.mbxRun n 0x1103 fun s => s.updActivate (.mailbox n)

def execFabricUpdActivate (p : Fin 11) (s : State) : Out := s.run fun s => s.fabricUpd p 4 fun s who _ => s.updActivate who

/-- REVERT (R478): it needs no lock, and another activation must not be in progress. -/
def State.updRevert (s : State) (who : Asker) (c : Nat) : State :=
  if s.nvShut || s.upd.act.any fun a => a.who == who && a.revert then s
  else if !s.updPending c ∨ s.upd.act.isSome then s.updRefuse who 6 0x0c c
  else if s.updBlocked ≠ 0 then s.updRefuse who 6 s.updBlocked c
  else if c = 1 ∧ !s.standbyReady then s.updRefuse who 6 0x10 c
  else s.actBegin (s.activation c true who)

def execUpdRevert (n : Fin 8) (s : State) : Out := s.run fun s => s.mbxRun n 0x1105 fun s =>
  s.updRevert (.mailbox n) (s.mbxArg n 1 % 16)

def execFabricUpdRevert (p : Fin 11) (s : State) : Out := s.run fun s => s.fabricUpd p 6 fun s who f => s.updRevert who (leAt f.body 9 1)

/-- A step of an activation that writes a boot record: it needs hold-up energy, and waits for it up to 1 s; the activation then ends
with 0x08 (R481). -/
def State.bootStep (s : State) (a : Activation) (f : State → State) : State :=
  if s.nvShut then s
  else if s.flag Reg.PWR_STATUS_HOLDUP then f s
  else
    match a.lowSince with
    | none => { s with upd := { s.upd with act := some { a with lowSince := some s.now } } }
    | some t => if s.now < t + 1000000000 then s else s.actFail a 0x08

/-- A component of the always-on NV device switches to the slot that its boot record comes to name (R476). -/
def State.compSwitch (s : State) (a : Activation) : State :=
  s.bootStep a fun s => ((s.bootSwitch a.comp 0).updComp a.comp 0 fun x => x.start x.boot).actDone a

def State.actPart (s : State) (a : Activation) (part : Nat) : State :=
  { s with upd := { s.upd with act := some { a with part, since := s.now, lowSince := none } } }

/-- The next step of a pylon firmware activation (R477). -/
def State.pylonStep (s : State) (a : Activation) : State :=
  let sb := a.standby
  if a.part = 2 then
    if s.pylReady sb ∧ s.handoverCheck (1 - sb) = 0 ∧ s.holder = some (1 - sb) then
      let s := s.actPart a 4
      { s with pyl := { s.pyl with handover := some (none, false) } }
    else s
  else if a.part = 4 then
    if s.pyl.handover.isSome ∨ s.pyl.takeover.isSome then s
    else if s.holder = some sb then
      s.bootStep a fun s => ((s.actPart a 6).bootSwitch 1 (1 - sb)).pylonReset (1 - sb)
    else if s.holder = some (1 - sb) ∧ s.handoverCheck (1 - sb) = 0 then { s with pyl := { s.pyl with handover := some (none, false) } }
    else s
  else if s.pylReady (1 - sb) then s.actDone a
  else s

/-- ACTIVATION_COMPLETE (R476, R477, R481): the part being switched is done, and the next one begins; after the last the
activation ends. -/
def execActivationComplete (s : State) : Out := s.run fun s =>
  match s.upd.act with
  | none => s
  | some a =>
    match a.comp with
    | 1 => s.pylonStep a
    | 2 => s.bootStep a fun s => (s.forEach (compHomes 2) fun s k => s.bootSwitch 2 k).actDone a
    | 5 => if a.part < 3 then s.actPart a (a.part + 1) else s.compSwitch a
    | 6 =>
      let x := s.comp 6 0
      let s := s.set (Reg.LNK_ID_EPOCH a.part) (x.slot (1 - x.boot)).linkep
      if a.part < 10 then ((s.actPart a (a.part + 1)).reroute (a.part + 1)).transitGo
      else ((s.actPart a 11).transitGo).compSwitch a
    | 7 =>
      if a.part < 36 && s.setBusy a.part then s
      else
        let t := s.nextBusySet (a.part + 1)
        if t < 36 then s.actPart a t else s.compSwitch a
    | _ => s.compSwitch a

/-- ACTIVATION_READY_TIMEOUT (R477 steps 3 and 5): the pylon that did not reach READY within 12.4 s gets its boot record back and is
reset. -/
def execActivationReadyTimeout (s : State) : Out := s.run fun s =>
  match s.upd.act with
  | none => s
  | some a =>
    let k := if a.part = 2 then a.standby else 1 - a.standby
    if s.nvShut ∨ a.comp ≠ 1 ∨ a.part = 4 ∨ s.pylReady k ∨ s.now < a.since + 12400000000 then s
    else
      let s := (s.bootSwitch 1 k).pylonReset k
      let s := s.occur 0x0f06 0 (leBytes 1 1 ++ leBytes 1 1)
      (s.actUnlock a).updReply a.who a.uop (if a.part = 2 then 0x10 else 0x11)

/-! ### CONFIRM and ABORT -/

/-- CONFIRM (R478): the change stands, and the previous settings are freed (R479, R480). -/
def State.updConfirm (s : State) (who : Asker) (c : Nat) : State :=
  if s.nvShut then s
  else if !s.updPending c ∨ s.upd.act.any (fun a => a.revert && a.comp == c) then s.updRefuse who 5 0x0c c
  else
    let s : State := { s with upd := { s.upd with pending := s.upd.pending.filter (· != c) } }
    let s := if c ≠ 1 then s
      else
        let own := s.setfmt (s.holder.getD 0)
        (s.freeRegions fun f => decide (f < own)).set Reg.UPD_STATUS_SETUNREAD 0
    (s.occur 0x0f05 0 (leBytes 1 c)).updReply who 5 0

def execUpdConfirm (n : Fin 8) (s : State) : Out := s.run fun s => s.mbxRun n 0x1104 fun s =>
  s.updConfirm (.mailbox n) (s.mbxArg n 1 % 16)

def execFabricUpdConfirm (p : Fin 11) (s : State) : Out := s.run fun s => s.fabricUpd p 5 fun s who f => s.updConfirm who (leAt f.body 9 1)

/-- ABORT (R470, R473, R481): the lock is released; a START or COMMIT in progress ends. Ignored once ACTIVATE has begun. -/
def State.updAbort (s : State) (who : Asker) : State :=
  let lock := s.lockCode who
  if lock ≠ 0 then s.updRefuse who 7 lock s.staged
  else if s.upd.act.any (!·.revert) then s.updReply who 7 0
  else
    let s := match s.upd.starter with
      | some w => s.updReply w 2 0x0c
      | none => s
    let s := match s.upd.committing with
      | some w => s.updReply w 3 0x0c
      | none => s
    s.updUnlock.updReply who 7 0

def execUpdAbort (n : Fin 8) (s : State) : Out := s.run fun s => s.mbxRun n 0x1106 fun s => s.updAbort (.mailbox n)

def execFabricUpdAbort (p : Fin 11) (s : State) : Out := s.run fun s => s.fabricUpd p 7 fun s who _ => s.updAbort who

/-- LOCK_IDLE_TIMEOUT (R470, R485): IDLE seconds since the holder's last accepted command or frame, none of which is still being
carried out. -/
def execLockIdleTimeout (s : State) : Out := s.run fun s =>
  let lock := s.get Reg.UPD_STATUS_LOCK
  let idle := max 1 (s.get Reg.UPD_CTL_IDLE) * 1000000000
  if (lock = 1 ∨ lock = 2) ∧ s.updPhase ≠ 3 ∧ s.updPhase ≠ 5 ∧ s.upd.starter.isNone ∧ s.upd.lockAt + idle ≤ s.now then s.updUnlock
  else s

/-! ### ROM recovery mode -/

/-- A pylon enters ROM recovery mode, and the ROM takes the update lock (R482). -/
def State.enterRecovery (s : State) (k cause : Nat) : State :=
  let s := s.updPylon k fun x => { x with recovery := true, recoverNext := false }
  let s := s.set (if k = 0 then Reg.UPD_RECOV_ACTA else Reg.UPD_RECOV_ACTB) 1
  let s := match s.upd.starter with
    | some w => s.updReply w 2 0x10
    | none => s
  let s := match s.upd.committing with
    | some w => (s.set Reg.UPD_STATUS_PHASE 2).updReply w 3 0x10
    | none => s
  let s : State := { s with upd := { s.upd with starter := none, committing := none } }
  let s : State :=
    if s.get Reg.UPD_STATUS_LOCK = 2 then
      let m := s.get Reg.UPD_STATUS_LOCKMOD
      let s := (s.set Reg.UPD_STATUS_PHASE 0).clearReg Reg.UPD_STAGE
      { s with upd := { s.upd with lost := some m, staging := [] } }
    else s
  let s := (s.set Reg.UPD_STATUS_LOCK 3).set Reg.UPD_STATUS_LOCKMOD 0
  s.occur 0x0f08 k (leBytes 1 k ++ leBytes 1 cause)

/-- The fields of a write of UPD_RECOV that hold what is written (R485). -/
def State.recovFields (s : State) (v : Word64) : State :=
  (s.set Reg.UPD_RECOV_PYL (bits v.toNat 2 1)).set Reg.UPD_RECOV_LEN (bits v.toNat 32 25)

/-- REQ with its key (R482): the pylon enters recovery at its next boot. -/
def State.recovReq (s : State) (v : Word64) : State :=
  if v.getLsbD 0 && bits v.toNat 16 16 == 0x5aa5 then s.updPylon (bits v.toNat 2 1) fun x => { x with recoverNext := true } else s

/-- The image in the staging window. -/
def State.windowImage (s : State) : List Byte := (s.words (Reg.UPD_WINDOW 0) 2097152).take (s.get Reg.UPD_RECOV_LEN)

/-- The outcome of a recovery download, 0 for an accepted image (R483). -/
def State.recovCode (s : State) (d : List Byte) : Nat :=
  let c := s.headerCheck d
  if c ≠ 0 then c
  else if 2 < imgComp d ∨ imgLength d ≠ d.length then 0x04
  else if !s.compatible d then 0x06
  else if s.imageCheck d ≠ 0 then s.imageCheck d
  else if !s.flag Reg.PWR_STATUS_HOLDUP then 0x08
  else 0

/-- GO (R483): the image in the window goes into both slots of the pylon named by PYL, which is reset. -/
def State.recovGo (s : State) (v : Word64) : State :=
  let k := s.get Reg.UPD_RECOV_PYL
  if !v.getLsbD 1 || !(s.pylon k).recovery || s.nvShut then s
  else
    let s : State := { s with upd := { s.upd with staging := [] } }
    let s := (s.set Reg.UPD_STATUS_PHASE 0).clearReg Reg.UPD_STAGE
    let d := s.windowImage
    let code := s.recovCode d
    let s := s.set Reg.UPD_RECOV_STATUS code
    if code ≠ 0 then s
    else
      let x := imgSlot d
      let s := s.updComp (imgComp d) k fun (y : Comp) => { y with slots := [x, x] }
      let s := (s.extend 9 7 x.digest).occur 0x0f09 k (leBytes 1 k ++ leBytes 1 (imgComp d) ++ leBytes 4 x.version)
      s.pylonReset k

/-- RECOVERY_REQUEST: a write of UPD_RECOV with REQ (R482). -/
def execRecoveryRequest (v : Word64) (s : State) : Out := s.run fun s => (s.recovFields v).recovReq v

/-- RECOVERY_DOWNLOAD: a write of UPD_RECOV with GO (R483). -/
def execRecoveryDownload (v : Word64) (s : State) : Out := s.run fun s => (s.recovFields v).recovGo v

end Sys2Proof.Machine
end

