-- ==== Sys2Proof/Machine/Boot.lean ====
section
/-! DEFINITION. Machine/Boot.lean: boot of the pylons and of the components (R444, R461).
The choices of the model here: logs 40, 54 and 57. -/

namespace Sys2Proof.Machine

/-- The slot of a component that passes its check at boot (R445, R461): the one that the boot record names, when its signature is
good (`a`), else the other, when its signature is good (`b`). -/
def State.bootSlot (s : State) (c k : Nat) (a b : Bool) : Option Nat :=
  let x := s.comp c k
  let ok := fun i => (x.slot i).valid && (s.keySlot (x.slot i).root).isSome
  if a && ok x.boot then some x.boot else if b && ok (1 - x.boot) then some (1 - x.boot) else none

/-- Held in reset by PWR_RST (R510). -/
def State.pylHeld (s : State) (k : Nat) : Bool := s.flag (if k = 0 then Reg.PWR_RST_PYLA else Reg.PWR_RST_PYLB)

/-- PYLON_BOOT_STAGE (R444): steps 1 to 4. A failed check at step 3 or 4, or the host's request, leads into ROM recovery mode; a
pylon that leaves a later reset restores its own settings (R519). `ring` says that
the boot ROM's ring test passes, which ends degraded mode (R413). -/
def execPylonBootStage (k : Fin 2) (ring : Bool) (r : BootRead) (s : State) : Out := s.run fun s =>
  let k := k.val
  let p := s.pylon k
  let next := fun (s : State) => s.updPylon k fun x => { x with stage := x.stage + 1 }
  if s.pylState k ≠ 1 ∨ p.recovery ∨ s.pylHeld k then s
  else
    match p.stage with
    | 0 =>
      let s := if s.get (Reg.SEC_EXTCNT_COUNT 0) ≠ 0 then s
        else (s.extend 0 6 s.fuseDigest).set Reg.SEC_STATUS_KEYOK (bit s.sec.keyed)
      next s
    | 1 =>
      let s := if ring then s.set (Reg.EVR_STATUS_DEGRADED k) 0 else s
      next (s.extend (1 + k) 1 (leBytes 64 (Config.romDigest k)))
    | 2 =>
      if p.recoverNext then s.enterRecovery k 1
      else match s.bootSlot 2 k r.good r.otherGood with
        | none => s.enterRecovery k 0
        | some i =>
          let s := s.extend (1 + k) 2 ((s.comp 2 k).slot i).digest
          next (s.updComp 2 k fun x => x.start i)
    | 3 =>
      match s.bootSlot 1 k r.good r.otherGood with
      | none => s.enterRecovery k 0
      | some i =>
        let s := s.extend (1 + k) 3 ((s.comp 1 k).slot i).digest
        let s := (next (s.updComp 1 k fun x => x.start i)).set (Reg.PYL_STATUS_STATE k) 2
        if s.pyl.granted then s.settingsOwn k else s
    | _ => s

/-- COMPONENT_IMAGE_LOAD (R444 step 5): the component images, MEAS 3 to MEAS 7 in order, after the first grant; `good` says that
the signature verifies. One that fails its check is not started. -/
def execComponentImageLoad (c : Fin 5) (good : Bool) (s : State) : Out := s.run fun s =>
  if s.holder.isNone ∨ !s.pyl.granted ∨ s.upd.loads ≠ c.val then s
  else
    let r := 3 + c.val
    let x := s.comp r 0
    let i := x.slot x.boot
    let s : State := { s with upd := { s.upd with loads := c.val + 1 } }
    match good && i.valid, s.keySlot i.root with
    | true, some _ =>
      let s := (s.extend r 4 i.digest).updComp r 0 fun x => x.start x.boot
      -- the SerDes firmware sets the link-layer epoch of every port (R266)
      if r = 6 then s.forEach (List.range 11) fun s p => s.set (Reg.LNK_ID_EPOCH p) i.linkep else s
    | _, key => s.occur 0x0e01 0 (leBytes 1 r ++ leBytes 1 (key.getD 0xff))

end Sys2Proof.Machine
end

