-- ==== Sys2Proof/Machine/Calibration.lean ====
section
/-! DEFINITION. Machine/Calibration.lean: calibration of ports and of memory channel groups (chapter 19).
The choices of the model here: log 47. -/

namespace Sys2Proof.Machine

/-- Ports and channel groups have element numbers 0 to 10 and 16 to 111 (R486). -/
def calElement (e : Nat) : Bool := decide (e < 11) || (decide (16 ≤ e) && decide (e < 112))

/-- |TEMP − LASTTEMP| of an element, both signed °C (R487). -/
def State.calMoved (s : State) (e : Nat) : Nat :=
  (signed 8 (s.get (Reg.CAL_ZONE_TEMP e)) - signed 8 (s.get (Reg.CAL_ZONE_LASTTEMP e))).natAbs

/-- ZONE_SAMPLE (R487): the 10 ms sample of every zone, one byte for each element number. -/
def execZoneSample (temps : List Byte) (s : State) : Out := s.run fun s =>
  s.forEach ((List.range 112).filter calElement) fun s e =>
    let s := s.set (Reg.CAL_ZONE_TEMP e) (leAt temps e 1)
    if s.calDelta < s.calMoved e then s.set (calDue e) 1 else s

/-- A write of CAL_REQ with GO (R489, R498, R499). -/
def State.calRequest (s : State) (e : Nat) : State :=
  if !calElement e then s
  else
    let l := s.cal.requested
    let s : State := { s with cal := { s.cal with requested := if l.contains e then l else l ++ [e] } }
    s.set (calDue e) 1

def execCalibrationRequest (e : Fin 128) (s : State) : Out := s.run fun s => s.calRequest e

/-- Element number of a package, its pier, and its number in the pier (R160, R486). -/
def memElement (n : Nat) : Nat := 16 + n
def elementPier (e : Nat) : Nat := (e - 16) / 24
def elementPackage (e : Nat) : Nat := (e - 16) % 24

/-- A condition of R490 keeps an element from beginning. -/
def State.calBlocked (s : State) (e : Nat) : Bool :=
  if e < 16 then s.portCalBlocked e false
  else decide (2 ≤ s.get Reg.PWR_STATUS_STATE) || !s.pierUp (elementPier e)

/-- The element of a kind that runs next (R489): requested ones in order, else by the change of temperature, then the lower
number; port H only on request. -/
def State.calNext (s : State) (mem : Bool) : Option Nat :=
  let can := fun e => (decide (16 ≤ e) == mem) && calElement e && s.flag (calDue e) && !s.calBlocked e
  match s.cal.requested.find? can with
  | some e => some e
  | none =>
    let auto := s.flag (if mem then Reg.CAL_CTL_AUTOMEM else Reg.CAL_CTL_AUTOPORT)
    if !auto then none
    else ((List.range 112).filter fun e => e != 10 && can e).foldl (fun b e => match b with
      | none => some e
      | some c => if s.calMoved c < s.calMoved e then some e else some c) none

/-- CALIBRATION_START (R489, R491, R495): the next element of a kind begins, unless one of that kind runs. -/
def execCalibrationStart (mem : Bool) (s : State) : Out := s.run fun s =>
  if s.get (if mem then Reg.CAL_STATUS_MEMRUN else Reg.CAL_STATUS_PORTRUN) ≠ 0x7f then s
  else
    match s.calNext mem with
    | none => s
    | some e =>
      let s := s.calBegin e
      if mem then (s.set Reg.CAL_STATUS_MEMRUN e).set (Reg.PIER_STATUS_PAUSED (elementPier e)) (elementPackage e)
      else (s.set Reg.CAL_STATUS_PORTRUN e).drainBegin e true true

/-- The receivers are retuned: each lane has one of four interpolator cells, which the specification leaves to calibration (R486;
log 1). -/
def State.retune (s : State) (i : Nat) : State :=
  let n := physLanes i
  let v := s.freshList n
  (s.drawnBy n).forEach (List.range n) fun s k => s.set (Reg.LNK_LANE_STATUS_INTERP i k) (v.getD k 0 % 4)

/-- The port leaves RECAL for ACTIVE; a press made meanwhile acts now (R259, R491). -/
def State.recalEnd (s : State) (i : Nat) : State :=
  let press := (s.port i).pressWaits
  let s := (s.updPort i fun x => { x with calDrain := false, drainedSent := false, drainedGot := false, pressWaits := false }).activate i
  if press then s.serviceDrain i else s

/-- PORT_CALIBRATION_COMPLETE (R491, R493, R494): `lanes` has a bit for each physical lane that meets the margin limit, and
`spare` is the lane chosen as spare (the lane that does not meet it, when there is one). A new spare is first exchanged with the peer (R258). A failing run leaves the port on its
healthy lanes, or takes it down (R257). -/
def execPortCalibrationComplete (i : Fin 11) (lanes : Nat) (spare : Fin 17) (s : State) : Out := s.run fun s =>
  if s.linkState i ≠ 12 ∨ s.get Reg.CAL_STATUS_PORTRUN ≠ i.val ∨ physLanes i ≤ spare.val ∨ (s.port i).change.isSome then s
  else
    let bad := (List.range (physLanes i)).filter fun n => !lanes.testBit n
    let spare := bad.headD spare
    if bad.length ≤ physLanes i - logLanes i then
      if s.get (Reg.LNK_LANEMAP_SPARE i) ≠ spare then s.proposeLanes i spare (2 ^ logLanes i - 1) spare
      else ((s.retune i).calPortEnd i true).recalEnd i
    else
      let s := (s.retune i).forEach bad fun s n => s.laneFail i n
      if s.linkState i = 12 then (s.calPortEnd i false).recalEnd i else s

/-- The memory calibration that runs ends (R495). -/
def State.calMemEnd (s : State) (pass : Bool) : State :=
  let e := s.get Reg.CAL_STATUS_MEMRUN
  if e = 0x7f then s
  else ((s.set Reg.CAL_STATUS_MEMRUN 0x7f).set (Reg.PIER_STATUS_PAUSED (elementPier e)) 0xff).calRun e pass true

def execMemoryCalibrationComplete (pass : Bool) (s : State) : Out := s.run fun s => s.calMemEnd pass

/-- STARTUP_CALIBRATION_COMPLETE (R488): every channel group has been calibrated; `fails` are those that failed. -/
def execStartupCalibrationComplete (fails : List (Fin 96)) (s : State) : Out := s.run fun s =>
  if !s.flag Reg.CAL_STATUS_STARTUP then s
  else
    let bad := fails.map (·.val)
    (s.forEach (List.range 96) fun s n => s.calRun (memElement n) (!bad.contains n) false).set Reg.CAL_STATUS_STARTUP 0

end Sys2Proof.Machine
end

