-- ==== Sys2Proof/Machine/Jig.lean ====
section
/-! DEFINITION. Machine/Jig.lean: the jig (chapter 03): the image and its checks (R49 to R71, R573), the phases of a load (R72 to
R78), and sealing (R79, R80).
The choices of the model here: log 55. -/

namespace Sys2Proof.Machine

/-! ### The image -/

/-- Header fields (R49). -/
def jigKind (d : List Byte) : Nat := leAt d 6 2
def jigLength (d : List Byte) : Nat := leAt d 8 4
def jigNsect (d : List Byte) : Nat := leAt d 12 2
def jigScope (d : List Byte) : Nat := leAt d 14 2
def jigId (d : List Byte) : Nat := leAt d 16 8

/-- The size of a section's fixed part and of its entries (R50). -/
def jigSizes (t : Nat) : Nat × Nat :=
  match t with
  | 1 => (16, 0)
  | 2 => (16, 0)
  | 3 => (0, 32)
  | 4 => (0, 16)
  | 5 => (0, 8)
  | 6 => (0, 8)
  | 7 => (0, 16)
  | 8 => (16, 16)
  | 9 => (0, 32)
  | _ => (0, 8)

/-- The types that a kind accepts, and those it requires (R52). -/
def jigAccepts (kind t : Nat) : Bool :=
  if kind = 0 then true else if kind = 1 then t == 4 || t == 5 || t == 6 else t == 3 || t == 8
def jigRequired (kind : Nat) : List Nat := if kind = 0 then [1, 2, 4, 7, 8, 9] else if kind = 1 then [] else [8]

/-- A section: index, offset of its header in the image, type, COUNT, SLEN and SCOPE (R50). -/
structure JigSect where
  index : Nat
  start : Nat
  type : Nat
  count : Nat
  slen : Nat
  scope : Nat
  deriving DecidableEq, Repr

def jigSectAt (d : List Byte) (i o : Nat) : JigSect :=
  { index := i, start := o, type := leAt d o 1, count := leAt d (o + 2) 2, slen := leAt d (o + 4) 4, scope := leAt d (o + 8) 2 }

/-- The sections of an image whose framing is right, in order. -/
def jigSects (d : List Byte) : List JigSect :=
  ((List.range (jigNsect d)).foldl (fun (acc : List JigSect × Nat) i =>
    let x := jigSectAt d i acc.2
    (acc.1 ++ [x], acc.2 + x.slen)) ([], 128)).1

/-- Offset of entry k of a section. -/
def JigSect.entry (x : JigSect) (k : Nat) : Nat := x.start + 16 + (jigSizes x.type).1 + k * (jigSizes x.type).2
/-- Length needed of a section's body (R50). -/
def JigSect.need (x : JigSect) : Nat := (jigSizes x.type).1 + x.count * (jigSizes x.type).2
/-- The offsets of the entries of a section. -/
def JigSect.entries (x : JigSect) : List Nat := (List.range x.count).map x.entry

def jigFind (d : List Byte) (t : Nat) : Option JigSect := (jigSects d).find? fun x => x.type == t
def jigFindSet (d : List Byte) (t set : Nat) : Option JigSect := (jigSects d).find? fun x => x.type == t && x.scope == set

/-! ### Entries -/

def identAt (d : List Byte) (o : Nat) : Ident :=
  { modnum := leAt d o 2, span := leAt d (o + 2) 1, x := leAt d (o + 3) 1, y := leAt d (o + 4) 1, z := leAt d (o + 5) 1,
    dx := leAt d (o + 6) 1, dy := leAt d (o + 7) 1, dz := leAt d (o + 8) 1 }

def mregAt (d : List Byte) (o : Nat) : Mreg :=
  { base := leAt d o 8, size := leAt d (o + 8) 8, kind := leAt d (o + 16) 1, peer := leAt d (o + 18) 2 }

def ssetAt (d : List Byte) (o : Nat) : SetDef := { set := leAt d o 1, mode := leAt d (o + 1) 1, groups := leAt d (o + 8) 8 }

def bowlAt (d : List Byte) (o : Nat) : BowlPart := { use := leAt d o 1, base := leAt d (o + 2) 2, size := leAt d (o + 4) 2 }

def fmtAt (d : List Byte) (o : Nat) : FmtSlot :=
  { slot := leAt d o 1, wfmt := leAt d (o + 1) 1, afmt := leAt d (o + 2) 1, kvfmt := leAt d (o + 3) 1, wscale := leAt d (o + 4) 1 }

def qmapAt (d : List Byte) (o : Nat) : QmapEntry :=
  { first := leAt d o 2, qcnt := leAt d (o + 2) 2, prog := leAt d (o + 4) 1, prio := leAt d (o + 5) 1, sets := leAt d (o + 8) 8 }

def servoAt (d : List Byte) (o : Nat) : ServoEntry :=
  { mirror := leAt d o 1, en := leAt d (o + 1) 1, chaddr := leAt d (o + 2) 2, dmin0 := leAt d (o + 4) 4, dmax0 := leAt d (o + 8) 4,
    slew0 := leAt d (o + 12) 4, dmin1 := leAt d (o + 16) 4, dmax1 := leAt d (o + 20) 4, slew1 := leAt d (o + 24) 4 }

def cgrantAt (d : List Byte) (o : Nat) : CgrantEntry := { first := leAt d o 2, qcnt := leAt d (o + 2) 2, view := leAt d (o + 4) 1 }

/-- Entries of a section, none when the image has no such section. -/
def jigEntries {α : Type} (d : List Byte) (x : Option JigSect) (f : List Byte → Nat → α) : List α :=
  match x with
  | some x => x.entries.map (f d)
  | none => []

/-! ### Checks -/

/-- A check: whether it fails, the error code, and the offset of the field. -/
abbrev JigCheck := Bool × Nat × Nat

/-- Bytes that must be 0 (R84). -/
def zeroCheck (d : List Byte) (o n : Nat) : List JigCheck := (List.range n).map fun k => (leAt d (o + k) 1 != 0, 0x0b, o + k)

/-- A field outside its range (R84). -/
def range (bad : Bool) (o : Nat) : JigCheck := (bad, 0x0b, o)

/-- The first error of the header (R49, R573): code and offset. -/
def jigHeaderCheck (d : List Byte) : List JigCheck :=
  let kind := jigKind d
  let len := jigLength d
  let scopeOk := if kind = 1 then decide (jigScope d < 36) else jigScope d == 0xffff
  [(leAt d 0 4 != 0x3147494a, 0x01, 0), (leAt d 4 2 != 3, 0x02, 4), range (decide (2 < kind)) 6,
   (len % 16 != 0 || decide (0x200000 < len) || decide (len < 128), 0x03, 8),
   (jigNsect d == 0 || decide (96 < jigNsect d), 0x03, 12), (!scopeOk, 0x13, 14)] ++ zeroCheck d 28 36

/-- DIGEST is right (R49). -/
def jigDigestOk (d : List Byte) : Bool := shake256 64 (d.take 64 ++ List.replicate 64 0 ++ d.drop 128) == slice d 64 64

/-- The checks of one section header (R573, pass 2). DESIGN CHOICE: error 0x07 is reported at TYPE, also where the SCOPEs alone are out of
order (log 76). -/
def jigFrameCheck (kind hscope len : Nat) (d : List Byte) (x : JigSect) (prev : Option JigSect) : List JigCheck :=
  let o := x.start
  let sized := decide (1 ≤ x.type ∧ x.type ≤ 10)
  let after := match prev with
    | some p => decide (p.type < x.type) || (p.type == x.type && decide (p.scope < x.scope))
    | none => true
  let perSet := x.type == 5 || x.type == 6
  [(leAt d (o + 1) 1 != 1, 0x02, o + 1),
   (decide (x.slen < 16) || x.slen % 16 != 0 || decide (len < o + x.slen), 0x03, o + 4),
   (sized && x.slen != 16 + (x.need + 15) / 16 * 16, 0x03, o + 2),
   (!sized, 0x0a, o), (!jigAccepts kind x.type, 0x08, o), (!after, 0x07, o),
   (if perSet then decide (36 ≤ x.scope) || (kind == 1 && x.scope != hscope) else x.scope != 0xffff, 0x13, o + 8)]

/-- Pass 2 (R573): the first error, as code, section and offset. DESIGN CHOICE: sections that do not sum to LENGTH - 128 are reported with
SECTION 0xFF at the end of the last one; a section header that does not fit in the image is reported so before its VER is read (log 76). -/
def jigFraming (d : List Byte) : Option (Nat × Nat × Nat) :=
  let kind := jigKind d
  let len := jigLength d
  let walk := (List.range (jigNsect d)).foldl (fun (acc : Option (Nat × Nat × Nat) × Nat × Option JigSect) i =>
    match acc.1 with
    | some _ => acc
    | none =>
      let o := acc.2.1
      if len < o + 16 then (some (0x03, 0xff, o), o, none)
      else
        let x := jigSectAt d i o
        match (jigFrameCheck kind (jigScope d) len d x acc.2.2).find? (·.1) with
        | some e => (some (e.2.1, i, e.2.2), o, none)
        | none => (none, o + x.slen, some x)) (none, 128, none)
  match walk.1 with
  | some e => some e
  | none =>
    if walk.2.1 ≠ len then some (0x03, 0xff, walk.2.1)
    else
      let l := jigSects d
      ((jigRequired kind).find? fun t => !(l.any fun x => x.type == t)).map fun t =>
        (0x09, 0xff, ((l.find? fun x => decide (t < x.type)).map (·.start)).getD len)

/-- Two ranges overlap. -/
def overlaps (a n b m : Nat) : Bool := decide (a < b + m) && decide (b < a + n)

/-- What content checks refer to: the kind, the header's SCOPE, the seal, the sets in force, the sets as the load leaves them, and
the module's IDENT as the load leaves it. -/
structure JigCtx where
  kind : Nat
  hscope : Nat
  isSealed : Bool
  old : List SetDef
  sets : List SetDef
  ident : Option Ident
  deriving DecidableEq, Repr

def JigCtx.defined (c : JigCtx) (n : Nat) : Bool := c.sets.any fun x => x.set == n

/-- IDENT (R54). -/
def identChecks (d : List Byte) (o : Nat) : List JigCheck :=
  let i := identAt d o
  [range (decide (8191 < i.modnum)) o, range (decide (63 < i.span)) (o + 2), range (i.dx == 0 || decide (8 < i.dx)) (o + 6),
   range (i.dy == 0 || decide (4 < i.dy)) (o + 7), range (i.dz == 0 || decide (4 < i.dz)) (o + 8),
   range (decide (i.dx ≤ i.x)) (o + 3), range (decide (i.dy ≤ i.y)) (o + 4), range (decide (i.dz ≤ i.z)) (o + 5)]
    ++ zeroCheck d (o + 9) 7

/-- POWER (R55). -/
def powerChecks (d : List Byte) (o : Nat) : List JigCheck :=
  [range (decide (2 < leAt d o 1)) o, range (decide (2 < leAt d (o + 1) 1)) (o + 1)] ++ zeroCheck d (o + 2) 14

/-- An MREG entry, after the earlier ones (R56, R57). DESIGN CHOICE: with no IDENT applied the module's own number is 0 for the check of a
kind 4 PEER (log 76). -/
def mregChecks (c : JigCtx) (d : List Byte) (prev : List Mreg) (o : Nat) : List JigCheck :=
  let m := mregAt d o
  let own := (c.ident.map (·.modnum)).getD 0
  let peerBad := if m.kind = 3 then decide (8191 < m.peer) else if m.kind = 4 then decide (8191 < m.peer) || m.peer == own
    else m.peer != 0
  let meets := fun (p : Mreg) => overlaps m.base m.size p.base p.size
    && (if m.kind = 4 then p.kind == 4 && p.peer == m.peer else decide (p.kind < 4))
  [range (m.base % 0x200000 != 0 || decide (dramEnd ≤ m.base)) o,
   range (m.size == 0 || m.size % 0x200000 != 0 || decide (dramEnd < m.base + m.size)) (o + 8), range (decide (4 < m.kind)) (o + 16)]
    ++ zeroCheck d (o + 17) 1 ++ [range peerBad (o + 18)] ++ zeroCheck d (o + 20) 12 ++ [(prev.any meets, 0x0c, o)]

/-- An SSET entry, after the earlier ones (R53, R58, R59, R66, R80). -/
def ssetChecks (c : JigCtx) (d : List Byte) (prev : List SetDef) (o : Nat) : List JigCheck :=
  let x := ssetAt d o
  let was := c.old.find? fun y => y.set == x.set
  let load := c.kind == 1
  let others := if load then c.old.filter fun y => y.set != x.set else prev
  [if load then (x.set != c.hscope, 0x13, o) else range (decide (36 ≤ x.set)) o,
   (load && c.isSealed && was.isNone, 0x0e, o), range (decide (1 < x.mode)) (o + 1)] ++ zeroCheck d (o + 2) 6
    ++ [range (decide (2 ^ 36 ≤ x.groups)) (o + 8),
        (load && c.isSealed && was.any fun y => y.groups != x.groups, 0x0e, o + 8),
        (x.groups == 0, if load then 0x14 else 0x0b, o + 8),
        (prev.any fun y => y.set == x.set, 0x0c, o), (others.any fun y => (y.groups &&& x.groups) != 0, 0x0c, o + 8)]

/-- A BOWL entry, after the earlier ones (R60, R61). -/
def bowlChecks (d : List Byte) (prev : List BowlPart) (o : Nat) : List JigCheck :=
  let x := bowlAt d o
  [range (decide (4 < x.use)) o] ++ zeroCheck d (o + 1) 1
    ++ [range (decide (383 < x.base)) (o + 2),
        range (x.size == 0 || decide (384 < x.base + x.size) || (x.use == 3 && decide (x.size < 4))) (o + 4)] ++ zeroCheck d (o + 6) 2
    ++ [((x.use == 3 || x.use == 4) && prev.any fun y => y.use == x.use, 0x0c, o),
        (prev.any fun y => overlaps x.base x.size y.base y.size, 0x0c, o + 2)]

/-- WSCALE fits WFMT (R64). -/
def scaleFits (wfmt wscale : Nat) : Bool :=
  match wscale with
  | 0 => wfmt != 0x0a
  | 1 => decide (3 ≤ wfmt ∧ wfmt ≤ 8)
  | _ => [5, 6, 7, 9, 10].contains wfmt

/-- An FMT entry, after the earlier ones (R62 to R64). DESIGN CHOICE: an AFMT or KVFMT of 5 to 10 is a format that its use does not allow,
0x0D, and not a value outside the range, 0x0B (log 76). -/
def fmtChecks (d : List Byte) (prev : List FmtSlot) (o : Nat) : List JigCheck :=
  let x := fmtAt d o
  [range (decide (15 < x.slot)) o, range (decide (10 < x.wfmt)) (o + 1), range (decide (10 < x.afmt)) (o + 2),
   (decide (4 < x.afmt), 0x0d, o + 2), range (decide (10 < x.kvfmt)) (o + 3), (decide (4 < x.kvfmt), 0x0d, o + 3),
   range (decide (2 < x.wscale)) (o + 4)] ++ zeroCheck d (o + 5) 3
    ++ [(!scaleFits x.wfmt x.wscale, 0x0d, o + 4), (prev.any fun y => y.slot == x.slot, 0x0c, o)]

/-- A QMAP entry, after the earlier ones (R65, R66). -/
def qmapChecks (c : JigCtx) (d : List Byte) (prev : List QmapEntry) (o : Nat) : List JigCheck :=
  let x := qmapAt d o
  [range (decide (4095 < x.first)) o, range (x.qcnt == 0 || decide (4096 < x.first + x.qcnt)) (o + 2), range (decide (63 < x.prog)) (o + 4),
   range (decide (7 < x.prio)) (o + 5)] ++ zeroCheck d (o + 6) 2
    ++ [range (x.sets == 0 || decide (2 ^ 36 ≤ x.sets)) (o + 8),
        ((List.range 36).any fun t => x.sets.testBit t && !c.defined t, 0x14, o + 8),
        (prev.any fun y => overlaps x.first x.qcnt y.first y.qcnt, 0x0c, o)]

/-- Coordinate c lies inside the slice on an axis (R285). -/
def insideAxis (c o e dim : Nat) : Bool := decide ((c + dim - o) % dim < e)

/-- The module's place on each axis, the span's dimension there, and the axis: DESIGN CHOICE, a job load that comes before any IDENT is
checked as for a span of one module (log 76). -/
def JigCtx.axes (c : JigCtx) : List (Nat × Nat × Nat) :=
  let i := c.ident.getD { modnum := 0, span := 0, x := 0, y := 0, z := 0, dx := 1, dy := 1, dz := 1 }
  [(i.x, i.dx, 0), (i.y, i.dy, 1), (i.z, i.dz, 2)]

/-- The ROUTE preamble (R67). -/
def routeChecks (c : JigCtx) (d : List Byte) (o : Nat) : List JigCheck :=
  let b := fun k => leAt d (o + k) 1
  let axes := c.axes
  let wrap := b 8
  [range (leAt d o 2 == 0) o] ++ axes.map (fun a => range (b (5 + a.2.2) == 0 || decide (a.2.1 < b (5 + a.2.2))) (o + 5 + a.2.2))
    ++ axes.map (fun a => range (decide (a.2.1 ≤ b (2 + a.2.2))) (o + 2 + a.2.2))
    ++ [range (decide (8 ≤ wrap) || axes.any fun a => wrap.testBit a.2.2 != (b (5 + a.2.2) == a.2.1)) (o + 8)] ++ zeroCheck d (o + 9) 7

/-- The module lies inside the slice (R68): checked last in ROUTE and reported at OX (R573). -/
def sliceCheck (c : JigCtx) (d : List Byte) (o : Nat) : List JigCheck :=
  [range (c.axes.any fun a => !insideAxis a.1 (leAt d (o + 2 + a.2.2) 1) (leAt d (o + 5 + a.2.2) 1) a.2.1) (o + 2)]

/-- A port code that an entry may carry (R278). -/
def portCodeOk (n : Nat) : Bool := decide (n ≤ 9) || n == 15

/-- A routing entry (R277, R278). -/
def routeEntryChecks (d : List Byte) (o : Nat) : List JigCheck :=
  let b := fun k => leAt d (o + k) 1
  [range ((b 0).testBit 3 || !portCodeOk (b 0 / 16)) o, range (!portCodeOk (b 1 % 16) || !portCodeOk (b 1 / 16)) (o + 1)]
    ++ zeroCheck d (o + 2) 1 ++ [range (decide (63 < b 3)) (o + 3)] ++ zeroCheck d (o + 7) 9

/-- A SERVO entry, entry n, after the earlier ones (R69, R70). -/
def servoChecks (d : List Byte) (prev : List ServoEntry) (o : Nat) : List JigCheck :=
  let x := servoAt d o
  let wide := fun (v : Nat) => decide (2 ^ 20 ≤ v)
  [range (x.mirror != prev.length) o, range (decide (1 < x.en)) (o + 1), range (decide (8191 < x.chaddr)) (o + 2),
   range (wide x.dmin0) (o + 4), range (wide x.dmax0) (o + 8), (decide (x.dmax0 < x.dmin0), 0x15, o + 8), range (wide x.slew0) (o + 12),
   (x.slew0 == 0, 0x15, o + 12), range (wide x.dmin1) (o + 16), range (wide x.dmax1) (o + 20), (decide (x.dmax1 < x.dmin1), 0x15, o + 20),
   range (wide x.slew1) (o + 24), (x.slew1 == 0, 0x15, o + 24)] ++ zeroCheck d (o + 28) 4
    ++ [(x.en == 1 && prev.any fun y => y.en == 1 && y.chaddr == x.chaddr, 0x0c, o + 2)]

/-- A CGRANT entry, after the earlier ones (R71). -/
def cgrantChecks (d : List Byte) (prev : List CgrantEntry) (o : Nat) : List JigCheck :=
  let x := cgrantAt d o
  [range (decide (4095 < x.first)) o, range (x.qcnt == 0 || decide (4096 < x.first + x.qcnt)) (o + 2), range (decide (32 ≤ x.view)) (o + 4)]
    ++ zeroCheck d (o + 5) 3 ++ [(prev.any fun y => overlaps x.first x.qcnt y.first y.qcnt, 0x0c, o)]

/-- COUNT is within its bounds (R50, R53, R56, R58, R60, R62, R65, R67, R69, R71). -/
def countOk (kind t n : Nat) : Bool :=
  match t with
  | 1 => n == 1
  | 2 => n == 1
  | 3 => decide (n ≤ 1024)
  | 4 => if kind = 1 then n == 1 else decide (1 ≤ n ∧ n ≤ 36)
  | 5 => decide (n ≤ 8)
  | 6 => decide (n ≤ 16)
  | 7 => decide (1 ≤ n ∧ n ≤ 4096)
  | 8 => decide (n ≤ 8192)
  | 9 => n == 128
  | _ => decide (n ≤ 4096)

/-- Entries checked in order, each with those before it; the first error as code and offset. -/
def entryChecks {α : Type} (d : List Byte) (x : JigSect) (f : List Byte → Nat → α) (chk : List α → Nat → List JigCheck) :
    Option (Nat × Nat) :=
  (x.entries.foldl (fun (acc : Option (Nat × Nat) × List α) o =>
    match acc.1 with
    | some _ => acc
    | none => (((chk acc.2 o).find? (·.1)).map (·.2), acc.2 ++ [f d o])) (none, [])).1

/-- The content of a section (R573, pass 3): the first error as code and offset. -/
def jigContent (c : JigCtx) (d : List Byte) (x : JigSect) : Option (Nat × Nat) :=
  let first := fun (l : List JigCheck) => (l.find? (·.1)).map (·.2)
  let o := x.start + 16
  let perSet := x.type == 5 || x.type == 6
  let head := first ([range (!countOk c.kind x.type x.count) (x.start + 2)]
    ++ (if perSet then [(!c.defined x.scope, 0x14, x.start + 8)] else []) ++ zeroCheck d (x.start + 10) 6)
  let body := match x.type with
    | 1 => first (identChecks d o)
    | 2 => first (powerChecks d o)
    | 3 => entryChecks d x mregAt (mregChecks c d)
    | 4 => entryChecks d x ssetAt (ssetChecks c d)
    | 5 => entryChecks d x bowlAt (bowlChecks d)
    | 6 => entryChecks d x fmtAt (fmtChecks d)
    | 7 => entryChecks d x qmapAt (qmapChecks c d)
    | 8 => ((first (routeChecks c d o)).or (entryChecks d x (fun _ _ => ()) fun _ => routeEntryChecks d)).or (first (sliceCheck c d o))
    | 9 => entryChecks d x servoAt (servoChecks d)
    | _ => entryChecks d x cgrantAt (cgrantChecks d)
  (head.or body).or (first (zeroCheck d (o + x.need) (x.slen - 16 - x.need)))

/-! ### Validation -/

/-- The sets as a load leaves them (R53, R58). -/
def State.jigSets (s : State) (d : List Byte) : List SetDef :=
  let l := jigEntries d (jigFind d 4) ssetAt
  if jigKind d = 0 then l
  else (s.jig.sets.filter fun y => !(l.any fun x => x.set == y.set)) ++ l

/-- The IDENT as a load leaves it. -/
def State.jigIdent (s : State) (d : List Byte) : Option Ident :=
  match jigFind d 1 with
  | some x => some (identAt d (x.start + 16))
  | none => s.jig.ident

/-- Some queue pair is enabled (R76). DESIGN CHOICE: by QP_CTL.EN alone, also of a queue pair that no QMAP entry covers (log 76). -/
def State.anyQp (s : State) : Bool := (List.range 4096).any fun q => s.flag (Reg.HDS_QP_CTL_EN q)

/-- The first error of an image: code, section and offset (R573). A sealed jig refuses a full load (R80), and so does a queue pair
that is enabled (R76), once the header is right. -/
def State.jigCheck (s : State) (d : List Byte) : Option (Nat × Nat × Nat) :=
  match (jigHeaderCheck d).find? (·.1) with
  | some e => some (e.2.1, 0xff, e.2.2)
  | none =>
    if !jigDigestOk d then some (0x04, 0xff, 64)
    else if jigKind d = 0 ∧ s.flag Reg.JIG_STATUS_SEALED then some (0x0e, 0xff, 0)
    else if jigKind d = 0 ∧ s.anyQp then some (0x0f, 0xff, 0)
    else match jigFraming d with
      | some e => some e
      | none =>
        let c : JigCtx := { kind := jigKind d, hscope := jigScope d, isSealed := s.flag Reg.JIG_STATUS_SEALED, old := s.jig.sets,
                            sets := s.jigSets d, ident := s.jigIdent d }
        (jigSects d).foldl (fun acc x => acc.or ((jigContent c d x).map fun e => (e.1, x.index, e.2))) none

/-! ### Phases -/

def State.jigPhase (s : State) : Nat := s.get Reg.JIG_STATUS_PHASE

/-- A load is in progress (R72, R81). -/
def State.jigBusy (s : State) : Bool := decide (1 ≤ s.jigPhase ∧ s.jigPhase ≤ 4)

/-- The jig is sealed (R79). -/
def State.jigSealNow (s : State) : State :=
  let s := (s.set Reg.JIG_STATUS_SEALED 1).set Reg.JIG_CTL_SEAL 1
  { s with jig := { s.jig with sealPending := false } }

/-- SEAL written 1 (R79): at once, or when the load in progress ends. -/
def State.jigSeal (s : State) : State :=
  if s.jigBusy then { s with jig := { s.jig with sealPending := true } } else s.jigSealNow

/-- A load ends, in Done or Failed (R72, R77, R79, R81). -/
def State.jigEnd (s : State) (phase code sec off : Nat) : State :=
  let s := (((s.set Reg.JIG_STATUS_PHASE phase).set Reg.JIG_STATUS_ERROR code).set Reg.JIG_STATUS_SECTION sec).set Reg.JIG_STATUS_OFFSET off
  let s := s.set Reg.JIG_CTL_START 0
  let s : State := { s with jig := { s.jig with staging := [] } }
  (if s.jig.sealPending then s.jigSealNow else s).raiseVec 8

/-- A load fails (R77): configuration is as before START (R73). The remote operations that a job load has held go in their original
order (R75). -/
def State.jigFail (s : State) (code sec off : Nat) : State :=
  let s : State := if jigKind s.jig.staging = 2 then { s with rtr := { s.rtr with inOrder := s.rtr.nextOrder } } else s
  (s.jigEnd 6 code sec off).occur 0x0202 0 (leBytes 1 code ++ leBytes 1 sec ++ leBytes 3 off)

/-- START written 1 (R72, R81): ignored while a load is in progress. -/
def State.jigStart (s : State) : State :=
  if s.flag Reg.JIG_CTL_START then s else (s.set Reg.JIG_CTL_START 1).set Reg.JIG_STATUS_PHASE 1

/-- ABORT written 1 (R81): no effect in the apply phase, or with no load in progress. -/
def State.jigAbort (s : State) : State := if s.jigBusy && s.jigPhase != 4 then s.jigFail 0x11 0xff 0 else s

def execJigStart (s : State) : Out := s.run State.jigStart
def execJigAbort (s : State) : Out := s.run State.jigAbort
def execJigSeal (s : State) : Out := s.run State.jigSeal

/-- JIG_COPY_COMPLETE (R72): the image is in the staging store; it may lie on a bad address or hold a line that fails. -/
def execJigCopyComplete (s : State) : Out := s.run fun s =>
  let a := s.get Reg.JIG_SRC_ADDR
  if s.jigPhase ≠ 1 then s
  else if a % 4096 ≠ 0 ∨ dramEnd < a + 128 then s.jigFail 0x05 0xff 0
  else if !s.memAvail a 128 then s
  else
    let h := s.memRead a 128 false
    match h.1 with
    | none => h.2.jigFail 0x06 0xff 0
    | some hd =>
      let n := min (max 128 (jigLength hd)) 0x200000
      if dramEnd < a + n then h.2.jigFail 0x05 0xff 0
      else if !h.2.memAvail a n then s
      else
        let r := h.2.memRead a n false
        match r.1 with
        | none => r.2.jigFail 0x06 0xff 0
        | some d =>
          let s := r.2
          State.set { s with jig := { s.jig with staging := d } } Reg.JIG_STATUS_PHASE 2

/-- A job or full load disarms an armed swap and writes every staged routing entry invalid (R283). -/
def State.swapCancel (s : State) : State :=
  let s := if s.flag Reg.RTR_SWAP_CTL_ARM then (s.set Reg.RTR_SWAP_CTL_ARM 0).set Reg.RTR_SWAP_CTL_CANCELLED 1 else s
  s.clearRange (Reg.RTR_STG_LO 0) (Reg.RTR_STG_LO 8192)

/-- A job load's apply phase invalidates read-only lines when it begins (R183). -/
def State.jigApplyBegin (s : State) : State :=
  let s := s.set Reg.JIG_STATUS_PHASE 4
  let s := if jigKind s.jig.staging = 1 then s else s.swapCancel
  if jigKind s.jig.staging = 2 then s.forEach (List.range 4) fun s p => s.rolDrop p 0 else s

/-- End every request that runs on a set, or waits on it, by reconfiguration (R75, R204). -/
def State.endSet (s : State) (set : Nat) : State :=
  let l := s.hds.requests.filter fun r => r.set == set && !r.ended
  let s := s.forEach l fun s r => s.endCause r.handle 0x07 0 7
  let s := s.forEach (l.filter fun r => !r.attached) fun s r => s.endRequest r.handle
  s.stopInst set false

/-- JIG_VALIDATE_COMPLETE (R72, R75, R573): the first error ends the load; else a set or job load drains, and a full load is
applied. -/
def execJigValidateComplete (s : State) : Out := s.run fun s =>
  if s.jigPhase ≠ 2 then s
  else
    let d := s.jig.staging
    match s.jigCheck d with
    | some e => s.jigFail e.1 e.2.1 e.2.2
    | none =>
      if jigKind d = 0 then s.jigApplyBegin
      else
        let s := s.set Reg.JIG_STATUS_PHASE 3
        let s : State := { s with jig := { s.jig with drainAt := s.now } }
        if jigKind d = 1 ∧ s.flag Reg.JIG_CTL_DRAIN then s.endSet (jigScope d) else s

/-- The drain condition of the load is met (R72, R75). -/
def State.jigDrained (s : State) : Bool :=
  if jigKind s.jig.staging = 1 then s.setAttached (jigScope s.jig.staging) == 0
  else s.rtr.ops.all (fun o => !o.sent) && s.rtr.arrived.all fun a => decide (6 ≤ a.2.1)

/-- JIG_DRAIN_COMPLETE (R72, R75). -/
def execJigDrainComplete (s : State) : Out := s.run fun s => if s.jigPhase = 3 ∧ s.jigDrained then s.jigApplyBegin else s

/-- JIG_DRAIN_LIMIT_EXPIRY (R75): it does not bound a set load with DRAIN = 1. -/
def execJigDrainLimitExpiry (s : State) : Out := s.run fun s =>
  let d := s.jig.staging
  let limit := max 1 (s.get Reg.JIG_DRAIN_LIMIT_LIMIT) * 1000
  if s.jigPhase ≠ 3 ∨ (jigKind d = 1 ∧ s.flag Reg.JIG_CTL_DRAIN) ∨ s.now < s.jig.drainAt + limit then s else s.jigFail 0x10 0xff 0

/-- A reset that stops a die of the set load's set, before the apply phase (R78). While the image is being copied, its header is read where
it lies. -/
def State.jigDieReset (s : State) (die : Nat) : State :=
  let d := if s.jigPhase = 1 then s.bytes (s.get Reg.JIG_SRC_ADDR) 128 else s.jig.staging
  if s.jigBusy && s.jigPhase != 4 && jigKind d == 1 && (s.setDef (jigScope d)).any (fun x => x.dies.contains die) then s.jigFail 0x12 0xff 0
  else s

/-! ### Applying a load -/

/-- The register of a spindle shows the set that SSET binds its lathe group to (R58, R108). -/
def State.bindSpindle (s : State) (i : Nat) : State :=
  match s.jig.sets.find? fun x => x.groups.testBit (i / 8) with
  | some x => (s.set (Reg.SPN_SET_SET i) x.set).set (Reg.SPN_SET_ONEDIE i) (bit (x.dies.length == 1))
  | none => s.clearReg (Reg.SPN_SET i)

/-- The spindles of a die are bound as the shadow of SSET says (R511). -/
def State.bindDie (s : State) (d : Nat) : State := s.forEach (List.range 144) fun s i => s.bindSpindle (144 * d + i)

/-- SSET takes effect on the spindles: those that join or leave a set of the section start a new count of releases (R58, R108). -/
def State.bindSets (s : State) (l : List Nat) : State :=
  s.forEach (List.range 288) fun s i =>
    if !s.pwr.latheReady.getD (i / 144) false then s
    else
      let old := s.get (Reg.SPN_SET_SET i)
      let s := s.bindSpindle i
      if l.contains old || l.contains (s.get (Reg.SPN_SET_SET i)) then s.set (Reg.SPN_SET_EPOCH i) 0 else s

/-- A mirror's jig fields go into a servo instance (R70). -/
def State.servoFields (s : State) (k : Nat) (x : ServoEntry) : State :=
  let m := x.mirror
  let s := (s.set (Reg.SRV_MIR_CFG_EN k m) x.en).set (Reg.SRV_MIR_CFG_CHADDR k m) x.chaddr
  let s := ((s.set (Reg.SRV_MIR_LIM0_DMIN k m) x.dmin0).set (Reg.SRV_MIR_LIM0_DMAX k m) x.dmax0).set (Reg.SRV_MIR_LIM0_SLEW k m) x.slew0
  ((s.set (Reg.SRV_MIR_LIM1_DMIN k m) x.dmin1).set (Reg.SRV_MIR_LIM1_DMAX k m) x.dmax1).set (Reg.SRV_MIR_LIM1_SLEW k m) x.slew1

/-- Coordinates of the peer of a torus port, one step along its axis (R285). -/
def peerCoord (i : Ident) (p : Nat) : Nat × Nat × Nat :=
  let step := fun (c dim : Nat) => if p % 2 = 0 then (c + 1) % dim else (c + dim - 1) % dim
  match p / 2 with
  | 0 => (step i.x i.dx, i.y, i.z)
  | 1 => (i.x, step i.y i.dy, i.z)
  | _ => (i.x, i.y, step i.z i.dz)

def axisLength (i : Ident) (p : Nat) : Nat := if p / 2 = 0 then i.dx else if p / 2 = 1 then i.dy else i.dz

/-- Modules whose valid entry names these coordinates in this span (R286). -/
def State.modulesAt (s : State) (span : Nat) (c : Nat × Nat × Nat) : List Nat :=
  (List.range 8192).filter fun d =>
    s.flag (Reg.RTR_ENT_LO_VALID d) && s.get (Reg.RTR_ENT_LO_SPAN d) == span && s.get (Reg.RTR_ENT_LO_X d) == c.1
      && s.get (Reg.RTR_ENT_LO_Y d) == c.2.1 && s.get (Reg.RTR_ENT_LO_Z d) == c.2.2

/-- OWNED and the expected peer of a torus port (R285, R286). -/
def State.torusPort (s : State) (i : Ident) (p : Nat) : State :=
  let c := peerCoord i p
  let inside := insideAxis c.1 (s.get Reg.RTR_SLICE_OX) (s.get Reg.RTR_SLICE_EX) i.dx
    && insideAxis c.2.1 (s.get Reg.RTR_SLICE_OY) (s.get Reg.RTR_SLICE_EY) i.dy
    && insideAxis c.2.2 (s.get Reg.RTR_SLICE_OZ) (s.get Reg.RTR_SLICE_EZ) i.dz
  let s := s.set (Reg.RTR_PEER_OWNED p) (bit inside)
  match s.modulesAt i.span c with
  | [d] => if axisLength i p = 1 then s.peerSet p 0 0 0 else s.peerSet p d (if p % 2 = 0 then p + 1 else p - 1) 1
  | _ => s.peerSet p 0 0 0

/-- ROUTE is applied (R67, R283 to R286). -/
def State.applyRoute (s : State) (d : List Byte) (x : JigSect) : State :=
  let o := x.start + 16
  let b := fun k => leAt d (o + k) 1
  let s := s.set Reg.RTR_SKEY_SKEY (leAt d o 2)
  let s := ((s.set Reg.RTR_SLICE_OX (b 2)).set Reg.RTR_SLICE_OY (b 3)).set Reg.RTR_SLICE_OZ (b 4)
  let s := ((s.set Reg.RTR_SLICE_EX (b 5)).set Reg.RTR_SLICE_EY (b 6)).set Reg.RTR_SLICE_EZ (b 7)
  let s := s.set Reg.RTR_SLICE_WRAP (b 8)
  let s := s.clearRange (Reg.RTR_ENT_LO 0) (Reg.RTR_ENT_LO 8192)
  let s := s.forEach x.entries.zipIdx fun s e => s.setReg (Reg.RTR_ENT_LO e.2) (BitVec.ofNat 64 (leAt d e.1 8))
  let s := match s.jig.ident with
    | some i => s.forEach (List.range 6) fun s p => s.torusPort i p
    | none => s
  s.transitGo

/-- Sections of BOWL or FMT: of a full load all of them, of a set load those it carries (R53). -/
def perSet {α : Type} (d : List Byte) (t : Nat) (old : List (Nat × List α)) (f : List Byte → Nat → α) : List (Nat × List α) :=
  let new := ((jigSects d).filter fun x => x.type == t).map fun x => (x.scope, x.entries.map (f d))
  if jigKind d = 0 then new else (old.filter fun e => !(new.any fun n => n.1 == e.1)) ++ new

/-- Every register and table that the load sets, in section order (R51, R72). -/
def State.jigApply (s : State) : State :=
  let d := s.jig.staging
  let kind := jigKind d
  let j := s.jig
  let pick := fun {α : Type} (t : Nat) (old : List α) (f : List Byte → Nat → α) =>
    if kind = 0 ∨ (jigFind d t).isSome then jigEntries d (jigFind d t) f else old
  let s : State := { s with jig := { j with
    ident := s.jigIdent d, mregs := pick 3 j.mregs mregAt, sets := s.jigSets d, bowls := perSet d 5 j.bowls bowlAt,
    fmts := perSet d 6 j.fmts fmtAt, qmap := pick 7 j.qmap qmapAt, servo := pick 9 j.servo servoAt, cgrant := pick 10 j.cgrant cgrantAt } }
  let s := if (jigFind d 4).isSome then s.bindSets (jigEntries d (jigFind d 4) fun d o => (ssetAt d o).set) else s
  let s := match jigFind d 2 with
    | some x =>
      let s := s.ceilWrite (leAt d (x.start + 16) 1)
      s.forEach (List.range 4) fun s p => s.set (Reg.PIER_STATUS_RATE p) (leAt d (x.start + 17) 1)
    | none => s
  let s := match jigFind d 8 with
    | some x => s.applyRoute d x
    | none => s
  let s := if (jigFind d 9).isSome then s.forEach [0, 1] fun s k => s.forEach s.jig.servo fun s x => s.servoFields k x else s
  let s := if kind = 0 then
      ((s.set Reg.JIG_STATUS_LOADED 1).setReg Reg.JIG_FULL_ID (BitVec.ofNat 64 (jigId d))).putWords (Reg.JIG_DIGEST 0) (slice d 64 64)
    else s
  let s := if (jigFind d 8).isSome then s.setReg Reg.JIG_JOB_ID (BitVec.ofNat 64 (jigId d)) else s
  let touched := jigEntries d (jigFind d 4) (fun d o => (ssetAt d o).set) ++ ((jigSects d).filter fun x => x.type == 5 || x.type == 6).map (·.scope)
  s.forEach touched fun s t => s.setReg (Reg.JIG_SET_ID t) (BitVec.ofNat 64 (jigId d))

/-- The load is applied (R77, R83): measured, reported, and the phase is Done. -/
def State.jigDone (s : State) : State :=
  let d := s.jig.staging
  let s := s.jigApply.extend 8 5 (slice d 64 64)
  (s.jigEnd 5 0 0 0).occur 0x0201 0 (leBytes 8 (jigId d) ++ leBytes 1 (jigKind d))

/-- A control-space write waits for the apply phase when the load sets the register (R74). -/
def State.jigHolds (s : State) (a : Nat) : Bool :=
  let d := s.jig.staging
  let route := decide (Reg.RTR_SKEY ≤ a ∧ a ≤ Reg.RTR_SLICE) || (decide (Reg.RTR_ENT_LO 0 ≤ a) && decide (a < Reg.RTR_ENT_LO 8192))
    || (decide (Reg.RTR_PEER 0 ≤ a) && decide (a < Reg.RTR_PEER 6))
  let servo := [0, 1].any fun k =>
    decide (Reg.SRV_MIR_CFG k 0 ≤ a) && decide (a < Reg.SRV_MIR_CFG k 128) && decide ((a - Reg.SRV_MIR_CFG k 0) % 64 < 24)
  let swap := decide (a = Reg.RTR_SWAP_CTL) || (decide (Reg.RTR_STG_LO 0 ≤ a) && decide (a < Reg.RTR_STG_LO 8192))
  s.jigPhase == 4 && (((jigFind d 8).isSome && route) || ((jigFind d 9).isSome && servo) || (jigKind d != 1 && swap))

end Sys2Proof.Machine
end

