-- ==== Sys2Proof/Machine/Power.lean ====
section
/-! DEFINITION. Machine/Power.lean: power sampling and throttling, module states, resets, power-up and the shutdown sequence
(chapter 20), and the sideband pins (R549 to R557).
The choices of the model here: logs 56 and 59. -/

namespace Sys2Proof.Machine

/-! ### Sampling and throttling -/

/-- The spindle clock is set; THROTTLED shows whether it lies below the cap of the envelope in force (R502, R520). -/
def State.setClock (s : State) (mhz : Nat) : State :=
  (s.set Reg.PWR_STATUS_SPNMHZ mhz).set Reg.PWR_STATUS_THROTTLED (bit (decide (mhz < envCap (s.get Reg.PWR_STATUS_ENVNOW))))

/-- The clock falls by 50 MHz, down to the floor (R502). -/
def State.clockDown (s : State) : State := s.setClock (max 400 (s.get Reg.PWR_STATUS_SPNMHZ - 50))

/-- The clock rises by 50 MHz, up to the cap (R502). -/
def State.clockUp (s : State) : State := s.setClock (min (envCap (s.get Reg.PWR_STATUS_ENVNOW)) (s.get Reg.PWR_STATUS_SPNMHZ + 50))

/-- THROT as it acts (R520). -/
def State.throt (s : State) : Nat := clampNat 85 105 (s.get Reg.PWR_CTL_THROT)

/-- TJMAX in °C. -/
def State.tjmax (s : State) : Int := signed 8 (s.get Reg.PWR_TEMP_TJMAX)

/-- Number of samples in succession with a low average; past 110 it goes round between 100 and 109. -/
def State.setCalm (s : State) (n : Nat) : State := { s with pwr := { s.pwr with calm := n } }

/-- Pacing takes every second 10 µs interval, the first one included (R502; log 59). -/
def State.pace (s : State) : State :=
  { s with pwr := { s.pwr with paceOff := s.flag Reg.PWR_STATUS_PACED && !s.pwr.paceOff } }

/-- POWER_SAMPLE (R502, R503): `pin` is the sample and `avg` the 1 ms average, in W. -/
def execPowerSample (pin avg vbus estore : Nat) (s : State) : Out := s.run fun s => State.pace <|
  let s := ((s.set Reg.PWR_MEAS_PIN avg).set Reg.PWR_MEAS_VBUS vbus).set Reg.PWR_MEAS_ESTORE estore
  let lim := envLimit (s.get Reg.PWR_STATUS_ENVNOW)
  let hot := s.pwr.thermal && decide ((s.throt : Int) ≤ s.tjmax)
  let s := if hot then s.clockDown else s
  if lim.1 < avg ∨ lim.2 < pin then
    let s := s.setCalm 0
    if s.get Reg.PWR_STATUS_SPNMHZ ≤ 400 then s.set Reg.PWR_STATUS_PACED 1 else if hot then s else s.clockDown
  else if avg * 100 < 97 * lim.1 then
    let n := s.pwr.calm + 1
    let s := if n = 100 then s.set Reg.PWR_STATUS_PACED 0 else s
    if n < 110 then s.setCalm n
    else
      let s := s.setCalm 100
      if s.pwr.thermal then s else s.clockUp
  else s.setCalm 0

/-- The junction temperature is measured: °C, and the die that it is found on. -/
def State.setTj (s : State) (tj : Byte) (die : Nat) : State := (s.set Reg.PWR_TEMP_TJMAX tj.toNat).set Reg.PWR_TEMP_DIE die

/-- THERMAL_THROTTLE (R503): the hottest junction reaches THROT, or falls 2 °C below it. -/
def execThermalThrottle (tj : Byte) (die : Fin 7) (s : State) : Out := s.run fun s =>
  let s := s.setTj tj die
  if (s.throt : Int) ≤ s.tjmax then
    if s.pwr.thermal then s
    else
      let s : State := { s with pwr := { s.pwr with thermal := true } }
      (s.clockDown.set Reg.PWR_FAULT_THERMTHROT 1).occur 0x1105 0 (leBytes 1 die ++ leBytes 1 tj.toNat)
  else if s.tjmax ≤ (s.throt : Int) - 2 then { s with pwr := { s.pwr with thermal := false } }
  else s

/-- INLET_OVER_TEMPERATURE (R503): the inlet sensor's reading in °C. -/
def execInletOverTemperature (t : Byte) (s : State) : Out := s.run fun s =>
  let s := s.set Reg.PWR_TEMP_INLET t.toNat
  if 40 < signed 8 t.toNat then s.set Reg.PWR_FAULT_INLETHOT 1 else s

/-- ENV_WRITE (R501). -/
def execEnvWrite (env : Fin 4) (s : State) : Out := s.run fun s => s.envWrite env

/-- SUPPLY_OUT_OF_RANGE (R557): the busbar, in 10 mV, leaves 40 to 60 V. -/
def execSupplyOutOfRange (vbus : Nat) (s : State) : Out := s.run fun s =>
  let s := s.set Reg.PWR_MEAS_VBUS vbus
  if 4000 ≤ vbus ∧ vbus ≤ 6000 then s
  else State.set { s with pwr := { s.pwr with busbar := false } } Reg.PWR_FAULT_SUPPLY 1

/-- HOLDUP_LOW (R515). -/
def execHoldupLow (s : State) : Out := s.run fun s =>
  ((s.set Reg.PWR_STATUS_HOLDUP 0).set Reg.PWR_FAULT_HOLDUPLOW 1).occur 0x1108 0 (leBytes 2 (s.get Reg.PWR_MEAS_ESTORE))

/-- HOLDUP_CHARGED (R515). -/
def execHoldupCharged (s : State) : Out := s.run fun s => s.set Reg.PWR_STATUS_HOLDUP 1

/-! ### Lathe dies and piers -/

/-- A lathe die loses its contents (R504, R517): registers, counter banks, threads, bowls and queued work of its spindles and
gouges. -/
def State.latheLose (s : State) (d : Nat) : State :=
  let s := s.clearRange (Reg.SPN_ID (144 * d)) (Reg.SPN_ID (144 * (d + 1)))
  let s := s.clearRange (Reg.GGE_ID (18 * d)) (Reg.GGE_ID (18 * (d + 1)))
  let lo := bowlAddr (144 * d) 0
  let hi := bowlAddr (144 * (d + 1)) 0
  { s with
    spn := s.spn.filter fun e => e.1 / 144 != d
    gge := s.gge.filter fun e => e.1 / 18 != d
    mem := s.mem.filter fun c => !(decide (lo ≤ c.1) && decide (c.1 < hi))
    hds := { s.hds with samples := s.hds.samples.filter fun x => x.spindle / 144 != d }
    pwr := { s.pwr with latheReady := s.pwr.latheReady.set d false } }

/-- The die's hold bit in PWR_RST. -/
def latheBit (d : Nat) : Loc := ⟨Reg.PWR_RST, d, 1⟩
def pierBit (d : Nat) : Loc := ⟨Reg.PWR_RST, 2 + d, 1⟩
def portBit (p : Nat) : Loc := ⟨Reg.PWR_RST, 6 + p, 1⟩
def pylBit (k : Nat) : Loc := ⟨Reg.PWR_RST, 17 + k, 1⟩

/-- Every request on a set ends with 0x07, and its instance stops at once (R511). -/
def State.setKilled (s : State) (x : SetDef) : State :=
  let l := s.hds.requests.filter fun r => r.set == x.set && !r.ended
  let s := s.forEach l fun s r => s.endCause r.handle 0x07 0 7
  let s := s.forEach (l.filter fun r => !r.attached) fun s r => s.endRequest r.handle
  let s := s.updInst x.set fun i => { i with stopping := true }
  let s := s.forEach (s.spindlesOf x.set) fun s i => s.forEach (s.gangsOn x.set i) fun s g => s.dropGang i g.gang
  s.instCheck x.set

/-- A lathe-die reset takes effect (R78, R511). -/
def State.latheReset (s : State) (d : Nat) : State :=
  let s := s.jigDieReset d
  (s.forEach (s.jig.sets.filter fun x => x.dies.contains d) fun s x => s.setKilled x).latheLose d

/-- A lathe die that nothing holds in reset or gates is ready, with its registers rewritten from the jig's shadow (R511). -/
def State.latheUp (s : State) (d : Nat) : State :=
  if s.flag (latheBit d) ∨ 2 ≤ s.get Reg.PWR_STATUS_STATE ∨ s.pwr.shutdown.isSome ∨ s.pwr.latheReady.getD d true then s
  else
    let s : State := { s with pwr := { s.pwr with latheReady := s.pwr.latheReady.set d true } }
    s.bindDie d

def execLatheDieReady (d : Fin 2) (s : State) : Out := s.run fun s => s.latheUp d

/-- A pier's devices go into self refresh. -/
def State.pierSleep (s : State) (p : Nat) : State := (s.pierDrain p).set (Reg.PIER_STATUS_SREF p) 1

/-- An initialise of a pier stops after the group that it is writing (R512): how far it has come is left open (log 1). -/
def State.initStops (s : State) (p : Nat) : State :=
  if s.flag (Reg.PIER_STATUS_INITBUSY p) then s.drawn.initGroups p (s.fresh % groupsPerPier + 1) else s

/-- A pier-die reset takes effect (R512): write and code buffers drain, the slice is invalidated, the devices are in self refresh,
and the pier's registers return to their reset values, but for RATE, which is the jig's (R55). -/
def State.pierReset (s : State) (p : Nat) : State :=
  let s := s.initStops p
  let e := s.get Reg.CAL_STATUS_MEMRUN
  let s := if e ≠ 0x7f ∧ elementPier e = p then s.calMemEnd false else s
  let rate := s.get (Reg.PIER_STATUS_RATE p)
  let s := (s.pierDrain p).lcClear p
  let s := s.clearRange (Reg.PIER_ID p) (Reg.PIER_ID (p + 1))
  let s := (s.set (Reg.PIER_STATUS_RATE p) rate).set (Reg.PIER_STATUS_SREF p) 1
  { s with pwr := { s.pwr with pierReady := s.pwr.pierReady.set p false } }

/-- PIER_READY (R512). -/
def execPierReady (d : Fin 4) (s : State) : Out := s.run fun s =>
  if s.flag (pierBit d) then s
  else
    let s := if s.get Reg.PWR_STATUS_STATE < 2 then s.set (Reg.PIER_STATUS_SREF d) 0 else s
    { s with pwr := { s.pwr with pierReady := s.pwr.pierReady.set d true } }

/-! ### Ports, pylons and the host link -/

/-- The LNK block of a port returns to its reset values; the running SerDes image sets the epoch again (R266, R517). -/
def State.linkRegs (s : State) (i : Nat) : State :=
  let s := s.clearRange (Reg.LNK_ID i) (Reg.LNK_ID i + 0x100000)
  let x := s.comp 6 0
  if x.started then s.set (Reg.LNK_ID_EPOCH i) x.image.linkep else s

/-- A fabric-port reset takes effect (R510, R546): the port is OFF, its link and AUX_3V3 gone. -/
def State.portReset (s : State) (p : Nat) : State :=
  let s := (s.linkGone p 0).linkRegs p
  s.updPort p fun _ => { LinkPort.reset with aux := false }

/-- A pylon reset is released (R70, R381): the servo jig fields are rewritten, and boot may begin. -/
def State.pylonFree (s : State) (k : Nat) : State := s.forEach s.jig.servo fun s x => s.servoFields k x

/-- A host-link reset takes effect (R535); `source` is 1 for PWR_RST.HOST. -/
def State.hostReset (s : State) (source : Nat) : State :=
  let s := (s.linkGone 10 0).linkRegs 10
  let s := s.updPort 10 fun x => { LinkPort.reset with aux := x.aux }
  let s := s.clearRange Reg.ABT_CTL (Reg.ABT_CTL + 0x100000)
  let s : State := { s with host := { HostState.reset with heldByReset := true }, hds := { s.hds with replaced := [] } }
  s.occur 0x1201 0 (leBytes 1 source)

/-! ### PWR_RST -/

/-- The value that PWR_RST will have once the writes that wait have been made (R513). -/
def State.rstNext (s : State) : Nat := (s.pwr.rstWaits.getLastD (s.reg Reg.PWR_RST)).toNat

/-- A write of PWR_RST that acts now (R510): the parts whose bit rises enter reset, those whose bit falls are released. -/
def State.rstApply (s : State) (v : Word64) : State :=
  let old := (s.reg Reg.PWR_RST).toNat
  let new := v.toNat % 2 ^ 19
  let rises := fun n => new.testBit n && !old.testBit n
  let falls := fun n => old.testBit n && !new.testBit n
  let s := s.setReg Reg.PWR_RST (BitVec.ofNat 64 new)
  let s := if (List.range 19).any rises then s.occur 0x1109 0 (leBytes 4 new) else s
  let s := s.forEach (List.range 2) fun s d => s.when (rises d) (·.latheReset d)
  let s := s.forEach (List.range 4) fun s d => s.when (rises (2 + d)) (·.pierReset d)
  let s := s.forEach (List.range 10) fun s p =>
    (s.when (rises (6 + p)) (·.portReset p)).when (falls (6 + p)) fun s => s.updPort p fun x => { x with aux := true }
  let s := (s.when (rises 16) (·.hostReset 1)).when (falls 16) (·.linkEn 10)
  s.forEach (List.range 2) fun s k => (s.when (rises (17 + k)) (·.pylonReset k)).when (falls (17 + k)) (·.pylonFree k)

/-- A write of PWR_RST (R510); one made while a transition is in progress waits until it ends (R513). -/
def State.rstWrite (s : State) (v : Word64) : State :=
  if s.flag Reg.PWR_STATUS_BUSY then { s with pwr := { s.pwr with rstWaits := s.pwr.rstWaits ++ [v] } } else s.rstApply v

/-- A write of PWR_RST that sets one bit, or clears it, and leaves the others. -/
def State.rstBit (s : State) (n : Nat) (on : Bool) : State :=
  let w := s.rstNext
  s.rstWrite (BitVec.ofNat 64 (if w.testBit n = on then w else if on then w + 2 ^ n else w - 2 ^ n))

def execLatheDieReset (d : Fin 2) (s : State) : Out := s.run fun s => s.rstBit d true
def execLatheDieResetRelease (d : Fin 2) (s : State) : Out := s.run fun s => s.rstBit d false
def execPierDieReset (d : Fin 4) (s : State) : Out := s.run fun s => s.rstBit (2 + d) true
def execPierDieResetRelease (d : Fin 4) (s : State) : Out := s.run fun s => s.rstBit (2 + d) false
def execFabricPortReset (p : Fin 10) (s : State) : Out := s.run fun s => s.rstBit (6 + p) true
def execFabricPortResetRelease (p : Fin 10) (s : State) : Out := s.run fun s => s.rstBit (6 + p) false
def execPylonReset (k : Fin 2) (s : State) : Out := s.run fun s => s.rstBit (17 + k) true
def execPylonResetRelease (k : Fin 2) (s : State) : Out := s.run fun s => s.rstBit (17 + k) false

/-- HOST_LINK_RESET (R535, R536): by the HRST frame at the front of VC0, which is ignored while PWR_RST.HOST holds the reset, or by
PWR_RST.HOST. -/
def execHostLinkReset (hrst : Bool) (s : State) : Out := s.run fun s =>
  if !hrst then s.rstBit 16 true
  else if s.flag Reg.PWR_RST_HOST then s
  else if s.host.vc0.head?.any fun f => f.akind == 6 then s.hostReset 0
  else s

/-- HOST_LINK_RESET_RELEASE (R535): the module enables H. -/
def execHostLinkResetRelease (s : State) : Out := s.run fun s =>
  if s.flag Reg.PWR_RST_HOST then s.rstBit 16 false
  else if s.host.heldByReset && !s.flag (Reg.LNK_CTL_EN 10) then s.linkEn 10
  else s

/-! ### Module states -/

/-- REFUSE for a request of a state (R506); 0 when it is accepted. 1 acts as 0. -/
def State.goCode (s : State) (req : Nat) : Nat :=
  let dest := if req ≤ 1 then 1 else req
  let st := s.get Reg.PWR_STATUS_STATE
  if 2 ≤ dest ∧ (s.flag Reg.HDS_CTL_ENABLE ∨ (s.hds.requests.any fun r => !r.ended) ∨ !s.hds.deferred.isEmpty) then 1
  else if s.jigBusy then 2
  else if s.get Reg.UPD_STATUS_PHASE = 3 ∨ s.upd.act.isSome then 3
  else if (List.range 4).any fun p => s.flag (Reg.PIER_STATUS_INITBUSY p) then 4
  else if s.flag Reg.PWR_STATUS_BUSY then 5
  else if dest = st ∨ dest < st ∧ dest ≠ 1 ∨ 3 < st then 6
  else 0

/-- GO written 1 (R506): the move begins, and circuits in steps 1 to 6 end (R370); or it is refused. During the shutdown sequence it
is ignored (R513). -/
def State.powerGo (s : State) : State :=
  let req := s.get Reg.PWR_CTL_REQ
  let c := s.goCode req
  if s.pwr.shutdown.isSome then s
  else if c ≠ 0 then (s.set Reg.PWR_STATUS_REFUSE c).occur 0x1103 0 (leBytes 1 req ++ leBytes 1 c)
  else
    let s : State := { s with pwr := { s.pwr with target := some (if req ≤ 1 then 1 else req) } }
    (s.set Reg.PWR_STATUS_BUSY 1).forEach [6, 7, 8, 9] fun s p =>
      if (s.circuit p).any Circuit.moving then s.circEnd p 0x0e else s

def State.goTo (s : State) (req : Nat) : Out := s.run fun s => (s.set Reg.PWR_CTL_REQ req).powerGo

def execEnterM2 (s : State) : Out := s.goTo 2
def execEnterM3 (s : State) : Out := s.goTo 3
def execEnterM4 (s : State) : Out := s.goTo 4
def execLeaveM2M3 (s : State) : Out := s.goTo 0

/-- Every fabric port that is ACTIVE goes to PARK, on one lane (R247, R504). -/
def State.portsPark (s : State) : State :=
  s.forEach (List.range 10) fun s p =>
    if s.linkState p = 6 then (s.setMap p (s.get (Reg.LNK_LANEMAP_SPARE p)) 1).linkTo p 14 else s

/-- Every port in PARK is ACTIVE again, on the lanes that its training or fast relock gave it (R247, R508). -/
def State.portsUnpark (s : State) : State :=
  s.forEach (List.range 10) fun s p =>
    if s.linkState p ≠ 14 then s
    else
      let spare := s.get (Reg.LNK_LANEMAP_SPARE p)
      let ok := s.healthyLanes p spare
      let mask := if popCount 16 ok = 16 then ok else if 8 ≤ popCount 16 ok then lowLanes ok 8 else lowLanes ok 4
      let s := s.set (Reg.LNK_STATUS_RESTORED p) (s.get (Reg.LNK_EQSAVE_VALID p))
      (s.setMap p spare mask).activate p

/-- The driven mirrors of the engine in charge are held as in HOLD, with their MODE kept (R508). -/
def State.mirrorsHold (s : State) : State :=
  match s.holder with
  | none => s
  | some v => s.forEach ((List.range 128).filter fun m => s.driven v m) fun s m =>
      (s.set (Reg.SRV_MIR_STATUS_MODE v m) 1).updMirror v m fun x => { x with move := none }

/-- Each driven mirror returns to its MODE by the mode handover (R371, R508). -/
def State.mirrorsFree (s : State) : State :=
  match s.holder with
  | none => s
  | some v => s.forEach ((List.range 128).filter fun m => s.driven v m) fun s m => s.wantMode v m (s.get (Reg.SRV_MIR_CTL_MODE v m))

/-- Everything that waits for the recorder is written (R406): the intake FIFO and, behind it, the holding queue. -/
def State.flushRecords (s : State) (k : Nat) : State :=
  let l := s.ev.fifo ++ s.ev.held
  let s : State := { s with ev := { s.ev with fifo := [], held := [] } }
  s.forEach l fun s o => if s.flag (Reg.EVR_STATUS_DEGRADED k) then s.writeDirect k o else s.writeRing k o

/-- M4 is entered (R504, R509): a vault commit and the NV copy, then the frames stop and PWR_GOOD falls. -/
def State.enterOff (s : State) : State :=
  let s := match s.holder with
    | some k => (s.flushRecords k).vaultCommit k true
    | none => s
  let s := s.nvCopy
  { s with srv := [], pwr := { s.pwr with pwrGood := false } }

/-- The parts of the module as the state that is entered has them (R504, R508); `was` is the state before. -/
def State.enterState (s : State) (was dest : Nat) : State :=
  match dest with
  | 2 => (s.forEach [0, 1] fun s d => s.latheLose d).forEach (List.range 4) fun s p => s.pierSleep p
  | 3 =>
    let s := s.forEach [0, 1] fun s d => s.latheLose d
    let s := s.forEach (List.range 4) fun s p => (s.pierSleep p).lcClear p
    s.portsPark.mirrorsHold
  | 4 => s
  | _ =>
    let s := s.forEach (List.range 4) fun s p => s.when (s.pwr.pierReady.getD p false) fun s => s.set (Reg.PIER_STATUS_SREF p) 0
    let s := s.forEach [0, 1] fun s d => s.latheUp d
    if was = 3 then s.portsUnpark.mirrorsFree else s

/-- STATE_TRANSITION_COMPLETE (R507): once no calibration runs (R506), the move ends and BUSY clears; resets that waited act
(R513). -/
def execStateTransitionComplete (s : State) : Out := s.run fun s =>
  match s.pwr.target with
  | none => s
  | some dest =>
    if s.get Reg.CAL_STATUS_PORTRUN ≠ 0x7f ∨ s.get Reg.CAL_STATUS_MEMRUN ≠ 0x7f ∨ s.pwr.shutdown.isSome then s
    else
      let was := s.get Reg.PWR_STATUS_STATE
      let s := ((s.set Reg.PWR_STATUS_STATE dest).enterState was dest).set Reg.PWR_STATUS_BUSY 0
      let s := s.occur 0x1102 0 (leBytes 1 was ++ leBytes 1 dest)
      let l := s.pwr.rstWaits
      let s : State := { s with pwr := { s.pwr with target := none, rstWaits := [] } }
      let s := s.forEach l fun s v => s.rstApply v
      if dest = 4 then s.enterOff else s

/-! ### Power-up and module reset -/

/-- Registers that hold what fuses and the NV device hold (R517): key slots and roots, the owner's state, the signature indices,
and the stored calibration temperatures. After the reset the next index is the RESV in force (R449), and no signature may be left
(R450). -/
def State.nvRegs (s : State) : List (Nat × Word64) :=
  let kept := s.regs.filter fun e =>
    (decide (Reg.SEC_KEYSLOT 0 ≤ e.1) && decide (e.1 < Reg.SEC_KEYSLOT 4))
      || (decide (Reg.SEC_FUSEROOT 0 0 ≤ e.1) && decide (e.1 < Reg.SEC_FUSEROOT 4 0)) || e.1 == Reg.UPD_OWNER
  let resv := resvInForce s.sec.resv
  let s := (({ s with regs := kept }).set Reg.SEC_SIGIDX_NEXT resv).set Reg.SEC_SIGIDX_RESV resv
  let s := s.when (decide (sigIndices ≤ resv)) fun s => s.set Reg.SEC_STATUS_EXHAUSTED 1
  let s := s.forEach (s.cal.records.filter fun e => e.2.2) fun s e =>
    (s.set (Reg.CAL_ZONE_LASTTEMP e.1) e.2.1).set (Reg.CAL_ZONE_STORED e.1) 1
  s.regs

/-- A write of RESV that a reset interrupts reaches the NV device or does not: the specification leaves it open (log 1). -/
def State.resvStops (s : State) : State :=
  match s.sec.raising with
  | none => s
  | some (v, _) =>
    let done := s.fresh % 2 == 0
    let s := s.drawn
    let i := lowerCopy s.sec.resv
    let count := s.sec.resv.foldl (fun m c => max m c.1) 0 + 1
    { s with sec := { s.sec with raising := none, resv := if done then s.sec.resv.set i (count, v, true) else s.sec.resv } }

/-- Everything at its reset value but fuses and NV (R517, column Power-on), and the pins. The commands that wait, the clock and the
count of free values are the model's own. -/
def State.cleared (s : State) : State :=
  let regs := s.nvRegs
  { State.reset with
    pending := s.pending, now := s.now, free := s.free, regs, tap := s.tap
    pyl := { PylState.reset with nv := s.pyl.nv, nvAt := s.pyl.nvAt }
    ev := { EventState.reset with vault := s.ev.vault }
    sec := { SecState.reset with keyed := s.sec.keyed, resv := s.sec.resv }
    upd := { UpdState.reset with comps := s.upd.comps.map fun x => { x with started := false }, pending := s.upd.pending, owner := s.upd.owner }
    cal := { CalState.reset with records := s.cal.records }
    pwr := { PowerState.reset with busbar := s.pwr.busbar, pwrEn := s.pwr.pwrEn, regions := s.pwr.regions, slotId := s.pwr.slotId } }

/-- Power-up (R514 steps 1 and 2): the always-on island starts, PWR_GOOD is asserted, and RESET_N is still low (R552). -/
def State.powerUp (s : State) : State :=
  let s := s.resvStops.cleared
  { s with tap := TapState.reset, pwr := { s.pwr with pwrGood := true, resetN := false, goodAt := s.now } }

/-- What a module reset keeps beside fuses and NV (R517): event ring, sequence numbers, sentinels, MASK, CRIT and PWR_FAULT; DRAM
contents and checks where the module had power; an AUX_3V3 that an overload turned off (R546). -/
def State.moduleReset (s : State) : State :=
  let on := s.pwr.pwrGood
  let s := if on then s.forEach (List.range 4) fun s p => (s.initStops p).pierDrain p else s
  let s := s.resvStops
  let kept := [Reg.AON_EVSEQ, Reg.AON_MSEQ, Reg.AON_EVSENT, Reg.PWR_FAULT]
  let t := s.cleared
  let t := t.forEach kept fun t a => t.setReg a (s.reg a)
  let t := (t.set Reg.AON_ALERT_MASK (s.get Reg.AON_ALERT_MASK)).set Reg.AON_ALERT_CRIT (s.get Reg.AON_ALERT_CRIT)
  let t : State := { t with
    ev := { t.ev with ringA := s.ev.ringA, ringB := s.ev.ringB }
    lnk := (List.range 11).foldl (fun l i =>
      if (s.port i).aux || (decide (i < 10) && s.flag (portBit i)) then l
      else smapSet (fun _ => LinkPort.reset) l i { LinkPort.reset with aux := false }) []
    pwr := { t.pwr with pwrGood := true, resetN := false, goodAt := if on then s.pwr.goodAt else s.now } }
  if on then
    { t with mem := s.mem.filter fun c => decide (c.1 < dramEnd), lm := { t.lm with initUpTo := s.lm.initUpTo, checks := s.lm.checks } }
  else t

/-- POWER_ON (R514, R555): the busbar is in range and PWR_EN high. During the shutdown sequence the rise waits. -/
def execPowerOn (s : State) : Out :=
  let s : State := { s with pwr := { s.pwr with busbar := true, pwrEn := true } }
  if s.pwr.pwrGood then
    match s.pwr.shutdown with
    | some _ => .next { s with pwr := { s.pwr with powerWaits := true } }
    | none => .next s
  else .next s.powerUp

/-- MODULE_RESET (R510, R513): RESET_N is low. During the shutdown sequence it waits; a module that is off comes up in reset while
its supply is in range (R516). -/
def execModuleReset (s : State) : Out :=
  if s.pwr.shutdown.isSome && s.pwr.pwrGood then .next { s with pwr := { s.pwr with resetWaits := true } }
  else if s.pwr.pwrGood then .next (if s.pwr.resetN then s.moduleReset else s)
  else if s.pwr.busbar && s.pwr.pwrEn then .next s.moduleReset
  else .next s

/-- Instructions of the test access port that act in module reset only (R565). -/
def PinMode.isTest (m : PinMode) : Bool := m != .function

/-- MODULE_RESET_RELEASE (R514 step 3, R551 to R555): the straps are sampled, and boot and start-up calibration begin; records that
fail their check are discarded (R496). Nothing happens within 1 ms of PWR_GOOD. -/
def execModuleResetRelease (slotId : Fin 64) (pref : Bool) (s : State) : Out :=
  if !s.pwr.pwrGood ∨ s.pwr.resetN ∨ s.pwr.shutdown.isSome ∨ s.now < s.pwr.goodAt + 1000000 then .next s
  else
    let s : State := { s with pwr := { s.pwr with resetN := true, slotId := slotId.val, startAt := s.now } }
    let s := s.set Reg.AON_TOKEN_PREF (bit pref)
    let s : State := if s.tap.pins.isTest then { s with tap := { s.tap with pins := .function, ir := 0xff, sel := .bypass } } else s
    let t := s.linkEn 10
    let bad := t.cal.records.filter fun e => !e.2.2
    let t : State := { t with cal := { t.cal with records := t.cal.records.filter fun e => e.2.2 } }
    .next (s.keeping (t.forEach bad fun s e => s.occur 0x1003 0 (leBytes 1 e.1)))

/-! ### Shutdown -/

/-- The shutdown sequence begins (R516 step 1): it runs once, whatever comes after. -/
def State.shutdownBegin (s : State) (cause : Nat) : State :=
  if !s.pwr.pwrGood ∨ s.pwr.shutdown.isSome then s
  else
    let s : State := { s with pwr := { s.pwr with shutdown := some (cause, 1) } }
    let s := (s.set Reg.PWR_FAULT_LASTLOSS (bit (cause != 2))).set Reg.PWR_FAULT_LASTTRIP (bit (cause == 2))
    let s := s.occur 0x1104 0 (leBytes 1 cause ++ leBytes 2 (s.get Reg.PWR_MEAS_VBUS) ++ leBytes 1 (s.get Reg.PWR_TEMP_TJMAX))
    (s.forEach [0, 1] fun s d => s.latheLose d).forEach (List.range 4) fun s p => s.pierDrain p

/-- The shutdown sequence of a supply or of PWR_EN begins: RESET_N and PWR_GOOD stand as they do (R516, R555). -/
def State.supplyShutdown (s : State) (cause : Nat) : State :=
  let t := s.keeping (s.shutdownBegin cause)
  { t with pwr := { t.pwr with resetN := s.pwr.resetN, pwrGood := s.pwr.pwrGood } }

/-- SUPPLY_LOSS (R516): the busbar below 36 V for 20 µs. -/
def execSupplyLoss (s : State) : Out :=
  let s : State := { s with pwr := { s.pwr with busbar := false } }
  .next ((if s.pwr.pwrGood then s.set Reg.PWR_FAULT_SUPPLY 1 else s).supplyShutdown 0)

/-- PWR_EN_LOW (R516, R555). -/
def execPwrEnLow (s : State) : Out  :=
  .next (State.supplyShutdown { s with pwr := { s.pwr with pwrEn := false, powerWaits := false } } 1)

/-- THERMAL_TRIP (R503): TJMAX at THROT + 10 °C or above for 1 ms. -/
def execThermalTrip (tj : Byte) (die : Fin 7) (s : State) : Out := s.run fun s =>
  let s := s.setTj tj die
  if (s.throt : Int) + 10 ≤ s.tjmax then s.shutdownBegin 2 else s

/-- The order of the emergency commit (R516 step 3): the shutdown's own record, then those with SEV ≥ 3, then the others, each in
SEQ order from the commit mark; 400 in all. -/
def State.emergencyList (s : State) (k : Nat) : List EvRecord :=
  let mark := s.get (Reg.EVR_VAULT_MARK k)
  let key := fun (r : EvRecord) => (r.seq + 2 ^ 32 - mark) % 2 ^ 32
  let l := (s.toCommit k).mergeSort fun a b => decide (key a ≤ key b)
  let own := (l.filter fun r => r.occ.code == 0x1104).drop ((l.filter fun r => r.occ.code == 0x1104).length - 1)
  let rest := l.filter fun r => !own.contains r
  (own ++ (rest.filter fun r => decide (3 ≤ r.occ.sev)) ++ (rest.filter fun r => decide (r.occ.sev < 3))).take 400

/-- The write of RESV in progress completes, and no new one begins (R516 step 2). -/
def State.resvCompletes (s : State) : State :=
  match s.sec.raising with
  | none => s
  | some (v, _) =>
    let i := lowerCopy s.sec.resv
    let count := s.sec.resv.foldl (fun m c => max m c.1) 0 + 1
    let s : State := { s with sec := { s.sec with raising := none, resv := s.sec.resv.set i (count, v, true) } }
    s.set Reg.SEC_SIGIDX_RESV v

/-- SHUTDOWN_NV_COMPLETE (R516 steps 2 to 5): the NV write in progress completes, the emergency vault commit runs, PWR_GOOD falls; a
reset or a rise of PWR_EN that waited acts now (R513, R555). -/
def execShutdownNvComplete (s : State) : Out :=
  match s.pwr.shutdown with
  | none => .next s
  | some (cause, _) =>
    if !s.pwr.pwrGood then .next s
    else
      let k := s.evr
      let s := s.resvCompletes.flushRecords k
      let s := s.forEach (s.emergencyList k) fun s r => s.vaultPut r
      let waits := (s.pwr.resetWaits, s.pwr.powerWaits)
      let s : State := { s with srv := [], pwr := { s.pwr with pwrGood := false, shutdown := some (cause, 5), resetWaits := false, powerWaits := false } }
      if s.pwr.busbar && s.pwr.pwrEn then
        .next (if waits.2 then s.powerUp else if waits.1 then s.moduleReset else s)
      else .next s

end Sys2Proof.Machine
end

