-- ==== Sys2Proof/Machine/Views.lean ====
section
/-! DEFINITION. Machine/Views.lean: reads of control-space registers (R33 to R39): fields that show what the state holds elsewhere,
the ALERT_N pin (R415), and the shadow of values that span two registers (R39).
The choices of the model here: logs 58 and 61. -/

namespace Sys2Proof.Machine

/-- Fields put over a stored register. -/
def overlay (w : Word64) (l : List (Loc × Nat)) : Word64 := l.foldl (fun w p => p.1.put w p.2) w

/-- All ones, which a read of an unmapped address returns (R29). -/
def allOnes : Word64 := 0xffffffffffffffff

/-! ### What a block shows -/

/-- A gang has a group in flight (R98): an instruction of it has issued, or it is being replayed or waits for its loads. -/
def Gang.inGroup (x : Gang) : Bool := x.closed || x.replaying || !x.loads.isEmpty || decide (x.issuedCount ≠ 0)

/-- SPN_STATUS and SPN_INFLIGHT (R108). -/
def State.spnView (s : State) (base i : Nat) (w : Word64) : Word64 :=
  let x := s.spindle i
  if base = Reg.SPN_STATUS 0 then
    overlay w [(Reg.SPN_STATUS_GANGS i, x.gangs.length), (Reg.SPN_STATUS_UNITS i, s.unitsUsed i),
      (Reg.SPN_STATUS_QUIET i, bit (!x.gangs.any Gang.inGroup))]
  else if base = Reg.SPN_INFLIGHT 0 then
    overlay w [(Reg.SPN_INFLIGHT_MEM i, s.spnTxns i), (Reg.SPN_INFLIGHT_REMOTE i, s.spnRemote i),
      (Reg.SPN_INFLIGHT_COPIES i, x.copies.length)]
  else w

/-- GGE_STATUS (R158): one instruction executes, and up to two wait. -/
def State.ggeView (s : State) (base g : Nat) (w : Word64) : Word64 :=
  let n := (alGet [] s.gge g).length
  if base = Reg.GGE_STATUS 0 then overlay w [(Reg.GGE_STATUS_BUSY g, bit (0 < n)), (Reg.GGE_STATUS_QUEUED g, n - 1)] else w

/-- The registers of chapter 08 that count requests (R230, R231). -/
def State.hdsView (s : State) (base n : Nat) (w : Word64) : Word64 :=
  if base = Reg.HDS_STATUS then
    overlay w [(Reg.HDS_STATUS_ACTIVE, (s.hds.requests.filter fun r => !r.ended).length),
      (Reg.HDS_STATUS_DEFERRED, s.hds.deferred.length)]
  else if base = Reg.HDS_KVFREE then overlay w [(Reg.HDS_KVFREE_FREE, s.poolFree)]
  else if base = Reg.HDS_PROG 0 then overlay w [(Reg.HDS_PROG_USERS n, s.progUsers n)]
  else if base = Reg.HDS_SET 0 then
    overlay w [(Reg.HDS_SET_ATTACHED n, s.setAttached n), (Reg.HDS_SET_BUSY n, bit (s.inst n).isSome)]
  else if base = Reg.HDS_QP_STATUS 0 then overlay w [(Reg.HDS_QP_STATUS_FULL n, bit (s.cqFull n))]
  else if base = Reg.HDS_QP_STATUS2 0 then overlay w [(Reg.HDS_QP_STATUS2_RUNNING n, s.qpRunning n)]
  else w

/-- RTR_RMT and RTR_PEER (R298). -/
def State.rtrView (s : State) (base p : Nat) (w : Word64) : Word64 :=
  if base = Reg.RTR_RMT then
    overlay w [(Reg.RTR_RMT_INFLIGHT, s.rtr.ops.length), (Reg.RTR_RMT_HELD, (s.rtr.ops.filter fun o => !o.sent && s.waits280 o).length)]
  else if base = Reg.RTR_PEER 0 then
    overlay w [(Reg.RTR_PEER_USABLE p, bit (s.portUsable p false)), (Reg.RTR_PEER_EMPTY p, bit (s.portEmpty p))]
  else w

/-- FTU_NOW and FTU_PORT.VALID (R315). -/
def State.ftuView (s : State) (base p : Nat) (w : Word64) : Word64 :=
  if base = Reg.FTU_NOW then BitVec.ofNat 64 s.ft
  else if base = Reg.FTU_PORT 0 then overlay w [(Reg.FTU_PORT_VALID p, bit (s.timeFresh p))]
  else w

/-! ### Alerts -/

/-- The causes of AON_ALERT, bit n cause n (R255, R379, R384, R390, R413, R415, R497, R521). -/
def State.alertBits (s : State) : List Bool :=
  let ready := fun k => s.pylReady k
  [s.flag Reg.AON_EVSENT_RINGA || s.flag Reg.AON_EVSENT_RINGB,
   s.holder.isNone && !ready 0 && !ready 1,
   (match s.holder with | some k => !ready (1 - k) | none => !ready 0 || !ready 1),
   s.flag (Reg.PYL_STATUS_CKPTLOST 0) || s.flag (Reg.PYL_STATUS_CKPTLOST 1),
   s.get Reg.FTU_STATUS_STATE == 5,
   s.flag Reg.AON_ALERT_CRIT,
   s.flag (Reg.EVR_VAULT_VFAIL 0) || s.flag (Reg.EVR_VAULT_VFAIL 1),
   (List.range 11).any fun i => s.linkState i == 7 || s.linkState i == 8 || s.linkState i == 13,
   (s.reg Reg.PWR_FAULT).toNat % 16 != 0,
   s.anyRecovery,
   (s.reg Reg.CAL_FAIL0).toNat != 0 || (s.reg Reg.CAL_FAIL1).toNat != 0]

/-- AON_ALERT bits 10:0. -/
def State.alertCause (s : State) : Nat := s.alertBits.zipIdx.foldl (fun n b => n + bit b.1 * 2 ^ b.2) 0

/-- ALERT_N is driven low (R415, R516). -/
def State.alertN (s : State) : Bool :=
  s.pwr.shutdown.isSome || s.alertBits.zipIdx.any fun b => b.1 && !(s.get Reg.AON_ALERT_MASK).testBit b.2

/-- The always-on block (R386, R389, R417). -/
def State.aonView (s : State) (base : Nat) (w : Word64) : Word64 :=
  if base = Reg.AON_HSTORE then
    let v := fun n => (s.pyl.slots.getD n Checkpoint.none).valid
    let x := s.newestSlot
    overlay w [(Reg.AON_HSTORE_VALID0, bit (v 0)), (Reg.AON_HSTORE_VALID1, bit (v 1)), (Reg.AON_HSTORE_NVVALID, bit s.pyl.nv.valid),
      (Reg.AON_HSTORE_NEWEST, (x.map (·.1)).getD 0), (Reg.AON_HSTORE_EPOCH, (x.map (·.2.epoch)).getD 0),
      (Reg.AON_HSTORE_GEN, (x.map (·.2.gen)).getD 0)]
  else if base = Reg.AON_HSFT then BitVec.ofNat 64 ((s.newestSlot.map (·.2.ft)).getD 0)
  else if base = Reg.AON_EVSENT then
    let vault := s.flag (Reg.EVR_VAULT_VFAIL 0) || s.flag (Reg.EVR_VAULT_VFAIL 1)
    let any := vault || s.flag Reg.AON_EVSENT_RINGA || s.flag Reg.AON_EVSENT_RINGB
    overlay w [(Reg.AON_EVSENT_MARK, if any then 0xd06a else 0), (Reg.AON_EVSENT_VAULT, bit vault)]
  else if base = Reg.AON_ALERT then overlay w [(⟨Reg.AON_ALERT, 0, 11⟩, s.alertCause)]
  else if base = Reg.AON_EVINTAKE then overlay w [(Reg.AON_EVINTAKE_LEVEL, s.ev.fifo.length)]
  else w

/-- EVR_STATUS.HELD, and the words of the ring (R410, R416). -/
def State.evrView (s : State) (base i place n : Nat) (w : Word64) : Word64 :=
  if base = Reg.EVR_STATUS 0 then overlay w [(Reg.EVR_STATUS_HELD i, if s.evr = i then s.ev.held.length else 0)]
  else if base = Reg.EVR_RING 0 0 0 then
    match (if i = 0 then s.ev.ringA else s.ev.ringB).find? (·.1 == place) with
    | some r => BitVec.ofNat 64 (leNat (slice (evBytes r.2) (8 * n) 8))
    | none => 0
  else w

/-- UPD_STATUS and UPD_COMP (R485). -/
def State.updView (s : State) (base c : Nat) (w : Word64) : Word64 :=
  if base = Reg.UPD_STATUS then
    overlay w [(Reg.UPD_STATUS_MOVING, bit s.updMoving), (Reg.UPD_STATUS_HOLDUP, s.get Reg.PWR_STATUS_HOLDUP),
      (Reg.UPD_STATUS_OWNERLOCK, s.get Reg.UPD_OWNER_LOCKED), (Reg.UPD_STATUS_PENDING, s.upd.pending.foldl (fun n c => n ||| 2 ^ c) 0),
      (Reg.UPD_STATUS_PHASE, if s.upd.act.isSome then 5 else s.get Reg.UPD_STATUS_PHASE)]
  else if base = Reg.UPD_COMP 0 ∧ 1 ≤ c then
    let x := s.comp c (s.holder.getD 0)
    overlay w [(Reg.UPD_COMP_VERSION c, (x.slot x.boot).version), (Reg.UPD_COMP_EPOCH c, s.ep c), (Reg.UPD_COMP_ACTSLOT c, x.boot),
      (Reg.UPD_COMP_PENDING c, bit (s.updPending c)), (Reg.UPD_COMP_VALID0 c, bit (x.slot 0).valid),
      (Reg.UPD_COMP_VALID1 c, bit (x.slot 1).valid), (Reg.UPD_COMP_MIXED c, bit (s.mixed c))]
  else w

/-- ABT_STATUS (R537): completion vectors are those from 16 up (R532). -/
def State.abtView (s : State) (base : Nat) (w : Word64) : Word64 :=
  if base = Reg.ABT_STATUS then
    let v := s.host.pendingVec
    overlay w [(Reg.ABT_STATUS_UP, bit (s.linkState 10 == 6)), (Reg.ABT_STATUS_HELD, bit s.abtHeld), (Reg.ABT_STATUS_MRDOUT, s.host.mrdOut),
      (Reg.ABT_STATUS_VPEND, (v.filter (· < 13)).foldl (fun n k => n ||| 2 ^ k) 0),
      (Reg.ABT_STATUS_QPEND, (v.filter (16 ≤ ·)).length)]
  else w

/-! ### Reads -/

/-- SRV registers that show what is computed: LINK (R346), and MODE, which reads 0 while the mirror is not driven (R341). -/
def State.srvView (s : State) (b i n : Nat) (w : Word64) : Word64 :=
  if b = Reg.SRV_STATUS 0 then overlay w [(Reg.SRV_STATUS_LINK i, bit (s.srvLink i))]
  else if b = Reg.SRV_MIR_CTL 0 0 ∧ !s.driven i n then overlay w [(Reg.SRV_MIR_CTL_MODE i n, 0)]
  else w

/-- The value of a mapped register as its fields show it (R35): fields that are write-only read 0, and fields that show other
state show it. -/
def State.view (s : State) (row : RegRow) (is : List Nat) (a : Nat) : Word64 :=
  let w := s.reg a &&& ~~~(BitVec.ofNat 64 (Reg.maskOf (· == .wo) row.fields))
  let i := is.getD 0 0
  let n := is.getD 1 0
  let b := row.base
  if a < 0x7f040000000 then s.spnView b i w
  else if a < 0x7f080000000 then s.ggeView b i w
  else if a < 0x7f100000000 then (if b = Reg.PIER_INFLIGHT 0 then overlay w [(Reg.PIER_INFLIGHT_TXN i, s.pierTxns i)] else w)
  else if a < 0x7f200000000 then s.hdsView b i w
  else if a < 0x7f300000000 then s.rtrView b i w
  else if a < 0x7f400000000 then (if b = Reg.LNK_LIGHT 0 0 then overlay w [(Reg.LNK_LIGHT_AGE i n, s.lightAge i n)] else w)
  else if a < 0x7f410000000 then s.ftuView b i w
  else if a < 0x7f420000000 then s.srvView b i n w
  else if a < 0x7f430000000 then w
  else if a < 0x7f440000000 then s.evrView b i n (is.getD 2 0) w
  else if a < 0x7f450000000 then w
  else if a < 0x7f460000000 then (if b = Reg.SEC_STATUS then overlay w [(Reg.SEC_STATUS_QUEUED, s.sec.queue.length)] else w)
  else if a < 0x7f470000000 then s.updView b i w
  else if a < 0x7f480000000 then w
  else if a < 0x7f490000000 then
    if b = Reg.PWR_STATUS ∧ s.get Reg.PWR_STATUS_STATE = 1 ∧ (s.spn.any fun e => !e.2.gangs.isEmpty) then overlay w [(Reg.PWR_STATUS_STATE, 0)] else w
  else if a < 0x7f4a0000000 then s.abtView b w
  else if 0x7f4c0000000 ≤ a ∧ a < 0x7f4d0000000 then s.aonView b w
  else w

/-- The number of a requester in an unmapped-access event (R29): kind and module. -/
def reqKind : Requester → Nat × Nat
  | .host => (1, 0)
  | .vc7 m => (2, m)

/-- The kind of counter bank that a row of registers belongs to, among rows of one register each (R419). -/
def kindOf (l : List Nat) (base : Nat) : Option Nat := l.findIdx? (· == base)

/-- The bank and number of a counter register (R419). -/
def cntOf (row : RegRow) (is : List Nat) : Option (Nat × Nat) :=
  (kindOf [Reg.SPN_PMC_CNT 0 0, Reg.GGE_PMC_CNT 0 0, Reg.PIER_PMC_CNT 0 0, Reg.HDS_PMC_CNT 0, Reg.LNK_PMC_CNT 0 0, Reg.RTR_PMC_CNT 0,
    Reg.SRV_PMC_CNT 0 0] row.base).map fun k => (bankBase k (if is.length = 2 then is.getD 0 0 else 0), is.getLastD 0)

/-- The lower register of a value that spans two, with the upper one (R39): a routing entry, a staged entry, or a pair of
chained counters (R423). -/
def State.upperOf (s : State) (row : RegRow) (is : List Nat) (a : Nat) : Option Nat :=
  if row.base = Reg.RTR_ENT_LO 0 ∨ row.base = Reg.RTR_STG_LO 0 then some (a + 8)
  else
    match cntOf row is with
    | some (b, n) => if n % 2 = 0 ∧ s.flag (pmcSelChain b (n + 1)) then some (a + 8) else none
    | none => none

/-- A read of a mapped register (R35, R39). -/
def State.regRead (s : State) (r : Requester) (row : RegRow) (is : List Nat) (a : Nat) : Word64 × State :=
  let v := s.view row is a
  if row.base = Reg.SEC_RNG then (BitVec.ofNat 64 s.fresh, s.drawn)
  else match s.upperOf row is a with
    | some u =>
      match Reg.find u with
      | some (urow, uis) =>
        let old := s.ctl.shadow.filter fun e => !(decide (e.1 = r) && e.2.1 == u)
        (v, { s with ctl := { s.ctl with shadow := (r, u, s.view urow uis u) :: old } })
      | none => (v, s)
    | none =>
      match s.ctl.shadow.find? fun e => decide (e.1 = r) && e.2.1 == a with
      | some e => (e.2.2, { s with ctl := { s.ctl with shadow := s.ctl.shadow.filter fun e => !(decide (e.1 = r) && e.2.1 == a) } })
      | none => (v, s)

/-- A read of a control-space address (R29, R33, R34): an unmapped one returns all ones and is logged. -/
def State.ctlRead (s : State) (r : Requester) (a : Nat) : Word64 × State :=
  match Reg.find a with
  | none => (allOnes, s.unmapped a (reqKind r).1 (reqKind r).2)
  | some (row, is) =>
    if a % 8 ≠ 0 then (allOnes, s.unmapped a (reqKind r).1 (reqKind r).2)
    else if s.gated a then (allOnes, s)
    else s.regRead r row is a

end Sys2Proof.Machine
end

