-- ==== Sys2Proof/Machine/Control.lean ====
section
/-! DEFINITION. Machine/Control.lean: writes of control-space registers (R33 to R41, R44 to R46): the access codes, the fields that
act, values that span two registers, writes held during a jig load's apply phase (R74), and the command codes of the mailboxes.
The choices of the model here: logs 10, 55 and 58. -/

namespace Sys2Proof.Machine

/-! ### Access codes -/

/-- A write as the access codes have it (R35, R36): RW fields, RWS fields while the jig is unsealed, and W1C bits. -/
def State.fieldWrite (s : State) (row : RegRow) (a : Nat) (v : Word64) : State :=
  let mask := fun (p : Acc → Bool) => BitVec.ofNat 64 (Reg.maskOf p row.fields)
  let isSealed := s.flag Reg.JIG_STATUS_SEALED
  let rw := mask fun c => c == .rw || (c == .rws && !isSealed)
  let old := s.reg a
  let t := s.setReg a (((old &&& ~~~rw) ||| (v &&& rw)) &&& ~~~(v &&& mask (· == .w1c)))
  if isSealed && row.fields.any fun f => f.acc == .rws then (t.inc Reg.SEC_SEALCNT_COUNT 1).occur 0x0102 0 (leBytes 8 a) else t

/-! ### The blocks -/

/-- Writes of SPN_FAULT (R109). -/
def State.faultWrite (s : State) (row : RegRow) (i : Nat) (v : Word64) : State :=
  let s := s.fieldWrite row (Reg.SPN_FAULT i) v
  if v.getLsbD 0 then s.set (Reg.SPN_FAULT_MORE i) 0 else s

/-- Writes of a spindle's block (R108, R109): a write of INJECT is for the reads issued after it (R571). -/
def State.spnWrite (s : State) (row : RegRow) (i a : Nat) (v : Word64) : State :=
  if row.base = Reg.SPN_FAULT 0 then s.faultWrite row i v
  else if row.base = Reg.SPN_CTL 0 then (s.injectEarly i).fieldWrite row a v
  else s.fieldWrite row a v

/-- Writes of PIER_LC_CTL and PIER_INIT (R168, R183, R189). -/
def State.pierWrite (s : State) (row : RegRow) (p a : Nat) (v : Word64) : State :=
  if row.base = Reg.PIER_LC_CTL 0 then
    let s := s.rolWays p (bits v.toNat 0 5)
    if v.getLsbD 8 then s.rolFlush p else s
  else if row.base = Reg.PIER_INIT 0 then
    let s := if v.getLsbD 1 then s.set (Reg.PIER_INIT_DONE p) 0 else s
    if v.getLsbD 0 then s.pierInitGo p else s
  else s.fieldWrite row a v

/-- Requests that run (R230). -/
def State.anyActive (s : State) : Bool := s.hds.requests.any fun r => !r.ended

/-- Writes of the HDS block (R193 to R196, R206, R212, R230, R231). -/
def State.hdsWrite (s : State) (row : RegRow) (n a : Nat) (v : Word64) : State :=
  let b := row.base
  if b = Reg.HDS_CTXBASE then (if s.anyActive then s else s.fieldWrite row a v)
  else if b = Reg.HDS_SEQTAB then
    let b := s.slotsBusy
    if b.1 then b.2 else (b.2.set Reg.HDS_SEQTAB_ADDR v.toNat).set Reg.HDS_SEQTAB_NSEQ (bits v.toNat 47 17)
  else if b = Reg.HDS_KVFREE then s.kvSizeWrite (bits v.toNat 0 24)
  else if b = Reg.HDS_KVRET then s.poolPush (bits v.toNat 0 43)
  else if b = Reg.HDS_PROG 0 then s.progWrite n v
  else if b = Reg.HDS_QP_SQ 0 then s.qpSqWrite n v
  else if b = Reg.HDS_QP_CQ 0 then s.qpCqWrite n v
  else if b = Reg.HDS_QP_CTL 0 then s.qpCtlWrite n v
  else if b = Reg.HDS_SQDB 0 then s.sqDoorbell n (bits v.toNat 0 16)
  else if b = Reg.HDS_CQDB 0 then s.cqDoorbell n (bits v.toNat 0 16)
  else s.fieldWrite row a v

/-- A routing entry with its port codes as a write stores them (R278). -/
def cleanEntry (v : Word64) : Word64 :=
  [4, 8, 12].foldl (fun w k => (⟨0, k, 4⟩ : Loc).put w (portCode (bits v.toNat k 4))) v

/-- Response classes 6 and 7 leave their field unchanged (R298). -/
def State.rspvcWrite (s : State) (v : Word64) : State :=
  s.forEach (List.range 6) fun s c =>
    let x := bits v.toNat (3 * c) 3
    if x < 6 then s.set ⟨Reg.RTR_RSPVC, 3 * c, 3⟩ x else s

/-- Writes of the RTR block (R277, R278, R282, R296, R298). -/
def State.rtrWrite (s : State) (row : RegRow) (n a : Nat) (v : Word64) : State :=
  let b := row.base
  if b = Reg.RTR_SWAP_FT then (if s.flag Reg.RTR_SWAP_CTL_ARM then s else s.fieldWrite row a v)
  else if b = Reg.RTR_SWAP_CTL then
    let arm := s.get Reg.RTR_SWAP_CTL_ARM
    ((s.fieldWrite row a v).set Reg.RTR_SWAP_CTL_ARM arm).swapArm (bits v.toNat 0 1)
  else if b = Reg.RTR_QUENCH then s.quenchWrite v
  else if b = Reg.RTR_RSPVC then s.rspvcWrite v
  else if b = Reg.RTR_PEER 0 then s.peerWrite n v
  else if b = Reg.RTR_ENT_LO 0 then (s.fieldWrite row a (cleanEntry v)).transitGo
  else if b = Reg.RTR_STG_LO 0 then (if s.flag Reg.RTR_SWAP_CTL_ARM then s else s.fieldWrite row a (cleanEntry v))
  else s.fieldWrite row a v

/-- A write of LNK_CTL (R247, R260, R265): the plain fields, then EN = 0, TEST, EN = 1 and DRAIN. -/
def State.lnkCtlWrite (s : State) (i : Nat) (v : Word64) : State :=
  let w := v.toNat
  let s := ((s.set (Reg.LNK_CTL_LOOP i) (bits w 3 1)).set (Reg.LNK_CTL_SPAREEN i) (bits w 4 1)).set (Reg.LNK_CTL_UCW_LIMIT i) (bits w 8 8)
  let s := (s.set (Reg.LNK_CTL_RETRY_LIMIT i) (bits w 16 8)).set (Reg.LNK_CTL_FASTEN i) (bits w 24 1)
  let s := if v.getLsbD 0 then s else s.linkOff i
  let s := if v.getLsbD 2 then s.testOn i else s.testOff i
  let s := if v.getLsbD 0 then s.linkEn i else s
  if v.getLsbD 1 then s.drainWrite i else s.drainUnwrite i

/-- The pattern set of a port's lane, of a bridge, or of a servo port. -/
def laneSet (i n : Nat) : PatSet := .lane (Fin.ofNat 11 i) (Fin.ofNat 17 n)
def meshSet (i n : Nat) : PatSet := .mesh (Fin.ofNat 11 i) (Fin.ofNat 8 n)

/-- Writes of the LNK block (R250, R262, R265, R266). -/
def State.lnkWrite (s : State) (row : RegRow) (i n a : Nat) (v : Word64) : State :=
  let b := row.base
  if b = Reg.LNK_CTL 0 then s.lnkCtlWrite i v
  else if b = Reg.LNK_LANEMAP 0 then
    let st := s.linkState i
    if st = 0 ∨ st = 11 then s.set (Reg.LNK_LANEMAP_SPARE i) (bits v.toNat 0 5) else s
  else if b = Reg.LNK_EQSAVE 0 then
    let s := s.set (Reg.LNK_EQSAVE_ADDR i) (bits v.toNat 0 43)
    if v.getLsbD 62 then s.eqSave i else s
  else if b = Reg.LNK_PAT_CTL 0 0 then s.patWrite (laneSet i n) v
  else s.fieldWrite row a v

/-- Writes of the FTU block (R278, R302, R307, R315). -/
def State.ftuWrite (s : State) (row : RegRow) (a : Nat) (v : Word64) : State :=
  let w := v.toNat
  let b := row.base
  if b = Reg.FTU_LOAD then s.timeLoad v
  else if b = Reg.FTU_CTL then
    let s := ((s.set Reg.FTU_CTL_PERIOD (bits w 8 8)).set Reg.FTU_CTL_BACKMAX (bits w 16 16)).set Reg.FTU_CTL_HOLDMAX (bits w 32 16)
    let s := if v.getLsbD 0 then s else s.ftDisable
    let s := if v.getLsbD 1 then s.rootWrite else s.set Reg.FTU_CTL_ROOT 0
    let s := if v.getLsbD 0 then s.ftEnable else s
    if v.getLsbD 2 then s.resync else s
  else if b = Reg.FTU_PARENT then
    let s := ((s.set Reg.FTU_PARENT_P0 (portCode (bits w 0 4))).set Reg.FTU_PARENT_P1 (portCode (bits w 4 4))).set Reg.FTU_PARENT_P2
      (portCode (bits w 8 4))
    s.set Reg.FTU_PARENT_ROOTMOD (bits w 16 13)
  else s.fieldWrite row a v

/-- Writes of the SRV block (R327, R329, R330, R336, R340 to R347). -/
def State.srvWrite (s : State) (row : RegRow) (is : List Nat) (a : Nat) (v : Word64) : State :=
  let w := v.toNat
  let b := row.base
  let k := is.getD 0 0
  let n := is.getD 1 0
  if b = Reg.SRV_CTL 0 then
    let s := (s.set (Reg.SRV_CTL_LOOP k) (bits w 2 1)).set (Reg.SRV_CTL_MISSMAX k) (bits w 8 8)
    (s.srvEnable k (v.getLsbD 0)).srvTest k (v.getLsbD 1)
  else if b = Reg.SRV_TIME 0 then s.srvTime k v
  else if b = Reg.SRV_PAT_CTL 0 then s.patWrite (.servo (Fin.ofNat 2 k)) v
  else if b = Reg.SRV_MIR_CTL 0 0 then (s.modeWrite k n (bits w 0 3)).bankWrite k n (bits w 4 1)
  else if Reg.SRV_COEF_A k 0 0 0 ≤ a ∧ a < Reg.SRV_COEF_A k 2 0 0 then
    let o := a - Reg.SRV_COEF_A k n 0 0
    s.coefWrite k n (o / 0x800) (o % 0x800 / 8) v
  else if b = Reg.SRV_RC 0 0 0 then s.rcWrite k (n / 2) (n % 2) (is.getD 2 0) v
  else s.fieldWrite row a v

/-- Writes of the PYL block (R400, R401). -/
def State.pylWrite (s : State) (row : RegRow) (k a : Nat) (v : Word64) : State :=
  if row.base = Reg.PYL_CTL 0 then s.forceRel k v
  else if row.base = Reg.PYL_WDOG 0 then
    let s := s.set (Reg.PYL_WDOG_PERIOD k) (bits v.toNat 8 4)
    if v.getLsbD 0 then s.kick k else s
  else s.fieldWrite row a v

/-- The front end's token buckets are brought up to date before their rate changes (R407). -/
def State.bucketsNow (s : State) : State :=
  { s with ev := { s.ev with buckets := s.ev.buckets.map fun (b : Nat × (Nat × Nat)) => (b.1, (s.evLevel b.1, s.now)) } }

/-- Writes of the EVR block (R407, R409, R416): the settings are written on the instance whose pylon holds the token only. -/
def State.evrWrite (s : State) (row : RegRow) (i a : Nat) (v : Word64) : State :=
  let b := row.base
  if b = Reg.EVR_CTL 0 then
    let s := if s.holder = some i then (s.set (Reg.EVR_CTL_FRZMAX i) (bits v.toNat 16 16)).set (Reg.EVR_CTL_SUMPERIOD i) (bits v.toNat 32 16) else s
    if v.getLsbD 0 then s.freeze i else s.freezeEnd i
  else if s.holder ≠ some i then s
  else if (b = Reg.EVR_RATE 0 ∨ b = Reg.EVR_RLOVR 0 0) then s.bucketsNow.fieldWrite row a v
  else s.fieldWrite row a v

/-- Writes of the CTR block (R437). -/
def State.ctrWrite (s : State) (row : RegRow) (h a : Nat) (v : Word64) : State :=
  let b := row.base
  if b = Reg.CTR_CTL then s.ctrCtlWrite v
  else if b = Reg.CTR_PERIOD ∨ b = Reg.CTR_MASK ∨ b = Reg.CTR_BUF ∨ b = Reg.CTR_BUFSZ then
    (if s.flag Reg.CTR_CTL_EN then s else s.fieldWrite row a v)
  else if b = Reg.CTR_TAGBUF ∨ b = Reg.CTR_TAGSZ then (if s.anyTag then s else s.fieldWrite row a v)
  else if b = Reg.CTR_TAIL then (if s.ctrSlots ≤ bits v.toNat 0 32 then s else s.fieldWrite row a v)
  else if b = Reg.CTR_HIST_CTL 0 then s.histCtlWrite h v
  else s.fieldWrite row a v

/-- Writes of the SEC block (R442, R452, R458). -/
def State.secWrite (s : State) (row : RegRow) (a : Nat) (v : Word64) : State :=
  if row.base = Reg.SEC_EXTGO then s.driverExtend v
  else if row.base = Reg.SEC_ARATE then
    let s := { s with sec := { s.sec with bucket := s.sec.bucket.map fun _ => (s.attLevel, s.now) } }
    s.fieldWrite row a v
  else s.fieldWrite row a v

/-- Writes of the UPD block (R482 to R485): the window takes writes while the host or recovery holds the lock. -/
def State.updWrite (s : State) (row : RegRow) (a : Nat) (v : Word64) : State :=
  if row.base = Reg.UPD_RECOV then ((s.recovFields v).recovReq v).recovGo v
  else if row.base = Reg.UPD_WINDOW 0 then
    let l := s.get Reg.UPD_STATUS_LOCK
    if l = 1 ∨ l = 3 then s.setReg a v else s
  else s.fieldWrite row a v

/-- A write of PWR_CTL (R501, R506, R520). -/
def State.pwrCtlWrite (s : State) (v : Word64) : State :=
  let w := v.toNat
  let req := bits w 8 3
  let s := (s.set Reg.PWR_CTL_THROT (bits w 16 8)).envWrite (bits w 0 2)
  let s := if req < 5 then s.set Reg.PWR_CTL_REQ req else s
  if v.getLsbD 11 then s.powerGo else s

/-- RELEASE written 1 (R534, R535): HELD returns to 0 after a host-link reset, and pending vectors go out. -/
def State.heldRelease (s : State) : State :=
  if s.host.heldByReset then State.releaseVecs { s with host := { s.host with heldByReset := false }, hds := { s.hds with replaced := [] } } else s

/-- A write of JIG_CTL (R75, R79, R81). DESIGN CHOICE: of one write that carries START and SEAL, START acts first, and the seal waits for
the load's end (log 76). -/
def State.jigCtlWrite (s : State) (v : Word64) : State :=
  let busy := s.jigBusy
  let s := s.set Reg.JIG_CTL_DRAIN (bits v.toNat 4 1)
  let s :=
    if v.getLsbD 1 ∧ busy then s.jigAbort
    else if v.getLsbD 0 then s.jigStart
    else s
  let d := s.jig.staging
  let s := if v.getLsbD 4 ∧ s.jigPhase = 3 ∧ jigKind d = 1 then s.endSet (jigScope d) else s
  if v.getLsbD 8 then s.jigSeal else s

/-- A write of MBX_CTL (R44, R46). -/
def State.mbxCtlWrite (s : State) (n : Nat) (v : Word64) : State :=
  let w := v.toNat
  let s := if v.getLsbD 1 then s.set (Reg.MBX_CTL_DONE n) 0 else s
  if s.flag (Reg.MBX_CTL_GO n) then s
  else ((s.set (Reg.MBX_CTL_SEQ n) (bits w 8 8)).set (Reg.MBX_CTL_CMD n) (bits w 16 16)).set (Reg.MBX_CTL_GO n) (bits w 0 1)

/-- A write of AON_EVSENT (R417): a ring's bit clears only while that recorder is not degraded. -/
def State.evsentWrite (s : State) (v : Word64) : State :=
  let s := if v.getLsbD 16 ∧ !s.flag (Reg.EVR_STATUS_DEGRADED 0) then s.set Reg.AON_EVSENT_RINGA 0 else s
  if v.getLsbD 17 ∧ !s.flag (Reg.EVR_STATUS_DEGRADED 1) then s.set Reg.AON_EVSENT_RINGB 0 else s

/-- Writes of the blocks from PWR up that have a few acting registers. -/
def State.topWrite (s : State) (row : RegRow) (i n a : Nat) (v : Word64) : State :=
  let b := row.base
  if b = Reg.CAL_REQ then (if v.getLsbD 7 then s.calRequest (bits v.toNat 0 7) else s)
  else if b = Reg.PWR_CTL then s.pwrCtlWrite v
  else if b = Reg.PWR_RST then s.rstWrite v
  else if b = Reg.ABT_CTL then
    let s := s.set Reg.ABT_CTL_MODER (bits v.toNat 0 16)
    if v.getLsbD 16 then s.heldRelease else s
  else if b = Reg.JIG_CTL then s.jigCtlWrite v
  else if b = Reg.JIG_SRC ∨ b = Reg.JIG_DRAIN_LIMIT then (if s.flag Reg.JIG_CTL_START then s else s.fieldWrite row a v)
  else if b = Reg.MBX_CTL 0 then s.mbxCtlWrite i v
  else if b = Reg.MBX_CMDREG 0 0 then (if s.flag (Reg.MBX_CTL_GO i) then s else s.fieldWrite row a v)
  else if b = Reg.AON_EVSENT then s.evsentWrite v
  else if b = Reg.MSH_PAT_CTL 0 0 then s.patWrite (meshSet i n) v
  else s.fieldWrite row a v

/-! ### Counter banks -/

/-- Writes of a counter bank's control and selection registers, and of a spindle's tag register (R421, R434); none when the
register is no such one. -/
def State.bankWriteReg (s : State) (row : RegRow) (is : List Nat) (v : Word64) : Option State :=
  let ctl := kindOf [Reg.SPN_PMC_CTL 0, Reg.GGE_PMC_CTL 0, Reg.PIER_PMC_CTL 0, Reg.HDS_PMC_CTL, Reg.LNK_PMC_CTL 0, Reg.RTR_PMC_CTL,
    Reg.SRV_PMC_CTL 0] row.base
  let sel := kindOf [Reg.SPN_PMC_SEL 0 0, Reg.GGE_PMC_SEL 0 0, Reg.PIER_PMC_SEL 0 0, Reg.HDS_PMC_SEL 0, Reg.LNK_PMC_SEL 0 0,
    Reg.RTR_PMC_SEL 0, Reg.SRV_PMC_SEL 0 0] row.base
  match ctl, sel with
  | some k, _ => some (s.pmcCtlWrite (bankBase k (is.getD 0 0)) v)
  | none, some k => some (s.pmcSelWrite k (bankBase k (if is.length = 2 then is.getD 0 0 else 0)) (is.getLastD 0) v)
  | none, none => if row.base = Reg.SPN_PMC_TAG 0 then some (s.tagWrite (is.getD 0 0) v) else none

/-! ### A write -/

/-- A write of one register, which is mapped. -/
def State.regWrite (s : State) (row : RegRow) (is : List Nat) (a : Nat) (v : Word64) : State :=
  let i := is.getD 0 0
  let n := is.getD 1 0
  match s.bankWriteReg row is v with
  | some t => t
  | none =>
    if a < 0x7f080000000 then s.spnWrite row i a v
    else if a < 0x7f100000000 then s.pierWrite row i a v
    else if a < 0x7f200000000 then s.hdsWrite row i a v
    else if a < 0x7f300000000 then s.rtrWrite row i a v
    else if a < 0x7f400000000 then s.lnkWrite row i n a v
    else if a < 0x7f410000000 then s.ftuWrite row a v
    else if a < 0x7f420000000 then s.srvWrite row is a v
    else if a < 0x7f430000000 then s.pylWrite row i a v
    else if a < 0x7f440000000 then s.evrWrite row i a v
    else if a < 0x7f450000000 then s.ctrWrite row i a v
    else if a < 0x7f460000000 then s.secWrite row a v
    else if a < 0x7f470000000 then s.updWrite row a v
    else s.topWrite row i n a v

/-- The lower half of a value that spans two registers, written by this requester and not yet committed (R39). -/
def State.stagedHalf (s : State) (r : Requester) (a : Nat) : Option Word64 :=
  (s.ctl.staged.find? fun e => decide (e.1 = r) && e.2.1 == a).map (·.2.2)

def State.dropStaged (s : State) (r : Requester) (a : Nat) : State :=
  { s with ctl := { s.ctl with staged := s.ctl.staged.filter fun e => !(decide (e.1 = r) && e.2.1 == a) } }

/-- A write of a register (R39): the lower half of a value that spans two waits for the upper half. -/
def State.pairWrite (s : State) (r : Requester) (row : RegRow) (is : List Nat) (a : Nat) (v : Word64) : State :=
  if (s.upperOf row is a).isSome then
    let s := s.dropStaged r a
    { s with ctl := { s.ctl with staged := (r, a, v) :: s.ctl.staged } }
  else
    match s.stagedHalf r (a - 8), Reg.find (a - 8) with
    | some lo, some (lrow, lis) => ((s.dropStaged r (a - 8)).regWrite lrow lis (a - 8) lo).regWrite row is a v
    | _, _ => s.regWrite row is a v

/-- The blocks of control space: base and stride of their instances (R33). -/
def blockTable : List (Nat × Nat) :=
  [(0x7f000000000, 0x100000), (0x7f040000000, 0x10000), (0x7f080000000, 0x1000000), (0x7f100000000, 0), (0x7f200000000, 0),
   (0x7f300000000, 0x100000), (0x7f400000000, 0), (0x7f410000000, 0x1000000), (0x7f420000000, 0x100000),
   (0x7f430000000, 0x200000), (0x7f440000000, 0), (0x7f450000000, 0), (0x7f460000000, 0), (0x7f470000000, 0),
   (0x7f480000000, 0), (0x7f490000000, 0), (0x7f4a0000000, 0), (0x7f4b0000000, 0), (0x7f4c0000000, 0), (0x7f4d0000000, 0x10000)]

/-- The block and the number of its copy that an address lies in (R33). -/
def ctlBlock (a : Nat) : Nat × Nat :=
  blockTable.foldl (fun (x : Nat × Nat) e => if e.1 ≤ a then (e.1, (a - e.1) / e.2) else x) (0, 0)

/-- Writes of a requester that the apply phase holds (R74). -/
def State.heldOf (s : State) (r : Requester) : List (Requester × Nat × Word64) := s.jig.held.filter fun w => decide (w.1 = r)

/-- A write waits behind a held one of its requester: to the same block, since accesses to one block take effect in their order
(R38), or any at all where it is a doorbell (R40). -/
def State.waitsHeld (s : State) (r : Requester) (a : Nat) : Bool :=
  (s.heldOf r).any fun w => ctlBlock w.2.1 == ctlBlock a || isDoorbell a

/-- A write of a register that the load in its apply phase sets is held until the phase ends (R74). -/
def State.orHold (s : State) (r : Requester) (a : Nat) (v : Word64) (f : State → State) : State :=
  if s.jigHolds a || s.waitsHeld r a then { s with jig := { s.jig with held := s.jig.held ++ [(r, a, v)] } } else f s

/-- A write of a control-space address (R29, R34, R74, R508). -/
def State.ctlWrite (s : State) (r : Requester) (a : Nat) (v : Word64) : State :=
  match Reg.find a with
  | none => s.unmapped a (reqKind r).1 (reqKind r).2
  | some (row, is) =>
    if a % 8 ≠ 0 then s.unmapped a (reqKind r).1 (reqKind r).2
    else if !s.reaches a then s
    else s.orHold r a v fun s => s.pairWrite r row is a v

/-- CONTROL_REGISTER_WRITE (R35 to R40). -/
def execControlRegisterWrite (r : Requester) (a : Nat) (v : Word64) (s : State) : Out := s.run fun s =>
  if r = .host ∧ isDoorbell a ∧ s.mwrWaits then s.hostDoorbell a v else s.ctlWrite r a v

/-- SUBMISSION_TAIL_DOORBELL and COMPLETION_HEAD_DOORBELL (R194): the host's write of HDS_SQDB or HDS_CQDB, which takes effect after every
earlier write of the host (R40). -/
def execSubmissionTailDoorbell (q : Fin 4096) (v : Fin 65536) (s : State) : Out :=
  execControlRegisterWrite .host (Reg.HDS_SQDB q) (BitVec.ofNat 64 v) s
def execCompletionHeadDoorbell (q : Fin 4096) (v : Fin 65536) (s : State) : Out :=
  execControlRegisterWrite .host (Reg.HDS_CQDB q) (BitVec.ofNat 64 v) s

/-- EXPECTED_PEER_WRITE: a write of RTR_PEER (R253, R298). -/
def execExpectedPeerWrite (p : Fin 10) (v : Word64) (s : State) : Out := s.run fun s =>
  s.orHold .host (Reg.RTR_PEER p) v fun s => s.peerWrite p v

/-- SWAP_ARM and SWAP_DISARM: ARM is written 1 or 0 (R282). -/
def execSwapArm (s : State) : Out := s.run fun s => s.orHold .host Reg.RTR_SWAP_CTL 1 fun s => s.swapArm 1
def execSwapDisarm (s : State) : Out := s.run fun s => s.orHold .host Reg.RTR_SWAP_CTL 0 fun s => s.swapArm 0

/-- JIG_APPLY_COMPLETE (R74, R77): the load is applied, and the writes held meanwhile are performed in their order. -/
def execJigApplyComplete (s : State) : Out := s.run fun s =>
  if s.jigPhase ≠ 4 then s
  else
    let s := s.jigDone
    let l := s.jig.held
    State.forEach { s with jig := { s.jig with held := [] } } l fun s w => s.ctlWrite w.1 w.2.1 w.2.2

/-- The command codes that chapters define (R45). -/
def mbxCodes : List Nat :=
  [0x0d01, 0x0d02, 0x0d03, 0x0e01, 0x0f01, 0x1001, 0x1002, 0x1101, 0x1102, 0x1103, 0x1104, 0x1105, 0x1106, 0x1108, 0x1109, 0x1201,
   0x1202, 0x1301]

/-- MAILBOX_UNKNOWN_COMMAND (R45): a pylon runs the firmware that answers. -/
def execMailboxUnknownCommand (n : Fin 8) (s : State) : Out := s.run fun s =>
  if s.flag (Reg.MBX_CTL_GO n) ∧ s.holder.isSome ∧ !mbxCodes.contains (s.get (Reg.MBX_CTL_CMD n)) then s.mbxFail n 0x0001 else s

end Sys2Proof.Machine
end

