-- ==== Sys2Proof/Machine/Access.lean ====
section
/-! DEFINITION. Machine/Access.lean: who reaches registers and memory from outside: register accesses over VC7 (R294, R295, R396) and
the frames of the abutment link (R526 to R535), with the moderation of its interrupts (R533).
The choices of the model here: log 59. -/

namespace Sys2Proof.Machine

/-! ### Register accesses over VC7 -/

/-- The hardware's answer to a register access, sent whoever holds the token (R294, R396). -/
def State.regAnswer (s : State) (f : Frame) (mop code : Nat) (data : List Byte) : State :=
  s.originate (s.mgmtFrame s.evr f.srcmod f.tag code ([BitVec.ofNat 8 mop] ++ List.replicate 7 0 ++ data))

/-- The access names a register (R29, R33, R34). -/
def mappedReg (a : Nat) : Bool := a % 8 == 0 && (Reg.find a).isSome

/-- MGMT_REGISTER_READ (R294): a read waits until the earlier writes of its module, which a jig load holds, have taken effect (R38). -/
def execMgmtRegisterRead (p : Fin 11) (s : State) : Out := s.run fun s =>
  s.mgmtTakeIf p (fun f => mopOf f == 0x01 && (f.dstmod != s.ownMod || (s.heldOf (.vc7 f.srcmod)).isEmpty)) fun s f =>
  let r := s.ctlRead (.vc7 f.srcmod) f.addr
  r.2.regAnswer f 0x81 (if mappedReg f.addr then 0 else 0x02) (leBytes 8 r.1.toNat)

/-- MGMT_REGISTER_WRITE (R294, R295). -/
def execMgmtRegisterWrite (p : Fin 11) (s : State) : Out := s.run fun s => s.mgmtTake p 0x02 fun s f =>
  if !s.mgmtAllowed f then s.regAnswer f 0x82 0x05 []
  else
    (s.ctlWrite (.vc7 f.srcmod) f.addr (BitVec.ofNat 64 (leAt f.body 8 8))).regAnswer f 0x82 (if mappedReg f.addr then 0 else 0x02) []

/-! ### Host frames -/

/-- The frame at the front of VC0 is done with; an MRD no longer counts as outstanding (R528). -/
def State.hostPop (s : State) : State :=
  match s.host.vc0 with
  | [] => s
  | f :: rest => { s with host := { s.host with vc0 := rest, mrdOut := s.host.mrdOut - bit (f.akind == 1) } }

/-- A completion for an MRD (R526, R531). -/
def State.cpl (s : State) (f : HostFrame) (cstat : Nat) (d : List Byte) : State :=
  let c : HostFrame := { akind := 3, cstat, len := d.length, atag := f.atag, addr := 0, body := d }
  { s with host := { s.host with vc1 := s.host.vc1 ++ [c] } }

/-- LEN of an MRD or MWR is in its range (R527). -/
def hostLenOk (f : HostFrame) : Bool :=
  match placeOf f.addr with
  | .control => f.len == 8
  | _ => decide (1 ≤ f.len ∧ f.addr % 2048 + f.len ≤ 2048)

/-- The module is in M3, where DRAM is out of the host's reach (R508). -/
def State.inM3 (s : State) : Bool := s.get Reg.PWR_STATUS_STATE == 3

/-- A control-space access of another size than 8 B is an access to an unmapped address, which is logged (R29, R34). -/
def State.oddSize (s : State) (f : HostFrame) : State := if placeOf f.addr = .control then s.unmapped f.addr 1 0 else s

/-- MRD (R526 to R531): the host read at the front of VC0 is performed; a DRAM read waits while its pier is not ready (R512), and a read
of a register until the writes of the host that a jig load holds have taken effect (R38). -/
def execMrd (s : State) : Out := s.run fun s =>
  match s.host.vc0 with
  | [] => s
  | f :: _ =>
    let ones := List.replicate f.len 0xff
    if f.akind ≠ 1 then s
    else if !hostLenOk f then ((s.hostPop.sat Reg.ABT_ERR_MALF 1).oddSize f).cpl f 2 []
    else
      match placeOf f.addr with
      | .control =>
        if !(s.heldOf .host).isEmpty then s
        else
        let r := s.hostPop.ctlRead .host f.addr
        r.2.cpl f 0 (leBytes 8 r.1.toNat)
      | .dram =>
        if s.inM3 then s.hostPop.cpl f 0 ones
        else if !s.memAvail f.addr f.len then s
        else
          let r := s.hostPop.memRead f.addr f.len false
          match r.1 with
          | some d => r.2.cpl f 0 d
          | none => (r.2.sat Reg.ABT_ERR_RDFAIL 1).cpl f 1 []
      | _ => (s.hostPop.unmapped f.addr 1 0).cpl f 0 ones

/-- MWR (R526 to R531): the host write at the front of VC0 is performed. -/
def execMwr (s : State) : Out := s.run fun s =>
  match s.host.vc0 with
  | [] => s
  | f :: _ =>
    if f.akind ≠ 2 then s
    else if !hostLenOk f then (s.hostPop.sat Reg.ABT_ERR_BAD 1).oddSize f
    else
      match placeOf f.addr with
      | .control => s.hostPop.ctlWrite .host f.addr (BitVec.ofNat 64 (leNat f.body))
      | .dram =>
        if s.inM3 then s.hostPop
        else if !s.memAvail f.addr f.len then s
        else
          let r := s.hostPop.memWrite f.addr f.body false
          if r.1 then r.2 else r.2.occur 0x1202 0 (leBytes 8 f.addr)
      | _ => s.hostPop.unmapped f.addr 1 0

/-! ### Interrupts and RELEASE -/

/-- MSI_MODERATION_EXPIRY (R533): the interval of a vector ends; one MSI covers every cause since. -/
def execMsiModerationExpiry (v : Fin 512) (s : State) : Out := s.run fun s =>
  if s.host.pendingVec.contains v.val && !s.abtHeld && s.msiFree v then s.sendMsi v else s

/-- HELD_RELEASE: ABT_CTL.RELEASE is written 1 (R534, R535). -/
def execHeldRelease (s : State) : Out := s.run State.heldRelease

end Sys2Proof.Machine
end

