-- ==== Sys2Proof/Machine/Pins.lean ====
section
/-! DEFINITION. Machine/Pins.lean: connector supplies (R546), MODULE_INFO (R554) and the test access port (R563 to R565).
The choices of the model here: log 60. -/

namespace Sys2Proof.Machine

/-! ### AUX_3V3 and MODULE_INFO -/

/-- AUX_OVERLOAD (R546): the contact of a port goes off, and its link goes down. -/
def execAuxOverload (i : Fin 11) (s : State) : Out := s.run fun s =>
  if !(s.port i).aux then s
  else
    let st := s.linkState i
    let s := s.updPort i fun x => { x with aux := false }
    if st = 6 ∨ st = 9 ∨ st = 12 then s.linkDown i 1 else s

/-- MODULE_INFO (R554): serial number, slot position, issue and IDCODE. -/
def execModuleInfo (n : Fin 8) (s : State) : Out := s.run fun s => s.mbxRun n 0x1301 fun s =>
  s.mbxDone n 0x0000 5 [leNat (slice Config.serial 0 8), leNat (slice Config.serial 8 8),
    s.pwr.slotId % 64 + s.get Reg.AON_TOKEN_PREF * 2 ^ 8 + 3 * 2 ^ 16, 0x3961634f]

/-! ### The test access port -/

/-- The deck die has power, so its port works (R509, R563). -/
def State.tapOn (s : State) (f : TapState → TapState) : Out := .next (if s.pwr.pwrGood then { s with tap := f s.tap } else s)

/-- TAP_RESET (R565): Test-Logic-Reset, with IDCODE loaded. -/
def execTapReset (s : State) : Out := s.tapOn fun _ => TapState.reset

/-- An instruction that does nothing to the pins enters force; one that did before gives them back. -/
def TapState.load (t : TapState) (ir : Nat) (sel : TapReg) : TapState := { t with ir, sel, pins := .function }

/-- An instruction that takes the pins enters force: in module reset alone; at any other time it acts as BYPASS (R565). -/
def State.tapPins (s : State) (ir : Nat) (sel : TapReg) (m : PinMode) : Out :=
  s.tapOn fun t => if s.pwr.resetN then t.load ir .bypass else { t with ir, sel, pins := m }

def execExtest (s : State) : Out := s.tapPins 0x00 .boundary .extest
def execClamp (s : State) : Out := s.tapPins 0x03 .bypass .clamp
def execHighz (s : State) : Out := s.tapPins 0x04 .bypass .highz
def execExtestPulse (s : State) : Out := s.tapPins 0x05 .boundary .pulse
def execExtestTrain (s : State) : Out := s.tapPins 0x06 .boundary .train

/-- IDCODE (R563, R564). -/
def execIdcode (s : State) : Out := s.tapOn fun t => t.load 0x01 .identification

/-- SAMPLE/PRELOAD (R563): the bits shifted in are latched in the boundary register's cells. -/
def execSamplePreload (shift : List Bool) (s : State) : Out := s.tapOn fun t => { t.load 0x02 .boundary with boundary := shift }

/-- BYPASS (R563), by its code 0xFF or by a code that is not used. -/
def execBypass (code : Fin 256) (s : State) : Out :=
  if (7 ≤ code.val ∧ code.val < 0x80) ∨ code.val = 0xff then s.tapOn fun t => t.load code .bypass else .next s

/-- TEST_ACCESS_UNLOCK (R440, R457, R565): a reserved instruction enters force. -/
def execTestAccessUnlock (code : Fin 256) (s : State) : Out :=
  if 0x80 ≤ code.val ∧ code.val < 0xff ∧ s.pwr.pwrGood then
    let s : State := { s with tap := { s.tap.load code .bypass with unlocked := true } }
    .next (s.keeping ((s.extend 10 9 []).occur 0x0e08 0 []))
  else .next s

end Sys2Proof.Machine
end

