-- ==== Sys2Proof/Machine/Dispatch.lean ====
section
/-! DEFINITION. Machine/Dispatch.lean: exec, one arm per command of the opcode table, in the table's order. -/

namespace Sys2Proof.Machine

def exec (i : Instr) (s : State) : Host.Outcome State Fault Refusal :=
  match i with
  | .controlRegisterWrite r a v => Sys2Proof.Machine.execControlRegisterWrite r a v s
  | .submissionTailDoorbell q v => Sys2Proof.Machine.execSubmissionTailDoorbell q v s
  | .completionHeadDoorbell q v => Sys2Proof.Machine.execCompletionHeadDoorbell q v s
  | .mailboxUnknownCommand n => Sys2Proof.Machine.execMailboxUnknownCommand n s
  | .jigStart => Sys2Proof.Machine.execJigStart s
  | .jigAbort => Sys2Proof.Machine.execJigAbort s
  | .jigSeal => Sys2Proof.Machine.execJigSeal s
  | .jigCopyComplete => Sys2Proof.Machine.execJigCopyComplete s
  | .jigValidateComplete => Sys2Proof.Machine.execJigValidateComplete s
  | .jigDrainComplete => Sys2Proof.Machine.execJigDrainComplete s
  | .jigDrainLimitExpiry => Sys2Proof.Machine.execJigDrainLimitExpiry s
  | .jigApplyComplete => Sys2Proof.Machine.execJigApplyComplete s
  | .spindleQuiesce ix v => Sys2Proof.Machine.execSpindleQuiesce ix v s
  | .testInjection ix v => Sys2Proof.Machine.execTestInjection ix v s
  | .gangLaunch ix => Sys2Proof.Machine.execGangLaunch ix s
  | .reservedOperation ix g => Sys2Proof.Machine.execReservedOperation ix g s
  | .nopI ix g => Sys2Proof.Machine.execNop ix g s
  | .br ix g => Sys2Proof.Machine.execBr ix g s
  | .brall ix g => Sys2Proof.Machine.execBrall ix g s
  | .brany ix g => Sys2Proof.Machine.execBrany ix g s
  | .movi ix g => Sys2Proof.Machine.execMovi ix g s
  | .movhi ix g => Sys2Proof.Machine.execMovhi ix g s
  | .tid ix g => Sys2Proof.Machine.execTid ix g s
  | .ftrd ix g => Sys2Proof.Machine.execFtrd ix g s
  | .setp ix g => Sys2Proof.Machine.execSetp ix g s
  | .endG ix g => Sys2Proof.Machine.execEnd ix g s
  | .fadd ix g => Sys2Proof.Machine.execFadd ix g s
  | .fmul ix g => Sys2Proof.Machine.execFmul ix g s
  | .ffma ix g => Sys2Proof.Machine.execFfma ix g s
  | .fmax ix g => Sys2Proof.Machine.execFmax ix g s
  | .fmin ix g => Sys2Proof.Machine.execFmin ix g s
  | .fexp2 ix g => Sys2Proof.Machine.execFexp2 ix g s
  | .flog2 ix g => Sys2Proof.Machine.execFlog2 ix g s
  | .frcp ix g => Sys2Proof.Machine.execFrcp ix g s
  | .frsq ix g => Sys2Proof.Machine.execFrsq ix g s
  | .iadd ix g => Sys2Proof.Machine.execIadd ix g s
  | .imul ix g => Sys2Proof.Machine.execImul ix g s
  | .andB ix g => Sys2Proof.Machine.execAnd ix g s
  | .orB ix g => Sys2Proof.Machine.execOr ix g s
  | .xorB ix g => Sys2Proof.Machine.execXor ix g s
  | .shl ix g => Sys2Proof.Machine.execShl ix g s
  | .shr ix g => Sys2Proof.Machine.execShr ix g s
  | .fsetp ix g => Sys2Proof.Machine.execFsetp ix g s
  | .isetp ix g => Sys2Proof.Machine.execIsetp ix g s
  | .shfl ix g => Sys2Proof.Machine.execShfl ix g s
  | .cvtf ix g => Sys2Proof.Machine.execCvtf ix g s
  | .pack ix g => Sys2Proof.Machine.execPack ix g s
  | .unpack ix g => Sys2Proof.Machine.execUnpack ix g s
  | .tmma ix g => Sys2Proof.Machine.execTmma ix g s
  | .tmv ix g => Sys2Proof.Machine.execTmv ix g s
  | .tzero ix g => Sys2Proof.Machine.execTzero ix g s
  | .tstore ix g => Sys2Proof.Machine.execTstore ix g s
  | .tensorInstructionComplete ix => Sys2Proof.Machine.execTensorInstructionComplete ix s
  | .ld ix g => Sys2Proof.Machine.execLd ix g s
  | .st ix g => Sys2Proof.Machine.execSt ix g s
  | .ldblk ix g => Sys2Proof.Machine.execLdblk ix g s
  | .stblk ix g => Sys2Proof.Machine.execStblk ix g s
  | .waitI ix g => Sys2Proof.Machine.execWait ix g s
  | .gld ix g => Sys2Proof.Machine.execGld ix g s
  | .gst ix g => Sys2Proof.Machine.execGst ix g s
  | .gldblk ix g => Sys2Proof.Machine.execGldblk ix g s
  | .gstblk ix g => Sys2Proof.Machine.execGstblk ix g s
  | .aadd ix g => Sys2Proof.Machine.execAadd ix g s
  | .amax ix g => Sys2Proof.Machine.execAmax ix g s
  | .aswap ix g => Sys2Proof.Machine.execAswap ix g s
  | .acas ix g => Sys2Proof.Machine.execAcas ix g s
  | .aadd64 ix g => Sys2Proof.Machine.execAadd64 ix g s
  | .acas64 ix g => Sys2Proof.Machine.execAcas64 ix g s
  | .bar ix g => Sys2Proof.Machine.execBar ix g s
  | .red ix g => Sys2Proof.Machine.execRed ix g s
  | .redv ix g => Sys2Proof.Machine.execRedv ix g s
  | .fenceI ix g => Sys2Proof.Machine.execFence ix g s
  | .barRelease set => Sys2Proof.Machine.execBarRelease set s
  | .redResult set => Sys2Proof.Machine.execRedResult set s
  | .redvResult set => Sys2Proof.Machine.execRedvResult set s
  | .gsum ix g => Sys2Proof.Machine.execGsum ix g s
  | .gsel ix g => Sys2Proof.Machine.execGsel ix g s
  | .gougeInstructionComplete lathe => Sys2Proof.Machine.execGougeInstructionComplete lathe s
  | .sample ix g => Sys2Proof.Machine.execSample ix g s
  | .emit ix g => Sys2Proof.Machine.execEmit ix g s
  | .kvb ix g => Sys2Proof.Machine.execKvb ix g s
  | .loadDataReturn ix g num => Sys2Proof.Machine.execLoadDataReturn ix g num s
  | .blockCopyComplete ix num => Sys2Proof.Machine.execBlockCopyComplete ix num s
  | .replay ix g => Sys2Proof.Machine.execReplay ix g s
  | .homeSliceAccess id ecc => Sys2Proof.Machine.execHomeSliceAccess id ecc s
  | .dramLineRead id mask cmask => Sys2Proof.Machine.execDramLineRead id mask cmask s
  | .pierReread id mask cmask => Sys2Proof.Machine.execPierReread id mask cmask s
  | .partialWriteMerge id masks => Sys2Proof.Machine.execPartialWriteMerge id masks s
  | .dramWriteComplete line => Sys2Proof.Machine.execDramWriteComplete line s
  | .codeBufferTimeout group => Sys2Proof.Machine.execCodeBufferTimeout group s
  | .mr4Readout channel code => Sys2Proof.Machine.execMr4Readout channel code s
  | .perBankRefresh channel bank => Sys2Proof.Machine.execPerBankRefresh channel bank s
  | .pierInitGo p => Sys2Proof.Machine.execPierInitGo p s
  | .pierInitDone p => Sys2Proof.Machine.execPierInitDone p s
  | .rolFlush p => Sys2Proof.Machine.execRolFlush p s
  | .rolFlushDone p => Sys2Proof.Machine.execRolFlushDone p s
  | .rolwaysWrite p v => Sys2Proof.Machine.execRolwaysWrite p v s
  | .selfRefreshReentry p => Sys2Proof.Machine.execSelfRefreshReentry p s
  | .qpEnable q v => Sys2Proof.Machine.execQpEnable q v s
  | .qpErrClear q => Sys2Proof.Machine.execQpErrClear q s
  | .qpRingWriteHeld q ctl v => Sys2Proof.Machine.execQpRingWriteHeld q ctl v s
  | .hdsProgWrite n v => Sys2Proof.Machine.execHdsProgWrite n v s
  | .programCheckDone n => Sys2Proof.Machine.execProgramCheckDone n s
  | .kvReturn addr => Sys2Proof.Machine.execKvReturn addr s
  | .kvPoolSizeWrite v => Sys2Proof.Machine.execKvPoolSizeWrite v s
  | .newC => Sys2Proof.Machine.execNew s
  | .extend => Sys2Proof.Machine.execExtend s
  | .cancel => Sys2Proof.Machine.execCancel s
  | .freeC => Sys2Proof.Machine.execFree s
  | .deferredAdmission => Sys2Proof.Machine.execDeferredAdmission s
  | .deferLimitExpiry k => Sys2Proof.Machine.execDeferLimitExpiry k s
  | .deadlineExpiry k => Sys2Proof.Machine.execDeadlineExpiry k s
  | .prefixLookup h => Sys2Proof.Machine.execPrefixLookup h s
  | .prefixImport h => Sys2Proof.Machine.execPrefixImport h s
  | .flushDelayExpiry h => Sys2Proof.Machine.execFlushDelayExpiry h s
  | .completionEntryWrite q => Sys2Proof.Machine.execCompletionEntryWrite q s
  | .linkEnOn ix => Sys2Proof.Machine.execLinkEnOn ix s
  | .linkEnOff ix => Sys2Proof.Machine.execLinkEnOff ix s
  | .linkDrainWrite ix => Sys2Proof.Machine.execLinkDrainWrite ix s
  | .linkDrainCancel ix => Sys2Proof.Machine.execLinkDrainCancel ix s
  | .linkTestOn ix => Sys2Proof.Machine.execLinkTestOn ix s
  | .linkTestOff ix => Sys2Proof.Machine.execLinkTestOff ix s
  | .eqSave ix => Sys2Proof.Machine.execEqSave ix s
  | .patternInject p => Sys2Proof.Machine.execPatternInject p s
  | .patternClear p => Sys2Proof.Machine.execPatternClear p s
  | .signalQualified ix lanes => Sys2Proof.Machine.execSignalQualified ix lanes s
  | .trainingComplete ix lanes spare => Sys2Proof.Machine.execTrainingComplete ix lanes spare s
  | .trainingTimeout ix => Sys2Proof.Machine.execTrainingTimeout ix s
  | .relockComplete ix lanes => Sys2Proof.Machine.execRelockComplete ix lanes s
  | .relockTimeout ix => Sys2Proof.Machine.execRelockTimeout ix s
  | .alignComplete ix lanes => Sys2Proof.Machine.execAlignComplete ix lanes s
  | .identSend ix => Sys2Proof.Machine.execIdentSend ix s
  | .identFlit ix f acked => Sys2Proof.Machine.execIdentFlit ix f acked s
  | .expectedPeerWrite p v => Sys2Proof.Machine.execExpectedPeerWrite p v s
  | .signalLost ix => Sys2Proof.Machine.execSignalLost ix s
  | .dataFlit ix f => Sys2Proof.Machine.execDataFlit ix f s
  | .nullFlit ix f => Sys2Proof.Machine.execNullFlit ix f s
  | .nak ix f => Sys2Proof.Machine.execNak ix f s
  | .lanechg ix f => Sys2Proof.Machine.execLanechg ix f s
  | .drainFlit ix f => Sys2Proof.Machine.execDrainFlit ix f s
  | .drainBufferEmpty ix => Sys2Proof.Machine.execDrainBufferEmpty ix s
  | .laneMarker ix lane m => Sys2Proof.Machine.execLaneMarker ix lane m s
  | .lightWord ix w => Sys2Proof.Machine.execLightWord ix w s
  | .lightWordTimeout ix lane => Sys2Proof.Machine.execLightWordTimeout ix lane s
  | .laneFailure ix lane => Sys2Proof.Machine.execLaneFailure ix lane s
  | .servicePress ix => Sys2Proof.Machine.execServicePress ix s
  | .rdreq p => Sys2Proof.Machine.execRdreq p s
  | .rdrsp p => Sys2Proof.Machine.execRdrsp p s
  | .wrreq p => Sys2Proof.Machine.execWrreq p s
  | .wrack p => Sys2Proof.Machine.execWrack p s
  | .atreq p => Sys2Proof.Machine.execAtreq p s
  | .atrsp p => Sys2Proof.Machine.execAtrsp p s
  | .remoteOperationSend k => Sys2Proof.Machine.execRemoteOperationSend k s
  | .remoteTimeout k => Sys2Proof.Machine.execRemoteTimeout k s
  | .noRouteTimeout k => Sys2Proof.Machine.execNoRouteTimeout k s
  | .transitWaitExpiry k => Sys2Proof.Machine.execTransitWaitExpiry k s
  | .mgmtRegisterRead p => Sys2Proof.Machine.execMgmtRegisterRead p s
  | .mgmtRegisterWrite p => Sys2Proof.Machine.execMgmtRegisterWrite p s
  | .readResponse p => Sys2Proof.Machine.execReadResponse p s
  | .writeResponse p => Sys2Proof.Machine.execWriteResponse p s
  | .eventNotice p => Sys2Proof.Machine.execEventNotice p s
  | .quench p => Sys2Proof.Machine.execQuench p s
  | .quenchOriginate v => Sys2Proof.Machine.execQuenchOriginate v s
  | .quenchLapse => Sys2Proof.Machine.execQuenchLapse s
  | .swapArm => Sys2Proof.Machine.execSwapArm s
  | .swapDisarm => Sys2Proof.Machine.execSwapDisarm s
  | .routingSwap => Sys2Proof.Machine.execRoutingSwap s
  | .timeLoad v => Sys2Proof.Machine.execTimeLoad v s
  | .ftEnable => Sys2Proof.Machine.execFtEnable s
  | .ftDisable => Sys2Proof.Machine.execFtDisable s
  | .rootWrite => Sys2Proof.Machine.execRootWrite s
  | .resync => Sys2Proof.Machine.execResync s
  | .timeRequestSend ix => Sys2Proof.Machine.execTimeRequestSend ix s
  | .timeRequest ix f => Sys2Proof.Machine.execTimeRequest ix f s
  | .timeResponse ix f => Sys2Proof.Machine.execTimeResponse ix f s
  | .parentLost => Sys2Proof.Machine.execParentLost s
  | .holdoverTimeout => Sys2Proof.Machine.execHoldoverTimeout s
  | .servoTick v => Sys2Proof.Machine.execServoTick v s
  | .senseFrame v blocks => Sys2Proof.Machine.execSenseFrame v blocks s
  | .sampleDeadline v => Sys2Proof.Machine.execSampleDeadline v s
  | .evaluationComplete v => Sys2Proof.Machine.execEvaluationComplete v s
  | .servoEnable v en => Sys2Proof.Machine.execServoEnable v en s
  | .servoTest v on => Sys2Proof.Machine.execServoTest v on s
  | .srvTimeWrite v w => Sys2Proof.Machine.execSrvTimeWrite v w s
  | .modeWrite v m mode => Sys2Proof.Machine.execModeWrite v m mode s
  | .bankWrite v m b => Sys2Proof.Machine.execBankWrite v m b s
  | .coefficientWrite v b m o w => Sys2Proof.Machine.execCoefficientWrite v b m o w s
  | .rcBufferWrite v m a n w => Sys2Proof.Machine.execRcBufferWrite v m a n w s
  | .circArm n => Sys2Proof.Machine.execCircArm n s
  | .circCancel n => Sys2Proof.Machine.execCircCancel n s
  | .circStatus n => Sys2Proof.Machine.execCircStatus n s
  | .circuitSwitchMoment k => Sys2Proof.Machine.execCircuitSwitchMoment k s
  | .quiesceEnd k => Sys2Proof.Machine.execQuiesceEnd k s
  | .circuitPhaseBound k => Sys2Proof.Machine.execCircuitPhaseBound k s
  | .tokenGrant k => Sys2Proof.Machine.execTokenGrant k s
  | .prefWindowExpiry => Sys2Proof.Machine.execPrefWindowExpiry s
  | .forcerel k v => Sys2Proof.Machine.execForcerel k v s
  | .lockstepMiscompare k => Sys2Proof.Machine.execLockstepMiscompare k s
  | .sramUncorrectable k => Sys2Proof.Machine.execSramUncorrectable k s
  | .watchdogExpiry k => Sys2Proof.Machine.execWatchdogExpiry k s
  | .watchdogKick k => Sys2Proof.Machine.execWatchdogKick k s
  | .pylonPowerClockFault k lost => Sys2Proof.Machine.execPylonPowerClockFault k lost s
  | .vc7GateClose k => Sys2Proof.Machine.execVc7GateClose k s
  | .selfTest k n pass => Sys2Proof.Machine.execSelfTest k n pass s
  | .healthPublication k => Sys2Proof.Machine.execHealthPublication k s
  | .heartbeatSend k => Sys2Proof.Machine.execHeartbeatSend k s
  | .heartbeat k => Sys2Proof.Machine.execHeartbeat k s
  | .heartbeatLoss k => Sys2Proof.Machine.execHeartbeatLoss k s
  | .checkpointWrite => Sys2Proof.Machine.execCheckpointWrite s
  | .checkpointNvCopy => Sys2Proof.Machine.execCheckpointNvCopy s
  | .checkpointLoad => Sys2Proof.Machine.execCheckpointLoad s
  | .takeoverComplete => Sys2Proof.Machine.execTakeoverComplete s
  | .pylHandover n => Sys2Proof.Machine.execPylHandover n s
  | .handoffCheckpoint good => Sys2Proof.Machine.execHandoffCheckpoint good s
  | .pylonBootStage k ring r => Sys2Proof.Machine.execPylonBootStage k ring r s
  | .componentImageLoad c good => Sys2Proof.Machine.execComponentImageLoad c good s
  | .occurrence code sev src data => Sys2Proof.Machine.execOccurrence code sev src data s
  | .recordWrite good => Sys2Proof.Machine.execRecordWrite good s
  | .summaryPeriod => Sys2Proof.Machine.execSummaryPeriod s
  | .freeze ix => Sys2Proof.Machine.execFreeze ix s
  | .freezeEnd ix => Sys2Proof.Machine.execFreezeEnd ix s
  | .freezeTimeout ix => Sys2Proof.Machine.execFreezeTimeout ix s
  | .vaultCommit good => Sys2Proof.Machine.execVaultCommit good s
  | .noticeSend => Sys2Proof.Machine.execNoticeSend s
  | .vaultRead n => Sys2Proof.Machine.execVaultRead n s
  | .counterClear kind inst => Sys2Proof.Machine.execCounterClear kind inst s
  | .counterOverflow kind inst n => Sys2Proof.Machine.execCounterOverflow kind inst n s
  | .ctrEnable => Sys2Proof.Machine.execCtrEnable s
  | .snapshotEpoch => Sys2Proof.Machine.execSnapshotEpoch s
  | .manualSnapshot => Sys2Proof.Machine.execManualSnapshot s
  | .instructionTagged ix => Sys2Proof.Machine.execInstructionTagged ix s
  | .tagRecordWrite ix => Sys2Proof.Machine.execTagRecordWrite ix s
  | .histogramClear h => Sys2Proof.Machine.execHistogramClear h s
  | .driverExtend v => Sys2Proof.Machine.execDriverExtend v s
  | .attReport n => Sys2Proof.Machine.execAttReport n s
  | .attestationRequest p => Sys2Proof.Machine.execAttestationRequest p s
  | .attestationReportFragment p => Sys2Proof.Machine.execAttestationReportFragment p s
  | .resvWriteComplete good => Sys2Proof.Machine.execResvWriteComplete good s
  | .signatureComplete => Sys2Proof.Machine.execSignatureComplete s
  | .keyRevoke n => Sys2Proof.Machine.execKeyRevoke n s
  | .ownerSet n => Sys2Proof.Machine.execOwnerSet n s
  | .ownerRecord n => Sys2Proof.Machine.execOwnerRecord n s
  | .updStart n rivals => Sys2Proof.Machine.execUpdStart n rivals s
  | .updCommit n => Sys2Proof.Machine.execUpdCommit n s
  | .updActivate n => Sys2Proof.Machine.execUpdActivate n s
  | .updConfirm n => Sys2Proof.Machine.execUpdConfirm n s
  | .updRevert n => Sys2Proof.Machine.execUpdRevert n s
  | .updAbort n => Sys2Proof.Machine.execUpdAbort n s
  | .fabricUpdStart p rivals => Sys2Proof.Machine.execFabricUpdStart p rivals s
  | .fabricUpdData p => Sys2Proof.Machine.execFabricUpdData p s
  | .fabricUpdCommit p => Sys2Proof.Machine.execFabricUpdCommit p s
  | .fabricUpdActivate p => Sys2Proof.Machine.execFabricUpdActivate p s
  | .fabricUpdConfirm p => Sys2Proof.Machine.execFabricUpdConfirm p s
  | .fabricUpdRevert p => Sys2Proof.Machine.execFabricUpdRevert p s
  | .fabricUpdAbort p => Sys2Proof.Machine.execFabricUpdAbort p s
  | .updateAnswer p => Sys2Proof.Machine.execUpdateAnswer p s
  | .imageStaged => Sys2Proof.Machine.execImageStaged s
  | .commitComplete good => Sys2Proof.Machine.execCommitComplete good s
  | .activationComplete => Sys2Proof.Machine.execActivationComplete s
  | .activationReadyTimeout => Sys2Proof.Machine.execActivationReadyTimeout s
  | .lockIdleTimeout => Sys2Proof.Machine.execLockIdleTimeout s
  | .recoveryRequest v => Sys2Proof.Machine.execRecoveryRequest v s
  | .recoveryDownload v => Sys2Proof.Machine.execRecoveryDownload v s
  | .zoneSample temps => Sys2Proof.Machine.execZoneSample temps s
  | .calibrationRequest e => Sys2Proof.Machine.execCalibrationRequest e s
  | .calibrationStart mem => Sys2Proof.Machine.execCalibrationStart mem s
  | .portCalibrationComplete ix lanes spare => Sys2Proof.Machine.execPortCalibrationComplete ix lanes spare s
  | .memoryCalibrationComplete pass => Sys2Proof.Machine.execMemoryCalibrationComplete pass s
  | .startupCalibrationComplete fails => Sys2Proof.Machine.execStartupCalibrationComplete fails s
  | .powerSample pin avg vbus estore => Sys2Proof.Machine.execPowerSample pin avg vbus estore s
  | .thermalTrip tj die => Sys2Proof.Machine.execThermalTrip tj die s
  | .envWrite env => Sys2Proof.Machine.execEnvWrite env s
  | .enterM2 => Sys2Proof.Machine.execEnterM2 s
  | .enterM3 => Sys2Proof.Machine.execEnterM3 s
  | .enterM4 => Sys2Proof.Machine.execEnterM4 s
  | .leaveM2M3 => Sys2Proof.Machine.execLeaveM2M3 s
  | .stateTransitionComplete => Sys2Proof.Machine.execStateTransitionComplete s
  | .powerOn => Sys2Proof.Machine.execPowerOn s
  | .moduleReset => Sys2Proof.Machine.execModuleReset s
  | .moduleResetRelease slotId pref => Sys2Proof.Machine.execModuleResetRelease slotId pref s
  | .latheDieReset d => Sys2Proof.Machine.execLatheDieReset d s
  | .latheDieResetRelease d => Sys2Proof.Machine.execLatheDieResetRelease d s
  | .pierDieReset d => Sys2Proof.Machine.execPierDieReset d s
  | .pierDieResetRelease d => Sys2Proof.Machine.execPierDieResetRelease d s
  | .pierReady d => Sys2Proof.Machine.execPierReady d s
  | .fabricPortReset p => Sys2Proof.Machine.execFabricPortReset p s
  | .fabricPortResetRelease p => Sys2Proof.Machine.execFabricPortResetRelease p s
  | .pylonReset k => Sys2Proof.Machine.execPylonReset k s
  | .pylonResetRelease k => Sys2Proof.Machine.execPylonResetRelease k s
  | .hostLinkReset hrst => Sys2Proof.Machine.execHostLinkReset hrst s
  | .hostLinkResetRelease => Sys2Proof.Machine.execHostLinkResetRelease s
  | .supplyLoss => Sys2Proof.Machine.execSupplyLoss s
  | .pwrEnLow => Sys2Proof.Machine.execPwrEnLow s
  | .shutdownNvComplete => Sys2Proof.Machine.execShutdownNvComplete s
  | .supplyOutOfRange vbus => Sys2Proof.Machine.execSupplyOutOfRange vbus s
  | .holdupLow => Sys2Proof.Machine.execHoldupLow s
  | .settingsSave n good => Sys2Proof.Machine.execSettingsSave n good s
  | .settingsDefault n => Sys2Proof.Machine.execSettingsDefault n s
  | .mrd => Sys2Proof.Machine.execMrd s
  | .mwr => Sys2Proof.Machine.execMwr s
  | .msiModerationExpiry v => Sys2Proof.Machine.execMsiModerationExpiry v s
  | .heldRelease => Sys2Proof.Machine.execHeldRelease s
  | .auxOverload ix => Sys2Proof.Machine.execAuxOverload ix s
  | .moduleInfo n => Sys2Proof.Machine.execModuleInfo n s
  | .tapReset => Sys2Proof.Machine.execTapReset s
  | .extest => Sys2Proof.Machine.execExtest s
  | .idcode => Sys2Proof.Machine.execIdcode s
  | .samplePreload shift => Sys2Proof.Machine.execSamplePreload shift s
  | .clamp => Sys2Proof.Machine.execClamp s
  | .highz => Sys2Proof.Machine.execHighz s
  | .extestPulse => Sys2Proof.Machine.execExtestPulse s
  | .extestTrain => Sys2Proof.Machine.execExtestTrain s
  | .bypass code => Sys2Proof.Machine.execBypass code s
  | .testAccessUnlock code => Sys2Proof.Machine.execTestAccessUnlock code s
  | .servoBlockLock b => Sys2Proof.Machine.execServoBlockLock b s
  | .servoBlockLockLoss b => Sys2Proof.Machine.execServoBlockLockLoss b s
  | .checkerLock c => Sys2Proof.Machine.execCheckerLock c s
  | .checkerLockLoss p errs => Sys2Proof.Machine.execCheckerLockLoss p errs s
  | .latheDieReady d => Sys2Proof.Machine.execLatheDieReady d s
  | .holdupCharged => Sys2Proof.Machine.execHoldupCharged s
  | .thermalThrottle tj die => Sys2Proof.Machine.execThermalThrottle tj die s
  | .inletOverTemperature t => Sys2Proof.Machine.execInletOverTemperature t s
  | .pylonIslandPowerRestored k => Sys2Proof.Machine.execPylonIslandPowerRestored k s
  | .instructionFetchReturn ix g => Sys2Proof.Machine.execInstructionFetchReturn ix g s
  | .sampleLogitsRead ix g => Sys2Proof.Machine.execSampleLogitsRead ix g s

end Sys2Proof.Machine
end

