-- ==== Sys2Proof/Machine/Clock.lean ====
section
/-! DEFINITION. Machine/Clock.lean: one ns of the module's own time, which passes when no command waits (log 50): fabric time (R300),
the flits that the ports send (R244), the cycle counters and the events that count in every cycle (R419, R422), and the bits that
locked checkers compare (R263).
The choices of the model here: logs 19, 50, 51 and 63. -/

namespace Sys2Proof.Machine

/-- Units of a rate that fall into the ns after `t`, for `num` units in every `den` ns. -/
def ticksIn (t num den : Nat) : Nat := (t + 1) * num / den - t * num / den

/-- The clock of a bank, in cycles for each 12,000 ns (R419); a pier's follows its data rate. -/
def State.bankClock (s : State) (kind inst : Nat) : Nat :=
  match kind with
  | 0 => 12 * s.get Reg.PWR_STATUS_SPNMHZ
  | 1 => 12 * s.get Reg.PWR_STATUS_SPNMHZ
  | 2 => match s.get (Reg.PIER_STATUS_RATE inst) with | 0 => 16000 | 1 => 14400 | _ => 12800
  | 4 => 9375
  | 6 => 14400
  | _ => 19200

/-- Ports that a counter of the HDS finds full (R427). -/
def State.fullRings (s : State) : Nat := ((List.range 4096).filter fun q => s.flag (Reg.HDS_QP_CTL_EN q) && s.cqFull q).length

/-- A frame waits on a port for the credit of its VC (R427). -/
def State.creditWait (s : State) (i vc : Nat) : Bool :=
  (s.port i).credits.getD vc 0 == 0 &&
    (!((s.port i).txOf vc).isEmpty || s.rtr.queued.any fun q => q.port == i && q.vc == vc)

/-- The value in this cycle of an event that counts a level (R425, R427), with the counter's qualifier. -/
def State.levelOf (s : State) (kind inst code q : Nat) : Nat :=
  match kind, code with
  | 0, 0x00a => (s.spindle inst).gangs.length
  | 0, 0x00b => bit (!(s.spindle inst).tensorQ.isEmpty)
  | 1, 0x005 => bit (!(alGet [] s.gge inst).isEmpty)
  | 1, 0x006 => bit (3 ≤ (alGet [] s.gge inst).length)
  | 2, 0x009 => s.pierTxns inst
  | 3, 0x006 => s.fullRings
  | 3, 0x007 => s.hds.deferred.length
  | 4, 0x003 => bit ((List.range 8).any fun vc => vcQual vc 1 q == 1 && s.creditWait inst vc)
  | 5, 0x008 => s.rtr.ops.length
  | 5, 0x009 => (s.rtr.ops.filter fun o => !o.sent && s.waits280 o).length
  | 6, 0x007 => bit (s.servo inst).evaluating.isSome
  | _, _ => 0

/-- The events that count a level. -/
def isLevel (kind code : Nat) : Bool :=
  [(0, 0x00a), (0, 0x00b), (1, 0x005), (1, 0x006), (2, 0x009), (3, 0x006), (3, 0x007), (4, 0x003), (5, 0x008), (5, 0x009),
   (6, 0x007)].contains (kind, code)

/-- One counter of a bank in `n` cycles (R422). -/
def State.levelCount (s : State) (kind inst b c n : Nat) : State :=
  let code := s.get (pmcSelEvent b c)
  if n = 0 ∨ !isLevel kind code ∨ !s.pmcCounts b c code then s
  else
    let v := s.levelOf kind inst code (s.get (pmcSelQual b c))
    let a := (pmcCnt b c).addr
    let was := s.ctr.high.contains a
    let high := s.ctr.high.filter (· != a)
    let t : State := { s with ctr := { s.ctr with high := if v = 0 then high else a :: high } }
    t.pmcAdd b c (if s.flag (pmcSelEdge b c) then bit (v != 0 && !was) else v * n)

/-- A bank in one ns: its cycle counter, and its level counters. -/
def State.bankTick (s : State) (kind inst : Nat) : State :=
  let b := bankBase kind inst
  if s.bankAbsent kind inst then s
  else
    let n := ticksIn s.now (s.bankClock kind inst) 12000
    (s.inc (pmcCycle b) n).forEach (List.range 6) fun s c => s.levelCount kind inst b c n

/-- The bank whose PMC_CTL lies at an address. -/
def bankOfCtl (a : Nat) : Option (Nat × Nat) :=
  [(0, 288), (1, 36), (2, 4), (3, 1), (4, 11), (5, 1), (6, 2)].findSome? fun x =>
    let b := bankBase x.1 0 + 8
    let st := bankBase x.1 1 - bankBase x.1 0
    if a = b then some (x.1, 0)
    else if b ≤ a ∧ st ≠ 0 ∧ (a - b) % st = 0 ∧ (a - b) / st < x.2 then some (x.1, (a - b) / st)
    else none

/-- The banks that are enabled. -/
def State.banksOn (s : State) : List (Nat × Nat) := s.regs.filterMap fun e => if e.2.getLsbD 0 then bankOfCtl e.1 else none

/-- The pattern set whose control register lies at an address. -/
def patOfCtl (a : Nat) : Option PatSet :=
  match Reg.find a with
  | some (row, is) =>
    if row.base = Reg.LNK_PAT_CTL 0 0 then some (laneSet (is.getD 0 0) (is.getD 1 0))
    else if row.base = Reg.MSH_PAT_CTL 0 0 then some (meshSet (is.getD 0 0) (is.getD 1 0))
    else if row.base = Reg.SRV_PAT_CTL 0 then some (.servo (Fin.ofNat 2 (is.getD 0 0)))
    else none
  | none => none

/-- The pattern sets whose checker is locked. -/
def State.checkersOn (s : State) : List PatSet := s.regs.filterMap fun e => if e.2.getLsbD 6 then patOfCtl e.1 else none

/-- Bits that a locked checker compares in one ns (R263): 212.5 Gbit/s on a lane and 2.5 Gbit/s on a servo port; the rate of a
bridge's wires is not stated (log 51). -/
def State.checkerTick (s : State) (p : PatSet) : State :=
  match p with
  | .lane _ _ => s.inc (patBits p) (ticksIn s.now 425 2)
  | .servo _ => s.inc (patBits p) (ticksIn s.now 5 2)
  | .mesh _ _ => s.drawn.inc (patBits p) s.fresh

/-- Link states in which a port sends flits (R247). -/
def sendsFlits (st : Nat) : Bool := [5, 6, 7, 8, 9, 10, 12, 14].contains st

/-- What one ns does in a running module. -/
def State.passes (s : State) : State :=
  let s := s.ftTick
  let s := s.forEach ((List.range 11).filter fun i => sendsFlits (s.linkState i)) State.flitTime
  let s := s.forEach s.banksOn fun s b => s.bankTick b.1 b.2
  s.forEach s.checkersOn State.checkerTick

/-- One ns passes. -/
def State.tick (s : State) : State := { (if s.running then s.keeping s.passes else s) with now := s.now + 1 }

end Sys2Proof.Machine
end

