-- ==== Sys2Proof/Safety.lean ====
section
/-! DEFINITION. Safety.lean: the terms in which claims are made: a safe run, the canonical form of memory, the state of the pins, and
what a command leaves alone. -/

namespace Sys2Proof.Machine

/-- The module never stops: from `s`, every number of steps ends in a state. -/
def Safe (s : State) : Prop := ∀ k, ∃ t, Sys2Proof.core.run k s = .next t

/-- Memory is listed in its one canonical form. -/
def MemCanonical (s : State) : Prop := Memory.wf s.mem = true

/-- The pins follow the module's function whenever it runs (R565). -/
def PinsFunction (s : State) : Prop := s.running = true → s.tap.pins = .function

/-- Every byte of DRAM and of the bowls reads as before. -/
def MemSame (s t : State) : Prop := ∀ a, t.byte a = s.byte a

/-- `t` differs from `s` in registers alone, and there at the listed addresses alone. -/
def RegsOnly (l : List Nat) (s t : State) : Prop := t = { s with regs := t.regs } ∧ ∀ a, a ∉ l → t.reg a = s.reg a

/-- The registers that counting an event or logging an occurrence may change: those of the counter banks (R419), those of the
event recorders (R416), and the overflow count of the event front end (R417). -/
def noteReg (a : Nat) : Bool :=
  decide (0x7f000000000 ≤ a ∧ a < 0x7f000000000 + 288 * 0x100000 ∧ 0x80000 ≤ (a - 0x7f000000000) % 0x100000
      ∧ (a - 0x7f000000000) % 0x100000 < 0x800b0)
  || decide (0x7f040000000 ≤ a ∧ a < 0x7f040000000 + 36 * 0x10000 ∧ 0x8000 ≤ (a - 0x7f040000000) % 0x10000
      ∧ (a - 0x7f040000000) % 0x10000 < 0x80b0)
  || decide (0x7f080000000 ≤ a ∧ a < 0x7f084000000 ∧ 0x800000 ≤ (a - 0x7f080000000) % 0x1000000
      ∧ (a - 0x7f080000000) % 0x1000000 < 0x8000b0)
  || decide (0x7f101000000 ≤ a ∧ a < 0x7f1010000b0)
  || decide (0x7f300000000 ≤ a ∧ a < 0x7f300000000 + 11 * 0x100000 ∧ 0x80000 ≤ (a - 0x7f300000000) % 0x100000
      ∧ (a - 0x7f300000000) % 0x100000 < 0x800b0)
  || decide (0x7f200080000 ≤ a ∧ a < 0x7f2000800b0)
  || decide (0x7f410000000 ≤ a ∧ a < 0x7f412000000 ∧ 0x80000 ≤ (a - 0x7f410000000) % 0x1000000
      ∧ (a - 0x7f410000000) % 0x1000000 < 0x800b0)
  || decide (0x7f430000000 ≤ a ∧ a < 0x7f440000000)
  || decide (a = Reg.AON_EVINTAKE)

/-- `t` differs from `s` by counted events, logged occurrences and raised interrupts alone. -/
def Noted (s t : State) : Prop :=
  t = { s with regs := t.regs, ev := t.ev, host := t.host } ∧ ∀ a, noteReg a = false → t.reg a = s.reg a

/-- Registers keep their values but for the listed ones and those that counting and logging change. -/
def RegsBut (l : List Nat) (s t : State) : Prop := ∀ a, a ∉ l → noteReg a = false → t.reg a = s.reg a

/-! ### Spindles -/

/-- Gang `g` of spindle `i` is `x`, and its next instruction is the operation `o`, with these fields and this word, ready to issue in the
group that is open: the module runs, the gang is neither waiting nor quiesced, the word is in the instruction cache and legal, every
register it names is the gang's, none that it reads has a load pending, no group boundary stands before it, or none has been issued, and
the slot of its class picks the gang (R88 to R97). -/
structure Poised (s : State) (i g : Nat) (o : SpnOp) (x : Gang) (word : Nat) (w : IWord) : Prop where
  runs : s.running = true
  resident : s.gang i g = some x
  ready : s.gangReady i x = true
  inProgram : 0 ≤ x.pc ∧ x.pc < (x.ninstr : Int)
  fetched : s.fetchWord i x = some word
  fields : w = iwordOf word
  legal : legalOp w (s.latencySet x.set) = some o
  regs : regsOk x o w = true
  loaded : x.sourcesReady o w = true
  inGroup : x.issuedCount = 0 ∨ x.boundaryBefore o w = false
  picked : s.picks i x (slotOfClass w.cls) = true

/-- The instance on the gang's set is not stopping (R101). -/
def GoesOn (s : State) (x : Gang) : Prop := ∀ n, s.inst x.set = some n → n.stopping = false

/-- The gang goes on behind the instruction, and its threads' registers and predicates are those of `y`. -/
def At (t : State) (i g : Nat) (y : Gang) (pc : Int) : Prop :=
  ∃ z, t.gang i g = some z ∧ z.pc = pc ∧ z.set = y.set ∧ z.active = y.active ∧ z.nregs = y.nregs
    ∧ (∀ th n, z.reg th n = y.reg th n) ∧ ∀ th n, z.pred th n = y.pred th n

/-- Every other gang is as it was, and so are the accumulators, tensor queues, block copies and instruction caches of the spindles. -/
def GangOnly (i g : Nat) (s t : State) : Prop :=
  (∀ j h, (j, h) ≠ (i, g) → t.gang j h = s.gang j h)
    ∧ ∀ j, (t.spindle j).acc = (s.spindle j).acc ∧ (t.spindle j).tensorQ = (s.spindle j).tensorQ
        ∧ (t.spindle j).copies = (s.spindle j).copies ∧ (t.spindle j).icache = (s.spindle j).icache

end Sys2Proof.Machine
end

