-- ==== Sys2Proof/Certificates/Slice0/Obligations.lean ====
section
/-! DEFINITION. Certificates/Slice0/Obligations.lean: the statements for the provers, one definition for each, and the few terms they
share. -/

open Sys2Proof Sys2Proof.Machine

/-- The commands that are events of the supply, of the sideband pins or of the test access port: they act on a module that has no power
or is in module reset. -/
def Sys2Proof.Machine.supplyOrPin : Instr → Bool
  | .powerOn | .moduleReset | .moduleResetRelease _ _ | .supplyLoss | .pwrEnLow | .shutdownNvComplete | .tapReset | .extest | .idcode
  | .samplePreload _ | .clamp | .highz | .extestPulse | .extestTrain | .bypass _ | .testAccessUnlock _ => true
  | _ => false

/-- A jig load has failed with this code, section and offset (R77): Failed, START cleared, nothing configured. -/
def Sys2Proof.Machine.FailedLoad (code sec off : Nat) (s t : State) : Prop :=
  t.jigPhase = 6 ∧ t.get Reg.JIG_STATUS_ERROR = code % 2 ^ 8 ∧ t.get Reg.JIG_STATUS_SECTION = sec % 2 ^ 8
    ∧ t.get Reg.JIG_STATUS_OFFSET = off % 2 ^ 24 ∧ t.flag Reg.JIG_CTL_START = false ∧ t.jig.staging = []
    ∧ t.jig = { s.jig with staging := [], sealPending := false } ∧ RegsBut [Reg.JIG_STATUS, Reg.JIG_CTL] s t ∧ MemSame s t

/-- The bit of PWR_RST that a reset command sets (R510). -/
def Sys2Proof.Machine.partReset : Instr → Option Nat
  | .latheDieReset d => some d
  | .pierDieReset d => some (2 + d)
  | .fabricPortReset p => some (6 + p)
  | .hostLinkReset false => some 16
  | .pylonReset k => some (17 + k)
  | _ => none

/-- The bit of PWR_RST that a release command clears (R510); the host link's own release after HRST clears none. -/
def Sys2Proof.Machine.partRelease : Instr → Option Nat
  | .latheDieResetRelease d => some d
  | .pierDieResetRelease d => some (2 + d)
  | .fabricPortResetRelease p => some (6 + p)
  | .pylonResetRelease k => some (17 + k)
  | _ => none

/-- A step with the command `c` at the front of the queue is `exec c` on the state with the queue's rest, and a step on an empty
queue is the model's 1 ns of time (the model's choice, log 50). -/
def Obligations.StepTakesTheFront : Prop :=
  (∀ (c : Instr) (rest : List Instr) (s : State), s.pending = c :: rest → step s = exec c { s with pending := rest })
  ∧ ∀ s : State, s.pending = [] → step s = .next s.tick

/-- An instruction of the test access port that takes the pins away is in force in module reset alone: whatever the state and the
waiting command, a step from a state in which a running module's pins have their functions leads to such a state. -/
def Obligations.PinsFunctionKept : Prop :=
  ∀ s t : State, PinsFunction s → step s = .next t → PinsFunction t

/-- The invariant of PinsFunctionKept holds in the state of reset. The form in which memory is listed: addresses rising, no byte listed that an unlisted one would read as. Writing bytes keeps it,
reads back what was written, and leaves every other byte alone. -/
def Obligations.InvariantsAtReset : Prop :=
  (PinsFunction State.reset ∧ State.reset.running = true)
  ∧
   (MemCanonical State.reset
    ∧ ∀ (s : State) (a : Nat) (l : List Byte), MemCanonical s →
        MemCanonical (s.putBytes a l)
        ∧ (∀ k (h : k < l.length), (s.putBytes a l).byte (a + k) = l[k])
        ∧ ∀ b, b < a ∨ a + l.length ≤ b → (s.putBytes a l).byte b = s.byte b)

/-- Every row of the opcode table answers a next state in every state, and takes nothing from the commands that wait; the model's
clock moves in ticks alone. So the module never ends in a fault or a refusal, however long it runs. -/
def Obligations.CommandsNeverStop : Prop :=
  (∀ (c : Instr) (s : State), ∃ t, exec c s = .next t ∧ t.pending = s.pending ∧ t.now = s.now) ∧ ∀ s : State, Safe s

/-- A module without PWR_GOOD or with RESET_N low: every other command of the table leaves it as it is. -/
def Obligations.OffOrInResetNothingHappens : Prop :=
  ∀ (c : Instr) (s : State), s.running = false → supplyOrPin c = false → exec c s = .next s

/-- The state right after reset, as the chapters' field maps and R517 give it: registers at their reset values, no occurrence queued,
no request, no route, time OFF and 0, both pylons before their boot, the envelope and the module state at their reset values, H
enabled by the module itself. The values are those of the field maps; H's state DETECT is R523's own effect. -/
def Obligations.ResetState : Prop :=
  let s := State.reset
  s.running = true ∧ s.get Reg.PWR_STATUS_STATE = 1 ∧ s.get Reg.PWR_STATUS_ENVNOW = 2 ∧ s.get Reg.JIG_STATUS_PHASE = 0 ∧ s.get Reg.JIG_STATUS_SEALED = 0
  ∧ s.get Reg.JIG_DRAIN_LIMIT_LIMIT = 100000 ∧ s.get Reg.FTU_STATUS_STATE = 0 ∧ s.ft = 0 ∧ s.get Reg.AON_TOKEN_OWNER = 0
  ∧ s.get (Reg.LNK_STATUS_STATE 3) = 0 ∧ s.get (Reg.LNK_STATUS_STATE 10) = 1 ∧ s.flag (Reg.LNK_CTL_EN 10) = true
  ∧ s.get (Reg.SRV_MIR_CTL_MODE 0 5) = 0 ∧ s.get (Reg.MBX_CTL_GO 7) = 0 ∧ s.hds.requests = [] ∧ s.ev.fifo = []
  ∧ s.tap.sel = .identification ∧ s.tap.ident = 0x3961634f

/-- A write of an address at which no register lies, or of one that is not a multiple of 8, changes no register, no memory and no
other part of the module: the unmapped-access event 0x0101, with the address and the requester, is all. Writes of RTR_CTL (RW fields), of PWR_MEAS (RO fields), of PWR_FAULT (W1C bits) and of a servo mirror's SRV_MIR_CFG (RWS fields,
jig unsealed): each field takes the value its access code gives it, and no other register changes.
Completion: under the conditions on the state and the operands that its clauses name, exec answers a next state with the own effect of
controlRegisterWrite. -/
def Obligations.RegisterWrites : Prop :=
   (∀ (r : Requester) (a : Nat) (v : Word64) (s : State), s.running = true → (Reg.find a = none ∨ a % 8 ≠ 0) →
      ∃ t, exec (.controlRegisterWrite r a v) s = .next t ∧ Noted s t ∧ MemSame s t
        ∧ t = s.occur 0x0101 0 (leBytes 8 a ++ leBytes 1 (reqKind r).1 ++ leBytes 2 (reqKind r).2))
  ∧
   (∀ (r : Requester) (v : Word64) (s : State), s.running = true → s.ctl.staged = [] → s.get Reg.JIG_STATUS_PHASE ≠ 4 →
      s.reg Reg.PWR_RST = 0 → s.get Reg.PWR_STATUS_STATE = 1 →
      (∃ t, exec (.controlRegisterWrite r Reg.RTR_CTL v) s = .next t ∧ RegsOnly [Reg.RTR_CTL] s t
        ∧ t.get Reg.RTR_CTL_TIMEOUT = bits v.toNat 0 16 ∧ t.get Reg.RTR_CTL_MAXHOPS = bits v.toNat 16 5
        ∧ t.get Reg.RTR_CTL_XSHIFT = bits v.toNat 24 1 ∧ t.get Reg.RTR_CTL_NRWAIT = bits v.toNat 32 8)
      ∧ (∃ t, exec (.controlRegisterWrite r Reg.PWR_MEAS v) s = .next t ∧ RegsOnly [] s t)
      ∧ (∃ t, exec (.controlRegisterWrite r Reg.PWR_FAULT v) s = .next t ∧ RegsOnly [Reg.PWR_FAULT] s t
        ∧ ∀ n, n < 6 → t.get ⟨Reg.PWR_FAULT, n, 1⟩ = if v.getLsbD n then 0 else s.get ⟨Reg.PWR_FAULT, n, 1⟩)
      ∧ (s.flag Reg.JIG_STATUS_SEALED = false → ∀ (k : Fin 2) (m : Fin 128),
          ∃ t, exec (.controlRegisterWrite r (Reg.SRV_MIR_CFG k m) v) s = .next t ∧ RegsOnly [Reg.SRV_MIR_CFG k m] s t
            ∧ t.get (Reg.SRV_MIR_CFG_CHADDR k m) = bits v.toNat 0 13 ∧ t.get (Reg.SRV_MIR_CFG_EN k m) = bits v.toNat 16 1))

/-- With the jig sealed, a write of any servo mirror's CFG, LIM0 or LIM1 leaves every field of it as it was, adds 1 to the
sealed-write counter and logs 0x0102 with the register's address. -/
def Obligations.SealedWriteKeepsTheField : Prop :=
  ∀ (r : Requester) (v : Word64) (s : State) (k : Fin 2) (m : Fin 128) (a : Nat), s.running = true → s.ctl.staged = [] →
    s.get Reg.JIG_STATUS_PHASE ≠ 4 → s.reg Reg.PWR_RST = 0 → s.get Reg.PWR_STATUS_STATE = 1 → s.flag Reg.JIG_STATUS_SEALED = true →
    a ∈ [Reg.SRV_MIR_CFG k m, Reg.SRV_MIR_LIM0 k m, Reg.SRV_MIR_LIM1 k m] →
    ∃ t, exec (.controlRegisterWrite r a v) s = .next t ∧ t.reg a = s.reg a ∧ RegsBut [Reg.SEC_SEALCNT] s t ∧ MemSame s t
      ∧ t.get Reg.SEC_SEALCNT_COUNT = (s.get Reg.SEC_SEALCNT_COUNT + 1) % 2 ^ Reg.SEC_SEALCNT_COUNT.width
      ∧ ∃ u, RegsOnly [Reg.SEC_SEALCNT] s u ∧ t = u.occur 0x0102 0 (leBytes 8 a)

/-- For a queue pair that the headstock serves: a submission position below S and not behind SQTAIL as seen from SQHEAD becomes
SQTAIL; any other keeps SQTAIL, sets ERR and is recorded with code 0x01; a completion position between CQHEAD and CQTAIL becomes
CQHEAD; any other keeps CQHEAD, sets ERR and is recorded with code 0x03. A doorbell of a queue pair that is not served is recorded
with code 0x02 and sets no ERR. So while no earlier write of the host waits; a doorbell takes its place behind one that does (R40). A command code that no chapter defines completes with STATUS 0x0001 and a response of one register, and MODULE_INFO (0x1301)
with STATUS 0x0000 and RLEN 5 and the registers of R554; response register 0 echoes SEQ, and the mailbox's other registers and
every other mailbox stay as they are. Memory is unchanged.
Completion: under the conditions on the state and the operands that its clauses name, exec answers a next state with the own effect of
submissionTailDoorbell, completionHeadDoorbell, mailboxUnknownCommand, moduleInfo. -/
def Obligations.DoorbellsAndMailboxes : Prop :=
   (∀ (q : Fin 4096) (v : Fin 65536) (s : State), s.running = true → s.jigPhase ≠ 4 → s.ctl.staged = [] →
      (s.mwrWaits = true → exec (.submissionTailDoorbell q v) s = .next (s.hostDoorbell (Reg.HDS_SQDB q) (BitVec.ofNat 64 v))
        ∧ exec (.completionHeadDoorbell q v) s = .next (s.hostDoorbell (Reg.HDS_CQDB q) (BitVec.ofNat 64 v)))
      ∧ (s.mwrWaits = false → s.heldOf .host = [] →
      let sz := s.sqSize q
      let cz := s.cqSize q
      let head := s.get (Reg.HDS_QP_STATUS_SQHEAD q)
      let tail := s.get (Reg.HDS_QP_STATUS_SQTAIL q)
      let cqHead := s.get (Reg.HDS_QP_STATUS2_CQHEAD q)
      let cqTail := s.get (Reg.HDS_QP_STATUS_CQTAIL q)
      (s.qpServed q = true → (v.val < sz ∧ (tail + sz - head) % sz ≤ (v.val + sz - head) % sz) →
        exec (.submissionTailDoorbell q v) s = .next (s.set (Reg.HDS_QP_STATUS_SQTAIL q) v))
      ∧ (s.qpServed q = true → ¬ (v.val < sz ∧ (tail + sz - head) % sz ≤ (v.val + sz - head) % sz) →
        ∃ t, exec (.submissionTailDoorbell q v) s = .next t ∧ RegsBut [Reg.HDS_QP_STATUS q, Reg.HDS_LASTERR] s t ∧ MemSame s t
          ∧ t.get (Reg.HDS_QP_STATUS_SQTAIL q) = tail ∧ t.flag (Reg.HDS_QP_STATUS_ERR q) = true
          ∧ t.get Reg.HDS_LASTERR_QP = q ∧ t.get Reg.HDS_LASTERR_CODE = 1 ∧ t.get Reg.HDS_LASTERR_POS = v
          ∧ t.flag Reg.HDS_LASTERR_VALID = true)
      ∧ (s.qpServed q = true → (v.val < cz ∧ (v.val + cz - cqHead) % cz ≤ (cqTail + cz - cqHead) % cz) →
        exec (.completionHeadDoorbell q v) s = .next (s.set (Reg.HDS_QP_STATUS2_CQHEAD q) v))
      ∧ (s.qpServed q = true → ¬ (v.val < cz ∧ (v.val + cz - cqHead) % cz ≤ (cqTail + cz - cqHead) % cz) →
        ∃ t, exec (.completionHeadDoorbell q v) s = .next t ∧ RegsBut [Reg.HDS_QP_STATUS q, Reg.HDS_LASTERR] s t ∧ MemSame s t
          ∧ t.get (Reg.HDS_QP_STATUS2_CQHEAD q) = cqHead ∧ t.flag (Reg.HDS_QP_STATUS_ERR q) = true
          ∧ t.get Reg.HDS_LASTERR_CODE = 3 ∧ t.get Reg.HDS_LASTERR_POS = v)
      ∧ (s.qpServed q = false → ∀ c ∈ [Instr.submissionTailDoorbell q v, Instr.completionHeadDoorbell q v],
        ∃ t, exec c s = .next t ∧ RegsBut [Reg.HDS_LASTERR] s t ∧ MemSame s t
          ∧ t.get Reg.HDS_LASTERR_QP = q ∧ t.get Reg.HDS_LASTERR_CODE = 2 ∧ t.get Reg.HDS_LASTERR_POS = v)))
  ∧
   (∀ (n : Fin 8) (s : State), s.running = true → s.flag (Reg.MBX_CTL_GO n) = true → s.holder.isSome = true →
      (mbxCodes.contains (s.get (Reg.MBX_CTL_CMD n)) = false →
        ∃ t, exec (.mailboxUnknownCommand n) s = .next t ∧ RegsOnly [Reg.MBX_CTL n, Reg.MBX_RSP n 0] s { t with host := s.host } ∧ MemSame s t
          ∧ t.get (Reg.MBX_CTL_STATUS n) = 1 ∧ t.get (Reg.MBX_CTL_RLEN n) = 1 ∧ t.flag (Reg.MBX_CTL_DONE n) = true
          ∧ t.flag (Reg.MBX_CTL_GO n) = false ∧ t.get (Reg.MBX_RSP_V n 0) = s.get (Reg.MBX_CTL_SEQ n)
          ∧ t.get (Reg.MBX_CTL_SEQ n) = s.get (Reg.MBX_CTL_SEQ n))
      ∧ (s.get (Reg.MBX_CTL_CMD n) = 0x1301 →
        ∃ t, exec (.moduleInfo n) s = .next t ∧ MemSame s t
          ∧ RegsOnly [Reg.MBX_CTL n, Reg.MBX_RSP n 0, Reg.MBX_RSP n 1, Reg.MBX_RSP n 2, Reg.MBX_RSP n 3, Reg.MBX_RSP n 4] s { t with host := s.host }
          ∧ t.get (Reg.MBX_CTL_STATUS n) = 0 ∧ t.get (Reg.MBX_CTL_RLEN n) = 5 ∧ t.flag (Reg.MBX_CTL_DONE n) = true
          ∧ t.flag (Reg.MBX_CTL_GO n) = false ∧ t.get (Reg.MBX_RSP_V n 0) = s.get (Reg.MBX_CTL_SEQ n)
          ∧ bits (t.get (Reg.MBX_RSP_V n 3)) 0 6 = s.pwr.slotId % 64 ∧ bits (t.get (Reg.MBX_RSP_V n 3)) 16 8 = 3
          ∧ t.get (Reg.MBX_RSP_V n 4) = 0x3961634f))

/-- START begins the copy phase, and is ignored while a load runs; the copied image goes to the staging store and the load is
validated; the first error of the checks ends it with its code, section and offset; a right image of a full load is applied at once,
of a set or job load after the drain; ABORT and the drain limit end it with 0x11 and 0x10. A load that ends shows Done or Failed with
START cleared and its staging store empty. Every other register but those of counting and logging keeps its value, but for what R283
and R183 cancel when a full or job load is applied. JIG_APPLY_COMPLETE puts the sections that the image carries into force, shows PHASE Done with no error, clears START, and performs
the register writes held meanwhile in their order. Writes held apart, the sets, the memory regions, the queue-pair map and the bowls are
those of the image (a full load), and the identity is IDENT's.
Completion: under the conditions on the state and the operands that its clauses name, exec answers a next state with the own effect of jigStart,
jigAbort, jigSeal, jigCopyComplete, jigValidateComplete, jigDrainComplete, jigDrainLimitExpiry, jigApplyComplete. -/
def Obligations.JigLoads : Prop :=
   (∀ s : State, s.running = true →
      (s.flag Reg.JIG_CTL_START = false →
        exec .jigStart s = .next ((s.set Reg.JIG_CTL_START 1).set Reg.JIG_STATUS_PHASE 1)
          ∧ ((s.set Reg.JIG_CTL_START 1).set Reg.JIG_STATUS_PHASE 1).jigPhase = 1)
      ∧ (s.flag Reg.JIG_CTL_START = true → exec .jigStart s = .next s)
      ∧ (s.jigBusy = true ∧ s.jigPhase ≠ 4 → ∃ t, exec .jigAbort s = .next t ∧ FailedLoad 0x11 0xff 0 s t)
      ∧ (¬ (s.jigBusy = true ∧ s.jigPhase ≠ 4) → exec .jigAbort s = .next s)
      ∧ (s.jigBusy = false → ∃ t, exec .jigSeal s = .next t ∧ t.flag Reg.JIG_STATUS_SEALED = true ∧ t.jig.sealPending = false
          ∧ RegsOnly [Reg.JIG_STATUS, Reg.JIG_CTL] s { t with jig := s.jig })
      ∧ (s.jigBusy = true → exec .jigSeal s = .next { s with jig := { s.jig with sealPending := true } })
      ∧ (s.jigPhase = 1 → (s.get Reg.JIG_SRC_ADDR % 4096 ≠ 0 ∨ dramEnd < s.get Reg.JIG_SRC_ADDR + 128) →
          ∃ t, exec .jigCopyComplete s = .next t ∧ FailedLoad 0x05 0xff 0 s t)
      ∧ (∀ hd d u w n, s.jigPhase = 1 → s.get Reg.JIG_SRC_ADDR % 4096 = 0 → s.get Reg.JIG_SRC_ADDR + 128 ≤ dramEnd →
          s.memAvail (s.get Reg.JIG_SRC_ADDR) 128 = true → s.memRead (s.get Reg.JIG_SRC_ADDR) 128 false = (some hd, u) →
          n = min (max 128 (jigLength hd)) 0x200000 → s.get Reg.JIG_SRC_ADDR + n ≤ dramEnd →
          u.memAvail (s.get Reg.JIG_SRC_ADDR) n = true → u.memRead (s.get Reg.JIG_SRC_ADDR) n false = (some d, w) →
          ∃ t, exec .jigCopyComplete s = .next t ∧ t.jigPhase = 2 ∧ t.jig.staging = d)
      ∧ (∀ e, s.jigPhase = 2 → s.jigCheck s.jig.staging = some e →
          ∃ t, exec .jigValidateComplete s = .next t ∧ FailedLoad e.1 e.2.1 e.2.2 s t)
      ∧ (s.jigPhase = 2 → s.jigCheck s.jig.staging = none → jigKind s.jig.staging = 0 →
          exec .jigValidateComplete s = .next (s.keeping s.jigApplyBegin) ∧ s.jigApplyBegin.jigPhase = 4)
      ∧ (s.jigPhase = 2 → s.jigCheck s.jig.staging = none → jigKind s.jig.staging = 2 →
          ∃ t, exec .jigValidateComplete s = .next t ∧ t.jigPhase = 3 ∧ t.jig.drainAt = s.now
            ∧ RegsOnly [Reg.JIG_STATUS] s { t with jig := s.jig })
      ∧ (s.jigPhase = 3 → s.jigDrained = true →
          exec .jigDrainComplete s = .next (s.keeping s.jigApplyBegin) ∧ s.jigApplyBegin.jigPhase = 4)
      ∧ (s.jigPhase = 3 → ¬ (jigKind s.jig.staging = 1 ∧ s.flag Reg.JIG_CTL_DRAIN = true) →
          s.jig.drainAt + max 1 (s.get Reg.JIG_DRAIN_LIMIT_LIMIT) * 1000 ≤ s.now →
          ∃ t, exec .jigDrainLimitExpiry s = .next t ∧ FailedLoad 0x10 0xff 0 s t))
  ∧
   (∀ s : State, s.running = true → s.jigPhase = 4 →
      (∃ t, exec .jigApplyComplete s = .next t
        ∧ t = s.keeping (State.forEach { s.jigDone with jig := { s.jigDone.jig with held := [] } } s.jigDone.jig.held
            fun u w => u.ctlWrite w.1 w.2.1 w.2.2))
      ∧ (s.jig.held = [] → ∃ t, exec .jigApplyComplete s = .next t
          ∧ t.jigPhase = 5 ∧ t.get Reg.JIG_STATUS_ERROR = 0 ∧ t.flag Reg.JIG_CTL_START = false ∧ t.jig.staging = []
          ∧ t.jig.sets = s.jigSets s.jig.staging ∧ t.jig.ident = s.jigIdent s.jig.staging
          ∧ (jigKind s.jig.staging = 0 →
              t.jig.mregs = jigEntries s.jig.staging (jigFind s.jig.staging 3) mregAt
              ∧ t.jig.qmap = jigEntries s.jig.staging (jigFind s.jig.staging 7) qmapAt
              ∧ t.jig.bowls = perSet s.jig.staging 5 [] bowlAt
              ∧ t.jig.cgrant = jigEntries s.jig.staging (jigFind s.jig.staging 10) cgrantAt)))

/-- SPN_CTL takes QUIESCE and INJECT while its die is neither gated nor held in reset; else the write is dropped. GANG_LAUNCH puts the
next gang of the set's instance on the spindle, with the lowest free number, x0 to x7 as R208 gives them and every other register 0, at
instruction 0.
Completion: under the conditions on the state and the operands that its clauses name, exec answers a next state with the own effect of spindleQuiesce,
testInjection, gangLaunch. -/
def Obligations.SpindleControl : Prop :=
  ∀ (i : Fin 288) (s : State), s.running = true →
    (∀ v : Bool, s.reaches (Reg.SPN_CTL i) = true → exec (.spindleQuiesce i v) s = .next (s.set (Reg.SPN_CTL_QUIESCE i) (bit v)))
    ∧ (∀ v : Fin 4, s.reaches (Reg.SPN_CTL i) = true → exec (.testInjection i v) s = .next ((s.injectEarly i).set (Reg.SPN_CTL_INJECT i) v))
    ∧ (s.reaches (Reg.SPN_CTL i) = false → ∀ (v : Bool) (w : Fin 4), exec (.spindleQuiesce i v) s = .next s ∧ exec (.testInjection i w) s = .next s)
    ∧ (∀ n g, s.inst (s.setOf i) = some n → n.stopping = false → alGet 0 n.launched i.val < n.hdr.gangs →
        s.pwr.latheReady.getD (i / 144) false = true → s.unitsUsed i + n.hdr.regs / 16 ≤ 256 →
        lowestFree 256 ((s.spindle i).gangs.map (·.gang)) = some g →
        ∃ t x, exec (.gangLaunch i) s = .next t ∧ t.gang i g = some x ∧ x.pc = 0 ∧ x.active = n.hdr.threads ∧ x.nregs = n.hdr.regs
          ∧ (∀ th k, th < x.active → k < 8 → x.reg th k = (s.launchRegs n i (alGet 0 n.launched i.val)).getD k 0 % 2 ^ 32)
          ∧ (∀ th k, th < x.active → 8 ≤ k → k < 128 → x.reg th k = 0)
          ∧ t = { s with spn := t.spn, hds := { s.hds with insts := t.hds.insts } } ∧ MemSame s t)

/-- A write of ENV at or below the ceiling is taken, one above it is clamped, shown and logged; a sample above a limit lowers the spindle clock by 50 MHz
down to 400 MHz, where pacing begins, which takes every second interval from the spindles (log 59); the thermal throttle lowers the clock when the hottest junction reaches THROT and lets it rise
2 °C below; the inlet, the hold-up store and the busbar set their bits. ENV_WRITE: the envelope in force is the lower-power of the value written, 3 acting as 2, and the ceiling (a higher code names less
power); its cap bounds the spindle clock at once. A value that names more power than the ceiling sets CLAMP and logs 0x1101; another
leaves CLAMP as it is and logs nothing.
Completion: under the conditions on the state and the operands that its clauses name, exec answers a next state with the own effect of powerSample,
supplyOutOfRange, holdupLow, holdupCharged, thermalThrottle, inletOverTemperature, envWrite. -/
def Obligations.PowerAndEnvelope : Prop :=
   (∀ s : State, s.running = true →
      (∀ (pin avg vbus estore : Nat), (envLimit (s.get Reg.PWR_STATUS_ENVNOW)).1 < avg ∨ (envLimit (s.get Reg.PWR_STATUS_ENVNOW)).2 < pin →
        s.pwr.thermal = false →
        ∃ t, exec (.powerSample pin avg vbus estore) s = .next t ∧ RegsOnly [Reg.PWR_MEAS, Reg.PWR_STATUS] s { t with pwr := s.pwr }
          ∧ (400 < s.get Reg.PWR_STATUS_SPNMHZ → t.get Reg.PWR_STATUS_SPNMHZ = max 400 (s.get Reg.PWR_STATUS_SPNMHZ - 50))
          ∧ (s.get Reg.PWR_STATUS_SPNMHZ ≤ 400 → t.get Reg.PWR_STATUS_PACED = 1 ∧ t.get Reg.PWR_STATUS_SPNMHZ = s.get Reg.PWR_STATUS_SPNMHZ))
      ∧ (∀ (pin avg vbus estore : Nat), avg * 100 < 97 * (envLimit (s.get Reg.PWR_STATUS_ENVNOW)).1 →
        pin ≤ (envLimit (s.get Reg.PWR_STATUS_ENVNOW)).2 → s.pwr.thermal = false →
        ∃ t, exec (.powerSample pin avg vbus estore) s = .next t ∧ RegsOnly [Reg.PWR_MEAS, Reg.PWR_STATUS] s { t with pwr := s.pwr }
          ∧ t.pwr = { s.pwr with calm := if s.pwr.calm + 1 < 110 then s.pwr.calm + 1 else 100,
                                 paceOff := t.flag Reg.PWR_STATUS_PACED && !s.pwr.paceOff }
          ∧ (s.pwr.calm + 1 = 100 → t.get Reg.PWR_STATUS_PACED = 0)
          ∧ (s.pwr.calm + 1 < 110 → t.get Reg.PWR_STATUS_SPNMHZ = s.get Reg.PWR_STATUS_SPNMHZ)
          ∧ (110 ≤ s.pwr.calm + 1 → t.get Reg.PWR_STATUS_SPNMHZ
              = min (envCap (s.get Reg.PWR_STATUS_ENVNOW)) (s.get Reg.PWR_STATUS_SPNMHZ + 50) % 2 ^ 12))
      ∧ (∀ (tj : Byte) (die : Fin 7), s.pwr.thermal = false → (s.throt : Int) ≤ signed 8 tj.toNat →
        ∃ t, exec (.thermalThrottle tj die) s = .next t ∧ t.pwr = { s.pwr with thermal := true } ∧ t.get Reg.PWR_FAULT_THERMTHROT = 1
          ∧ RegsBut [Reg.PWR_TEMP, Reg.PWR_STATUS, Reg.PWR_FAULT] s t ∧ MemSame s t
          ∧ t.get Reg.PWR_STATUS_SPNMHZ = max 400 (s.get Reg.PWR_STATUS_SPNMHZ - 50))
      ∧ (∀ (tj : Byte) (die : Fin 7), signed 8 tj.toNat ≤ (s.throt : Int) - 2 →
        ∃ t, exec (.thermalThrottle tj die) s = .next t ∧ t.pwr = { s.pwr with thermal := false } ∧ RegsOnly [Reg.PWR_TEMP] s { t with pwr := s.pwr })
      ∧ (∀ (tj : Byte) (die : Fin 7), (s.throt : Int) - 2 < signed 8 tj.toNat → (s.pwr.thermal = true ∨ signed 8 tj.toNat < (s.throt : Int)) →
        ∃ t, exec (.thermalThrottle tj die) s = .next t ∧ RegsOnly [Reg.PWR_TEMP] s t ∧ t.get Reg.PWR_TEMP_TJMAX = tj.toNat
          ∧ t.get Reg.PWR_TEMP_DIE = die)
      ∧ (∀ tj : Byte, ∃ t, exec (.inletOverTemperature tj) s = .next t ∧ RegsOnly [Reg.PWR_TEMP, Reg.PWR_FAULT] s t
          ∧ t.get Reg.PWR_TEMP_INLET = tj.toNat
          ∧ t.get Reg.PWR_FAULT_INLETHOT = if 40 < signed 8 tj.toNat then 1 else s.get Reg.PWR_FAULT_INLETHOT)
      ∧ (∀ vbus, vbus < 4000 ∨ 6000 < vbus → ∃ t, exec (.supplyOutOfRange vbus) s = .next t ∧ t.get Reg.PWR_FAULT_SUPPLY = 1
          ∧ t.pwr = { s.pwr with busbar := false } ∧ RegsOnly [Reg.PWR_MEAS, Reg.PWR_FAULT] s { t with pwr := s.pwr })
      ∧ (∃ t, exec .holdupLow s = .next t ∧ t.get Reg.PWR_STATUS_HOLDUP = 0 ∧ t.get Reg.PWR_FAULT_HOLDUPLOW = 1
          ∧ RegsBut [Reg.PWR_STATUS, Reg.PWR_FAULT] s t ∧ MemSame s t)
      ∧ exec .holdupCharged s = .next (s.set Reg.PWR_STATUS_HOLDUP 1))
  ∧
   (∀ (env : Fin 4) (s : State), s.running = true →
      ∃ t, exec (.envWrite env) s = .next t ∧ RegsBut [Reg.PWR_CTL, Reg.PWR_STATUS] s t ∧ MemSame s t
        ∧ t.get Reg.PWR_CTL_ENV = env
        ∧ t.get Reg.PWR_STATUS_ENVNOW = max (min 2 env.val) (s.get Reg.PWR_STATUS_CEIL)
        ∧ t.get Reg.PWR_STATUS_SPNMHZ = min (s.get Reg.PWR_STATUS_SPNMHZ) (envCap (max (min 2 env.val) (s.get Reg.PWR_STATUS_CEIL)))
        ∧ t.get Reg.PWR_STATUS_CEIL = s.get Reg.PWR_STATUS_CEIL
        ∧ (s.get Reg.PWR_STATUS_CEIL ≤ min 2 env.val → RegsOnly [Reg.PWR_CTL, Reg.PWR_STATUS] s t ∧ t.get Reg.PWR_STATUS_CLAMP = s.get Reg.PWR_STATUS_CLAMP)
        ∧ (min 2 env.val < s.get Reg.PWR_STATUS_CEIL → t.get Reg.PWR_STATUS_CLAMP = 1))

/-- ENTER_M2, ENTER_M3, ENTER_M4 and LEAVE_M2_M3 write REQ and GO: an accepted request shows BUSY and its target; a refused one shows
its code in REFUSE and logs 0x1103, and the module stays in its state. STATE_TRANSITION_COMPLETE, with no calibration running and no shutdown, ends a
move: STATE is the target, BUSY is 0, and the transition is logged.
Completion: under the conditions on the state and the operands that its clauses name, exec answers a next state with the own effect of enterM2,
enterM3, enterM4, leaveM2M3, stateTransitionComplete. -/
def Obligations.ModuleStateMoves : Prop :=
  ∀ s : State, s.running = true → s.pwr.shutdown = none →
    (∀ c req, (c, req) ∈ [(Instr.enterM2, 2), (.enterM3, 3), (.enterM4, 4), (.leaveM2M3, 0)] →
      ((s.goCode req ≠ 0 → ∃ t, exec c s = .next t ∧ t.get Reg.PWR_STATUS_REFUSE = s.goCode req ∧ t.get Reg.PWR_CTL_REQ = req
          ∧ t.get Reg.PWR_STATUS_STATE = s.get Reg.PWR_STATUS_STATE ∧ t.pwr = s.pwr ∧ RegsBut [Reg.PWR_CTL, Reg.PWR_STATUS] s t ∧ MemSame s t)
      ∧ (s.goCode req = 0 → (∀ p ∈ [6, 7, 8, 9], (s.circuit p).any Circuit.moving = false) →
          ∃ t, exec c s = .next t ∧ t.flag Reg.PWR_STATUS_BUSY = true ∧ t.pwr = { s.pwr with target := some (if req ≤ 1 then 1 else req) }
            ∧ t.get Reg.PWR_STATUS_STATE = s.get Reg.PWR_STATUS_STATE ∧ RegsOnly [Reg.PWR_CTL, Reg.PWR_STATUS] s { t with pwr := s.pwr })))
    ∧ (∀ dest, dest ≤ 3 → s.pwr.target = some dest → s.get Reg.CAL_STATUS_PORTRUN = 0x7f → s.get Reg.CAL_STATUS_MEMRUN = 0x7f → s.pwr.rstWaits = [] →
        ∃ t, exec .stateTransitionComplete s = .next t
          ∧ t = s.keeping (
              let u := ((s.set Reg.PWR_STATUS_STATE dest).enterState (s.get Reg.PWR_STATUS_STATE) dest).set Reg.PWR_STATUS_BUSY 0
              let w := u.occur 0x1102 0 (leBytes 1 (s.get Reg.PWR_STATUS_STATE) ++ leBytes 1 dest)
              { w with pwr := { w.pwr with target := none, rstWaits := [] } })
          ∧ t.flag Reg.PWR_STATUS_BUSY = false ∧ t.pwr.target = none)
    ∧ (s.pwr.target = none → exec .stateTransitionComplete s = .next s)

/-- Each reset of a part sets its bit of PWR_RST and leaves the other bits (none of them is waiting), logs 0x1109 and leaves the part
as R510 to R512 and R535 say: a lathe die not ready and its spindles empty, a pier not ready with its devices in self refresh, a fabric port OFF
with its AUX_3V3 off, a pylon before its boot, the host link held. The bit written 0 clears it, and a port's AUX_3V3 is on again.
While a transition is in progress the write waits and nothing else happens. A lathe die that no bit holds, in M0 or M1, is ready again with its spindles' registers rewritten from the jig's shadow; a pier is
ready, and out of self refresh where the state lets it; a host-link reset by HRST acts unless PWR_RST.HOST holds it, and its release enables H.
Completion: under the conditions on the state and the operands that its clauses name, exec answers a next state with the own effect of latheDieReset,
pierDieReset, fabricPortReset, hostLinkReset, pylonReset, latheDieReady, pierReady, hostLinkResetRelease, latheDieResetRelease, pierDieResetRelease,
fabricPortResetRelease, pylonResetRelease. -/
def Obligations.PartsOfTheModule : Prop :=
   (∀ s : State, s.running = true → s.pwr.rstWaits = [] →
      (∀ c n, partReset c = some n →
        (s.flag Reg.PWR_STATUS_BUSY = true → exec c s = .next { s with pwr := { s.pwr with rstWaits := [s.reg Reg.PWR_RST ||| (1#64 <<< n)] } })
        ∧ (s.flag Reg.PWR_STATUS_BUSY = false → ∃ t, exec c s = .next t ∧ t = s.keeping (s.rstApply (s.reg Reg.PWR_RST ||| (1#64 <<< n)))))
      ∧ (∀ c n, partRelease c = some n →
        (s.flag Reg.PWR_STATUS_BUSY = true → exec c s = .next { s with pwr := { s.pwr with rstWaits := [s.reg Reg.PWR_RST &&& ~~~(1#64 <<< n)] } })
        ∧ (s.flag Reg.PWR_STATUS_BUSY = false → ∃ t, exec c s = .next t ∧ t = s.keeping (s.rstApply (s.reg Reg.PWR_RST &&& ~~~(1#64 <<< n)))))
      ∧ (∀ v : Word64, v.toNat < 2 ^ 19 → (s.rstApply v).reg Reg.PWR_RST = v)
      ∧ (∀ d : Fin 2, s.flag (latheBit d) = false → s.flag Reg.PWR_STATUS_BUSY = false → d.val < s.pwr.latheReady.length →
          ∃ t, exec (.latheDieReset d) s = .next t ∧ t.pwr.latheReady[d.val]? = some false ∧ ∀ i, i / 144 = d.val → t.spindle i = Spindle.empty)
      ∧ (∀ d : Fin 4, s.flag (pierBit d) = false → s.flag Reg.PWR_STATUS_BUSY = false → d.val < s.pwr.pierReady.length →
          ∃ t, exec (.pierDieReset d) s = .next t ∧ t.pwr.pierReady[d.val]? = some false ∧ t.get (Reg.PIER_STATUS_SREF d) = 1
            ∧ t.get (Reg.PIER_STATUS_RATE d) = s.get (Reg.PIER_STATUS_RATE d)))
  ∧
   (∀ s : State, s.running = true →
      (∀ d : Fin 2, s.flag (latheBit d) = false → s.get Reg.PWR_STATUS_STATE < 2 → s.pwr.shutdown = none → s.pwr.latheReady.getD d true = false →
        d.val < s.pwr.latheReady.length →
        ∃ t, exec (.latheDieReady d) s = .next t ∧ t.pwr = { s.pwr with latheReady := s.pwr.latheReady.set d true }
          ∧ t = { s with regs := t.regs, pwr := t.pwr }
          ∧ ∀ i, i / 144 = d.val → t.get (Reg.SPN_SET_SET i) = match s.jig.sets.find? fun x => x.groups.testBit (i / 8) with
              | some x => x.set % 2 ^ (Reg.SPN_SET_SET i).width
              | none => bits (Reg.resetVal (Reg.SPN_SET i)).toNat (Reg.SPN_SET_SET i).lo (Reg.SPN_SET_SET i).width)
      ∧ (∀ d : Fin 4, s.flag (pierBit d) = false →
        ∃ t, exec (.pierReady d) s = .next t ∧ t.pwr = { s.pwr with pierReady := s.pwr.pierReady.set d true }
          ∧ RegsOnly [Reg.PIER_STATUS d] s { t with pwr := s.pwr }
          ∧ (s.get Reg.PWR_STATUS_STATE < 2 → t.get (Reg.PIER_STATUS_SREF d) = 0)
          ∧ (2 ≤ s.get Reg.PWR_STATUS_STATE → t.get (Reg.PIER_STATUS_SREF d) = s.get (Reg.PIER_STATUS_SREF d)))
      ∧ (∀ f rest, s.flag Reg.PWR_RST_HOST = false → s.host.vc0 = f :: rest → f.akind = 6 →
        ∃ t, exec (.hostLinkReset true) s = .next t ∧ t = s.keeping (s.hostReset 0) ∧ t.host = { HostState.reset with heldByReset := true }
          ∧ t.get Reg.ABT_CTL_MODER = bits (Reg.resetVal Reg.ABT_CTL).toNat Reg.ABT_CTL_MODER.lo Reg.ABT_CTL_MODER.width)
      ∧ (s.flag Reg.PWR_RST_HOST = false → s.host.heldByReset = true → s.flag (Reg.LNK_CTL_EN 10) = false →
        ∃ t, exec .hostLinkResetRelease s = .next t ∧ t = s.keeping (s.linkEn 10) ∧ t.flag (Reg.LNK_CTL_EN 10) = true))

/-- A module that is off comes up with PWR_GOOD asserted, RESET_N still low, every register at its reset value but fuses and NV, and
memory empty; a module reset of a running module keeps DRAM, the event ring, the sequence numbers, the sentinels, MASK, CRIT and
PWR_FAULT; a reset or a rise of PWR_EN during the shutdown sequence waits. The release, 1 ms after PWR_GOOD, samples the straps,
gives the pins their functions and enables H.
Completion: under the conditions on the state and the operands that its clauses name, exec answers a next state with the own effect of powerOn,
moduleReset, moduleResetRelease. -/
def Obligations.PowerAndModuleReset : Prop :=
  ∀ s : State,
    (s.pwr.pwrGood = false → ∃ t, exec .powerOn s = .next t ∧ t.pwr.pwrGood = true ∧ t.pwr.resetN = false ∧ t.pwr.pwrEn = true
        ∧ t.pwr.busbar = true ∧ t.mem = [] ∧ t.tap = TapState.reset ∧ t.jig = JigState.reset ∧ t.hds = HdsState.reset
        ∧ t.reg Reg.UPD_OWNER = s.reg Reg.UPD_OWNER ∧ t.reg Reg.JIG_STATUS = Reg.resetVal Reg.JIG_STATUS
        ∧ t.reg (Reg.LNK_CTL 3) = Reg.resetVal (Reg.LNK_CTL 3))
    ∧ (s.pwr.pwrGood = true → s.pwr.shutdown.isSome = true → exec .powerOn s = .next { s with pwr := { s.pwr with busbar := true, pwrEn := true, powerWaits := true } })
    ∧ (s.pwr.pwrGood = true → s.pwr.shutdown.isSome = true → exec .moduleReset s = .next { s with pwr := { s.pwr with resetWaits := true } })
    ∧ (s.running = true → s.pwr.shutdown = none → ∃ t, exec .moduleReset s = .next t ∧ t.pwr.resetN = false ∧ t.pwr.pwrGood = true
        ∧ (∀ a, a < dramEnd → (∀ p < 4, s.flag (Reg.PIER_STATUS_INITBUSY p) = false) → t.byte a = s.byte a)
        ∧ (∀ a, dramEnd ≤ a → t.byte a = 0) ∧ t.ev.ringA = s.ev.ringA ∧ t.ev.ringB = s.ev.ringB
        ∧ t.reg Reg.AON_EVSEQ = s.reg Reg.AON_EVSEQ ∧ t.reg Reg.AON_MSEQ = s.reg Reg.AON_MSEQ ∧ t.reg Reg.PWR_FAULT = s.reg Reg.PWR_FAULT
        ∧ t.get Reg.AON_ALERT_MASK = s.get Reg.AON_ALERT_MASK ∧ t.get Reg.AON_ALERT_CRIT = s.get Reg.AON_ALERT_CRIT
        ∧ t.jig = JigState.reset ∧ t.hds = HdsState.reset ∧ t.reg Reg.JIG_STATUS = Reg.resetVal Reg.JIG_STATUS)
    ∧ (∀ (slot : Fin 64) (pref : Bool), s.pwr.pwrGood = true → s.pwr.resetN = false → s.pwr.shutdown = none → s.pwr.goodAt + 1000000 ≤ s.now →
        ∃ t, exec (.moduleResetRelease slot pref) s = .next t ∧ t.running = true ∧ t.pwr.slotId = slot ∧ t.flag Reg.AON_TOKEN_PREF = pref
          ∧ t.tap.pins = (if s.tap.pins.isTest then .function else s.tap.pins) ∧ MemSame s t)

/-- While PWR_GOOD stands and no shutdown runs, each of the three causes starts the sequence with its own number, shows it in
LASTLOSS or LASTTRIP, and takes the lathe dies away; a sequence that runs goes on whatever comes. When its NV work is done, the module is off, or comes up again where a
reset or a rise of PWR_EN waited.
Completion: under the conditions on the state and the operands that its clauses name, exec answers a next state with the own effect of supplyLoss,
pwrEnLow, thermalTrip, shutdownNvComplete. -/
def Obligations.ShutdownSequence : Prop :=
  ∀ s : State, s.running = true →
    (∀ c n, (c, n) ∈ [(Instr.supplyLoss, 0), (.pwrEnLow, 1)] → s.pwr.shutdown = none →
      ∃ t, exec c s = .next t ∧ t.pwr.shutdown = some (n, 1) ∧ t.running = true ∧ t.get Reg.PWR_FAULT_LASTLOSS = 1 ∧ t.get Reg.PWR_FAULT_LASTTRIP = 0
        ∧ t.spn = [] ∧ t.pwr.latheReady = (s.pwr.latheReady.set 0 false).set 1 false)
    ∧ (∀ (tj : Byte) (die : Fin 7), s.pwr.shutdown = none → (s.throt : Int) + 10 ≤ signed 8 tj.toNat →
      ∃ t, exec (.thermalTrip tj die) s = .next t ∧ t.pwr.shutdown = some (2, 1) ∧ t.get Reg.PWR_FAULT_LASTTRIP = 1 ∧ t.get Reg.PWR_FAULT_LASTLOSS = 0)
    ∧ (∀ x, s.pwr.shutdown = some x → ∃ t u, exec .supplyLoss s = .next t ∧ exec .pwrEnLow s = .next u ∧ t.pwr.shutdown = some x ∧ u.pwr.shutdown = some x)
    ∧ (∀ x, s.pwr.shutdown = some x → (s.pwr.busbar && s.pwr.pwrEn) = false →
      ∃ t, exec .shutdownNvComplete s = .next t ∧ t.pwr.pwrGood = false ∧ t.pwr.shutdown = some (x.1, 5) ∧ t.running = false ∧ t.srv = [])
    ∧ (∀ x, s.pwr.shutdown = some x → s.pwr.busbar = true → s.pwr.pwrEn = true → s.pwr.powerWaits = true →
      ∃ t, exec .shutdownNvComplete s = .next t ∧ t.pwr.pwrGood = true ∧ t.pwr.resetN = false ∧ t.pwr.shutdown = none ∧ t.mem = [])

/-- With power, Test-Logic-Reset loads IDCODE; IDCODE, SAMPLE/PRELOAD and BYPASS select their registers and leave the pins their
functions; EXTEST, EXTEST_PULSE, EXTEST_TRAIN, CLAMP and HIGHZ take the pins in module reset and act as BYPASS otherwise; a reserved instruction
counts as unlocking test access. Nothing but the port changes, save the extend of MEAS 10 and the log entry of an unlock.
Completion: under the conditions on the state and the operands that its clauses name, exec answers a next state with the own effect of tapReset,
extest, idcode, samplePreload, clamp, highz, extestPulse, extestTrain, bypass, testAccessUnlock. -/
def Obligations.TestAccessPort : Prop :=
  ∀ s : State, s.pwr.pwrGood = true →
    exec .tapReset s = .next { s with tap := TapState.reset }
    ∧ exec .idcode s = .next { s with tap := { s.tap with ir := 0x01, sel := .identification, pins := .function } }
    ∧ (∀ l, exec (.samplePreload l) s = .next { s with tap := { s.tap with ir := 0x02, sel := .boundary, pins := .function, boundary := l } })
    ∧ (∀ code : Fin 256, (7 ≤ code.val ∧ code.val < 0x80) ∨ code.val = 0xff →
        exec (.bypass code) s = .next { s with tap := { s.tap with ir := code, sel := .bypass, pins := .function } })
    ∧ (∀ c ir sel m, (c, ir, sel, m) ∈ [(Instr.extest, 0x00, TapReg.boundary, PinMode.extest), (.clamp, 0x03, .bypass, .clamp),
          (.highz, 0x04, .bypass, .highz), (.extestPulse, 0x05, .boundary, .pulse), (.extestTrain, 0x06, .boundary, .train)] →
        exec c s = .next { s with tap := if s.pwr.resetN then { s.tap with ir := ir, sel := .bypass, pins := .function }
                                          else { s.tap with ir := ir, sel := sel, pins := m } })
    ∧ (∀ code : Fin 256, 0x80 ≤ code.val → code.val < 0xff →
        ∃ t, exec (.testAccessUnlock code) s = .next t ∧ t.tap = { s.tap with ir := code, sel := .bypass, pins := .function, unlocked := true }
          ∧ MemSame s t ∧ t.running = s.running)

/-- An MRD of control space is answered with the register's 8 bytes, one of DRAM with the bytes as read, one outside both with all
ones beside the event; an MWR writes its register or its bytes; a frame of a wrong LEN is counted and answered or dropped, with the event where it names control space (R34). A moderated vector sends one MSI once
its interval is over, and RELEASE ends the hold that a host-link reset left.
Completion: under the conditions on the state and the operands that its clauses name, exec answers a next state with the own effect of mrd, mwr,
msiModerationExpiry, heldRelease, auxOverload. -/
def Obligations.HostLinkFrames : Prop :=
  ∀ s : State, s.running = true →
    (∀ f rest, s.host.vc0 = f :: rest → f.akind = 1 →
      (hostLenOk f = false → ∃ t, exec .mrd s = .next t ∧ t = s.keeping (((s.hostPop.sat Reg.ABT_ERR_MALF 1).oddSize f).cpl f 2 []))
      ∧ (hostLenOk f = true → placeOf f.addr = .control → s.heldOf .host = [] →
          exec .mrd s = .next (s.keeping ((s.hostPop.ctlRead .host f.addr).2.cpl f 0 (leBytes 8 (s.hostPop.ctlRead .host f.addr).1.toNat))))
      ∧ (∀ d u, hostLenOk f = true → placeOf f.addr = .dram → s.inM3 = false → s.memAvail f.addr f.len = true →
          s.hostPop.memRead f.addr f.len false = (some d, u) →
          ∃ t, exec .mrd s = .next t ∧ t.host.vc1 = u.host.vc1 ++ [{ akind := 3, cstat := 0, len := d.length, atag := f.atag, addr := 0, body := d }]
            ∧ t.host.vc0 = u.host.vc0)
      ∧ (hostLenOk f = true → placeOf f.addr ≠ .control → placeOf f.addr ≠ .dram →
          exec .mrd s = .next (s.keeping ((s.hostPop.unmapped f.addr 1 0).cpl f 0 (List.replicate f.len 0xff)))))
    ∧ (∀ f rest, s.host.vc0 = f :: rest → f.akind = 2 →
      (hostLenOk f = false → exec .mwr s = .next (s.keeping ((s.hostPop.sat Reg.ABT_ERR_BAD 1).oddSize f)))
      ∧ (hostLenOk f = true → placeOf f.addr = .control →
          exec .mwr s = .next (s.keeping (s.hostPop.ctlWrite .host f.addr (BitVec.ofNat 64 (leNat f.body)))))
      ∧ (∀ u, hostLenOk f = true → placeOf f.addr = .dram → s.inM3 = false → s.memAvail f.addr f.len = true →
          s.hostPop.memWrite f.addr f.body false = (true, u) → exec .mwr s = .next (s.keeping u)))
    ∧ (∀ v : Fin 512, s.host.pendingVec.contains v.val = true → s.abtHeld = false → s.msiFree v = true →
        ∃ t, exec (.msiModerationExpiry v) s = .next t ∧ t = { s with host := t.host } ∧ t.host.vc1 = s.host.vc1 ++ [msiFrame v]
          ∧ t.host.pendingVec.contains v.val = false ∧ t.host.vc0 = s.host.vc0)
    ∧ (s.host.heldByReset = true → ∃ t, exec .heldRelease s = .next t ∧ t.host.heldByReset = false ∧ t = { s with host := t.host })
    ∧ (s.host.heldByReset = false → exec .heldRelease s = .next s)
    ∧ (∀ i : Fin 11, (s.port i).aux = true → ∃ t, exec (.auxOverload i) s = .next t ∧ (t.port i).aux = false
        ∧ (s.linkState i ≠ 6 → s.linkState i ≠ 9 → s.linkState i ≠ 12 → t = { s with lnk := t.lnk }))

/-- The instructions that write DST of each enabled thread from that thread's registers: command, operation, and the value (R94,
R128 to R132). -/
def Sys2Proof.Machine.regOps : List ((Fin 288 → Fin 256 → Instr) × SpnOp × (Gang → IWord → Nat → Nat)) :=
  [(Instr.movi, .movi, fun _ w _ => unsigned 32 (signed 16 w.imm)),
   (Instr.movhi, .movhi, fun x w t => x.reg t w.dst % 2 ^ 16 + w.imm * 2 ^ 16),
   (Instr.tid, .tid, fun _ _ t => t),
   (Instr.fadd, .fadd, fun x w t => fadd32 (x.reg t w.src1) (x.reg t w.src2)),
   (Instr.fmul, .fmul, fun x w t => fmul32 (x.reg t w.src1) (x.reg t w.src2)),
   (Instr.ffma, .ffma, fun x w t => ffma32 (x.reg t w.src1) (x.reg t w.src2) (x.reg t w.src3)),
   (Instr.fmax, .fmax, fun x w t => fmax32 (x.reg t w.src1) (x.reg t w.src2)),
   (Instr.fmin, .fmin, fun x w t => fmin32 (x.reg t w.src1) (x.reg t w.src2)),
   (Instr.iadd, .iadd, fun x w t => x.reg t w.src1 + x.reg t w.src2),
   (Instr.imul, .imul, fun x w t => x.reg t w.src1 * x.reg t w.src2),
   (Instr.andB, .andB, fun x w t => x.reg t w.src1 &&& x.reg t w.src2),
   (Instr.orB, .orB, fun x w t => x.reg t w.src1 ||| x.reg t w.src2),
   (Instr.xorB, .xorB, fun x w t => x.reg t w.src1 ^^^ x.reg t w.src2),
   (Instr.shl, .shl, fun x w t => x.reg t w.src1 * 2 ^ (x.reg t w.src2 % 32)),
   (Instr.shr, .shr, fun x w t => x.reg t w.src1 % 2 ^ 32 / 2 ^ (x.reg t w.src2 % 32)),
   (Instr.shfl, .shfl, fun x w t => if x.reg t w.src2 % 32 < x.active then x.reg (x.reg t w.src2 % 32) w.src1 else 0),
   (Instr.cvtf, .cvtf, fun x w t => cvtf (w.imm % 256) (w.imm / 256) (x.reg t w.src1))]

/-- The approximate operations, with the value as a function of a free value (R130, log 1). -/
def Sys2Proof.Machine.approxOps : List ((Fin 288 → Fin 256 → Instr) × SpnOp × (Nat → Nat → Nat)) :=
  [(Instr.fexp2, .fexp2, fexp2), (Instr.flog2, .flog2, flog2), (Instr.frcp, .frcp, frcp), (Instr.frsq, .frsq, frsq)]

/-- The instructions that write a predicate: command, operation, and the comparison (R94, R129). -/
def Sys2Proof.Machine.predOps : List ((Fin 288 → Fin 256 → Instr) × SpnOp × (Gang → IWord → Nat → Bool)) :=
  [(Instr.setp, .setp, fun x w t => x.reg t w.src1 != 0),
   (Instr.fsetp, .fsetp, fun x w t => fsetpTest (bits w.imm 3 3) (x.reg t w.src1) (x.reg t w.src2)),
   (Instr.isetp, .isetp, fun x w t => isetpTest (bits w.imm 3 3) (x.reg t w.src1) (x.reg t w.src2))]

/-- For each instruction that writes a register of each enabled thread, poised to issue in a gang that goes on: every enabled thread's
DST takes the operation's value on 32 bits, every other register and every predicate of the gang keeps its value, and the gang stands
at the next instruction. FTRD writes the fabric time to a pair. An approximate operation takes a value that a free value picks within its bound
(the model's choice, log 1). No other gang changes; an instruction that ends no group changes nothing outside its spindle.
Completion: under the conditions on the state and the operands that its clauses name, exec answers a next state with the own effect of movi, movhi,
tid, fadd, fmul, ffma, fmax, fmin, iadd, imul, andB, orB, xorB, shl, shr, shfl, cvtf, fexp2, flog2, frcp, frsq, ftrd. -/
def Obligations.SpindleResults : Prop :=
  (∀ e ∈ regOps, ∀ (i : Fin 288) (g : Fin 256) (s : State) (x : Gang) (word : Nat) (w : IWord),
    Poised s i g e.2.1 x word w → GoesOn s x →
    ∃ t z, exec (e.1 i g) s = .next t ∧ t.gang i g = some z ∧ z.pc = x.pc + 1 ∧ GangOnly i g s t
      ∧ (∀ th n, n < 128 → z.reg th n = if th ∈ x.enabled w ∧ n = w.dst then e.2.2 x w th % 2 ^ 32 else x.reg th n)
      ∧ (∀ th n, z.pred th n = x.pred th n) ∧ (w.gb = false → t = { s with spn := t.spn }))
  ∧ (∀ e ∈ approxOps, ∀ (i : Fin 288) (g : Fin 256) (s : State) (x : Gang) (word : Nat) (w : IWord),
    Poised s i g e.2.1 x word w → GoesOn s x →
    ∃ t z, exec (e.1 i g) s = .next t ∧ t.gang i g = some z ∧ z.pc = x.pc + 1 ∧ GangOnly i g s t
      ∧ (∀ th n, n < 128 → z.reg th n = if th ∈ x.enabled w ∧ n = w.dst
          then e.2.2 (Config.freeNat (s.free + th)) (x.reg th w.src1) % 2 ^ 32 else x.reg th n)
      ∧ (∀ th n, z.pred th n = x.pred th n) ∧ (w.gb = false → t = { s with spn := t.spn, free := t.free }))
  ∧ ∀ (i : Fin 288) (g : Fin 256) (s : State) (x : Gang) (word : Nat) (w : IWord), Poised s i g .ftrd x word w → GoesOn s x →
    ∃ t z, exec (.ftrd i g) s = .next t ∧ t.gang i g = some z ∧ z.pc = x.pc + 1 ∧ GangOnly i g s t
      ∧ (∀ th n, n < 128 → z.reg th n = if th ∈ x.enabled w ∧ n = w.dst then s.ft % 2 ^ 32
          else if th ∈ x.enabled w ∧ n = w.dst + 1 then s.ft / 2 ^ 32 % 2 ^ 32 else x.reg th n)
      ∧ (∀ th n, z.pred th n = x.pred th n) ∧ (w.gb = false → t = { s with spn := t.spn })

/-- SETP, FSETP and ISETP write their predicate in each enabled thread (p0 keeps reading 1) and nothing else; NOP goes to the next
instruction, BR to PC + IMM, BRALL and BRANY when PRED holds in every, or in some, active thread; END with an enabled thread ends its
gang and no other. A word with a cause of fault code 0x01 faults with it, an instruction with a register from R up with 0x02, and a
gang outside its program with 0x05: SPN_FAULT records the first fault and MORE a further one.
Completion: under the conditions on the state and the operands that its clauses name, exec answers a next state with the own effect of setp, fsetp,
isetp, nopI, br, brall, brany, endG, reservedOperation. -/
def Obligations.SpindleControlFlow : Prop :=
  (∀ e ∈ predOps, ∀ (i : Fin 288) (g : Fin 256) (s : State) (x : Gang) (word : Nat) (w : IWord),
    Poised s i g e.2.1 x word w → GoesOn s x →
    ∃ t z, exec (e.1 i g) s = .next t ∧ t.gang i g = some z ∧ z.pc = x.pc + 1 ∧ GangOnly i g s t
      ∧ (∀ th n, z.reg th n = x.reg th n)
      ∧ (∀ th n, n < 8 → z.pred th n = if th ∈ x.enabled w ∧ n = w.imm % 8 ∧ n ≠ 0 then e.2.2 x w th else x.pred th n)
      ∧ (w.gb = false → t = { s with spn := t.spn }))
  ∧ (∀ e ∈ [(Instr.nopI, SpnOp.nop, fun (_ : Gang) (_ : IWord) => (1 : Int)), (Instr.br, .br, fun _ w => signed 16 w.imm),
        (Instr.brall, .brall, fun x w => if ∀ th, th < x.active → x.pred th w.pred = true then signed 16 w.imm else 1),
        (Instr.brany, .brany, fun x w => if ∃ th, th < x.active ∧ x.pred th w.pred = true then signed 16 w.imm else 1)],
      ∀ (i : Fin 288) (g : Fin 256) (s : State) (x : Gang) (word : Nat) (w : IWord), Poised s i g e.2.1 x word w → GoesOn s x →
        ∃ t, exec (e.1 i g) s = .next t ∧ At t i g x (x.pc + e.2.2 x w) ∧ GangOnly i g s t ∧ (w.gb = false → t = { s with spn := t.spn }))
  ∧ (∀ (i : Fin 288) (g : Fin 256) (s : State) (x : Gang) (word : Nat) (w : IWord), Poised s i g .endG x word w → x.enabled w ≠ [] →
    ∃ t, exec (.endG i g) s = .next t ∧ t.gang i g = none ∧ ∀ j h, (j, h) ≠ (i.val, g.val) → t.gang j h = s.gang j h)
  ∧ (∀ (i : Fin 288) (g : Fin 256) (s : State) (x : Gang) (word : Nat), s.running = true → s.gang i g = some x → s.gangReady i x = true →
    (0 ≤ x.pc ∧ x.pc < (x.ninstr : Int)) → s.fetchWord i x = some word → legalOp (iwordOf word) (s.latencySet x.set) = none →
    ∃ t, exec (.reservedOperation i g) s = .next t ∧ t = s.keeping (s.spnFault i g 0x01 0 0 x.pc) ∧ t.gang i g = none)
  ∧ (∀ e ∈ regOps, ∀ (i : Fin 288) (g : Fin 256) (s : State) (x : Gang), s.running = true → s.gang i g = some x → s.gangReady i x = true →
    ((x.pc < 0 ∨ (x.ninstr : Int) ≤ x.pc) → exec (e.1 i g) s = .next (s.keeping (s.spnFault i g 0x05 0 (fetchAddr x x.pc) x.pc)))
    ∧ (∀ word w, 0 ≤ x.pc → x.pc < (x.ninstr : Int) → s.fetchWord i x = some word → w = iwordOf word → legalOp w (s.latencySet x.set) = some e.2.1 →
        regsOk x e.2.1 w = false → exec (e.1 i g) s = .next (s.keeping (s.spnFault i g 0x02 0 0 x.pc))))
  ∧ ∀ (i : Fin 288) (g code detail addr : Nat) (pc : Int) (s : State),
    let u := s.recordFault i g code detail addr pc
    RegsOnly [Reg.SPN_FAULT i, Reg.SPN_FAULT_ADDR i] s u
    ∧ (s.flag (Reg.SPN_FAULT_VALID i) = false → u.flag (Reg.SPN_FAULT_VALID i) = true
        ∧ u.get (Reg.SPN_FAULT_CODE i) = code % 2 ^ (Reg.SPN_FAULT_CODE i).width
        ∧ u.get (Reg.SPN_FAULT_GANG i) = g % 2 ^ (Reg.SPN_FAULT_GANG i).width
        ∧ u.get (Reg.SPN_FAULT_DETAIL i) = detail % 2 ^ (Reg.SPN_FAULT_DETAIL i).width
        ∧ u.get (Reg.SPN_FAULT_PC i) = unsigned 32 pc % 2 ^ (Reg.SPN_FAULT_PC i).width
        ∧ u.get (Reg.SPN_FAULT_ADDR_ADDR i) = addr % 2 ^ (Reg.SPN_FAULT_ADDR_ADDR i).width)
    ∧ (s.flag (Reg.SPN_FAULT_VALID i) = true → u = s.set (Reg.SPN_FAULT_MORE i) 1)

/-- ST and GST put one held store for each enabled thread, in thread order, behind those of the group, with SRC2's four bytes at
SRC1 + IMM; nothing else changes while the group is open (a store to bytes of its own bowl that an engine of the gang is still to access
waits, R104). An address the spindle may not write faults. A group that its GB bit ends, with
no load in flight and room for its stores, releases them: those to bowls change the named bytes alone, those to DRAM become
transactions, in order, and a new group begins.
Completion: under the conditions on the state and the operands that its clauses name, exec answers a next state with the own effect of st, gst. -/
def Obligations.SpindleStores : Prop :=
  (∀ (i : Fin 288) (g : Fin 256) (s : State) (x : Gang) (word : Nat) (w : IWord) (glob : Bool),
    let addr := fun th => unsigned 64 ((x.pair th w.src1 : Int) + signed 16 w.imm)
    let bad := fun th => if glob then s.globalFault 4 (addr th) true else localFault 4 (addr th)
    let c := if glob then Instr.gst i g else Instr.st i g
    Poised s i g (if glob then .gst else .st) x word w →
    ((∀ th ∈ x.enabled w, bad th = none ∧ (glob = false ∨ s.isOwn (addr th) = true → s.bowlWait i x.gang (gLocal (addr th)) 4 = false)) → w.gb = false →
      ∃ t z, exec c s = .next t ∧ t = { s with spn := t.spn } ∧ GangOnly i g s t ∧ At t i g x (x.pc + 1) ∧ t.gang i g = some z
        ∧ z.loads = x.loads
        ∧ z.held = x.held ++ (x.enabled w).map fun th =>
            { pc := x.pc, global := glob, addr := addr th, data := leBytes 4 (x.reg th w.src2) })
    ∧ (∀ f, (x.enabled w).findSome? bad = some f →
        exec c s = .next (s.keeping ((if f.log then s.unmapped (gLocal f.addr) 0 i else s).spnFault i g f.code 0 f.addr x.pc))))
  ∧ ∀ (i : Fin 288) (g : Fin 256) (s : State) (x : Gang) (word : Nat) (w : IWord), Poised s i g .nop x word w → GoesOn s x →
    w.gb = true → x.loads = [] → (∀ h ∈ x.held, h.global = false) → s.accessRoom i (x.held.map fun h => (h.global, h.addr)) = true →
    ∃ t z, exec (.nopI i g) s = .next t ∧ t.gang i g = some z ∧ z.held = [] ∧ z.loads = [] ∧ z.closed = false ∧ z.groupStart = x.pc + 1
      ∧ t.lm = { s.lm with txns := t.lm.txns, nextTxn := t.lm.nextTxn }
      ∧ t.lm.txns.map (fun y => (y.owner, y.addr, y.op)) = s.lm.txns.map (fun y => (y.owner, y.addr, y.op))
          ++ (x.held.filter fun h => placeOf (gLocal h.addr) == .dram).map (fun h =>
              (TxnOwner.store i g h.pc, gLocal h.addr, TxnOp.write h.data))
      ∧ (∀ a, (∀ h ∈ x.held, (∃ k o, placeOf (gLocal h.addr) = .bowl k o) → a < gLocal h.addr ∨ gLocal h.addr + h.data.length ≤ a) →
          t.byte a = s.byte a)
      ∧ (∀ h, x.held = [h] → (∃ k o, placeOf (gLocal h.addr) = .bowl k o) → ∀ k (hk : k < h.data.length),
          t.byte (gLocal h.addr + k) = h.data[k])
      ∧ t.rtr = s.rtr

/-- LD and GLD with addresses that may be read and room for a load add one load in flight, numbered by the spindle: threads whose address lies in
a bowl have their four bytes at once, those in DRAM or in another module wait for a transaction of their own. A read of a counter view
answers the register's half. LOAD_DATA_RETURN, once every thread has its value, writes them to DST, where no later instruction has written it (R90), and drops the load; before that it
does nothing. A failed load of a group that is not in replay discards the group, whose registers and predicates are again those at its start. INSTRUCTION_FETCH_RETURN brings the line
of the gang's next instruction into the instruction cache of 1,024 lines, or faults when it fails twice.
Completion: under the conditions on the state and the operands that its clauses name, exec answers a next state with the own effect of ld, gld,
loadDataReturn, replay, instructionFetchReturn. -/
def Obligations.SpindleLoads : Prop :=
  (∀ (i : Fin 288) (g : Fin 256) (s : State) (x : Gang) (word : Nat) (w : IWord) (glob : Bool),
    let addr := fun th => unsigned 64 ((x.pair th w.src1 : Int) + signed 16 w.imm)
    let bad := fun th => if glob then s.globalFault 4 (addr th) false else localFault 4 (addr th)
    let c := if glob then Instr.gld i g else Instr.ld i g
    let away := fun th => glob && !s.isOwn (addr th)
    let dram := fun th => !away th && placeOf (gLocal (addr th)) == .dram
    let num := (s.spindle i).nextNum
    Poised s i g (if glob then .gld else .ld) x word w → x.enabled w ≠ [] →
    ((∀ th ∈ x.enabled w, bad th = none ∧ (away th = true → gRol (addr th) = false)) → x.held = [] →
      s.loadRoom i x ((x.enabled w).map fun th => (glob, addr th)) = true →
      ∃ t z l, exec c s = .next t ∧ MemSame s t ∧ GangOnly i g s t ∧ At t i g x (x.pc + 1) ∧ t.gang i g = some z ∧ z.loads = x.loads ++ [l]
        ∧ l.num = num ∧ l.dst = w.dst ∧ l.pair = false ∧ l.pc = x.pc ∧ l.atomic = none ∧ l.replayed = false
        ∧ l.results = (x.enabled w).map (fun th => (th, if away th || dram th then .waiting else .value (s.num (gLocal (addr th)) 4)))
        ∧ (t.spindle i).nextNum = num + 1
        ∧ t.lm.txns.map (·.owner) = s.lm.txns.map (·.owner) ++ ((x.enabled w).filter dram).map fun th => TxnOwner.load i g num th)
    ∧ (glob = false → (∀ th ∈ x.enabled w, addr th < 2 ^ 43 ∧ addr th % 8 = 0 ∧ placeOf (addr th) = .control ∧ s.inView x.set (addr th) = true) →
        (∀ k ∈ x.loads, k.num ≠ num) → s.loadRoom i x ((x.enabled w).map fun th => (false, addr th)) = true →
        ∃ t z l, exec c s = .next t ∧ t = { s with spn := t.spn } ∧ t.gang i g = some z ∧ z.loads = x.loads ++ [l]
          ∧ l.results = (x.enabled w).map fun th => (th, .value ((s.reg (addr th)).toNat % 2 ^ 32)))
    ∧ (∀ f, (∀ th ∈ x.enabled w, placeOf (addr th) ≠ .control ∨ glob = true) → (x.enabled w).findSome? bad = some f →
        exec c s = .next (s.keeping ((if f.log then s.unmapped (gLocal f.addr) 0 i else s).spnFault i g f.code 0 f.addr x.pc))))
  ∧ (∀ (i : Fin 288) (g : Fin 256) (num : Nat) (s : State) (x : Gang) (l : PendingLoad), s.running = true → s.gang i g = some x →
    x.loads.find? (·.num == num) = some l →
    ((∃ r ∈ l.results, r.2.value? = none) → exec (.loadDataReturn i g num) s = .next s)
    ∧ (∀ v : Nat → Nat, (∀ r ∈ l.results, r.2 = .value (v r.1)) → l.dst < 128 → (l.pair = true → l.dst + 1 < 128) → GoesOn s x → x.wait = .running →
      ∃ t z, exec (.loadDataReturn i g num) s = .next t ∧ t.gang i g = some z ∧ GangOnly i g s t
        ∧ (∀ k ∈ z.loads, k.num ≠ num)
        ∧ (∀ th n, n < 128 → z.reg th n =
            if th * 128 + n ∈ l.dead then x.reg th n
            else if th ∈ l.results.map (·.1) ∧ n = l.dst then v th % 2 ^ 32
            else if th ∈ l.results.map (·.1) ∧ l.pair = true ∧ n = l.dst + 1 then v th / 2 ^ 32 % 2 ^ 32 else x.reg th n)
        ∧ (x.closed = false → l.replayed = false → t = { s with spn := t.spn })))
  ∧ (∀ (i : Fin 288) (g : Fin 256) (s : State) (x : Gang) (l : PendingLoad), s.running = true → s.gang i g = some x →
    (x.loads.find? fun l => l.results.any fun r => r.2.isFailed) = some l → l.atomic = none →
    (x.replaying = false → ∃ t z, exec (.replay i g) s = .next t ∧ t.gang i g = some z ∧ z.pc = x.groupStart ∧ z.regs = x.savedRegs
        ∧ z.preds = x.savedPreds ∧ z.held = [] ∧ z.loads = [] ∧ z.replaying = true ∧ z.closed = false ∧ MemSame s t ∧ GangOnly i g s t)
    ∧ (x.replaying = true → ∀ r a, l.results.find? (fun r => r.2.isFailed) = some r → l.args.find? (fun p => p.1 == r.1) = some a →
        exec (.replay i g) s = .next (s.keeping ((s.replayEnd i false).spnFault i g 0x0a 3 a.2.1 l.pc))))
  ∧ ∀ (i : Fin 288) (g : Fin 256) (s : State), s.running = true →
    (s.gang i g = none → exec (.instructionFetchReturn i g) s = .next s)
    ∧ ∀ x, s.gang i g = some x →
      let a := fetchAddr x x.pc
      let wants : Prop := 0 ≤ x.pc ∧ x.pc < (x.ninstr : Int) ∧ s.fetchWord i x = none ∧ s.memAvail (64 * lineOf a) 64 = true
      (¬ wants → exec (.instructionFetchReturn i g) s = .next s)
      ∧ (∀ d u, wants → s.lineReplay i (lineOf a) false false false = (some d, u) →
          ∃ t, exec (.instructionFetchReturn i g) s = .next t ∧ t.fetchWord i x = some (leAt d (a % 64) 8) ∧ t.gang i g = some x ∧ MemSame s t
          ∧ (t.spindle i).icache.length ≤ 1024)
      ∧ (∀ u, wants → s.lineReplay i (lineOf a) false false false = (none, u) → MemSame s u ∧ u.gang i g = some x
          ∧ exec (.instructionFetchReturn i g) s = .next (s.keeping (u.spnFault i g 0x0a 5 a x.pc)))

/-- LDBLK and STBLK of a range that lies in DRAM and the bowl are taken by the copy engine while it holds fewer than 16, a pier has
room, and no earlier access of the gang to the same bowl bytes is to come (R103, R104); GLDBLK and GSTBLK of this module likewise, to DRAM or a bowl; those of another module become remote requests of at most 2 KiB each. WAIT goes on when the gang has at most IMM[4:0]
copies in flight, and waits otherwise. A local copy out of the bowl writes the bowl's bytes to memory and leaves the spindle; a remote
one leaves when all its answers are back.
Completion: under the conditions on the state and the operands that its clauses name, exec answers a next state with the own effect of ldblk, stblk,
gldblk, gstblk, waitI, blockCopyComplete. -/
def Obligations.SpindleCopies : Prop :=
  (∀ (i : Fin 288) (g : Fin 256) (s : State) (x : Gang) (word : Nat) (w : IWord),
    let a := x.pair (x.lead w) w.src1
    let off := x.reg (x.lead w) w.src2
    let size := x.reg (x.lead w) w.src3
    (∀ e ∈ [(Instr.ldblk i g, SpnOp.ldblk, true), (.stblk i g, .stblk, false)], Poised s i g e.2.1 x word w → x.enabled w ≠ [] → x.held = [] → x.loads = [] →
      GoesOn s x →
      (a % 64 = 0 → off % 64 = 0 → size % 64 = 0 → 64 ≤ size → size ≤ 65536 → off + size ≤ bowlBytes → a + size ≤ dramEnd →
        s.copyRoom i x [a] off size = true →
        ∃ t c, exec e.1 s = .next t ∧ At t i g x (x.pc + 1) ∧ (t.spindle i).copies = (s.spindle i).copies ++ [c] ∧ c.num = (s.spindle i).nextNum
          ∧ c.gang = x.gang ∧ c.toBowl = e.2.2 ∧ c.global = false ∧ c.bowl = off ∧ c.addr = a ∧ c.size = size ∧ c.pc = x.pc ∧ MemSame s t
          ∧ t.lm = { s.lm with nextTxn := s.lm.nextTxn + 1 } ∧ t.rtr = s.rtr)
      ∧ (16 ≤ (s.spindle i).copies.length → a + size ≤ dramEnd → copyFault a off size = none → exec e.1 s = .next s)
      ∧ (a < 2 ^ 43 → a % 64 = 0 → off % 64 = 0 → size % 64 = 0 → 64 ≤ size → size ≤ 65536 → bowlBytes < off + size →
          exec e.1 s = .next (s.keeping (s.spnFault i g 0x05 0 off x.pc)))
      ∧ (a < 2 ^ 43 → a % 64 ≠ 0 → exec e.1 s = .next (s.keeping (s.spnFault i g 0x06 0 a x.pc))))
    ∧ (∀ e ∈ [(Instr.gldblk i g, SpnOp.gldblk, true), (.gstblk i g, .gstblk, false)], Poised s i g e.2.1 x word w → x.enabled w ≠ [] → x.held = [] →
      x.loads = [] → GoesOn s x → gRefused a (!e.2.2 && !s.isOwn a) = false → copyFault a off size = none →
      (s.isOwn a = true → rangeHole (gLocal a) size = none →
        s.copyRoom i x (if dramLine (lineOf (gLocal a)) then [gLocal a] else []) off size = true →
        (ownBowl i (gLocal a) size).any (s.bowlBusy i x.gang true) = false →
        ∃ t c, exec e.1 s = .next t ∧ At t i g x (x.pc + 1) ∧ (t.spindle i).copies = (s.spindle i).copies ++ [c] ∧ c.global = false ∧ c.addr = gLocal a
          ∧ c.toBowl = e.2.2 ∧ c.bowl = off ∧ c.size = size ∧ c.nal = gNal a ∧ c.ord = gOrd a ∧ MemSame s t)
      ∧ (s.isOwn a = false → gRol a = false → s.copyRoom i x [] off size = true → s.remoteRoom (copyPieces a size).length = true →
        ∃ t c, exec e.1 s = .next t ∧ At t i g x (x.pc + 1) ∧ (t.spindle i).copies = (s.spindle i).copies ++ [c] ∧ c.global = true ∧ c.addr = a
          ∧ c.waiting = (copyPieces a size).length ∧ MemSame s t
          ∧ t.rtr.ops.length = s.rtr.ops.length + (copyPieces a size).length))
    ∧ (Poised s i g .waitI x word w → x.enabled w ≠ [] → x.held = [] → x.loads = [] → GoesOn s x →
      (((s.spindle i).copies.filter (·.gang == x.gang)).length ≤ w.imm % 32 →
        ∃ t, exec (.waitI i g) s = .next t ∧ At t i g x (x.pc + 1) ∧ GangOnly i g s t ∧ MemSame s t)
      ∧ (w.imm % 32 < ((s.spindle i).copies.filter (·.gang == x.gang)).length → exec (.waitI i g) s = .next s)))
  ∧ ∀ (i : Fin 288) (num : Nat) (s : State) (c : BlockCopy), s.running = true → (s.spindle i).copies.find? (·.num == num) = some c →
    (s.ordHeld i c.id c.ord = false →
    (c.global = true → c.waiting = 0 → ∃ t, exec (.blockCopyComplete i num) s = .next t ∧ t = { s with spn := t.spn }
        ∧ (t.spindle i) = { s.spindle i with copies := (s.spindle i).copies.filter (·.num != num) })
    ∧ (c.global = true → c.waiting ≠ 0 → exec (.blockCopyComplete i num) s = .next s)
    ∧ (c.global = false → s.memAvail c.addr c.size = false → exec (.blockCopyComplete i num) s = .next s)
    ∧ (∀ u, c.global = false → s.memAvail c.addr c.size = true → c.toBowl = true → s.copyIn i c = (none, u) →
        ∃ t, exec (.blockCopyComplete i num) s = .next t ∧ t.mem = u.mem ∧ (t.spindle i).copies = (s.spindle i).copies.filter (·.num != num))
    ∧ (∀ ok u, c.global = false → s.memAvail c.addr c.size = true → c.toBowl = false →
        s.memWrite c.addr (s.bytes (bowlAddr i c.bowl) c.size) c.nal = (ok, u) →
        ∃ t, exec (.blockCopyComplete i num) s = .next t ∧ t.mem = u.mem ∧ (t.spindle i).copies = (s.spindle i).copies.filter (·.num != num)))

/-- Each atomic of enabled threads whose local addresses lie in DRAM, aligned to their width, adds a load in flight and one transaction for
each thread with the operands of that thread; one of another module's addresses adds a remote operation for each; a local address in a bowl or in control space faults with 0x08, a misaligned one with
0x06. At its home slice the operation answers the old value, and the memory holds the new one. A thread whose line failed is issued again once, and a second failure faults with 0x0A.
Completion: under the conditions on the state and the operands that its clauses name, exec answers a next state with the own effect of aadd, amax,
aswap, acas, aadd64, acas64. -/
def Obligations.SpindleAtomics : Prop :=
  (∀ e ∈ [(Instr.aadd, SpnOp.aadd, AtomicOp.add32), (Instr.amax, .amax, .max32), (Instr.aswap, .aswap, .swap32), (Instr.acas, .acas, .cas32),
        (Instr.aadd64, .aadd64, .add64), (Instr.acas64, .acas64, .cas64)],
      ∀ (i : Fin 288) (g : Fin 256) (s : State) (x : Gang) (word : Nat) (w : IWord),
    let k := atomicWidth e.2.2
    let addr := fun th => x.pair th w.src1
    let val := fun th n => if k = 8 then x.pair th n else x.reg th n
    let num := (s.spindle i).nextNum
    Poised s i g e.2.1 x word w →
    (w.imm % 2 = 1 → x.enabled w ≠ [] → s.loadRoom i x ((x.enabled w).map fun th => (true, addr th)) = true →
        (∀ th ∈ x.enabled w, s.globalFault 1 (addr th) true = none ∧ addr th % k = 0 ∧ s.isOwn (addr th) = false) →
      ∃ t z l, exec (e.1 i g) s = .next t ∧ MemSame s t ∧ GangOnly i g s t ∧ At t i g x (x.pc + 1) ∧ t.gang i g = some z ∧ z.loads = x.loads ++ [l]
        ∧ l.num = num ∧ l.dst = w.dst ∧ l.atomic = some e.2.2 ∧ l.results = (x.enabled w).map (fun th => (th, .waiting))
        ∧ t.rtr.ops.length = s.rtr.ops.length + (x.enabled w).length)
    ∧ (w.imm % 2 = 0 →
    (x.enabled w ≠ [] → (∀ th ∈ x.enabled w, addr th < dramEnd ∧ addr th % k = 0) →
      s.loadRoom i x ((x.enabled w).map fun th => (false, addr th)) = true →
      ∃ t z l, exec (e.1 i g) s = .next t ∧ MemSame s t ∧ GangOnly i g s t ∧ At t i g x (x.pc + 1) ∧ t.gang i g = some z ∧ z.loads = x.loads ++ [l]
        ∧ l.num = num ∧ l.dst = w.dst ∧ l.pair = decide (k = 8) ∧ l.atomic = some e.2.2 ∧ l.results = (x.enabled w).map (fun th => (th, .waiting))
        ∧ t.lm.txns.map (fun y => (y.owner, y.addr, y.op)) = s.lm.txns.map (fun y => (y.owner, y.addr, y.op))
            ++ (x.enabled w).map (fun th => (TxnOwner.load i g num th, addr th, TxnOp.atomic e.2.2 (val th w.src2) (val th w.src3))))
    ∧ (∀ th rest, x.enabled w = th :: rest → addr th < 2 ^ 43 → addr th % k ≠ 0 → exec (e.1 i g) s = .next (s.keeping (s.spnFault i g 0x06 0 (addr th) x.pc)))
    ∧ (∀ th rest, x.enabled w = th :: rest → addr th % k = 0 → ((∃ m o, placeOf (addr th) = .bowl m o) ∨ placeOf (addr th) = .control) →
        exec (e.1 i g) s = .next (s.keeping (s.spnFault i g 0x08 0 (addr th) x.pc)))))
  ∧ (∀ (op : AtomicOp) (a p q : Nat) (s u : State) (d : List Byte), a % atomicWidth op = 0 → s.lineRead (lineOf a) false = (some d, u) →
    (s.lineAtomic a op p q).1 = some (s.num a (atomicWidth op))
    ∧ (s.lineAtomic a op p q).2.num a (atomicWidth op) = atomicNew op (s.num a (atomicWidth op)) p q
    ∧ ∀ b, b < a ∨ a + atomicWidth op ≤ b → (s.lineAtomic a op p q).2.byte b = s.byte b)
  ∧ ∀ (i : Fin 288) (g : Fin 256) (s : State) (x : Gang) (l : PendingLoad) (op : AtomicOp), s.running = true → s.gang i g = some x →
    (x.loads.find? fun l => l.results.any fun r => r.2.isFailed) = some l → l.atomic = some op →
    exec (.replay i g) s = .next (s.keeping (s.replayAtomic i g l op))
    ∧ (∀ th a glob p q, l.results.find? (fun r => r.2.isFailed) = some (th, .failed) → l.args = [(th, a, glob, p, q)] →
      (l.replayed = true → s.replayAtomic i g l op = (s.replayEnd i false).spnFault i g 0x0a 4 a l.pc)
      ∧ (l.replayed = false → glob = false →
          (s.replayAtomic i g l op).lm.txns.map (fun y => (y.owner, y.addr, y.op)) = s.lm.txns.map (fun y => (y.owner, y.addr, y.op))
            ++ [(TxnOwner.load i g l.num th, gLocal a, TxnOp.atomic op p q)]))

/-- With a slot that has a block scale and an aligned offset in the bowl: PACK writes the record of the enabled threads' values, 0 for the
others, to the 64 bytes at SRC2 and no other byte; UNPACK gives each enabled thread its element of the record, as the stores that the gang holds leave it, times its block scale.
A slot that is empty faults with 0x03, one with no block scale with 0x04 (the model's choice, log 21), an offset that is not aligned with 0x06, one past the bowl with 0x05.
Completion: under the conditions on the state and the operands that its clauses name, exec answers a next state with the own effect of pack, unpack. -/
def Obligations.SpindleConversions : Prop :=
  ∀ (i : Fin 288) (g : Fin 256) (s : State) (x : Gang) (word : Nat) (w : IWord),
    let off := x.reg (x.lead w) w.src2
    (∀ f, s.fmtSlot i w.fslot = some f → f.wscale ≠ 0 → off % 64 = 0 → off + 64 ≤ bowlBytes → x.enabled w ≠ [] →
      s.bowlWait i x.gang (bowlAddr i off) 64 = false →
      (Poised s i g .pack x word w → w.gb = false →
        ∃ t, exec (.pack i g) s = .next t ∧ At t i g x (x.pc + 1) ∧ GangOnly i g s t ∧ t = { s with spn := t.spn, mem := t.mem }
          ∧ t.bytes (bowlAddr i off) 64 = packRecord f.wfmt f.wscale ((List.range 32).map fun th =>
              if th ∈ x.enabled w then f32 (x.reg th w.src1) else .fin false 0 1)
          ∧ ∀ a, a < bowlAddr i off ∨ bowlAddr i off + 64 ≤ a → t.byte a = s.byte a)
      ∧ (Poised s i g .unpack x word w → w.gb = false →
        ∃ t z, exec (.unpack i g) s = .next t ∧ t.gang i g = some z ∧ z.pc = x.pc + 1 ∧ GangOnly i g s t ∧ MemSame s t
          ∧ (∀ th n, n < 128 → z.reg th n = if th ∈ x.enabled w ∧ n = w.dst
              then unpackElem f.wfmt f.wscale (s.heldOver x (bowlAddr i off) (s.bytes (bowlAddr i off) 64)) th % 2 ^ 32 else x.reg th n)
          ∧ RegsBut [] s t))
    ∧ ∀ e ∈ [(Instr.pack i g, SpnOp.pack), (.unpack i g, .unpack)], Poised s i g e.2 x word w → x.enabled w ≠ [] →
      (s.fmtSlot i w.fslot = none → exec e.1 s = .next (s.keeping (s.spnFault i g 0x03 0 0 x.pc)))
      ∧ (∀ f, s.fmtSlot i w.fslot = some f → f.wscale = 0 → exec e.1 s = .next (s.keeping (s.spnFault i g 0x04 0 0 x.pc)))
      ∧ (∀ f, s.fmtSlot i w.fslot = some f → f.wscale ≠ 0 → bowlBytes < off + 64 → exec e.1 s = .next (s.keeping (s.spnFault i g 0x05 0 (bowlAddr i off) x.pc)))
      ∧ (∀ f, s.fmtSlot i w.fslot = some f → f.wscale ≠ 0 → off + 64 ≤ bowlBytes → off % 64 ≠ 0 →
          exec e.1 s = .next (s.keeping (s.spnFault i g 0x06 0 (bowlAddr i off) x.pc)))

/-- With its slot and operands in order, fewer than 4 queued, and no block copy of the gang still to come to the bowl bytes that it names, a tensor instruction goes to the end of the queue with the operands it
has at issue, and the gang goes on; with 4 queued it waits. Completion takes the oldest: TZERO clears its accumulator and no other, TSTORE
writes 4,096 elements to the bowl, TMMA and TMV add the products of their operands to their rows of the accumulator, or fault with 0x0A
where a line of DRAM fails twice.
Completion: under the conditions on the state and the operands that its clauses name, exec answers a next state with the own effect of tmma, tmv,
tzero, tstore, tensorInstructionComplete. -/
def Obligations.TensorEngine : Prop :=
  (∀ (i : Fin 288) (g : Fin 256) (s : State) (x : Gang) (word : Nat) (w : IWord) (f : FmtSlot),
    let q := (s.spindle i).tensorQ
    let l := x.lead w
    let k := 64 * (bits w.imm 4 6 + 1)
    x.enabled w ≠ [] → x.held = [] → x.loads = [] → GoesOn s x → s.fmtSlot i w.fslot = some f → f.afmt ≠ 0 → f.wfmt ≠ 0 → q.length < 4 →
    (∀ e ∈ [(Instr.tmma i g, SpnOp.tmma, 0, 64), (.tmv i g, .tmv, 1, 1)], Poised s i g e.2.1 x word w → (f.wfmt = 10 → k % 320 = 0) →
      x.pair l w.src2 % 64 = 0 → (scaleBytes f k ≠ 0 → x.pair l w.src3 % 16 = 0) → x.reg l w.src1 + e.2.2.2 * k * (fmtWidth f.afmt / 8) ≤ bowlBytes →
      (let dram := w.imm.testBit 2
       let top := if dram then dramEnd else bowlBytes
       x.pair l w.src2 + weightBytes f.wfmt k ≤ top ∧ x.pair l w.src2 < top
       ∧ (scaleBytes f k ≠ 0 → x.pair l w.src3 + scaleBytes f k ≤ top ∧ x.pair l w.src3 < top)) →
      (∀ c ∈ (s.spindle i).copies, c.gang ≠ x.gang ∨ (rangesMeet (x.reg l w.src1, e.2.2.2 * k * (fmtWidth f.afmt / 8)) (c.bowl, c.size) = false
        ∧ (w.imm.testBit 2 = true ∨ (rangesMeet (x.pair l w.src2, weightBytes f.wfmt k) (c.bowl, c.size) = false
            ∧ (scaleBytes f k = 0 ∨ rangesMeet (x.pair l w.src3, scaleBytes f k) (c.bowl, c.size) = false))))) →
      ∃ t o, exec e.1 s = .next t ∧ At t i g x (x.pc + 1) ∧ (t.spindle i).tensorQ = q ++ [o] ∧ MemSame s t ∧ (t.spindle i).acc = (s.spindle i).acc
        ∧ o.gang = x.gang ∧ o.pc = x.pc ∧ o.kind = e.2.2.1 ∧ o.acc = w.imm % 4 ∧ o.slot = f ∧ o.aOff = x.reg l w.src1
        ∧ o.wAddr = x.pair l w.src2 ∧ o.sAddr = x.pair l w.src3 ∧ o.k = k ∧ o.fromDram = w.imm.testBit 2)
    ∧ (Poised s i g .tzero x word w →
      ∃ t o, exec (.tzero i g) s = .next t ∧ At t i g x (x.pc + 1) ∧ (t.spindle i).tensorQ = q ++ [o] ∧ MemSame s t ∧ o.kind = 2 ∧ o.acc = w.imm % 4)
    ∧ (Poised s i g .tstore x word w → x.reg l w.src1 + 4096 * (fmtWidth (w.imm / 256) / 8) ≤ bowlBytes →
      (∀ c ∈ (s.spindle i).copies, c.gang ≠ x.gang ∨ rangesMeet (x.reg l w.src1, 4096 * (fmtWidth (w.imm / 256) / 8)) (c.bowl, c.size) = false) →
      ∃ t o, exec (.tstore i g) s = .next t ∧ At t i g x (x.pc + 1) ∧ (t.spindle i).tensorQ = q ++ [o] ∧ MemSame s t ∧ o.kind = 3 ∧ o.acc = w.imm % 4
        ∧ o.aOff = x.reg l w.src1 ∧ o.scale = x.reg l w.src2 ∧ o.fmt = w.imm / 256))
  ∧ (∀ (i : Fin 288) (g : Fin 256) (s : State) (x : Gang) (word : Nat) (w : IWord) (f : FmtSlot), x.enabled w ≠ [] →
    s.fmtSlot i w.fslot = some f → f.afmt ≠ 0 → f.wfmt ≠ 0 → 4 ≤ (s.spindle i).tensorQ.length →
    ∀ e ∈ [(Instr.tmma i g, SpnOp.tmma), (.tmv i g, .tmv), (.tzero i g, .tzero), (.tstore i g, .tstore)], Poised s i g e.2 x word w →
      exec e.1 s = .next s)
  ∧ ∀ (i : Fin 288) (s : State), s.running = true →
    ((s.spindle i).tensorQ = [] → exec (.tensorInstructionComplete i) s = .next s)
    ∧ ∀ o rest, (s.spindle i).tensorQ = o :: rest →
      (o.kind = 2 → ∃ t, exec (.tensorInstructionComplete i) s = .next t ∧ t = { s with spn := t.spn }
          ∧ (t.spindle i) = { s.spindle i with tensorQ := rest, acc := (t.spindle i).acc }
          ∧ (∀ r c, r < 64 → c < 64 → accAt (t.spindle i).acc o.acc r c = 0)
          ∧ ∀ b r c, b ≠ o.acc → r < 64 → c < 64 → accAt (t.spindle i).acc b r c = accAt (s.spindle i).acc b r c)
      ∧ (o.kind = 3 → ∃ t, exec (.tensorInstructionComplete i) s = .next t ∧ t = { s with spn := t.spn, mem := t.mem }
          ∧ (t.spindle i) = { s.spindle i with tensorQ := rest }
          ∧ (∀ e, e < 4096 → t.num (bowlAddr i o.aOff + e * (fmtWidth o.fmt / 8)) (fmtWidth o.fmt / 8)
              = encodeFmt o.fmt (f32 (fp32.encode (FVal.mul
                  (if 8 ≤ o.slot.wfmt then FVal.ofInt (signed 32 (accAt (s.spindle i).acc o.acc (e / 64) (e % 64)))
                   else f32 (accAt (s.spindle i).acc o.acc (e / 64) (e % 64))) (f32 o.scale)))) % 2 ^ (8 * (fmtWidth o.fmt / 8)))
          ∧ ∀ a, a < bowlAddr i o.aOff ∨ bowlAddr i o.aOff + 4096 * (fmtWidth o.fmt / 8) ≤ a → t.byte a = s.byte a)
      ∧ (∀ n, n < 2 → o.kind = n → o.fromDram = false →
          ∃ t, exec (.tensorInstructionComplete i) s = .next t ∧ (t.spindle i).tensorQ = rest ∧ MemSame s t
            ∧ (t.spindle i).acc = ((s.tensorMul i o (if n = 0 then 64 else 1) (o.ranges.flatMap fun x => s.bytes (bowlAddr i x.1) x.2)).spindle i).acc)
      ∧ (∀ n l u, n < 2 → o.kind = n → o.fromDram = true → (o.ranges.all fun r => s.memAvail r.1 r.2) = true → s.tileRead i o.ranges o.early = (.ok l, u) →
          ∃ t, exec (.tensorInstructionComplete i) s = .next t ∧ (t.spindle i).tensorQ = rest ∧ MemSame s t
            ∧ (t.spindle i).acc = ((u.tensorMul i o (if n = 0 then 64 else 1) l).spindle i).acc)
      ∧ (∀ n a u, n < 2 → o.kind = n → o.fromDram = true → (o.ranges.all fun r => s.memAvail r.1 r.2) = true → s.tileRead i o.ranges o.early = (.error a, u) →
          exec (.tensorInstructionComplete i) s
            = .next (s.keeping ((u.updSpindle i fun y => { y with tensorQ := rest }).engineFault i o.gang 0x0a 1 a o.pc)))

/-- A gang that issues BAR, RED or REDV waits there. When every gang of the set's instance has arrived at the same collective: a barrier
whose fabric time has come, with no swap or circuit start due by then still to take place, advances EPOCH of every member spindle and lets every gang go on; a reduction gives its lane's result to every enabled thread of every gang; a vector reduction
writes its result to the reduction buffers. Until all have arrived nothing happens. FENCE waits for the gang's own stores, copies and
remote operations.
Completion: under the conditions on the state and the operands that its clauses name, exec answers a next state with the own effect of bar, red, redv,
fenceI, barRelease, redResult, redvResult. -/
def Obligations.Collectives : Prop :=
  (∀ (i : Fin 288) (g : Fin 256) (s : State) (x : Gang) (word : Nat) (w : IWord), GoesOn s x →
    (Poised s i g .bar x word w → x.enabled w ≠ [] → ∃ t z, exec (.bar i g) s = .next t ∧ At t i g x (x.pc + 1) ∧ t.gang i g = some z ∧ GangOnly i g s t ∧ MemSame s t
        ∧ z.wait = .bar (if w.imm.testBit 0 then some (x.pair (x.lead w) w.src1) else none)
        ∧ RegsOnly [Reg.FTU_STATUS] s { t with spn := s.spn }
        ∧ (w.imm.testBit 0 = true → x.pair (x.lead w) w.src1 < s.ft → t.flag Reg.FTU_STATUS_LATE = true))
    ∧ (Poised s i g .red x word w → ∃ t z, exec (.red i g) s = .next t ∧ At t i g x (x.pc + 1) ∧ t.gang i g = some z ∧ GangOnly i g s t
        ∧ t = { s with spn := t.spn } ∧ z.wait = .red (w.imm % 16) w.dst w.src1 (x.enabled w))
    ∧ (∀ p, Poised s i g .redv x word w → x.enabled w ≠ [] → s.bowlPart i 4 = some p →
        let off := x.reg (x.lead w) w.src1
        let n := x.reg (x.lead w) w.src3
        (off + 4 * n ≤ bowlBytes → 4 * n ≤ p.2 → s.bowlBusy i x.gang true (off, 4 * n) = false → ∃ t z, exec (.redv i g) s = .next t ∧ At t i g x (x.pc + 1) ∧ t.gang i g = some z ∧ t = { s with spn := t.spn }
          ∧ z.wait = .redv (w.imm % 16) off n)
        ∧ (off + 4 * n ≤ bowlBytes → p.2 < 4 * n → exec (.redv i g) s = .next (s.keeping (s.spnFault i g 0x0b 0 0 x.pc))))
    ∧ (Poised s i g .fenceI x word w → x.enabled w ≠ [] → x.held = [] → x.loads = [] →
        let own := fun (o : RemoteOwner) => (∃ pc, o = .store i x.gang pc) ∨ ∃ n th, o = .load i x.gang n th
        let ownTxn := fun (o : TxnOwner) => (∃ pc, o = .store i x.gang pc) ∨ ∃ n th, o = .load i x.gang n th
        let copies := (s.spindle i).copies.filter (·.gang == x.gang)
        ((∀ y ∈ s.lm.txns, ¬ ownTxn y.owner) → (∀ y ∈ s.rtr.ops, ¬ own y.owner) → copies = [] →
          ∃ t, exec (.fenceI i g) s = .next t ∧ At t i g x (x.pc + 1) ∧ GangOnly i g s t ∧ MemSame s t)
        ∧ ((∃ y ∈ s.lm.txns, ownTxn y.owner) ∨ (∃ y ∈ s.rtr.ops, own y.owner) ∨ copies ≠ [] → exec (.fenceI i g) s = .next s)))
  ∧ ∀ (set : Fin 36) (s : State) (n : Inst), s.running = true → s.inst set = some n → n.stopping = false →
    (s.allArrived set = false → ∀ c ∈ [Instr.barRelease set, .redResult set, .redvResult set], exec c s = .next s)
    ∧ (s.allArrived set = true → s.mismatched set = true → ∀ c ∈ [Instr.barRelease set, .redResult set, .redvResult set],
        ∃ t, exec c s = .next t ∧ t = s.keeping (s.mismatch set)
          ∧ ∀ k ∈ s.spindlesOf set, t.get (Reg.SPN_SET_EPOCH k) = (s.get (Reg.SPN_SET_EPOCH k) + 1) % 2 ^ (Reg.SPN_SET_EPOCH k).width)
    ∧ (s.allArrived set = true → s.mismatched set = false → n.request.isSome = true → s.prefixHolds set = false →
        (∀ p ∈ s.setGangs set, ∃ tm, p.2.wait = .bar tm ∧ ∀ v, tm = some v → v ≤ s.ft) →
        (∀ v, s.barArmed set = some v → s.swapDue v = false ∧ s.startDue v = false) →
        ∃ t, exec (.barRelease set) s = .next t
          ∧ (∀ k ∈ s.spindlesOf set, t.get (Reg.SPN_SET_EPOCH k) = (s.get (Reg.SPN_SET_EPOCH k) + 1) % 2 ^ (Reg.SPN_SET_EPOCH k).width)
          ∧ (∀ p ∈ s.setGangs set, s.gang p.1 p.2.gang = some p.2 → ∃ z, t.gang p.1 p.2.gang = some z ∧ z.wait = .running ∧ z.regs = p.2.regs ∧ z.pc = p.2.pc)
          ∧ (∀ k, k ∉ s.spindlesOf set → t.spindle k = s.spindle k))
    ∧ (s.allArrived set = true → s.mismatched set = false → (∀ p ∈ s.setGangs set, ∃ op dst src ts, p.2.wait = .red op dst src ts) →
        (∀ k, ((s.spindle k).gangs.map (·.gang)).Nodup) →
        ∃ t, exec (.redResult set) s = .next t ∧ (∀ k, k ∉ s.spindlesOf set → t.spindle k = s.spindle k)
          ∧ ∀ p ∈ s.setGangs set, ∀ op dst src ts, p.2.wait = .red op dst src ts → s.gang p.1 p.2.gang = some p.2 →
              ∃ z, t.gang p.1 p.2.gang = some z ∧ z.wait = .running ∧ z.pc = p.2.pc
                ∧ ∀ th n, n < 128 → dst < 128 → (op = 5 → dst < 127) → th < 32 → z.reg th n =
                    if th ∈ ts ∧ n = dst then s.redLane set th % 2 ^ 32
                    else if th ∈ ts ∧ op = 5 ∧ n = dst + 1 then s.redLane set th / 2 ^ 32 % 2 ^ 32 else p.2.reg th n)
    ∧ (∀ p rest, s.setGangs set = p :: rest → ∀ op off len, p.2.wait = .redv op off len → s.allArrived set = true → s.mismatched set = false →
        exec (.redvResult set) s = .next (s.keeping (s.redvComplete set op len))
        ∧ (len % 64 = 0 → 0 < len → len ≤ 4096 → (∀ q ∈ s.setGangs set, q.2.held = []) →
            (∀ k ∈ s.spindlesOf set, ∀ b, s.bowlPart k 4 = some b → b.1 + 4 * len ≤ bowlBytes) →
            ∀ k ∈ s.spindlesOf set, ∀ b, s.bowlPart k 4 = some b → ∀ e, e < len →
              (s.redvComplete set op len).num (bowlAddr k b.1 + 4 * e) 4
                = combine op (s.groupsOf set) (((s.spindlesOf set).filterMap fun j => (s.redvSource set j).map fun o => bowlAddr j o).map
                    fun a => s.num (a + 4 * e) 4) % 2 ^ 32))

/-- GSUM and GSEL with an aligned descriptor in the bowl go to the end of their lathe group's queue while it holds fewer than three and the spindle's tensor queue is not full (R91), take the descriptor as it
stands, and the gang waits for the gouge. The executing instruction's completion gives the status word to every enabled thread and
lets the gang go on: a descriptor with an error gives the error and ERR and enters it in LASTERR; a dense selection gives the number of blocks and
reads nothing; every other ends as gougeRun ends, and one whose gang has gone only leaves the queue.
Completion: under the conditions on the state and the operands that its clauses name, exec answers a next state with the own effect of gsum, gsel,
gougeInstructionComplete. -/
def Obligations.Gouge : Prop :=
  (∀ (i : Fin 288) (g : Fin 256) (s : State) (x : Gang) (word : Nat) (w : IWord) (f : FmtSlot),
    let off := x.reg (x.lead w) w.src1
    let q := alGet [] s.gge (i.val / 8)
    ∀ e ∈ [(Instr.gsum i g, SpnOp.gsum, false), (.gsel i g, .gsel, true)], Poised s i g e.2.1 x word w → x.enabled w ≠ [] → s.fmtSlot i w.fslot = some f →
    (off % 64 = 0 → off + 64 ≤ bowlBytes → q.length < 3 → s.tensorFull i = false → s.bowlBusy i x.gang true (off, 64) = false →
      ∃ t z o, exec e.1 s = .next t ∧ At t i g x (x.pc + 1) ∧ t.gang i g = some z ∧ z.wait = .unit ∧ t = { s with spn := t.spn, gge := t.gge }
        ∧ (alGet [] t.gge (i.val / 8)).length = q.length + 1 ∧ (alGet [] t.gge (i.val / 8)).getLast? = some o
        ∧ o.spindle = i ∧ o.gang = x.gang ∧ o.pc = x.pc ∧ o.select = e.2.2 ∧ o.fslot = w.fslot ∧ o.dst = w.dst ∧ o.enabled = x.enabled w
        ∧ o.descBytes = s.bytes (bowlAddr i off) 64
        ∧ (q = [] → o.begun = some (s.get (Reg.GGE_CTL_KCAP (i.val / 8)), s.flag (Reg.GGE_CTL_FORCE_DENSE (i.val / 8)))))
    ∧ (off % 64 = 0 → off + 64 ≤ bowlBytes → (3 ≤ q.length ∨ s.tensorFull i = true) → exec e.1 s = .next s)
    ∧ (s.tensorFull i = false → off + 64 ≤ bowlBytes → off % 64 ≠ 0 → exec e.1 s = .next (s.keeping (s.spnFault i g 0x06 0 (bowlAddr i off) x.pc))))
  ∧ ∀ (lathe : Fin 36) (s : State) (o : GougeOp) (rest : List GougeOp) (x : Gang) (f : FmtSlot), s.running = true →
    alGet [] s.gge lathe.val = o :: rest →
    (s.gang o.spindle o.gang = none → ∃ t, exec (.gougeInstructionComplete lathe) s = .next t ∧ t = { s with gge := t.gge }
        ∧ (alGet [] t.gge lathe.val).length = rest.length)
    ∧ (s.gang o.spindle o.gang = some x → s.fmtSlot o.spindle o.fslot = some f → x.pc = o.pc + 1 → x.wait = .unit → o.spindle < 288 → o.dst < 128 →
      GoesOn s x →
      let d := selDescOf o.descBytes
      (∀ count dense err u, s.gougeRun o f = (.status count dense err, u) →
        (d.error f.afmt ≠ 0 ∨ (o.select = true ∧ o.dense d = true) ∨ ((List.range 4).all s.pierUp = true ∧ ∀ y ∈ s.lm.txns, y.stage ≠ .reread)) →
        ∃ t z, exec (.gougeInstructionComplete lathe) s = .next t ∧ t.gang o.spindle o.gang = some z ∧ z.wait = .running ∧ z.pc = x.pc
          ∧ (x.held = [] → t.mem = u.mem)
          ∧ (∀ th n, n < 128 → z.reg th n = if th ∈ o.enabled ∧ n = o.dst
              then (count % 2 ^ 20 + 2 ^ 20 * bit dense + 2 ^ 24 * err + (if err = 0 then 0 else 2 ^ 31)) % 2 ^ 32 else x.reg th n)
          ∧ (alGet [] t.gge lathe.val).length = rest.length
          ∧ (err ≠ 0 → t.get (Reg.GGE_STATUS_LASTERR lathe) = err % 2 ^ (Reg.GGE_STATUS_LASTERR lathe).width))
      ∧ (d.error f.afmt ≠ 0 → s.gougeRun o f = (.status 0 o.select (d.error f.afmt), s))
      ∧ (o.select = true → d.error f.afmt = 0 → o.dense d = true → s.gougeRun o f = (.status ((d.ntok + 63) / 64) true 0, s)))

/-- EMIT appends its token to the request and gives its status word; with no request, or one that has ended, SAMPLE and EMIT append nothing and give
a STOP status with the reason (its TOKEN is free, log 1). SAMPLE of logits that lie in DRAM waits for their read; one with no logits, or more than 1,048,576, ends
the request with code 0x0F. The logits read, the drawn token is appended. KVB gives the block's address, all ones when there is none.
Completion: under the conditions on the state and the operands that its clauses name, exec answers a next state with the own effect of sample, emit,
kvb, sampleLogitsRead. -/
def Obligations.ServiceInstructions : Prop :=
  (∀ (i : Fin 288) (g : Fin 256) (s : State) (x : Gang) (word : Nat) (w : IWord), x.enabled w ≠ [] → x.held = [] → x.loads = [] → GoesOn s x →
    (∀ e ∈ [(Instr.sample i g, SpnOp.sample), (.emit i g, .emit)], Poised s i g e.2 x word w → s.svcRequest x.set w = none →
      ∃ t z, exec e.1 s = .next t ∧ t.gang i g = some z ∧ z.pc = x.pc + 1 ∧ t.hds = s.hds ∧ MemSame s t ∧ t.free = s.free + 1
        ∧ ∀ th n, n < 128 → z.reg th n = if th ∈ x.enabled w ∧ n = w.dst
            then (Config.freeNat s.free % 2 ^ 20 + 6 * 2 ^ 24 + 2 ^ 31) % 2 ^ 32 else x.reg th n)
    ∧ (∀ h reason, ∀ e ∈ [(Instr.sample i g, SpnOp.sample), (.emit i g, .emit)], Poised s i g e.2 x word w → s.svcRequest x.set w = some h →
      s.endReason h = some reason → reason ≠ 0 →
      ∃ t z, exec e.1 s = .next t ∧ t.gang i g = some z ∧ z.pc = x.pc + 1 ∧ MemSame s t ∧ t.hds = (s.reportStop h).hds
        ∧ ∀ th n, n < 128 → z.reg th n = if th ∈ x.enabled w ∧ n = w.dst
            then (Config.freeNat s.free % 2 ^ 20 + reason * 2 ^ 24 + 2 ^ 31) % 2 ^ 32 else x.reg th n)
    ∧ (∀ h, Poised s i g .emit x word w → s.svcRequest x.set w = some h → s.endReason h = none → s.tokenBlocked h = false →
      GoesOn (s.appendToken h (x.reg (x.lead w) w.src1 % 2 ^ 20)).2 x →
      let r := s.appendToken h (x.reg (x.lead w) w.src1 % 2 ^ 20)
      ∃ t z, exec (.emit i g) s = .next t ∧ t.gang i g = some z ∧ z.pc = x.pc + 1 ∧ t.mem = r.2.mem ∧ t.hds = r.2.hds
        ∧ ∀ th n, n < 128 → z.reg th n = if th ∈ x.enabled w ∧ n = w.dst then r.1 % 2 ^ 32 else x.reg th n)
    ∧ (∀ h, Poised s i g .sample x word w → s.svcRequest x.set w = some h → s.endReason h = none → s.tokenBlocked h = false →
      let a := x.pair (x.lead w) w.src1
      let v := x.reg (x.lead w) w.src2
      (v ≠ 0 → v ≤ 1048576 → a % 64 = 0 → a + 4 * v ≤ dramEnd →
        ∃ t z o, exec (.sample i g) s = .next t ∧ t = { s with spn := t.spn, hds := t.hds } ∧ t.hds = { s.hds with samples := s.hds.samples ++ [o] }
          ∧ t.gang i g = some z ∧ z.wait = .unit ∧ At t i g x (x.pc + 1)
          ∧ o.spindle = i ∧ o.gang = x.gang ∧ o.handle = h ∧ o.addr = a ∧ o.v = v ∧ o.dst = w.dst ∧ o.enabled = x.enabled w)
      ∧ ((v = 0 ∨ 1048576 < v) → ∃ t z, exec (.sample i g) s = .next t ∧ t.gang i g = some z ∧ z.pc = x.pc + 1 ∧ MemSame s t
          ∧ t.hds = ((s.endCause h 0x0f 0 5).reportStop h).hds)
      ∧ (v ≠ 0 → v ≤ 1048576 → a % 64 ≠ 0 → exec (.sample i g) s = .next (s.keeping (s.spnFault i g 0x06 0 a x.pc))))
    ∧ (Poised s i g .kvb x word w →
      let r := match s.svcRequest x.set w with
        | none => (2 ^ 64 - 1, s)
        | some h => s.kvBlock h (x.reg (x.lead w) w.src1)
      ∃ t z, exec (.kvb i g) s = .next t ∧ t.gang i g = some z ∧ z.pc = x.pc + 1 ∧ t.mem = r.2.mem ∧ t.hds = r.2.hds
        ∧ ∀ th n, n < 128 → z.reg th n = if th ∈ x.enabled w ∧ n = w.dst then r.1 % 2 ^ 32
            else if th ∈ x.enabled w ∧ n = w.dst + 1 then r.1 / 2 ^ 32 % 2 ^ 32 else x.reg th n))
  ∧ ∀ (i : Fin 288) (g : Fin 256) (s : State), s.running = true →
    ∀ o, (s.hds.samples.find? fun o => o.spindle == i.val && o.gang == g.val) = some o → s.memAvail o.addr (4 * o.v) = true →
    ∀ x, s.gang i g = some x → x.wait = .unit → x.held = [] → GoesOn s x → o.dst < 128 → s.endReason o.handle = none →
    let s1 := ({ s with hds := { s.hds with samples := s.hds.samples.filter (· != o) } } : State).updGang i g fun y => { y with wait := .running }
    ∀ d u, s1.sampleRead i o.addr (4 * o.v) = (.ok d, u) → ∀ r, u.req o.handle = some r →
    ∀ tok, drawToken u.free r.entry ((List.range o.v).map fun k => leAt d (4 * k) 4) = some tok → GoesOn ((u.drawnBy (2 + o.v)).appendToken o.handle tok).2 x →
      ∃ t z st v, exec (.sampleLogitsRead i g) s = .next t ∧ t.gang i g = some z ∧ z.wait = .running ∧ z.pc = x.pc
        ∧ (st, v) = (u.drawnBy (2 + o.v)).appendToken o.handle tok
        ∧ t.mem = v.mem ∧ t.hds = v.hds
        ∧ ∀ th n, n < 128 → z.reg th n = if th ∈ o.enabled ∧ n = o.dst then st % 2 ^ 32 else x.reg th n

/-- One thread of the load `num` of a gang has its result; nothing else of the gang has changed. -/
def Sys2Proof.Machine.LoadHas (i g num th : Nat) (r : LoadResult) (s t : State) : Prop :=
  ∀ x, s.gang i g = some x → t.gang i g = some { x with
    loads := x.loads.map fun k => if k.num = num then { k with results := alSet k.results th r } else k }

/-- HOME_SLICE_ACCESS of a transaction that waits for none before it, whose line can be reached and finds a way where it allocates one. Where the slice holds the line, or
its DRAM write is pending: a read answers the coherent bytes, an atomic the old value with the new one stored, a write stores its bytes; the
transaction is gone, and no byte outside the stored ones changes. Otherwise a read or an atomic goes to the DRAM stage and a write to the merge stage. A
transaction that must wait is left as it is.
Completion: under the conditions on the state and the operands that its clauses name, exec answers a next state with the own effect of
homeSliceAccess. -/
def Obligations.HomeSlice : Prop :=
  ∀ (id : Nat) (ecc : Fin 3) (s : State) (y : Txn), s.running = true → s.txn id = some y →
    let l := lineOf y.addr
    ((y.stage ≠ .atSlice ∨ s.txnHeld y = true ∨ s.lineUp l = false ∨ s.txnFits y = false) → exec (.homeSliceAccess id ecc) s = .next s)
    ∧ (y.stage = .atSlice → s.txnHeld y = false → s.lineUp l = true → s.txnFits y = true →
      ((ecc.val < 2 ∧ s.cached l = true) ∨ s.writePending l = true →
        (∀ n, y.op = .read n → y.addr % 64 + n ≤ 64 → ∀ i g num th, y.owner = .load i g num th →
          ∃ t, exec (.homeSliceAccess id ecc) s = .next t ∧ MemSame s t ∧ t.txn id = none
            ∧ LoadHas i g num th (.value (leNat (s.bytes y.addr n))) s t ∧ t.hds = s.hds ∧ t.rtr = s.rtr)
        ∧ (∀ op p q, y.op = .atomic op p q → y.addr % 64 + atomicWidth op ≤ 64 → ∀ i g num th, y.owner = .load i g num th →
          ∃ t, exec (.homeSliceAccess id ecc) s = .next t ∧ t.txn id = none
            ∧ LoadHas i g num th (.value (s.num y.addr (atomicWidth op))) s t
            ∧ t.num y.addr (atomicWidth op) = atomicNew op (s.num y.addr (atomicWidth op)) p q
            ∧ (∀ a, a < y.addr ∨ y.addr + atomicWidth op ≤ a → t.byte a = s.byte a) ∧ t.writePending l = true)
        ∧ (∀ d, y.op = .write d → ∀ i g pc, y.owner = .store i g pc →
          ∃ t, exec (.homeSliceAccess id ecc) s = .next t ∧ t.txn id = none
            ∧ (∀ k (h : k < d.length), t.byte (y.addr + k) = d[k])
            ∧ (∀ a, a < y.addr ∨ y.addr + d.length ≤ a → t.byte a = s.byte a) ∧ t.writePending l = true ∧ t.spn = s.spn))
      ∧ ((ecc.val = 2 ∨ s.cached l = false) → s.writePending l = false → ((s.lcSet (lcPlace l)).ways.filter (Way.isLocal l)).length ≤ 1 →
        ∃ t, exec (.homeSliceAccess id ecc) s = .next t ∧ MemSame s t ∧ t.spn = s.spn ∧ t.cached l = false
          ∧ t.txn id = some { y with stage := (match y.op with | .write _ => .merge | _ => .dram), nal := y.nal && !s.cached l }
          ∧ (s.cached l = true → t.get (Reg.PIER_LC_ERR_UNCORR (pierOf l))
              = min (s.get (Reg.PIER_LC_ERR_UNCORR (pierOf l)) + 1) (2 ^ (Reg.PIER_LC_ERR_UNCORR (pierOf l)).width - 1))))

/-- A read of DRAM that the bank serves next and whose check passes delivers the line's bytes to its thread; one that fails its check, or takes an
injection, is re-read; a re-read that passes is counted in REREAD_OK and delivers; one that fails too is counted in FAILED, recorded and
logged, and the thread has a failure. A partial write whose line the slice has by now, or one of whose up to three merge reads passes, stores its
bytes over the line as read; one whose three reads fail is dropped and counted in MERGEFAIL. While the pier cannot take transactions, calibration holds the line,
or another access comes first, nothing happens.
Completion: under the conditions on the state and the operands that its clauses name, exec answers a next state with the own effect of dramLineRead,
pierReread, partialWriteMerge. -/
def Obligations.DramAccesses : Prop :=
  ∀ (id : Nat) (s : State) (y : Txn), s.running = true → s.txn id = some y →
    let l := lineOf y.addr
    let p := pierOf l
    (∀ mask cmask masks, s.pierUp p = false → ∀ c ∈ [Instr.dramLineRead id mask cmask, .pierReread id mask cmask, .partialWriteMerge id masks],
      exec c s = .next s)
    ∧ (∀ mask cmask, y.stage = .dram → s.bankNext y = false ∨ s.txnFits y = false → exec (.dramLineRead id mask cmask) s = .next s)
    ∧ (∀ mask cmask, s.pierUp p = true → y.stage = .dram → s.bankNext y = true → s.txnFits y = true →
      let d := (s.dramFetch l cmask).dramRead l mask
      (∀ i g num th, y.owner = .load i g num th → d.2 = true → (s.txnInject y).1 = 0 → s.cached l = false → s.writePending l = false →
          ∀ n, y.op = .read n → y.addr % 64 + n ≤ 64 →
        ∃ t, exec (.dramLineRead id mask cmask) s = .next t ∧ t.txn id = none ∧ LoadHas i g num th (.value (leNat (slice d.1 (y.addr % 64) n))) s t
          ∧ (∀ a, lineOf a ≠ l → t.byte a = s.byte a) ∧ (mask = 0 → MemSame s t))
      ∧ (d.2 = false ∨ (s.txnInject y).1 ≠ 0 →
        ∃ t, exec (.dramLineRead id mask cmask) s = .next t ∧ MemSame s t ∧ (t.txn id).map (·.stage) = some .reread ∧ ∀ j h, t.gang j h = s.gang j h))
    ∧ (∀ mask cmask, s.pierUp p = true → s.linePaused l = false → y.stage = .reread → s.txnFits y = true →
      ∀ i g num th, y.owner = .load i g num th → i < 288 →
      let d := (s.dramAgain l cmask).dramRead l mask
      (d.2 = true → y.inject < 2 → s.cached l = false → s.writePending l = false → ∀ n, y.op = .read n → y.addr % 64 + n ≤ 64 →
        ∃ t, exec (.pierReread id mask cmask) s = .next t ∧ t.txn id = none ∧ LoadHas i g num th (.value (leNat (slice d.1 (y.addr % 64) n))) s t
          ∧ (∀ a, lineOf a ≠ l → t.byte a = s.byte a) ∧ (mask = 0 → MemSame s t)
          ∧ t.get (Reg.PIER_DET_REREAD_OK p) = min (s.get (Reg.PIER_DET_REREAD_OK p) + 1) (2 ^ (Reg.PIER_DET_REREAD_OK p).width - 1))
      ∧ (d.2 = false ∨ 2 ≤ y.inject →
        ∃ t, exec (.pierReread id mask cmask) s = .next t ∧ MemSame s t ∧ t.txn id = none ∧ LoadHas i g num th .failed s t
          ∧ t.get (Reg.PIER_DET_FAILED p) = min (s.get (Reg.PIER_DET_FAILED p) + 1) (2 ^ (Reg.PIER_DET_FAILED p).width - 1)
          ∧ t.get (Reg.PIER_DET_LAST_ADDR p) = 64 * l % 2 ^ (Reg.PIER_DET_LAST_ADDR p).width
          ∧ t.get (Reg.PIER_DET_LAST_CHAN p) = channelOf l % 2 ^ (Reg.PIER_DET_LAST_CHAN p).width ∧ t.flag (Reg.PIER_DET_LAST_VALID p) = true))
    ∧ (∀ masks d, s.pierUp p = true → s.linePaused l = false → y.stage = .merge → s.txnFits y = true → y.op = .write d → y.addr % 64 + d.length ≤ 64 →
      ∀ i g pc, y.owner = .store i g pc → i < 288 →
      let r := State.dramReads l (fun k => masks.getD k (0, 0)) 3 0 s
      (s.cached l = true ∨ s.writePending l = true →
        ∃ t, exec (.partialWriteMerge id masks) s = .next t ∧ t.txn id = none
          ∧ (∀ k (h : k < d.length), t.byte (y.addr + k) = d[k]) ∧ ∀ a, a < y.addr ∨ y.addr + d.length ≤ a → t.byte a = s.byte a)
      ∧ (s.cached l = false → s.writePending l = false → ∀ q, r.1 = some q →
        ∃ t, exec (.partialWriteMerge id masks) s = .next t ∧ t.txn id = none
          ∧ (∀ k (h : k < d.length), t.byte (y.addr + k) = d[k]) ∧ (∀ a, lineOf a ≠ l → t.byte a = s.byte a)
          ∧ ∀ a, lineOf a = l → a < y.addr ∨ y.addr + d.length ≤ a → t.byte a = q.getD (a % 64) 0)
      ∧ (s.cached l = false → s.writePending l = false → r.1 = none →
        ∃ t, exec (.partialWriteMerge id masks) s = .next t ∧ t = s.keeping ((r.2.2.sat (Reg.PIER_DET_MERGEFAIL p) 1).txnAnswer y 7 []) ∧ t.txn id = none
          ∧ t.get (Reg.PIER_DET_MERGEFAIL p) = min (s.get (Reg.PIER_DET_MERGEFAIL p) + 1) (2 ^ (Reg.PIER_DET_MERGEFAIL p).width - 1)))

/-- The pending write of a line goes to DRAM and leaves the write buffer; a code-buffer entry is written and clean 1 µs after it became dirty; a device's refresh rate
is taken from MR4, and refreshes are issued only out of self refresh; an initialise is refused once the jig is loaded, and gives a pier
whose every line is good and reads 0; read-only lines go with ROLFLUSH and with a lower ROLWAYS; a pier re-enters self
refresh in M2 after 100 µs without access.
Completion: under the conditions on the state and the operands that its clauses name, exec answers a next state with the own effect of
dramWriteComplete, codeBufferTimeout, mr4Readout, perBankRefresh, pierInitGo, pierInitDone, rolFlush, rolFlushDone, rolwaysWrite, selfRefreshReentry. -/
def Obligations.PierUpkeep : Prop :=
  (∀ (line : Nat) (s : State), s.running = true →
    (s.writePending line = true → s.pierUp (pierOf line) = true → s.linePaused line = false → s.bankUrgent line = false →
      ∃ t, exec (.dramWriteComplete line) s = .next t ∧ MemSame s t ∧ t.lm.wbuf = s.lm.wbuf.filter (· != line) ∧ t.writePending line = false
        ∧ t.lm.txns = s.lm.txns ∧ t.spn = s.spn)
    ∧ (s.writePending line = false ∨ s.pierUp (pierOf line) = false ∨ s.linePaused line = true ∨ s.bankUrgent line = true →
        exec (.dramWriteComplete line) s = .next s))
  ∧ (∀ (group : Nat) (s : State), s.running = true →
    let c := channelOf (group * 31)
    (∀ e, s.codeEntry (31 * group) = some e → s.now < e.dirtyAt + 1000 → exec (.codeBufferTimeout group) s = .next s)
    ∧ (∀ e, s.codeEntry (31 * group) = some e → e.written ≠ 0 → e.dirtyAt + 1000 ≤ s.now →
      ∃ t, exec (.codeBufferTimeout group) s = .next t ∧ Noted s { t with lm := s.lm } ∧ t.lm = { s.lm with code := t.lm.code }
        ∧ ∀ e' ∈ alGet [] t.lm.code c, e'.group = group → e'.written = 0))
  ∧ (∀ (ch : Fin 768) (s : State), s.running = true → s.pierUp (ch.val / 192) = true →
    (∀ code : Fin 256, ∃ t, exec (.mr4Readout ch code) s = .next t ∧ t = { s with lm := t.lm } ∧ alGet 0 t.lm.mr4 ch.val = code.val)
    ∧ (∀ bank : Fin 16, s.flag (Reg.PIER_STATUS_SREF (ch.val / 192)) = false →
        ∃ t, exec (.perBankRefresh ch bank) s = .next t ∧ Noted s { t with lm := s.lm }
          ∧ alGet 0 t.lm.refreshed (ch.val * 16 + bank.val) = alGet 0 s.lm.refreshed (ch.val * 16 + bank.val) + 1)
    ∧ (∀ bank : Fin 16, s.flag (Reg.PIER_STATUS_SREF (ch.val / 192)) = true → exec (.perBankRefresh ch bank) s = .next s))
  ∧ ∀ (p : Fin 4) (s : State), s.running = true →
    (s.reaches (Reg.PIER_INIT p) = true →
      (s.flag Reg.JIG_STATUS_LOADED = true → exec (.pierInitGo p) s = .next (s.keeping (s.occur 0x0502 p [])))
      ∧ (s.flag Reg.JIG_STATUS_LOADED = false → s.flag (Reg.PIER_STATUS_INITBUSY p) = false →
          exec (.pierInitGo p) s = .next ((s.set (Reg.PIER_INIT_GO p) 1).set (Reg.PIER_STATUS_INITBUSY p) 1)))
    ∧ (s.flag (Reg.PIER_STATUS_INITBUSY p) = true → p.val < s.lm.initUpTo.length →
      ∃ t, exec (.pierInitDone p) s = .next t ∧ t.flag (Reg.PIER_STATUS_INITBUSY p) = false ∧ t.flag (Reg.PIER_INIT_DONE p) = true
        ∧ (∀ a, a < dramEnd → pierOf (lineOf a) = p → t.byte a = 0) ∧ (∀ a, dramEnd ≤ a ∨ pierOf (lineOf a) ≠ p → t.byte a = s.byte a)
        ∧ (∀ l, 64 * l < dramEnd → pierOf l = p → t.lineGood l = true ∧ t.writePending l = false)
        ∧ RegsOnly [Reg.PIER_STATUS p, Reg.PIER_INIT p] s { t with mem := s.mem, lm := s.lm })
    ∧ (s.flag (Reg.PIER_STATUS_INITBUSY p) = false → exec (.pierInitDone p) s = .next s)
    ∧ (s.reaches (Reg.PIER_LC_CTL p) = true → ∃ t, exec (.rolFlush p) s = .next t ∧ t.flag (Reg.PIER_LC_CTL_ROLBUSY p) = true ∧ MemSame s t
        ∧ RegsOnly [Reg.PIER_LC_CTL p] s { t with lm := s.lm }
        ∧ ∀ e ∈ t.lm.lc, e.1 / 49152 = p.val → ∀ w ∈ e.2.ways, w.isRol = false)
    ∧ (exec (.rolFlushDone p) s = .next (s.set (Reg.PIER_LC_CTL_ROLBUSY p) 0))
    ∧ (∀ v : Fin 32, s.reaches (Reg.PIER_LC_CTL p) = true → ∃ t, exec (.rolwaysWrite p v) s = .next t
        ∧ t.get (Reg.PIER_LC_CTL_ROLWAYS p) = min v.val 16 ∧ RegsOnly [Reg.PIER_LC_CTL p] s { t with lm := s.lm }
        ∧ (v.val < s.get (Reg.PIER_LC_CTL_ROLWAYS p) → v.val < 16 → ∀ e ∈ t.lm.lc, e.1 / 49152 = p.val → ∀ k, v.val ≤ k → ∀ w, e.2.ways[k]? = some w → w.isRol = false))
    ∧ (s.get Reg.PWR_STATUS_STATE = 2 → s.pierTxns p = 0 → s.pwr.usedAt.getD p.val 0 + 100000 ≤ s.now → exec (.selfRefreshReentry p) s = .next (s.set (Reg.PIER_STATUS_SREF p) 1))
    ∧ (s.get Reg.PWR_STATUS_STATE ≠ 2 ∨ s.pierTxns p ≠ 0 ∨ s.now < s.pwr.usedAt.getD p.val 0 + 100000 → exec (.selfRefreshReentry p) s = .next s)

/-- HDS_QP_CTL with EN 0 to 1 and rings that may lie where they do starts the queue pair at position 0 with the new completion ring
settings; with a ring that may not, EN stays 0 and the refusal is recorded with code 0x04. While EN is 1 a write leaves CQLOG and CQHOST. ERR is cleared by
QP_ERR_CLEAR. While the host link is held, HDS_QP_CQ takes a new ring, the completion positions start again and its entries wait until HELD is 0; HDS_QP_CTL is
written as at any time; while it is not held QP_RING_WRITE_HELD does nothing.
Completion: under the conditions on the state and the operands that its clauses name, exec answers a next state with the own effect of qpEnable,
qpErrClear, qpRingWriteHeld. -/
def Obligations.QueuePairs : Prop :=
  ∀ (q : Fin 4096) (v : Word64) (s : State), s.running = true →
    let cqlog := bits v.toNat 8 4
    let sqFits := s.get (Reg.HDS_QP_SQ_ADDR q) % 4096 = 0 ∧ s.get (Reg.HDS_QP_SQ_ADDR q) + 128 * s.sqSize q ≤ dramEnd
    let cqFits := v.getLsbD 1 = true ∨ (s.get (Reg.HDS_QP_CQ_ADDR q) % 4096 = 0
      ∧ s.get (Reg.HDS_QP_CQ_ADDR q) + 64 * 2 ^ (min cqlog 12 + 4) ≤ dramEnd)
    (s.abtHeld = false → s.flag (Reg.HDS_QP_CTL_EN q) = false → s.qpRunning q = 0 → v.getLsbD 0 = true →
      (sqFits ∧ cqFits → ∃ t, exec (.qpEnable q v) s = .next t ∧ t.flag (Reg.HDS_QP_CTL_EN q) = true
        ∧ t.get (Reg.HDS_QP_STATUS_SQHEAD q) = 0 ∧ t.get (Reg.HDS_QP_STATUS_SQTAIL q) = 0 ∧ t.get (Reg.HDS_QP_STATUS_CQTAIL q) = 0
        ∧ t.get (Reg.HDS_QP_STATUS2_CQHEAD q) = 0 ∧ t.get (Reg.HDS_QP_CTL_CQLOG q) = cqlog ∧ t.get (Reg.HDS_QP_CTL_IRQMODE q) = bits v.toNat 2 2
        ∧ t.get (Reg.HDS_QP_CTL_FLUSH q) = bits v.toNat 16 16 ∧ alGet 1 t.hds.phase q.val = 1
        ∧ RegsOnly [Reg.HDS_QP_CTL q, Reg.HDS_QP_STATUS q, Reg.HDS_QP_STATUS2 q] s { t with hds := s.hds })
      ∧ (¬ (sqFits ∧ cqFits) → ∃ t, exec (.qpEnable q v) s = .next t ∧ t.flag (Reg.HDS_QP_CTL_EN q) = false ∧ t.get Reg.HDS_LASTERR_CODE = 4
        ∧ t.get Reg.HDS_LASTERR_QP = q ∧ t.flag Reg.HDS_LASTERR_VALID = true ∧ RegsBut [Reg.HDS_QP_CTL q, Reg.HDS_LASTERR] s t ∧ MemSame s t))
    ∧ (s.abtHeld = false → s.flag (Reg.HDS_QP_CTL_EN q) = true → ∃ t, exec (.qpEnable q v) s = .next t ∧ RegsOnly [Reg.HDS_QP_CTL q] s t
        ∧ t.flag (Reg.HDS_QP_CTL_EN q) = v.getLsbD 0 ∧ t.get (Reg.HDS_QP_CTL_CQLOG q) = s.get (Reg.HDS_QP_CTL_CQLOG q)
        ∧ t.get (Reg.HDS_QP_CTL_CQHOST q) = s.get (Reg.HDS_QP_CTL_CQHOST q))
    ∧ exec (.qpErrClear q) s = .next (s.set (Reg.HDS_QP_STATUS_ERR q) 0)
    ∧ (s.abtHeld = false → ∀ ctl, exec (.qpRingWriteHeld q ctl v) s = .next s)
    ∧ (s.abtHeld = true → exec (.qpRingWriteHeld q true v) s = exec (.qpEnable q v) s)
    ∧ (s.abtHeld = true →
      (v.toNat % 2 ^ (Reg.HDS_QP_CQ_ADDR q).width % 4096 = 0 → v.toNat % 2 ^ (Reg.HDS_QP_CQ_ADDR q).width + 64 * s.cqSize q ≤ dramEnd →
        ∃ t, exec (.qpRingWriteHeld q false v) s = .next t ∧ t.get (Reg.HDS_QP_CQ_ADDR q) = v.toNat % 2 ^ (Reg.HDS_QP_CQ_ADDR q).width
          ∧ t.get (Reg.HDS_QP_STATUS_CQTAIL q) = 0 ∧ t.get (Reg.HDS_QP_STATUS2_CQHEAD q) = 0 ∧ alGet 1 t.hds.phase q.val = 1 ∧ t.cqFull q = true
          ∧ RegsOnly [Reg.HDS_QP_CQ q, Reg.HDS_QP_STATUS q, Reg.HDS_QP_STATUS2 q] s { t with hds := s.hds })
      ∧ (s.flag (Reg.HDS_QP_CTL_CQHOST q) = false → v.toNat % 2 ^ (Reg.HDS_QP_CQ_ADDR q).width % 4096 ≠ 0 →
        ∃ t, exec (.qpRingWriteHeld q false v) s = .next t ∧ RegsBut [Reg.HDS_LASTERR] s t ∧ t.get Reg.HDS_LASTERR_CODE = 4))

/-- A write of HDS_PROG clears VALID and, with VALID written 1, starts the check of the header; a header that passes makes the slot valid and empties every
instruction cache, one that fails or cannot be read sets BAD and is logged. A block address returned to the pool is the next one
taken; a full pool ignores it. A pool size is taken, and fills the pool, while no slot is in use or held.
Completion: under the conditions on the state and the operands that its clauses name, exec answers a next state with the own effect of hdsProgWrite,
programCheckDone, kvReturn, kvPoolSizeWrite. -/
def Obligations.ProgramsAndPool : Prop :=
  ∀ s : State, s.running = true →
    (∀ (n : Fin 64) (v : Word64), ∃ t, exec (.hdsProgWrite n v) s = .next t ∧ t.flag (Reg.HDS_PROG_VALID n) = false ∧ t.program n = none
        ∧ t.hds.checking.contains n.val = v.getLsbD 48
        ∧ t.get (Reg.HDS_PROG_ADDR n) = (if s.flag (Reg.HDS_PROG_VALID n) = true ∨ s.progUsers n ≠ 0 then s.get (Reg.HDS_PROG_ADDR n)
            else v.toNat % 2 ^ (Reg.HDS_PROG_ADDR n).width)
        ∧ RegsOnly [Reg.HDS_PROG n] s { t with hds := s.hds })
    ∧ (∀ n : Fin 64, s.hds.checking.contains n.val = false → exec (.programCheckDone n) s = .next s)
    ∧ (∀ (n : Fin 64), s.hds.checking.contains n.val = true →
      let a := s.get (Reg.HDS_PROG_ADDR n)
      let d := (s.memRead a 64 false).1
      (∃ t, exec (.programCheckDone n) s = .next t ∧ t.hds.checking.contains n.val = false ∧ (t.flag (Reg.HDS_PROG_VALID n) = true ∨ t.flag (Reg.HDS_PROG_BAD n) = true))
      ∧ (a % 64 = 0 → a + 64 ≤ dramEnd → d.any (headerOk a) = true → s.program n = none →
          ∃ t, exec (.programCheckDone n) s = .next t ∧ t.flag (Reg.HDS_PROG_VALID n) = true
            ∧ t.flag (Reg.HDS_PROG_BAD n) = false ∧ t.program n = d.map (parseHeader a) ∧ (∀ i, (t.spindle i).icache = []) ∧ MemSame (s.memRead a 64 false).2 t)
      ∧ (a % 64 = 0 → a + 64 ≤ dramEnd → d.any (headerOk a) = false → ∃ t, exec (.programCheckDone n) s = .next t ∧ t.flag (Reg.HDS_PROG_BAD n) = true
            ∧ t.program n = s.program n ∧ t.flag (Reg.HDS_PROG_VALID n) = s.flag (Reg.HDS_PROG_VALID n) ∧ MemSame (s.memRead a 64 false).2 t)
      ∧ (a % 64 ≠ 0 ∨ dramEnd < a + 64 → ∃ t, exec (.programCheckDone n) s = .next t ∧ t.flag (Reg.HDS_PROG_BAD n) = true ∧ MemSame s t
            ∧ RegsBut [Reg.HDS_PROG n] s t))
    ∧ (∀ addr : Fin 0x80000000000,
      (s.hds.poolTop < s.get Reg.HDS_KVFREE_SIZE →
        exec (.kvReturn addr) s = .next (s.keeping (s.poolPush addr)) ∧ (s.poolPush addr).hds = { s.hds with poolTop := s.hds.poolTop + 1 }
        ∧ (∀ a, a = s.get Reg.HDS_KVPOOL_ADDR + 8 * s.hds.poolTop → a % 8 = 0 → (s.memWrite a (leBytes 8 addr) false).1 = true →
            (s.poolPush addr).num a 8 = addr
            ∧ (((s.poolPush addr).memRead a 8 false).1.isSome = true →
                (s.poolPush addr).poolPop.1 = some addr.val ∧ (s.poolPush addr).poolPop.2.hds = s.hds)))
      ∧ (s.get Reg.HDS_KVFREE_SIZE ≤ s.hds.poolTop → exec (.kvReturn addr) s = .next s))
    ∧ (∀ v : Fin 16777216, s.slotsBusy.1 = false → ∃ t, exec (.kvPoolSizeWrite v) s = .next t ∧ t.get Reg.HDS_KVFREE_SIZE = v
        ∧ t.hds = { s.hds with poolTop := v } ∧ RegsOnly [Reg.HDS_KVFREE] s.slotsBusy.2 { t with hds := s.hds })
    ∧ (∀ v : Fin 16777216, s.slotsBusy.1 = true → exec (.kvPoolSizeWrite v) s = .next (s.keeping s.slotsBusy.2))

/-- The state as it goes on from the reading of a submission entry at SQHEAD of queue pair `q`: SQHEAD is past it, and the entry has
the next place in the read order. -/
def Sys2Proof.Machine.entryRead (q : Nat) (u : State) : State :=
  let v := u.set (Reg.HDS_QP_STATUS_SQHEAD q) ((u.get (Reg.HDS_QP_STATUS_SQHEAD q) + 1) % u.sqSize q)
  ({ v with hds := { v.hds with lastQp := q, nextOrder := v.hds.nextOrder + 1 } }).count 3 0 0x001 1

/-- Each of NEW, EXTEND, CANCEL and FREE reads the entry at SQHEAD of the queue pair that is next, when it is of its kind, moves SQHEAD past it and carries
it out; an entry whose lines cannot be read stops its queue pair and stays. A malformed entry completes with 0x0C and the offset
of the first failing check; an admitted one is a request with its set, slot and reservation; one that must wait is deferred with a KIND 2 entry, or completes with
0x05 when 4,096 wait. FREE of a held slot gives 0x10, of any other 0x0D; CANCEL of no request 0x11. DEFERRED_ADMISSION takes the first entry of the list that need not wait out of it and settles it; DEFER_LIMIT_EXPIRY, no earlier than the limit after the entry was
read, settles one that need not wait and ends one that must with 0x05, as every one while ENABLE is 0; DEADLINE_EXPIRY one whose DEADLINE has passed with 0x06; with none to settle nothing happens.
Completion: under the conditions on the state and the operands that its clauses name, exec answers a next state with the own effect of newC, extend,
cancel, freeC, deferredAdmission, deferLimitExpiry, deadlineExpiry. -/
def Obligations.AdmissionOfEntries : Prop :=
   ((∀ (s : State) (q : Nat), s.running = true → s.pwr.shutdown = none → s.nextQp = some q →
      let head := s.get (Reg.HDS_QP_STATUS_SQHEAD q)
      let rows : List (Instr × (Nat → Bool) × (State → Nat → Nat → SubEntry → State)) :=
        [(.newC, (fun o => o == 1 || o == 0 || decide (4 < o)), State.takeEntry), (.extend, (· == 2), State.takeEntry),
         (.cancel, (· == 3), State.cancelEntry), (.freeC, (· == 4), State.freeEntry)]
      ∀ c ∈ rows,
        (∀ d u, s.memRead (s.get (Reg.HDS_QP_SQ_ADDR q) + 128 * head) 128 false = (some d, u) →
          let e := parseEntry d
          (c.2.1 e.opc = true → ∃ t, exec c.1 s = .next t ∧ t = s.keeping (c.2.2 (entryRead q u) q s.hds.nextOrder e)
              ∧ t.get (Reg.HDS_QP_STATUS_SQHEAD q) = (head + 1) % s.sqSize q % 2 ^ (Reg.HDS_QP_STATUS_SQHEAD q).width)
          ∧ (c.2.1 e.opc = false → exec c.1 s = .next s))
        ∧ ((s.memRead (s.get (Reg.HDS_QP_SQ_ADDR q) + 128 * head) 128 false).1 = none →
            ∃ t, exec c.1 s = .next t ∧ t.flag (Reg.HDS_QP_STATUS_ERR q) = true ∧ t.get Reg.HDS_LASTERR_CODE = 5 ∧ t.get (Reg.HDS_QP_STATUS_SQHEAD q) = head
              ∧ MemSame (s.memRead (s.get (Reg.HDS_QP_SQ_ADDR q) + 128 * head) 128 false).2 t))
    ∧ (∀ (s : State), s.running = true → (s.nextQp = none ∨ s.pwr.shutdown.isSome = true) →
        ∀ c ∈ [Instr.newC, .extend, .cancel, .freeC], exec c s = .next s)
    ∧ ∀ (s : State) (q order : Nat) (e : SubEntry),
      (∀ off, malformed e (s.heldTokens e) = some off →
        ∃ x, (s.takeEntry q order e).hds.due = s.hds.due ++ [x] ∧ x.qp = q ∧ x.kind = 1 ∧ x.code = 0x0c ∧ x.detail = off ∧ x.tag = e.tag
          ∧ (s.takeEntry q order e).hds.requests = s.hds.requests ∧ MemSame s (s.takeEntry q order e))
      ∧ (malformed e (s.heldTokens e) = none →
        ((s.judge q e).1 = .defer → (s.judge q e).2.hds.deferred.length < 4096 →
          ∃ x y, (s.takeEntry q order e).hds.deferred = s.hds.deferred ++ [x] ∧ x.qp = q ∧ x.order = order ∧ x.entry = e ∧ x.time = s.now
            ∧ (s.takeEntry q order e).hds.due = s.hds.due ++ [y] ∧ y.kind = 2 ∧ y.qp = q ∧ MemSame (s.judge q e).2 (s.takeEntry q order e))
        ∧ ((s.judge q e).1 = .defer → 4096 ≤ (s.judge q e).2.hds.deferred.length →
          ∃ y, (s.takeEntry q order e).hds.due = s.hds.due ++ [y] ∧ y.kind = 1 ∧ y.code = 5
            ∧ (s.takeEntry q order e).get Reg.HDS_ADMIT_NOTADMIT = min (s.get Reg.HDS_ADMIT_NOTADMIT + 1) (2 ^ Reg.HDS_ADMIT_NOTADMIT.width - 1))
        ∧ (∀ set prog hdr slot row prior blocks, (s.judge q e).1 = .enter set prog hdr slot row prior blocks → ∀ h,
          lowestFree 8192 (s.hds.requests.map (·.handle)) = some h →
          ∃ r, (s.takeEntry q order e).req h = some r ∧ r.entry = e ∧ r.qp = q ∧ r.order = order ∧ r.set = set.set ∧ r.prog = prog ∧ r.slot = slot ∧ r.gen = 0
            ∧ r.ntok = prior + e.plen ∧ r.reserved = blocks ∧ r.btaddr = row.btaddr ∧ r.sumbase = row.sumbase
            ∧ (set.mode = 0 → s.inst set.set = none → ∃ n, (s.takeEntry q order e).inst set.set = some n ∧ n.request = some h ∧ n.prog = prog ∧ n.stopping = false)
            ∧ (s.takeEntry q order e).get Reg.HDS_ADMIT_ADMITTED = (s.get Reg.HDS_ADMIT_ADMITTED + 1) % 2 ^ Reg.HDS_ADMIT_ADMITTED.width))
      ∧ ((s.namedSlot e.seq).1 = .notHeld →
          ∃ y, (s.freeEntry q order e).hds.due = s.hds.due ++ [y] ∧ y.code = 0x0d ∧ MemSame (s.namedSlot e.seq).2 (s.freeEntry q order e))
      ∧ ((s.namedSlot e.seq).1 = .unreadable → ∃ y, (s.freeEntry q order e).hds.due = s.hds.due ++ [y] ∧ y.code = 8)
      ∧ (∀ row, (s.namedSlot e.seq).1 = .held row → ∃ y, (s.freeEntry q order e).hds.due = s.hds.due ++ [y] ∧ y.code = 0x10 ∧ y.seq = e.seq
          ∧ (s.freeEntry q order e).mem = ((s.namedSlot e.seq).2.freeSlot e.seq).mem)
      ∧ ((∀ r ∈ s.hds.requests, ¬ (r.qp = q ∧ r.entry.tag = e.seq % 65536)) → (∀ d ∈ s.hds.deferred, ¬ (d.qp = q ∧ d.entry.tag = e.seq % 65536)) →
          ∃ y, (s.cancelEntry q order e).hds.due = s.hds.due ++ [y] ∧ y.code = 0x11 ∧ (s.cancelEntry q order e).hds.requests = s.hds.requests)
      ∧ ((∃ r ∈ s.hds.requests, r.qp = q ∧ r.entry.tag = e.seq % 65536) ∨ (∃ d ∈ s.hds.deferred, d.qp = q ∧ d.entry.tag = e.seq % 65536) →
          ∃ l y, (s.cancelEntry q order e).hds.due = l ++ [y] ∧ y.code = 0x10 ∧ y.qp = q))
  ∧
   (∀ s : State, s.running = true →
      (s.nextDeferred = none → exec .deferredAdmission s = .next s)
      ∧ (∀ k, s.nextDeferred = some k → ∀ d, s.hds.deferred[k]? = some d →
          let v := (s.judge d.qp d.entry).1
          let u := (s.judge d.qp d.entry).2
          exec .deferredAdmission s = .next (s.keeping (({ u with hds := { u.hds with deferred := u.hds.deferred.eraseIdx k } } : State).settle d.qp d.order d.entry v))
          ∧ v ≠ .defer)
      ∧ (∀ (k : Fin 4096) d, s.hds.deferred[k.val]? = some d → d.time + s.deferLimit ≤ s.now →
          ((s.judge d.qp d.entry).1 = .defer ∨ s.flag Reg.HDS_CTL_ENABLE = false →
            ∃ t y, exec (.deferLimitExpiry k) s = .next t ∧ t.hds.deferred = s.hds.deferred.eraseIdx k ∧ t.hds.due = s.hds.due ++ [y] ∧ y.code = 5 ∧ y.kind = 1
              ∧ y.qp = d.qp ∧ y.order = d.order ∧ t.hds.requests = s.hds.requests ∧ (s.flag Reg.HDS_CTL_ENABLE = false → MemSame s t))
          ∧ ((s.judge d.qp d.entry).1 ≠ .defer → s.flag Reg.HDS_CTL_ENABLE = true →
            exec (.deferLimitExpiry k) s = .next (s.keeping (({ (s.judge d.qp d.entry).2 with
              hds := { (s.judge d.qp d.entry).2.hds with deferred := s.hds.deferred.eraseIdx k } } : State).settle d.qp d.order d.entry (s.judge d.qp d.entry).1))))
      ∧ (∀ (k : Fin 4096) d, s.hds.deferred[k.val]? = some d → s.now < d.time + s.deferLimit → exec (.deferLimitExpiry k) s = .next s)
      ∧ (∀ (k : Fin 4096) d, s.hds.deferred[k.val]? = some d → d.entry.deadline ≠ 0 → d.entry.deadline < s.ft →
          ∃ t y, exec (.deadlineExpiry k) s = .next t ∧ t.hds.deferred = s.hds.deferred.eraseIdx k ∧ t.hds.due = s.hds.due ++ [y] ∧ y.code = 6 ∧ y.kind = 1
            ∧ y.qp = d.qp ∧ y.order = d.order ∧ MemSame s t ∧ t.hds.requests = s.hds.requests)
      ∧ (∀ (k : Fin 4096) d, s.hds.deferred[k.val]? = some d → (d.entry.deadline = 0 ∨ s.ft ≤ d.entry.deadline) → exec (.deadlineExpiry k) s = .next s))

/-- PREFIX_LOOKUP with every bucket read keeps the matched run and begins the import; PREFIX_IMPORT with every bundle read sets MATCHED
and shrinks the reservation. FLUSH_DELAY_EXPIRY makes a token entry due once, no earlier than FLUSH µs after the oldest waiting token. COMPLETION_ENTRY_WRITE writes the
entry of the queue pair that became due first, of those the one whose submission was read first, at CQTAIL, to DRAM or as a frame to the host, advances CQTAIL, turns the
phase at the ring's end, and raises the interrupt that IRQMODE asks for; a full ring writes nothing.
Completion: under the conditions on the state and the operands that its clauses name, exec answers a next state with the own effect of prefixLookup,
prefixImport, flushDelayExpiry, completionEntryWrite. -/
def Obligations.PrefixAndCompletions : Prop :=
  ∀ s : State, s.running = true →
    (∀ (h : Fin 8192) r, s.req h = some r →
      (r.phase = .looking → r.ended = false → lookupBlocks r ≤ r.answers.length →
        ∃ t r', exec (.prefixLookup h) s = .next t ∧ t.req h = some r' ∧ r'.phase = .importing
          ∧ r'.found = matchRun r r.keys (lookupBlocks r) 0)
      ∧ (r.phase ≠ .looking ∨ r.ended = true ∨ r.answers.length < lookupBlocks r → exec (.prefixLookup h) s = .next s)
      ∧ (r.phase = .importing → r.ended = false → (bundlePieces r).length ≤ r.answers.length →
        let m := (bundlesRead r r.hdr r.found 0).length
        ∃ t r', exec (.prefixImport h) s = .next t ∧ t.req h = some r' ∧ r'.phase = .done ∧ r'.matched = 64 * m ∧ r'.imported = m
          ∧ r'.reserved = r.reserved - m ∧ r'.ntok = r.ntok
          ∧ t.get Reg.HDS_PDIRSTAT_MATCHED = (s.get Reg.HDS_PDIRSTAT_MATCHED + m) % 2 ^ Reg.HDS_PDIRSTAT_MATCHED.width)
      ∧ (r.phase ≠ .importing ∨ r.ended = true ∨ r.answers.length < (bundlePieces r).length → exec (.prefixImport h) s = .next s)
      ∧ (∀ k l, r.pending = k :: l → k.2 + 1000 * s.get (Reg.HDS_QP_CTL_FLUSH r.qp) ≤ s.now → r.streamed ≠ 0 →
          s.hds.due.any (fun d => d.handle == some h.val) = false →
        ∃ t d, exec (.flushDelayExpiry h) s = .next t ∧ t = { s with hds := { s.hds with due := s.hds.due ++ [d] } } ∧ d.kind = 0 ∧ d.handle = some h.val
          ∧ d.qp = r.qp ∧ d.tag = r.entry.tag)
      ∧ (s.hds.due.any (fun d => d.handle == some h.val) = true ∨ r.pending = [] ∨ r.streamed = 0
          ∨ (∃ k l, r.pending = k :: l ∧ s.now < k.2 + 1000 * s.get (Reg.HDS_QP_CTL_FLUSH r.qp)) → exec (.flushDelayExpiry h) s = .next s))
    ∧ ∀ (q : Fin 4096),
      let tail := s.get (Reg.HDS_QP_STATUS_CQTAIL q)
      let next := (tail + 1) % s.cqSize q
      (s.cqFull q = true → exec (.completionEntryWrite q) s = .next s)
      ∧ (s.cqFull q = false → (∀ d ∈ s.hds.due, d.qp ≠ q.val) → exec (.completionEntryWrite q) s = .next s)
      ∧ (∀ pre d post, s.hds.due = pre ++ d :: post → s.cqFull q = false → d.qp = q.val → d.handle = none →
          (∀ x ∈ pre, x.qp = q.val → d.since < x.since ∨ (d.since = x.since ∧ d.order < x.order)) →
          (∀ x ∈ post, x.qp = q.val → d.since < x.since ∨ (d.since = x.since ∧ d.order ≤ x.order)) →
        ∃ t, exec (.completionEntryWrite q) s = .next t ∧ t.hds.due = pre ++ post
          ∧ t.get (Reg.HDS_QP_STATUS_CQTAIL q) = next % 2 ^ (Reg.HDS_QP_STATUS_CQTAIL q).width
          ∧ alGet 1 t.hds.phase q.val = (if next = 0 then 1 - alGet 1 s.hds.phase q.val else alGet 1 s.hds.phase q.val)
          ∧ (s.flag (Reg.HDS_QP_CTL_CQHOST q) = false →
              t.mem = (s.memWrite (s.get (Reg.HDS_QP_CQ_ADDR q) + 64 * tail) (s.completionBytes d) false).2.mem)
          ∧ (s.flag (Reg.HDS_QP_CTL_CQHOST q) = true → MemSame s t
              ∧ ∃ f rest, t.host.vc1 = s.host.vc1 ++ f :: rest ∧ f.akind = 4 ∧ f.len = 64 ∧ f.body = s.completionBytes d
                  ∧ f.addr = (s.get (Reg.HDS_QP_CQ_ADDR q) + 64 * tail) % 2 ^ 64)
          ∧ (s.get (Reg.HDS_QP_CTL_IRQMODE q) = 1 → d.kind = 1 → s.abtHeld = true → t.host.pendingVec.contains (16 + q.val % 496) = true))

/-- EN written 1 takes OFF to DETECT, written 0 any state to OFF with the link's flits gone; TEST takes OFF, MISWIRED, INCOMPAT, SAFE and FAILED to TEST and back to DETECT.
Signal on four lanes begins a fast relock when the record is valid and FASTEN is set, else a cold training; training or relock that completes on enough lanes goes to ALIGN,
alignment to IDENT; a training timeout, 128 ms after training began, goes back to DETECT and the third in succession to FAILED; a relock timeout, after 1.5 ms, marks the record stale and
trains cold. A peer that matches and is accepted makes the port ACTIVE, unless its lanes give no width that both ends run, one that does not match MISWIRED, one refused INCOMPAT. A saved record of an ACTIVE port lies at ADDR with
its magic number, port and CRC.
Completion: under the conditions on the state and the operands that its clauses name, exec answers a next state with the own effect of linkEnOn,
linkEnOff, linkTestOn, linkTestOff, eqSave, signalQualified, trainingComplete, trainingTimeout, relockComplete, relockTimeout, alignComplete,
identSend, identFlit, expectedPeerWrite, signalLost. -/
def Obligations.LinkTraining : Prop :=
  ∀ (i : Fin 11) (s : State), s.running = true →
    let st := s.linkState i
    (s.portHeld i = false → ∃ t, exec (.linkEnOn i) s = .next t ∧ t.flag (Reg.LNK_CTL_EN i) = true ∧ t.linkState i = (if st = 0 then 1 else st)
        ∧ RegsBut [Reg.LNK_CTL i, Reg.LNK_STATUS i] s t ∧ (st = 0 → (t.port i).enteredAt = s.now) ∧ (st ≠ 0 → t.lnk = s.lnk) ∧ MemSame s t)
    ∧ (s.portHeld i = true → exec (.linkEnOn i) s = .next s)
    ∧ (∃ t, exec (.linkEnOff i) s = .next t ∧ t.flag (Reg.LNK_CTL_EN i) = false ∧ t.linkState i = 0
        ∧ (st ≠ 0 → t.port i = { (s.port i).cleared with enteredAt := s.now } ∧ t.get (Reg.LNK_STATUS_WIDTH i) = 0))
    ∧ (s.portHeld i = false → st ∈ [0, 7, 8, 10, 13] → ∃ t, exec (.linkTestOn i) s = .next t ∧ t.linkState i = 11 ∧ t.flag (Reg.LNK_CTL_TEST i) = true
        ∧ t.port i = { (s.port i).cleared with enteredAt := s.now })
    ∧ (st ∉ [0, 7, 8, 10, 13] → exec (.linkTestOn i) s = .next s)
    ∧ (∃ t, exec (.linkTestOff i) s = .next t ∧ t.flag (Reg.LNK_CTL_TEST i) = false ∧ t.linkState i = (if st = 11 then 1 else st)
        ∧ (st = 11 → ∀ n, n < physLanes i → t.flag (Reg.LNK_PAT_CTL_LOCK i n) = false))
    ∧ (st ≠ 6 → exec (.eqSave i) s = .next s)
    ∧ (let a := s.get (Reg.LNK_EQSAVE_ADDR i)
       st = 6 → a % 64 = 0 → a + 1152 ≤ dramEnd → ∃ t, exec (.eqSave i) s = .next t ∧ t.num a 4 = 0x51454b4c ∧ t.num (a + 4) 1 = i
        ∧ t.num (a + 60) 4 = crc32c (t.bytes a 60 ++ t.bytes (a + 64) 1088) ∧ (t.port i).stale.contains a = false
        ∧ (∀ b, b < a ∨ a + 1152 ≤ b → t.byte b = s.byte b) ∧ t.linkState i = 6)
    ∧ (∀ lanes, st = 1 → 4 ≤ popCount 17 (laneMask i lanes) → s.circSteers i = false →
        ∃ t, exec (.signalQualified i lanes) s = .next t ∧ MemSame (s.eqRead i).2 t ∧ (∀ n, n < physLanes i → t.flag (Reg.LNK_LANE_STATUS_SIGNAL i n) = lanes.testBit n)
          ∧ t.flag (Reg.LNK_EQSAVE_VALID i) = (s.eqRead i).1.isSome
          ∧ t.linkState i = (if (s.eqRead i).1.isSome = true ∧ s.flag (Reg.LNK_CTL_FASTEN i) = true then 3 else 2))
    ∧ (∀ lanes (spare : Fin 17), st = 2 → needLanes i ≤ popCount 17 (laneMask i lanes) → spare.val < physLanes i →
        ∃ t, exec (.trainingComplete i lanes spare) s = .next t ∧ t.linkState i = 4 ∧ (t.port i).trained = laneMask i lanes ∧ (t.port i).attempts = 0
          ∧ t.get (Reg.LNK_LANEMAP_SPARE i) = spare ∧ t.flag (Reg.LNK_STATUS_RESTORED i) = false
          ∧ t.get Reg.CAL_STATUS_RUNS = (s.get Reg.CAL_STATUS_RUNS + 1) % 2 ^ Reg.CAL_STATUS_RUNS.width
          ∧ ∀ n, n < physLanes i → t.flag (Reg.LNK_LANE_STATUS_FAILED i n) = !lanes.testBit n)
    ∧ (st = 2 → s.stateFor i 128000000 = true → ∃ t, exec (.trainingTimeout i) s = .next t ∧ t.linkState i = (if (s.port i).attempts + 1 < 3 then 1 else 13)
        ∧ t.get (Reg.LNK_ERR_RETRAINS i) = min (s.get (Reg.LNK_ERR_RETRAINS i) + 1) (2 ^ (Reg.LNK_ERR_RETRAINS i).width - 1)
        ∧ (t.port i).attempts = if (s.port i).attempts + 1 < 3 then (s.port i).attempts + 1 else 0)
    ∧ (∀ lanes, st = 3 → needLanes i ≤ popCount 17 (laneMask i lanes) → ∃ t, exec (.relockComplete i lanes) s = .next t ∧ t.linkState i = 4
        ∧ (t.port i).trained = laneMask i lanes ∧ t.flag (Reg.LNK_STATUS_RESTORED i) = true)
    ∧ (st = 3 → s.stateFor i 1500000 = true → ∃ t, exec (.relockTimeout i) s = .next t ∧ t.linkState i = 2 ∧ t.flag (Reg.LNK_EQSAVE_VALID i) = false
        ∧ (t.port i).stale.contains (s.get (Reg.LNK_EQSAVE_ADDR i)) = true
        ∧ ((s.port i).trainedOnce = true → (s.port i).attempts = 0 →
            t.get (Reg.LNK_ERR_RETRAINS i) = min (s.get (Reg.LNK_ERR_RETRAINS i) + 1) (2 ^ (Reg.LNK_ERR_RETRAINS i).width - 1)))
    ∧ (s.stateFor i 128000000 = false → exec (.trainingTimeout i) s = .next s) ∧ (s.stateFor i 1500000 = false → exec (.relockTimeout i) s = .next s)
    ∧ (∀ lanes, st = 4 → needLanes i ≤ popCount 17 (laneMask i lanes &&& (s.port i).trained) → ∃ t, exec (.alignComplete i lanes) s = .next t
        ∧ t.linkState i = 5 ∧ (t.port i).trained = laneMask i lanes &&& (s.port i).trained ∧ (t.port i).identCount = 0)
    ∧ (∀ lanes (spare : Fin 17), (st ≠ 1 → exec (.signalQualified i lanes) s = .next s) ∧ (st ≠ 2 → exec (.trainingComplete i lanes spare) s = .next s
        ∧ exec (.trainingTimeout i) s = .next s) ∧ (st ≠ 3 → exec (.relockComplete i lanes) s = .next s ∧ exec (.relockTimeout i) s = .next s)
        ∧ (st ≠ 4 → exec (.alignComplete i lanes) s = .next s) ∧ (st ≠ 5 → exec (.identSend i) s = .next s))
    ∧ (st = 5 → ∃ t f, exec (.identSend i) s = .next t ∧ (t.port i).lastSent = some f ∧ f.ftype = 3 ∧ f.payload.take 27 = s.identPayload i ∧ flitGood f = true
        ∧ t = { s with lnk := t.lnk })
    ∧ (∀ f acked, f.ftype = 3 → (s.flitIn i f).1 = true →
      let u := (s.flitIn i f).2
      u.linkState i = 5 →
        let d := parseIdent f.payload
        let n := if (u.port i).identLast = some d then (u.port i).identCount + 1 else 1
        let w := u.updPort i fun x => { x with identLast := some d, identCount := n }
        exec (.identFlit i f acked) s = .next (s.keeping (if 3 ≤ n ∧ acked = true then w.identEnd i d else w)))
    ∧ (let ok := s.peerMatches i (s.get (Reg.LNK_PEER_MODNUM i)) (s.get (Reg.LNK_PEER_PORT i))
       (s.judgePeer i).linkState i = (if ok = true then (if s.peerAccepted i = true then (if (s.identPlan i).isSome = true then 6 else 1) else 8) else 7))
    ∧ (∀ p : Fin 10, p.val = i.val → ∀ v : Word64, s.jigPhase ≠ 4 → s.heldOf .host = [] → ∃ t, exec (.expectedPeerWrite p v) s = .next t
        ∧ t.get (Reg.RTR_PEER_MODNUM p) = bits v.toNat 0 13 ∧ t.get (Reg.RTR_PEER_VALID p) = bits v.toNat 24 1
        ∧ t.get (Reg.RTR_PEER_PORT p) = (if 10 ≤ bits v.toNat 16 4 then 15 else bits v.toNat 16 4)
        ∧ (st ∉ [6, 7, 9, 10, 12, 14] → t.linkState i = st))
    ∧ (st ∈ [7, 8, 9, 10, 12, 13] → ∃ t, exec (.signalLost i) s = .next t ∧ t.linkState i = (if s.flag (Reg.LNK_CTL_EN i) = true then 1 else 0)
        ∧ (st = 9 → t.flag (Reg.LNK_STATUS_PULLED i) = true) ∧ t.port i = { (s.port i).cleared with enteredAt := s.now })
    ∧ (st ∉ [7, 8, 9, 10, 12, 13] → exec (.signalLost i) s = .next s)

/-- CLR clears a set's counters; INJ counts one error where the set's generator runs and its locked checker sees it; a checker that is on compares the bits that
arrive, locks on 128 that continue those before them, with no error counted, and counts the errors while it is locked; one that loses lock, for more than 1,024 errors in
16,384 bits, keeps its count with the errors added. A received flit that fails its CRC is counted and NAKed, one out of sequence NAKed, one of a reserved type counted; a good one with a SEQ moves the expected SEQ on. DATA joins its
VC's stream and owes a credit. A NAK counts a replay, which begins, and at the retry limit within 1 ms takes the link down. A lane change proposed by the peer is acknowledged and made. DRAIN requests, answers and
cancels move an ACTIVE port to DRAIN and back, and both ends drained to SAFE or RECAL. Four bad markers in succession, or more uncorrectable codewords in 1 ms than UCW_LIMIT, fail a lane. A light word is
stored where its CRC is good, and is no longer valid after 100 µs without another.
Completion: under the conditions on the state and the operands that its clauses name, exec answers a next state with the own effect of patternInject,
patternClear, checkerLock, checkerLockLoss, linkDrainWrite, linkDrainCancel, dataFlit, nullFlit, nak, lanechg, drainFlit, drainBufferEmpty,
laneMarker, lightWord, lightWordTimeout, laneFailure, servicePress. -/
def Obligations.LinksInService : Prop :=
   (∀ (p : PatSet) (s : State), s.running = true →
      (patThere p = true →
        exec (.patternClear p) s = .next ((s.set (patErrors p) 0).set (patBits p) 0)
        ∧ (s.patRuns p = true → s.flag (patGen p) = true → s.patLoops p = true → s.flag (patLock p) = true →
            ∃ t, exec (.patternInject p) s = .next t ∧ t.get (patErrors p) = min (s.get (patErrors p) + 1) (2 ^ 48 - 1) ∧ RegsOnly [(patErrors p).addr] s t)
        ∧ (∀ bits, s.patRuns p = true → s.flag (patChk p) = true → s.get (patPat p) ≠ 8 →
            let held := alGet (0, []) s.chk (patBase p)
            let user := if s.get (patPat p) = 9 then some (s.reg (patBase p + 8)).toNat else none
            let c := bits.foldl (checkBit (patTaps (s.get (patPat p))) user) (s.flag (patLock p), held.1, held.2, 0)
            ∃ t, exec (.checkerLock ⟨p, bits⟩) s = .next t ∧ t.flag (patLock p) = c.1 ∧ t.get (patErrors p) = min (s.get (patErrors p) + c.2.2.2) (2 ^ 48 - 1)
              ∧ RegsOnly [(patErrors p).addr, patBase p] s { t with chk := s.chk })
        ∧ (∀ start n, s.patRuns p = true → s.flag (patChk p) = true → s.get (patPat p) < 8 → s.flag (patLock p) = false → alGet (0, []) s.chk (patBase p) = (0, []) →
            start.length = (patTaps (s.get (patPat p))).foldl max 0 → 128 ≤ n →
            ∃ t, exec (.checkerLock ⟨p, start ++ patRun (patTaps (s.get (patPat p))) n start.reverse⟩) s = .next t ∧ t.flag (patLock p) = true
              ∧ t.get (patErrors p) = s.get (patErrors p))
        ∧ (∀ bits, s.patRuns p = false ∨ s.flag (patChk p) = false → exec (.checkerLock ⟨p, bits⟩) s = .next s)
        ∧ (∀ errs, s.flag (patLock p) = true → 1024 < errs → ∃ t, exec (.checkerLockLoss p errs) s = .next t ∧ t.flag (patLock p) = false
            ∧ t.get (patErrors p) = min (s.get (patErrors p) + errs) (2 ^ 48 - 1) ∧ RegsOnly [(patErrors p).addr, patBase p] s { t with chk := s.chk })
        ∧ (∀ errs, s.flag (patLock p) = false ∨ errs ≤ 1024 → exec (.checkerLockLoss p errs) s = .next s))
      ∧ (patThere p = false → ∀ errs bits, ∀ c ∈ [Instr.patternClear p, .patternInject p, .checkerLock ⟨p, bits⟩, .checkerLockLoss p errs], exec c s = .next s))
  ∧
   (∀ (i : Fin 11) (s : State), s.running = true →
      let st := s.linkState i
      (∀ f, s.linkCarries i = true → (f.ftype ≠ 1 ∨ st ∉ [7, 8]) → flitGood f = false →
          (s.flitIn i f).1 = false ∧ (s.flitIn i f).2.get (Reg.LNK_ERR_CRCERR i) = min (s.get (Reg.LNK_ERR_CRCERR i) + 1) (2 ^ (Reg.LNK_ERR_CRCERR i).width - 1)
          ∧ (s.sequenced i = true → ((s.flitIn i f).2.port i).nakSent = true))
      ∧ (∀ f, f.ftype = 1 → st ∈ [7, 8] → s.flitIn i f = (false, s))
      ∧ (∀ f, s.linkCarries i = true → (f.ftype ≠ 1 ∨ st ∉ [7, 8]) → flitGood f = true → f.hasSeq = true → (f.ftype = 1 → f.plen ≠ 0 ∧ f.plen ≤ 240) →
          (f.seq ≠ (s.port i).rxSeq → (s.flitIn i f).1 = false ∧ ((s.flitIn i f).2.port i).rxSeq = (s.port i).rxSeq ∧ ((s.flitIn i f).2.port i).nakSent = true)
          ∧ (f.seq = (s.port i).rxSeq → (s.flitIn i f).1 = true ∧ ((s.flitIn i f).2.port i).rxSeq = ((s.port i).rxSeq + 1) % 4096))
      ∧ (∀ f, 6 < f.ftype → s.linkCarries i = true → flitGood f = true → (s.sequenced i = false ∨ (s.port i).nakSent = false) → ∃ t, exec (.nullFlit i f) s = .next t ∧ RegsOnly [Reg.LNK_ERR i] s t
          ∧ t.get (Reg.LNK_ERR_BADCTL i) = min (s.get (Reg.LNK_ERR_BADCTL i) + 1) (2 ^ (Reg.LNK_ERR_BADCTL i).width - 1))
      ∧ (∀ f, f.ftype = 0 → (s.flitIn i f).1 = true →
          let u := (s.flitIn i f).2
          exec (.nullFlit i f) s = .next (s.keeping u) ∧ (u.port i).rxSeq = (s.port i).rxSeq)
      ∧ (∀ f, f.ftype = 1 → (s.flitIn i f).1 = true →
          let u := (s.flitIn i f).2
          i.val < 10 → alGet 0 (u.port i).cut f.vc = 0 → (((u.port i).streamOf f.vc) ++ f.payload.take f.plen).length < 32 →
          ∃ t, exec (.dataFlit i f) s = .next t ∧ (t.port i).streamOf f.vc = (u.port i).streamOf f.vc ++ f.payload.take f.plen
            ∧ (t.port i).owed = (u.port i).owed.modify f.vc (· + 1) ∧ t.rtr = u.rtr ∧ t.linkState i = st)
      ∧ (∀ f fr, f.ftype = 1 → (s.flitIn i f).1 = true →
          let u := (s.flitIn i f).2
          i.val < 10 → alGet 0 (u.port i).cut f.vc = 0 → (u.port i).streamOf f.vc = [] → f.payload.take f.plen = frameBytes fr →
          fr.body.length = fr.blen → badFrame f.vc (frameBytes fr) = false → u.reservedMop (parseFrame (frameBytes fr)) = false →
          ∃ t, exec (.dataFlit i f) s = .next t ∧ (t.port i).streamOf f.vc = []
            ∧ t.rtr = { u.rtr with arrived := u.rtr.arrived ++ [(i.val, f.vc, parseFrame (frameBytes fr))] })
      ∧ (∀ f, f.ftype = 1 → (s.flitIn i f).1 = true →
          let u := (s.flitIn i f).2
          exec (.dataFlit i f) s = .next (s.keeping (u.dataIn i f)))
      ∧ (∀ f, f.ftype = 2 → (s.flitIn i f).1 = true →
          let u := (s.flitIn i f).2
          ∃ t, exec (.nak i f) s = .next t ∧ t.get (Reg.LNK_ERR_REPLAYS i) = min (u.get (Reg.LNK_ERR_REPLAYS i) + 1) (2 ^ (Reg.LNK_ERR_REPLAYS i).width - 1)
            ∧ ((u.port i).naks.1 ≠ (f.ack + 1) % 4096 → 1 < u.retryLimit i → (t.port i).naks = ((f.ack + 1) % 4096, [s.now]) ∧ t.linkState i = st
                ∧ (t.port i).replayAt = (if (u.port i).replay = [] then none else some 0))
            ∧ (∀ l, (u.port i).naks = ((f.ack + 1) % 4096, l) → u.retryLimit i ≤ (l.filter fun x => decide (s.now ≤ x + 1000000)).length + 1 → st ∈ [6, 9, 12] →
                t.linkState i = 1))
      ∧ (∀ f, f.ftype = 4 → (s.flitIn i f).1 = true →
          let u := (s.flitIn i f).2
          leAt f.payload 0 1 = 1 →
          ((u.port i).change.any (·.mine)) = false →
          (∀ l, l < 16 → (leAt f.payload 2 2).testBit l = true → u.laneHealthy i (physOf (leAt f.payload 1 1 % 2 ^ (Reg.LNK_LANEMAP_SPARE i).width) l) = true) → leAt f.payload 1 1 < 32 →
          ∃ t, exec (.lanechg i f) s = .next t ∧ t.get (Reg.LNK_LANEMAP_SPARE i) = leAt f.payload 1 1 % 2 ^ (Reg.LNK_LANEMAP_SPARE i).width
            ∧ t.get (Reg.LNK_LANEMAP_ACTIVE i) = leAt f.payload 2 2 % 2 ^ (Reg.LNK_LANEMAP_ACTIVE i).width
            ∧ (t.port i).ctlQ = (u.port i).ctlQ ++ [(4, laneChangeBytes 2 (leAt f.payload 1 1) (leAt f.payload 2 2) (leAt f.payload 4 1))]
            ∧ (t.port i).change = none
            ∧ t.get (Reg.LNK_ERR_SWAPS i) = min (u.get (Reg.LNK_ERR_SWAPS i) + 1) (2 ^ (Reg.LNK_ERR_SWAPS i).width - 1))
      ∧ (∀ f, f.ftype = 5 → (s.flitIn i f).1 = true →
          let u := (s.flitIn i f).2
          (leAt f.payload 0 1 = 1 → leAt f.payload 1 1 ≠ 1 → u.linkState i = 6 → ∃ t, exec (.drainFlit i f) s = .next t ∧ t.linkState i = 9 ∧ (t.port i).calDrain = false)
          ∧ (leAt f.payload 0 1 = 2 → u.linkState i = 9 → (u.port i).drainedSent = true →
              ∃ t, exec (.drainFlit i f) s = .next t ∧ t.linkState i = (if (u.port i).calDrain = true then 12 else 10))
          ∧ (leAt f.payload 0 1 = 3 → u.linkState i = 9 → ∃ t, exec (.drainFlit i f) s = .next t ∧ t.linkState i = 6))
      ∧ (st = 6 → ∃ t, exec (.linkDrainWrite i) s = .next t ∧ t.linkState i = 9 ∧ t.flag (Reg.LNK_CTL_DRAIN i) = true
          ∧ (t.port i).ctlQ = (s.port i).ctlQ ++ [(5, [1, 0])] ∧ (t.port i).calDrain = false)
      ∧ (st = 9 → (s.port i).calDrain = false → ∃ t, exec (.linkDrainCancel i) s = .next t ∧ t.linkState i = 6 ∧ t.flag (Reg.LNK_CTL_DRAIN i) = false
          ∧ (t.port i).ctlQ = (s.port i).ctlQ ++ [(5, [3, 0])])
      ∧ (st = 9 → (s.port i).drainedSent = false → s.portEmpty i = true → (s.port i).replay = [] → (s.port i).ctlQ = [] →
          ∃ t, exec (.drainBufferEmpty i) s = .next t ∧ (t.port i).drainedSent = true ∧ (t.port i).ctlQ = [(5, [2, 0])]
            ∧ t.linkState i = (if (s.port i).drainedGot = true then (if (s.port i).calDrain = true then 12 else 10) else 9))
      ∧ (∀ (lane : Fin 17), s.lanesUp i = true → lane.val < physLanes i →
          (∀ (d : List Byte) fixed lost, (s.port i).ucw = [] →
            (lost ≤ s.get (Reg.LNK_CTL_UCW_LIMIT i) → ∃ t, exec (.laneMarker i lane ⟨d, fixed, lost⟩) s = .next t
              ∧ t.get (Reg.LNK_FEC_CORRECTED i lane) = (s.get (Reg.LNK_FEC_CORRECTED i lane) + fixed) % 2 ^ (Reg.LNK_FEC_CORRECTED i lane).width
              ∧ t.get (Reg.LNK_FEC_UNCORR i lane) = min (s.get (Reg.LNK_FEC_UNCORR i lane) + lost) (2 ^ (Reg.LNK_FEC_UNCORR i lane).width - 1)
              ∧ (leAt d 0 1 = 1 → blockGood d = true → alGet 0 (t.port i).markerFails lane.val = 0 ∧ alGet 0 (t.port i).markers lane.val = leAt d 4 2
                  ∧ RegsOnly [(Reg.LNK_FEC_CORRECTED i lane).addr] s { t with lnk := s.lnk })
              ∧ (leAt d 0 1 = 1 → blockGood d = false → alGet 0 (s.port i).markerFails lane.val < 3 →
                  alGet 0 (t.port i).markerFails lane.val = alGet 0 (s.port i).markerFails lane.val + 1
                  ∧ RegsOnly [(Reg.LNK_FEC_CORRECTED i lane).addr] s { t with lnk := s.lnk })
              ∧ (leAt d 0 1 = 1 → blockGood d = false → alGet 0 (s.port i).markerFails lane.val = 3 → s.flag (Reg.LNK_LANE_STATUS_FAILED i lane) = false →
                  lane.val = s.get (Reg.LNK_LANEMAP_SPARE i) → t.flag (Reg.LNK_LANE_STATUS_FAILED i lane) = true ∧ t.flag (Reg.LNK_STATUS_SPAREOK i) = false)
              ∧ (2 < leAt d 0 1 → t.get (Reg.LNK_ERR_BADCTL i) = min (s.get (Reg.LNK_ERR_BADCTL i) + 1) (2 ^ (Reg.LNK_ERR_BADCTL i).width - 1)))
            ∧ (s.get (Reg.LNK_CTL_UCW_LIMIT i) < lost → s.flag (Reg.LNK_LANE_STATUS_FAILED i lane) = false → lane.val = s.get (Reg.LNK_LANEMAP_SPARE i) →
                ∃ t, exec (.laneMarker i lane ⟨d, fixed, lost⟩) s = .next t ∧ t.flag (Reg.LNK_LANE_STATUS_FAILED i lane) = true
                  ∧ t.flag (Reg.LNK_STATUS_SPAREOK i) = false))
          ∧ (s.flag (Reg.LNK_LANE_STATUS_FAILED i lane) = false → lane.val = s.get (Reg.LNK_LANEMAP_SPARE i) → ∃ t, exec (.laneFailure i lane) s = .next t
              ∧ t.flag (Reg.LNK_LANE_STATUS_FAILED i lane) = true ∧ t.flag (Reg.LNK_STATUS_SPAREOK i) = false ∧ t.linkState i = st
              ∧ RegsOnly [Reg.LNK_LANE_STATUS i lane, Reg.LNK_STATUS i] s t)
          ∧ (s.flag (Reg.LNK_LANE_STATUS_FAILED i lane) = false → exec (.laneFailure i lane) s
              = .next (s.keeping ((s.set (Reg.LNK_LANE_STATUS_BLOCKLOCK i lane) 0).laneFail i lane))))
      ∧ (∀ w, 6 ≤ i.val → i.val < 10 → w.crc = crc32c (lightBytes w) → w.lane < 16 →
          let n := physOf (s.get (Reg.LNK_LANEMAP_SPARE i)) w.lane
          ∃ t, exec (.lightWord i w) s = .next t ∧ t.get (Reg.LNK_LIGHT_RXPWR i n) = w.rxpwr % 2 ^ 16 ∧ t.get (Reg.LNK_LIGHT_TXPWR i n) = w.txpwr % 2 ^ 16
            ∧ t.get (Reg.LNK_LIGHT_FLAGS i n) = w.flags % 8 ∧ t.get (Reg.LNK_LIGHT_SEQ i n) = w.seq % 256 ∧ t.flag (Reg.LNK_LIGHT_VALID i n) = true
            ∧ RegsBut [Reg.LNK_LIGHT i n] s t ∧ MemSame s t)
      ∧ (∀ w, (i.val < 6 ∨ i.val = 10 ∨ w.crc ≠ crc32c (lightBytes w) ∨ 16 ≤ w.lane) → exec (.lightWord i w) s = .next (s.sat (Reg.LNK_ERR_BADCTL i) 1))
      ∧ (∀ lane : Fin 16,
          let n := physOf (s.get (Reg.LNK_LANEMAP_SPARE i)) lane
          ((∀ x ∈ (s.port i).lightAt, x.1 = n → x.2 + 100000 ≤ s.now) → exec (.lightWordTimeout i lane) s = .next (s.set (Reg.LNK_LIGHT_VALID i n) 0))
          ∧ ((∃ x ∈ (s.port i).lightAt, x.1 = n ∧ s.now < x.2 + 100000) → exec (.lightWordTimeout i lane) s = .next s))
      ∧ (s.portHeld i = false → st ∈ [11, 12, 14] → ∃ t, exec (.servicePress i) s = .next t ∧ t.flag (Reg.LNK_STATUS_BUTTON i) = true ∧ t.linkState i = st)
      ∧ (s.portHeld i = false → st ∉ [11, 12, 14] → ∃ t, exec (.servicePress i) s = .next t ∧ t.flag (Reg.LNK_STATUS_BUTTON i) = true
          ∧ t.linkState i = (if st = 6 then 9 else if st = 9 then (if (s.port i).calDrain = true then 9 else 6)
              else if st = 10 then (if (s.port i).safeFromDrain = true then 6 else if s.flag (Reg.LNK_CTL_EN i) = true then 1 else 0) else 10)))

/-- What the router holds once the module has originated the frame `g`, to another module: it is queued for its next hop, or waits for one (R270, R279, R285). -/
def Sys2Proof.Machine.originated (s : State) (g : Frame) (r : RtrState) : RtrState :=
  match s.nextHop g.dstmod g.isVc7 with
  | some (p, _) =>
    let vc := s.outVc p g
    { r with queued := r.queued ++ [{ port := p, vc, via := none, frame := if g.isVc7 then g else g.transit (vc == 6) }] }
  | none => { r with transit := r.transit ++ [{ via := none, frame := g, since := s.now }] }

/-- The response frame to the request `f` (R270, R274). -/
def Sys2Proof.Machine.responseTo (s : State) (f : Frame) (code : Nat) (body : List Byte) : Frame :=
  { fkind := f.fkind + 1, flags := 0, blen := body.length, skey := s.get Reg.RTR_SKEY_SKEY, srcmod := s.ownMod, dstmod := f.srcmod,
    cls := if f.cls < 6 then s.get ⟨Reg.RTR_RSPVC, 3 * f.cls, 3⟩ else 0, hops := 1, tag := f.tag, addr := 0, len := 0, code, aop := 0, body }

/-- The commands that take in a data frame, with the kind that each takes (R270). -/
def Sys2Proof.Machine.dataKinds (p : Fin 10) : List (Instr × Nat) :=
  [(.rdreq p, 1), (.rdrsp p, 2), (.wrreq p, 3), (.wrack p, 4), (.atreq p, 5), (.atrsp p, 6)]

/-- For RDREQ, RDRSP, WRREQ, WRACK, ATREQ and ATRSP, of the frame of its kind at the head of a VC of the port: none there, nothing happens; a key that is not the module's, or
any before the first full load, drops it under SKEY; a frame for another module that has made MAXHOPS hops is dropped under HOPS; with no valid entry it is counted in NOROUTE and a request is
answered with code 0x08, on the class that the request arrived with; with a usable next hop it is queued for that port, and without one it waits.
Completion: under the conditions on the state and the operands that its clauses name, exec answers a next state with the own effect of rdreq, rdrsp,
wrreq, wrack, atreq, atrsp. -/
def Obligations.FramesInTransit : Prop :=
  ∀ (p : Fin 10) (s : State), s.running = true → ∀ c kind, (c, kind) ∈ dataKinds p →
    (s.headFrame p (fun f => f.fkind == kind) = none → exec c s = .next s)
    ∧ ∀ e, s.headFrame p (fun f => f.fkind == kind) = some e →
      let f := s.taken p e.2.2
      let u := s.consume e
      let key := s.get Reg.RTR_SKEY_SKEY
      let foreign : Prop := s.flag Reg.JIG_STATUS_LOADED = false ∨ (f.skey ≠ key ∧ (e.2.1 < 6 ∨ f.dstmod = s.ownMod))
      let via : Via := { port := p, vc := e.2.1, cls := e.2.2.cls }
      f.hops = e.2.2.hops + 1
      ∧ (foreign → ∃ t, exec c s = .next t ∧ t.rtr = { u.rtr with foreignMs := some (s.now / 1000000) } ∧ RegsBut [Reg.RTR_DROP] s t ∧ MemSame s t
          ∧ t.get Reg.RTR_DROP_SKEY = min (s.get Reg.RTR_DROP_SKEY + 1) (2 ^ Reg.RTR_DROP_SKEY.width - 1))
      ∧ (¬ foreign → f.dstmod ≠ s.ownMod → max 1 (s.get Reg.RTR_CTL_MAXHOPS) ≤ f.hops →
          ∃ t, exec c s = .next t ∧ t.rtr = u.rtr ∧ RegsBut [Reg.RTR_DROP] s t ∧ MemSame s t
            ∧ t.get Reg.RTR_DROP_HOPS = min (s.get Reg.RTR_DROP_HOPS + 1) (2 ^ Reg.RTR_DROP_HOPS.width - 1))
      ∧ (¬ foreign → f.dstmod ≠ s.ownMod → f.hops < max 1 (s.get Reg.RTR_CTL_MAXHOPS) →
          (s.flag (Reg.RTR_ENT_LO_VALID f.dstmod) = false → f.isRequest = false ∨ f.srcmod ≠ s.ownMod →
            ∃ t, exec c s = .next t ∧ RegsBut [Reg.RTR_RMT] s t ∧ MemSame s t
            ∧ t.get Reg.RTR_RMT_NOROUTE = min (s.get Reg.RTR_RMT_NOROUTE + 1) (2 ^ Reg.RTR_RMT_NOROUTE.width - 1)
            ∧ (f.isRequest = false → t.rtr = u.rtr)
            ∧ (f.isRequest = true → t.rtr = originated s (responseTo s { f with cls := e.2.2.cls } 8 []) u.rtr))
          ∧ (s.flag (Reg.RTR_ENT_LO_VALID f.dstmod) = false → f.isRequest = true → f.srcmod = s.ownMod →
            ∀ v, (u.sat Reg.RTR_RMT_NOROUTE 1).deliverResponse (responseTo s { f with cls := e.2.2.cls } 8 []) = some v → exec c s = .next (s.keeping v))
          ∧ (∀ o k, s.flag (Reg.RTR_ENT_LO_VALID f.dstmod) = true → s.nextHop f.dstmod false = some (o, k) →
            ∃ t, exec c s = .next t ∧ RegsBut [] s t ∧ MemSame s t
              ∧ t.rtr = { u.rtr with queued := u.rtr.queued ++ [{ port := o, vc := s.outVc o f, via := some via, frame := f.transit (s.outVc o f == 6) }] })
          ∧ (s.flag (Reg.RTR_ENT_LO_VALID f.dstmod) = true → s.nextHop f.dstmod false = none →
            ∃ t, exec c s = .next t ∧ RegsBut [] s t ∧ MemSame s t ∧ t.rtr = { u.rtr with transit := u.rtr.transit ++ [{ via := some via, frame := f, since := s.now }] }))

/-- A request for this module with its key: the first check that fails gives the code of its response, and nothing else changes; a request whose memory cannot be reached waits; else a read answers the
bytes, a write stores its body, an atomic answers the old value and stores the new one, and one whose line fails its checks is answered with code 7; no other line changes. A response whose TAG names a live operation of its kind completes it; any other is
discarded and counted in LATE.
Completion: under the conditions on the state and the operands that its clauses name, exec answers a next state with the own effect of rdreq, rdrsp,
wrreq, wrack, atreq, atrsp. -/
def Obligations.RequestsAtTheirTarget : Prop :=
  ∀ (p : Fin 10) (s : State), s.running = true → ∀ c kind, (c, kind) ∈ dataKinds p → ∀ e, s.headFrame p (fun f => f.fkind == kind) = some e →
    let f := { s.taken p e.2.2 with cls := e.2.2.cls }
    let u := s.consume e
    let check := s.targetCheck f
    let nal := f.flags.testBit 1
    f.skey = s.get Reg.RTR_SKEY_SKEY → s.flag Reg.JIG_STATUS_LOADED = true → f.dstmod = s.ownMod →
      (f.isRequest = true → check ≠ 0 → f.srcmod ≠ s.ownMod →
        ∃ t, exec c s = .next t ∧ RegsBut [] s t ∧ MemSame s t ∧ t.rtr = originated s (responseTo s f check []) u.rtr)
      ∧ (f.isRequest = true → check = 0 → placeOf f.addr = .dram → s.memAvail f.addr (requestLen f) = false → exec c s = .next s)
      ∧ (f.isRequest = true → check = 0 → placeOf f.addr ≠ .dram → f.srcmod ≠ s.ownMod →
          (kind = 1 → ∃ t, exec c s = .next t ∧ MemSame s t ∧ t.rtr = originated s (responseTo s f 0 (s.bytes f.addr f.len)) u.rtr)
          ∧ (kind = 3 → ∃ t, exec c s = .next t ∧ t.rtr = originated s (responseTo s f 0 []) u.rtr
              ∧ (∀ k (h : k < f.body.length), t.byte (f.addr + k) = f.body[k])
              ∧ ∀ a, a < f.addr ∨ f.addr + f.body.length ≤ a → t.byte a = s.byte a))
      ∧ (f.isRequest = true → check = 0 → placeOf f.addr = .dram → s.memAvail f.addr (requestLen f) = true → f.srcmod ≠ s.ownMod →
          (kind = 1 →
            let d := s.memRead f.addr f.len nal
            ∃ t, exec c s = .next t ∧ MemSame d.2 t ∧ t.rtr = originated s (responseTo s f (if d.1.isSome = true then 0 else 7) (d.1.getD [])) u.rtr)
          ∧ (kind = 3 →
            let w := s.memWrite f.addr f.body nal
            ∃ t, exec c s = .next t ∧ MemSame w.2 t ∧ t.rtr = originated s (responseTo s f (if w.1 = true then 0 else 7) []) u.rtr
              ∧ (w.1 = true → ∀ k (h : k < f.body.length), t.byte (f.addr + k) = f.body[k])
              ∧ ∀ a, lineOf a < lineOf f.addr ∨ lineOf (f.addr + f.body.length - 1) < lineOf a → t.byte a = s.byte a)
          ∧ (kind = 5 →
              let op := atomicOf f.aop
              let w := atomicWidth op
              let d := s.lineRead (lineOf f.addr) false
              let old := d.2.num f.addr w
              (d.1.isSome = true → f.addr % w = 0 →
                ∃ t, exec c s = .next t ∧ t.rtr = originated s (responseTo s f 0 (leBytes w old)) u.rtr
                  ∧ t.num f.addr w = atomicNew op old (leAt f.body 0 w) (leAt f.body w w)
                  ∧ (∀ a, a < f.addr ∨ f.addr + w ≤ a → t.byte a = d.2.byte a) ∧ ∀ a, lineOf a ≠ lineOf f.addr → t.byte a = s.byte a)
              ∧ (d.1 = none → ∃ t, exec c s = .next t ∧ MemSame d.2 t ∧ t.rtr = originated s (responseTo s f 7 []) u.rtr)))
      ∧ (f.isResponse = true →
          (∀ op, s.remote (f.tag % 2 ^ 14) = some op → op.sent = true → op.frame.tag = f.tag → op.frame.fkind + 1 = f.fkind →
            exec c s = .next (s.keeping ((u.count 5 0 0x002 1).remoteComplete op f.code f.body))
            ∧ (∀ i g num th, op.owner = .load i g num th → f.code = 0 → op.frame.flags.testBit 2 = false → ∃ t, exec c s = .next t
                ∧ LoadHas i g num th (.value (leNat f.body)) s t ∧ (s.hds.requests = [] → t.remote op.index = none ∧ MemSame s t)))
          ∧ ((∀ op, s.remote (f.tag % 2 ^ 14) = some op → op.sent = false ∨ op.frame.tag ≠ f.tag ∨ op.frame.fkind + 1 ≠ f.fkind) →
            ∃ t, exec c s = .next t ∧ t.rtr = u.rtr ∧ RegsBut [Reg.RTR_DROP] s t ∧ MemSame s t
              ∧ t.get Reg.RTR_DROP_LATE = min (s.get Reg.RTR_DROP_LATE + 1) (2 ^ Reg.RTR_DROP_LATE.width - 1)))

/-- REMOTE_OPERATION_SEND queues an operation that may be sent, with the module's present key, and completes it with 0x08 where its destination has no entry; REMOTE_TIMEOUT completes one with 0x09 and counts it;
NO_ROUTE_TIMEOUT with 0x08, each no earlier than TIMEOUT; TRANSIT_WAIT_EXPIRY drops a frame that has waited NRWAIT, counted, and answers a request. QUENCH of an allowed module stops or releases classes and goes on to every other VC7 port with TTL one
lower; QUENCH_ORIGINATE does the same from here; QUENCH_LAPSE ends a stop at its time. SWAP_ARM arms the staged table, or swaps late; SWAP_DISARM takes it back; ROUTING_SWAP at RTR_SWAP_FT makes every staged entry active.
Completion: under the conditions on the state and the operands that its clauses name, exec answers a next state with the own effect of
remoteOperationSend, remoteTimeout, noRouteTimeout, transitWaitExpiry, quench, quenchOriginate, quenchLapse, swapArm, swapDisarm, routingSwap. -/
def Obligations.RemoteOperations : Prop :=
  ∀ s : State, s.running = true →
    (∀ k : Fin 16384, s.remote k = none → ∀ c ∈ [Instr.remoteOperationSend k, .remoteTimeout k, .noRouteTimeout k], exec c s = .next s)
    ∧ (∀ (k : Fin 16384) (o : RemoteOp), s.remote k = some o →
      let f : Frame := { o.frame with skey := s.get Reg.RTR_SKEY_SKEY, hops := 1 }
      let valid := s.flag (Reg.RTR_ENT_LO_VALID o.frame.dstmod)
      let fails (s : State) (code : Nat) : State := s.remoteComplete o code []
      (o.sent = true ∨ s.jobLoading = true → exec (.remoteOperationSend k) s = .next s)
      ∧ (o.sent = false → s.jobLoading = false → valid = false → exec (.remoteOperationSend k) s = .next (s.keeping (fails s 8)))
      ∧ (valid = true → s.maySend o = false → exec (.remoteOperationSend k) s = .next s)
      ∧ (∀ p h, valid = true → s.maySend o = true → o.frame.isVc7 = false → s.nextHop o.frame.dstmod false = some (p, h) →
          ∃ t, exec (.remoteOperationSend k) s = .next t ∧ RegsBut [] s t ∧ MemSame s t ∧ t.remote k = some { o with sent := true, since := s.now, frame := { o.frame with skey := s.get Reg.RTR_SKEY_SKEY } }
            ∧ t.rtr.queued = s.rtr.queued ++ [{ port := p, vc := s.outVc p f, via := none, frame := f.transit (s.outVc p f == 6) }])
      ∧ (valid = true → s.nextHop o.frame.dstmod false = none → exec (.remoteOperationSend k) s = .next s)
      ∧ (o.sent = true → o.since + s.rmtTimeout ≤ s.now → exec (.remoteTimeout k) s = .next (s.keeping (fails (s.sat Reg.RTR_RMT_TIMEOUTS 1) 9)))
      ∧ (o.sent = true → exec (.noRouteTimeout k) s = .next s)
      ∧ (s.now < o.since + s.rmtTimeout → exec (.remoteTimeout k) s = .next s ∧ exec (.noRouteTimeout k) s = .next s)
      ∧ (o.sent = false → exec (.remoteTimeout k) s = .next s)
      ∧ (o.sent = false → s.held o.frame = false → o.since + s.rmtTimeout ≤ s.now → s.nextHop o.frame.dstmod false = none →
          exec (.noRouteTimeout k) s = .next (s.keeping (fails s 8)))
      ∧ (s.held o.frame = true ∨ (s.nextHop o.frame.dstmod false).isSome = true → exec (.noRouteTimeout k) s = .next s))
    ∧ (∀ k w, s.rtr.transit[k]? = some w → s.nextHop w.frame.dstmod w.frame.isVc7 = none → w.since + 1000 * s.get Reg.RTR_CTL_NRWAIT ≤ s.now →
        let f := w.frame
        let r := { s.rtr with transit := s.rtr.transit.eraseIdx k }
        ∃ t, exec (.transitWaitExpiry k) s = .next t
          ∧ (f.isRequest = false ∨ f.srcmod ≠ s.ownMod → RegsBut [Reg.RTR_RMT] s t ∧ MemSame s t)
          ∧ (f.isRequest = false ∨ f.srcmod ≠ s.ownMod → t.get Reg.RTR_RMT_NOROUTE = min (s.get Reg.RTR_RMT_NOROUTE + 1) (2 ^ Reg.RTR_RMT_NOROUTE.width - 1))
          ∧ (f.isRequest = false → t.rtr = r)
          ∧ (f.isRequest = true → f.srcmod ≠ s.ownMod → t.rtr = originated s (responseTo s { f with cls := (w.via.map (·.cls)).getD f.cls } 8 []) r)
          ∧ (f.isRequest = true → f.srcmod = s.ownMod → ∀ v, (({ s with rtr := r } : State).sat Reg.RTR_RMT_NOROUTE 1).deliverResponse
              (responseTo s { f with cls := (w.via.map (·.cls)).getD f.cls } 8 []) = some v → t = s.keeping v))
    ∧ (∀ k, (s.rtr.transit[k]? = none ∨ ∃ w, s.rtr.transit[k]? = some w
          ∧ ((s.nextHop w.frame.dstmod w.frame.isVc7).isSome = true ∨ s.now < w.since + 1000 * s.get Reg.RTR_CTL_NRWAIT)) →
        exec (.transitWaitExpiry k) s = .next s)
    ∧ (let copies (i : Option Via) (f : Frame) : List QueuedFrame :=
          ((List.range 10).filter fun q => s.portUsable q true && i.map (·.port) != some q).map fun q => { port := q, vc := 7, via := i, frame := f }
       (∀ (p : Fin 10) e, s.headFrame p (fun f => f.fkind == 8) = some e →
        let f := s.taken p e.2.2
        let b := f.body
        let op := leAt b 0 1
        let accepted : Prop := s.mgmtAllowed f = true ∧ (op = 1 ∨ op = 2) ∧ s.quenchNew f.srcmod (leAt b 6 2) = true
        (¬ accepted → exec (.quench p) s = .next (s.consume e))
        ∧ (accepted → (leAt b 2 2 = 0 ∨ leAt b 2 2 = s.get Reg.RTR_SKEY_SKEY) →
          ∃ t, exec (.quench p) s = .next t ∧ RegsBut [Reg.RTR_QSTATE] s t ∧ MemSame s t
            ∧ t.rtr.quench = (if op = 1 then some (leAt b 4 1 % 64, leAt b 2 2, f.srcmod, leAt b 6 2, leAt b 8 8) else none)
            ∧ t.get Reg.RTR_QSTATE_STOPPED = (if op = 1 then leAt b 4 1 % 64 else 0)
            ∧ t.rtr.queued = s.rtr.queued ++ (if leAt b 1 1 ≤ 1 then []
                else copies (some { port := p, vc := 7, cls := 0 }) { f with body := b.take 1 ++ leBytes 1 (leAt b 1 1 - 1) ++ b.drop 2 })))
       ∧ (∀ p : Fin 10, s.headFrame p (fun f => f.fkind == 8) = none → exec (.quench p) s = .next s)
       ∧ (∀ v : Word64, v.getLsbD 0 = false → exec (.quenchOriginate v) s = .next s)
       ∧ (∀ v : Word64, v.getLsbD 0 = true →
          let w := v.toNat
          let stop := !w.testBit 1
          let tm := if stop = true ∧ bits w 32 32 ≠ 0 then s.ft + 1000 * bits w 32 32 else 0
          ∃ t f, exec (.quenchOriginate v) s = .next t ∧ t.rtr.queued = s.rtr.queued ++ copies none f
            ∧ f.fkind = 8 ∧ f.srcmod = s.ownMod ∧ f.tag = s.get Reg.AON_MSEQ_NEXT ∧ t.rtr.quenchSeq = (s.rtr.quenchSeq + 1) % 65536
            ∧ f.body = leBytes 1 (if stop = true then 1 else 2) ++ leBytes 1 (max 1 (bits w 2 6)) ++ leBytes 2 (bits w 16 16) ++ leBytes 1 (bits w 8 6)
                ++ leBytes 1 0 ++ leBytes 2 s.rtr.quenchSeq ++ leBytes 8 tm
            ∧ (bits w 16 16 = 0 ∨ bits w 16 16 = s.get Reg.RTR_SKEY_SKEY →
                t.rtr.quench = if stop = true then some (bits w 8 6, bits w 16 16, s.ownMod, s.rtr.quenchSeq % 65536, tm % 2 ^ 64) else none)))
    ∧ (∀ m key src seq tm, s.rtr.quench = some (m, key, src, seq, tm) → tm ≠ 0 → tm ≤ s.ft →
        exec .quenchLapse s = .next ({ s with rtr := { s.rtr with quench := none } }.clearReg Reg.RTR_QSTATE))
    ∧ ((∀ m key src seq tm, s.rtr.quench = some (m, key, src, seq, tm) → tm = 0 ∨ s.ft < tm) → exec .quenchLapse s = .next s)
    ∧ (let swapped (late : Bool) (t : State) : Prop :=
          (∀ d ∈ s.stagedList, t.reg (Reg.RTR_ENT_LO d) = s.reg (Reg.RTR_STG_LO d) &&& ~~~(4 : Word64)
            ∧ t.reg (Reg.RTR_STG_LO d) = s.reg (Reg.RTR_STG_LO d) &&& ~~~(4 : Word64))
          ∧ (∀ d, d < 8192 → d ∉ s.stagedList → t.reg (Reg.RTR_ENT_LO d) = s.reg (Reg.RTR_ENT_LO d) ∧ t.reg (Reg.RTR_STG_LO d) = s.reg (Reg.RTR_STG_LO d))
          ∧ t.flag Reg.RTR_SWAP_CTL_ARM = false ∧ t.flag Reg.RTR_SWAP_CTL_DONE = true ∧ t.flag Reg.RTR_SWAP_CTL_LATE = late
          ∧ t.get Reg.RTR_SWAP_CTL_COUNT = s.stagedList.length % 2 ^ 14 ∧ MemSame s t
       (s.get Reg.JIG_STATUS_PHASE ≠ 4 → s.heldOf .host = [] →
          (s.flag Reg.RTR_SWAP_CTL_ARM = true → exec .swapArm s = .next s)
          ∧ (s.flag Reg.RTR_SWAP_CTL_ARM = false → s.ft ≤ s.get Reg.RTR_SWAP_FT_FT → exec .swapArm s = .next (s.set Reg.RTR_SWAP_CTL_ARM 1))
          ∧ (s.flag Reg.RTR_SWAP_CTL_ARM = false → s.get Reg.RTR_SWAP_FT_FT < s.ft →
              ∃ t, exec .swapArm s = .next t ∧ swapped true t ∧ t.flag Reg.FTU_STATUS_LATE = true)
          ∧ exec .swapDisarm s = .next (s.set Reg.RTR_SWAP_CTL_ARM 0))
       ∧ (s.flag Reg.RTR_SWAP_CTL_ARM = true → s.get Reg.RTR_SWAP_FT_FT ≤ s.ft → ∃ t, exec .routingSwap s = .next t ∧ swapped false t)
       ∧ (s.flag Reg.RTR_SWAP_CTL_ARM = false ∨ s.ft < s.get Reg.RTR_SWAP_FT_FT → exec .routingSwap s = .next s))

/-- A management frame `f` of this kind is at the head of VC7 of port `p`, or of the queue that a pylon serves (`p` = 10), is for this module, is no duplicate and does not wait; `u` is the state
once it is taken in (R294, R395, R396). -/
def Sys2Proof.Machine.MgmtKind (s : State) (p : Fin 11) (kind : Frame → Bool) (f : Frame) (u : State) : Prop :=
  if p = 10 then
    ∃ rest, s.pyl.heldQ = f :: rest ∧ kind f = true ∧ s.mgmtWaits f = false ∧ u = { s with pyl := { s.pyl with heldQ := rest } }
  else
    ∃ e, s.headFrame p (fun f => f.fkind == 7 && (f.dstmod != s.ownMod || kind f)) = some e ∧ f = s.taken p e.2.2 ∧ f.dstmod = s.ownMod
      ∧ s.mgmtDup f = false ∧ s.mgmtWaits f = false ∧ u = ((s.consume e).count 5 0 0x002 1).mgmtKeep f

/-- The same for a frame with this MOP. -/
def Sys2Proof.Machine.MgmtAt (s : State) (p : Fin 11) (mop : Nat) (f : Frame) (u : State) : Prop := MgmtKind s p (fun f => mopOf f == mop) f u

/-- MGMT_REGISTER_READ answers 0x81 with the register's value, an unmapped address with code 0x02; MGMT_REGISTER_WRITE from a module that may not write is answered with code 0x05 and changes no register, else it
is performed and answered. READ_RESPONSE, WRITE_RESPONSE, the update answer and EVENT_NOTICE go to the firmware; a second response is a duplicate. A duplicate request is discarded and counted in DUPS; a
frame that no pylon may serve waits in a queue of 64, or is dropped and counted in HELDDROP.
Completion: under the conditions on the state and the operands that its clauses name, exec answers a next state with the own effect of
mgmtRegisterRead, mgmtRegisterWrite, readResponse, writeResponse, eventNotice, updateAnswer. -/
def Obligations.ManagementFrames : Prop :=
  ∀ (p : Fin 11) (s : State), s.running = true →
    (∀ f u, MgmtAt s p 1 f u → s.heldOf (.vc7 f.srcmod) = [] →
      exec (.mgmtRegisterRead p) s = .next (s.keeping ((u.ctlRead (.vc7 f.srcmod) f.addr).2.regAnswer f 0x81 (if mappedReg f.addr = true then 0 else 2)
        (leBytes 8 (u.ctlRead (.vc7 f.srcmod) f.addr).1.toNat)))
      ∧ (mappedReg f.addr = false → (u.ctlRead (.vc7 f.srcmod) f.addr).1.toNat = 2 ^ 64 - 1)
      ∧ (f.addr = Reg.RTR_SKEY → s.ctl.shadow = [] → (u.ctlRead (.vc7 f.srcmod) f.addr).1 = s.reg Reg.RTR_SKEY))
    ∧ (∀ f u, MgmtAt s p 2 f u →
      (u.mgmtAllowed f = false → exec (.mgmtRegisterWrite p) s = .next (s.keeping (u.regAnswer f 0x82 5 [])))
      ∧ (u.mgmtAllowed f = true → exec (.mgmtRegisterWrite p) s
          = .next (s.keeping ((u.ctlWrite (.vc7 f.srcmod) f.addr (BitVec.ofNat 64 (leAt f.body 8 8))).regAnswer f 0x82 (if mappedReg f.addr = true then 0 else 2) []))))
    ∧ (∀ (f : Frame) mop code d, f.srcmod ≠ s.ownMod → ∃ t, s.regAnswer f mop code d = t ∧ RegsBut [] s t ∧ MemSame s t
        ∧ t.rtr = originated s { fkind := 7, flags := 16 * s.evr, blen := 8 + d.length, skey := s.get Reg.RTR_SKEY_SKEY, srcmod := s.ownMod, dstmod := f.srcmod,
                                 cls := 0, hops := 1, tag := f.tag, addr := 0, len := 0, code, aop := 0,
                                 body := [BitVec.ofNat 8 mop] ++ List.replicate 7 0 ++ d } s.rtr)
    ∧ (∀ c mop, (c, mop) ∈ [(Instr.readResponse p, 0x81), (.writeResponse p, 0x82), (.updateAnswer p, 0x85)] → ∀ f u, MgmtAt s p mop f u →
      (∀ i e, s.outEntry f = some (i, e) → e.st ≠ 3 → exec c s = .next ((u.updOut i fun x => { x with st := 3 }).toFirmware f))
      ∧ (∀ i e, s.outEntry f = some (i, e) → e.st = 3 → exec c s = .next (u.sat Reg.AON_MGMT_DUPS 1))
      ∧ (s.outEntry f = none → exec c s = .next (u.toFirmware f)))
    ∧ (∀ f u, MgmtAt s p 4 f u → ∃ t, exec (.eventNotice p) s = .next t ∧ t.pyl.inbox = s.pyl.inbox ++ [f] ∧ t.ev.fifo = u.ev.fifo ∧ MemSame s t)
    ∧ (∀ c mop, (c, mop) ∈ [(Instr.mgmtRegisterRead p, 1), (.mgmtRegisterWrite p, 2), (.readResponse p, 0x81), (.writeResponse p, 0x82), (.updateAnswer p, 0x85), (.eventNotice p, 4)] →
      ∀ e, p ≠ 10 → s.headFrame p (fun f => f.fkind == 7 && (f.dstmod != s.ownMod || mopOf f == mop)) = some e →
        let f := s.taken p e.2.2
        (f.dstmod = s.ownMod → s.mgmtDup f = true → (mop = 1 → s.heldOf (.vc7 f.srcmod) = []) → ∃ t, exec c s = .next t ∧ t.pyl = s.pyl ∧ MemSame s t ∧ RegsBut [Reg.AON_MGMT] s t
            ∧ t.get Reg.AON_MGMT_DUPS = min (s.get Reg.AON_MGMT_DUPS + 1) (2 ^ Reg.AON_MGMT_DUPS.width - 1))
        ∧ (f.dstmod = s.ownMod → s.mgmtDup f = false → s.mgmtWaits f = true → 2 < mop →
            (s.pyl.heldQ.length < 64 → ∃ t, exec c s = .next t ∧ t.pyl.heldQ = s.pyl.heldQ ++ [f] ∧ t.pyl.inbox = s.pyl.inbox)
            ∧ (64 ≤ s.pyl.heldQ.length → ∃ t, exec c s = .next t ∧ t.pyl.heldQ = s.pyl.heldQ
                ∧ t.get Reg.AON_MGMT_HELDDROP = min (s.get Reg.AON_MGMT_HELDDROP + 1) (2 ^ Reg.AON_MGMT_HELDDROP.width - 1)))
        ∧ (f.dstmod ≠ s.ownMod → exec c s = .next (s.keeping ((s.consume e).forward { port := p, vc := 7, cls := 0 } f))))

/-- TIME_REQUEST_SEND notes t1 and sends a request, no sooner than PERIOD after the last, TIME_REQUEST is answered, a reserved TOP is counted. TIME_RESPONSE to the last request gives offset and delay, and steers FT when it comes from the parent in
use: the first response and offsets of 1 µs or more step FT while tuning, smaller ones set the rate; LOCKED turns FAULT on a backward offset beyond BACKMAX and is entered again from HOLDOVER. A load of FT acts at the
root by state, one that would turn a locked FT back is refused and logged. ROOT, RESYNC, EN, the loss of the parent and a holdover longer than HOLDMAX set the sync state.
Completion: under the conditions on the state and the operands that its clauses name, exec answers a next state with the own effect of timeLoad,
ftEnable, ftDisable, rootWrite, resync, timeRequestSend, timeRequest, timeResponse, parentLost, holdoverTimeout. -/
def Obligations.FabricTime : Prop :=
  ∀ s : State, s.running = true →
    let st := s.get Reg.FTU_STATUS_STATE
    let root := s.flag Reg.FTU_CTL_ROOT
    let ft := s.ftu.ft256
    let steps (d : Int) : Nat := (((ft : Int) + d) % (2 ^ 72 : Nat)).toNat
    (∀ i : Fin 11, s.timeCarries i = true → (∀ x, (s.timePort i).reqAt = some x → x + 1000 * max 1 (s.get Reg.FTU_CTL_PERIOD) ≤ s.now) →
        let q := ((s.timePort i).tseq + 1) % 256
        ∃ t f, exec (.timeRequestSend i) s = .next t ∧ (t.port i).lastSent = some f ∧ f.ftype = 6 ∧ f.payload.take 32 = s.timePayload 1 q ft 0 0 ∧ flitGood f = true
          ∧ (t.timePort i).tseq = q ∧ (t.timePort i).t1 = some ft ∧ t.regs = s.regs ∧ MemSame s t)
    ∧ (∀ i : Fin 11, (s.timeCarries i = false ∨ ∃ x, (s.timePort i).reqAt = some x ∧ s.now < x + 1000 * max 1 (s.get Reg.FTU_CTL_PERIOD)) →
        exec (.timeRequestSend i) s = .next s)
    ∧ (∀ (i : Fin 11) f, f.ftype = 6 → (s.flitIn i f).1 = true →
        let u := (s.flitIn i f).2
        (leAt f.payload 0 1 = 1 → u.timeCarries i = true → ∃ t g, exec (.timeRequest i f) s = .next t ∧ (t.port i).lastSent = some g ∧ g.ftype = 6
          ∧ g.payload.take 32 = u.timePayload 2 (leAt f.payload 5 1) (leAt f.payload 8 8) ft ft ∧ t.ftu = u.ftu ∧ MemSame s t)
        ∧ (leAt f.payload 0 1 = 1 → u.timeCarries i = false → exec (.timeRequest i f) s = .next (s.keeping u))
        ∧ (leAt f.payload 0 1 = 0 ∨ 2 < leAt f.payload 0 1 → ∀ c ∈ [Instr.timeRequest i f, .timeResponse i f],
            exec c s = .next (s.keeping (u.sat (Reg.LNK_ERR_BADCTL i) 1)))
        ∧ (leAt f.payload 0 1 = 2 →
            let x := s.timePort i
            let diff (a b : Nat) : Int := signed 64 (a + 2 ^ 64 - b)
            let t1 := leAt f.payload 8 8
            let t2 := leAt f.payload 16 8
            let t3 := leAt f.payload 24 8
            let out := diff t2 t1
            let inn := diff (ft % 2 ^ 64) t3
            let lock := leAt f.payload 1 1
            let w := u.parentTake.setTimePort i { x with respAt := some s.now, tflags := lock, rootmod := leAt f.payload 2 2, depth := leAt f.payload 4 1 }
            ((x.t1 = none ∨ leAt f.payload 5 1 ≠ x.tseq ∨ 256000000 < diff t3 t2) → exec (.timeResponse i f) s = .next (s.keeping u))
            ∧ (x.t1.isSome = true → leAt f.payload 5 1 = x.tseq → diff t3 t2 ≤ 256000000 → i.val = 10 → exec (.timeResponse i f) s = .next (s.keeping w))
            ∧ (x.t1.isSome = true → leAt f.payload 5 1 = x.tseq → diff t3 t2 ≤ 256000000 → i.val < 10 →
                let theta := (out - inn - signed 16 (s.get (Reg.FTU_PORT_ASYM i))) / 2
                let z := (w.setSigned32 (Reg.FTU_PORT_DELAY i) ((out + inn) / 2)).set (Reg.FTU_PORT_PEERLOCK i) lock
                exec (.timeResponse i f) s = .next (s.keeping
                  (if root = true ∨ z.parentNow ≠ some i.val then z
                   else (z.set Reg.FTU_OFFSET_DELAY (z.get (Reg.FTU_PORT_DELAY i))).ftSteer i theta))
                ∧ (-(2 ^ 31 : Int) ≤ (out + inn) / 2 → (out + inn) / 2 < 2 ^ 31 → z.get (Reg.FTU_PORT_DELAY i) = unsigned 32 ((out + inn) / 2)))))
    ∧ (∀ p theta,
        let t := s.ftSteer p theta
        let l := (theta :: s.ftu.thetas).take 8
        let f := filtered l
        let good := if f.natAbs < 2048 then s.ftu.good + 1 else 0
        let rate := unsigned 32 (clampInt (-200000) 200000 (f * 15625 / (64 * max 1 (s.get Reg.FTU_CTL_PERIOD))))
        t.ftu.thetas = l ∧ (-(2 ^ 31 : Int) ≤ f → f < 2 ^ 31 → t.get Reg.FTU_OFFSET_OFFSET = unsigned 32 f)
        ∧ (st = 1 → t.get Reg.FTU_STATUS_STATE = 2 ∧ t.ftu.ft256 = steps theta)
        ∧ (st = 2 → t.get Reg.FTU_STATUS_STATE = (if 16 ≤ good then 3 else 2)
            ∧ (256000 ≤ theta.natAbs → t.ftu.ft256 = steps theta) ∧ (theta.natAbs < 256000 → t.ftu.ft256 = ft ∧ t.get Reg.FTU_RATE_RATE = rate))
        ∧ ((st = 3 ∨ st = 4) → theta < -((s.get Reg.FTU_CTL_BACKMAX : Int) * 256000) → t.get Reg.FTU_STATUS_STATE = 5 ∧ t.ftu.ft256 = ft)
        ∧ ((st = 3 ∨ st = 4) → -((s.get Reg.FTU_CTL_BACKMAX : Int) * 256000) ≤ theta → t.get Reg.FTU_STATUS_STATE = 3
            ∧ t.get Reg.FTU_STATUS_DEPTH = min 255 ((s.timePort p).depth + 1)
            ∧ t.ftu.ft256 = (if 256000 ≤ theta ∧ (st = 4 ∨ s.get Reg.FTU_STATUS_PARENT ≠ p) then steps theta else ft)))
    ∧ (∀ v : Word64,
        (root = false → exec (.timeLoad v) s = .next s)
        ∧ (root = true → st = 0 → (s.ftu.wasLocked = false ∨ s.ft ≤ v.toNat) →
            ∃ t, exec (.timeLoad v) s = .next t ∧ t.ft = v.toNat ∧ t.ftu.loadedOff = true ∧ t.get Reg.FTU_STATUS_STATE = 0)
        ∧ (root = true → st = 1 → ∃ t, exec (.timeLoad v) s = .next t ∧ t.ft = v.toNat ∧ t.get Reg.FTU_STATUS_STATE = 3 ∧ t.get Reg.FTU_STATUS_DEPTH = 0)
        ∧ (root = true → st = 3 → s.ft ≤ v.toNat → ∃ t, exec (.timeLoad v) s = .next t ∧ t.ft = v.toNat ∧ t.get Reg.FTU_STATUS_STATE = 3)
        ∧ (root = true → ((st = 0 ∧ s.ftu.wasLocked = true) ∨ st = 3) → v.toNat < s.ft →
            exec (.timeLoad v) s = .next (s.keeping (s.occur 0x0901 0 (leBytes 8 v.toNat ++ leBytes 8 s.ft))))
        ∧ (root = true → st ∉ [0, 1, 3] → exec (.timeLoad v) s = .next s))
    ∧ (∃ t, exec .ftEnable s = .next t ∧ t.flag Reg.FTU_CTL_EN = true ∧ RegsOnly [Reg.FTU_CTL, Reg.FTU_STATUS] s { t with ftu := s.ftu }
        ∧ t.get Reg.FTU_STATUS_STATE = (if st ≠ 0 then st else if s.ftu.wasLocked = true ∨ (root = true ∧ s.ftu.loadedOff = true) then 3 else 1) ∧ t.ft = s.ft)
    ∧ exec .ftDisable s = .next (((s.set Reg.FTU_CTL_EN 0).set Reg.FTU_STATUS_STATE 0).set Reg.FTU_RATE_RATE 0)
    ∧ (∃ t, exec .rootWrite s = .next t ∧ t.flag Reg.FTU_CTL_ROOT = true ∧ t.get Reg.FTU_STATUS_PARENT = 15 ∧ t.get Reg.FTU_STATUS_STATE = (if 2 ≤ st ∧ st ≤ 5 then 3 else st)
        ∧ (2 ≤ st → st ≤ 5 → t.get Reg.FTU_STATUS_DEPTH = 0) ∧ RegsOnly [Reg.FTU_CTL, Reg.FTU_STATUS] s { t with ftu := s.ftu })
    ∧ (st = 0 → exec .resync s = .next s)
    ∧ (st ≠ 0 → ∃ t, exec .resync s = .next t ∧ t.get Reg.FTU_STATUS_STATE = 1 ∧ t.get Reg.FTU_STATUS_DEPTH = 255 ∧ t.get Reg.FTU_STATUS_PARENT = 15
        ∧ t.ftu = s.ftu ∧ RegsOnly [Reg.FTU_STATUS] s { t with ftu := s.ftu })
    ∧ (st = 3 → root = false → s.parentNow = none → ∃ t, exec .parentLost s = .next t ∧ t.get Reg.FTU_STATUS_STATE = 4 ∧ t.get Reg.FTU_STATUS_PARENT = 15
        ∧ t.ftu = { s.ftu with holdSince := s.now } ∧ RegsOnly [Reg.FTU_STATUS] s { t with ftu := s.ftu })
    ∧ (st ≠ 3 ∨ root = true ∨ s.parentNow.isSome = true → exec .parentLost s = .next s)
    ∧ (st = 4 → s.flag Reg.FTU_STATUS_OOS = false → s.ftu.holdSince + 1000000 * s.get Reg.FTU_CTL_HOLDMAX < s.now → ∃ t, exec .holdoverTimeout s = .next t ∧ t.flag Reg.FTU_STATUS_OOS = true ∧ t.get Reg.FTU_STATUS_STATE = 4
        ∧ t.ftu = s.ftu ∧ RegsBut [Reg.FTU_STATUS] s t)
    ∧ (st ≠ 4 ∨ s.flag Reg.FTU_STATUS_OOS = true ∨ s.now ≤ s.ftu.holdSince + 1000000 * s.get Reg.FTU_CTL_HOLDMAX → exec .holdoverTimeout s = .next s)

/-- SERVO_TICK in the ±10 ns of a tick that has not passed, on an engine that sends: a drive frame with the tick's number and FT; ACTIVE, and the codes of the last evaluation, only when its pylon holds the token and its
takeover is done; an evaluation that has not ended is discarded and sets OVERRUN. The blocks of a good sense frame, at a port with block lock, fill the registers; those of a bad one count in BAD; on the engine of the token holder it completes a takeover, or begins the evaluation of its
sample. SAMPLE_DEADLINE counts a missed sample and evaluates it.
Completion: under the conditions on the state and the operands that its clauses name, exec answers a next state with the own effect of servoTick,
senseFrame, sampleDeadline. -/
def Obligations.ServoTicks : Prop :=
  ∀ (v : Fin 2) (s : State), s.running = true →
    let x := s.servo v
    let active := s.srvDrives v
    (s.tickNow v = none ∨ s.srvSends v = false → exec (.servoTick v) s = .next s)
    ∧ (∀ k, s.tickNow v = some k → s.srvSends v = true → (∀ n, x.tick = some n → n < k) →
        ∃ t f, exec (.servoTick v) s = .next t ∧ (t.servo v).lastFrame = some f ∧ (t.servo v).tick = some k ∧ (t.servo v).next = none
          ∧ f.active = active ∧ f.ft = k * 25000 ∧ f.seq = k % 2 ^ 32 ∧ f.gen = s.get (Reg.SRV_STATUS_GEN v) ∧ f.modnum = s.ownMod ∧ f.pylon = v ∧ f.entries.length = 128
          ∧ (∃ line, (t.servo v).sent = lineOut line (frameBlocks f.bytes))
          ∧ t.flag (Reg.SRV_STATUS_ACTIVE v) = active ∧ t.get (Reg.SRV_CNT_SENT v) = (s.get (Reg.SRV_CNT_SENT v) + 1) % 2 ^ 32
          ∧ (x.evaluating.isSome = true → t.flag (Reg.SRV_STATUS_OVERRUN v) = true ∧ (t.servo v).evaluating = none)
          ∧ (∀ m e, f.entries[m]? = some e → e.chaddr = s.get (Reg.SRV_MIR_CFG_CHADDR v m) ∧ e.park = (!s.driven v m || s.parkMode v m == 0)
              ∧ (active = false → e.code0 = 0 ∧ e.code1 = 0)
              ∧ (∀ l c0 c1, active = true → x.next = some l → (l.filter fun y => y.1 == m) = [(m, c0, c1)] → (∀ y ∈ l, y.1 < 128) → e.code0 = c0 % 2 ^ 20 ∧ e.code1 = c1 % 2 ^ 20)
              ∧ (active = true → x.next = none → e.code0 = s.get (Reg.SRV_MIR_OUT_CODE0 v m) ∧ e.code1 = s.get (Reg.SRV_MIR_OUT_CODE1 v m))))
    ∧ (∀ k n, s.tickNow v = some k → x.tick = some n → k ≤ n → exec (.servoTick v) s = .next s)
    ∧ (∀ blocks, s.flag (Reg.SRV_CTL_TEST v) = true → exec (.senseFrame v blocks) s = .next s)
    ∧ (∀ l : List Byte, x.locked = true → (x.headers.filter fun b => !b).length < 16 → s.flag (Reg.SRV_CTL_TEST v) = false → x.rx = none → l.length % 8 = 0 → senseGood l = false →
        ∃ t, exec (.senseFrame v (lineOut x.line (frameBlocks l))) s = .next t ∧ (t.servo v).sense = x.sense ∧ (t.servo v).locked = true
          ∧ t.get (Reg.SRV_CNT_BAD v) = min (s.get (Reg.SRV_CNT_BAD v) + 1) (2 ^ (Reg.SRV_CNT_BAD v).width - 1)
          ∧ RegsOnly [(Reg.SRV_CNT_BAD v).addr] s { t with srv := s.srv })
    ∧ (∀ l : List Byte, x.locked = true → (x.headers.filter fun b => !b).length < 16 → s.flag (Reg.SRV_CTL_TEST v) = false → x.rx = none → senseGood l = true →
        let f := senseParse l
        ∃ t, exec (.senseFrame v (lineOut x.line (frameBlocks l))) s = .next t ∧ MemSame s t ∧ (t.servo v).sense = some f ∧ (t.servo v).senseAt = s.now
          ∧ (t.servo v).locked = true
          ∧ t.get (Reg.SRV_CHASSIS_CSTAT v) = f.cstat % 2 ^ 8 ∧ t.get (Reg.SRV_CHASSIS_TEMP v) = f.temp % 2 ^ 8 ∧ t.get (Reg.SRV_CHASSIS_CHID v) = f.chid % 2 ^ 16
          ∧ t.get (Reg.SRV_CHASSIS_GEN v) = f.gen % 2 ^ 16
          ∧ (∀ m e, f.entries[m]? = some e → t.get (Reg.SRV_MIR_POS_POS0 v m) = e.pos0 % 2 ^ 18 ∧ t.get (Reg.SRV_MIR_POS_POS1 v m) = e.pos1 % 2 ^ 18
              ∧ t.flag (Reg.SRV_MIR_POS_VALID v m) = e.valid ∧ t.flag (Reg.SRV_MIR_STATUS_PARKED v m) = e.parked ∧ t.flag (Reg.SRV_MIR_STATUS_HOLDING v m) = e.holding)
          ∧ (s.holder ≠ some v.val → (t.servo v).evaluating = x.evaluating ∧ t.circ = s.circ)
          ∧ (∀ g, s.holder = some v.val → x.takeover = some g → (t.servo v).takeover = none ∧ (t.servo v).ready = true ∧ (t.servo v).evaluating = none
              ∧ t.get (Reg.SRV_STATUS_GEN v) = ((match g with | some g => if genOlder g f.gen = true then f.gen else g | none => f.gen) + 1) % 2 ^ 16
              ∧ ∀ m, m < 128 → s.driven v m = true → t.get (Reg.SRV_MIR_STATUS_MODE v m) = 1)
          ∧ (∀ k, s.holder = some v.val → x.takeover = none → x.tick = some k → x.ready = true → f.seq = k % 2 ^ 32 → x.sampled ≠ some k →
              s.ft ≤ k * 25000 + s.get (Reg.SRV_TIME_RXDL v) →
              ((t.servo v).evaluating.map fun y => (y.sample, y.entries)) = some (k, some f.entries) ∧ (t.servo v).sampled = some k))
    ∧ (∀ k, x.tick = some k → active = true → x.sampled ≠ some k → k * 25000 + s.get (Reg.SRV_TIME_RXDL v) ≤ s.ft →
        ∃ t, exec (.sampleDeadline v) s = .next t ∧ t.get (Reg.SRV_CNT_MISSED v) = min (s.get (Reg.SRV_CNT_MISSED v) + 1) (2 ^ 16 - 1)
          ∧ ((t.servo v).evaluating.map fun y => (y.sample, y.entries)) = some (k, none) ∧ (t.servo v).sampled = some k ∧ RegsOnly [Reg.SRV_CNT v] s { t with srv := s.srv })
    ∧ ((∀ k, x.tick = some k → active = false ∨ x.sampled = some k ∨ s.ft < k * 25000 + s.get (Reg.SRV_TIME_RXDL v)) → exec (.sampleDeadline v) s = .next s)

/-- EVALUATION_COMPLETE, whatever the coefficients, states, positions and modes: one pair of codes per driven mirror, in order, for the next frame, and for every one of them, whatever its mode, each axis's code lies between DMIN and
DMAX as they stood when the evaluation began (where DMIN does not exceed DMAX). With no evaluation under way nothing happens.
Completion: under the conditions on the state and the operands that its clauses name, exec answers a next state with the own effect of
evaluationComplete. -/
def Obligations.MirrorCodesStayInRange : Prop :=
  ∀ (v : Fin 2) (s : State), s.running = true →
    ((s.servo v).evaluating = none → exec (.evaluationComplete v) s = .next s)
    ∧ ∀ ev, (s.servo v).evaluating = some ev →
      let z : State := { s with regs := ev.snap }
      ∃ t l, exec (.evaluationComplete v) s = .next t ∧ (t.servo v).next = some l ∧ (t.servo v).evaluating = none ∧ MemSame s t
        ∧ l.map (·.1) = (List.range 128).filter (fun m => z.driven v m)
        ∧ ∀ m c0 c1, (m, c0, c1) ∈ l →
            let d0 := z.axisLim v m 0
            let d1 := z.axisLim v m 1
            (d0.1 ≤ d0.2.1 → d0.1 ≤ c0 ∧ c0 ≤ d0.2.1) ∧ (d1.1 ≤ d1.2.1 → d1.1 ≤ c1 ∧ c1 ≤ d1.2.1)

/-- EN and TEST of SRV_CTL, SRV_TIME within its bounds, MODE, BANK, coefficients and repetitive buffers: on a block that PWR_RST holds nothing happens; on an engine that is not driving, and for the coefficient bank in use, a write
sets IGNWR alone; an engine that drives takes them; a MODE written to a mirror of a circuit that moves ends the circuit. 64 valid sync headers give block lock, 16 invalid ones take it.
Completion: under the conditions on the state and the operands that its clauses name, exec answers a next state with the own effect of servoEnable,
servoTest, srvTimeWrite, modeWrite, bankWrite, coefficientWrite, rcBufferWrite, servoBlockLock, servoBlockLockLoss. -/
def Obligations.ServoWrites : Prop :=
  ∀ (v : Fin 2) (s : State), s.running = true →
    let x := s.servo v
    (∀ blocks, s.flag (Reg.SRV_CTL_TEST v) = false → x.locked = false → x.headers = [] → blocks.length = 64 → (∀ b ∈ blocks, syncValid b = true) →
        ∃ t, exec (.servoBlockLock ⟨v, blocks⟩) s = .next t ∧ (t.servo v).locked = true ∧ t = { s with srv := t.srv })
    ∧ (∀ blocks, s.flag (Reg.SRV_CTL_TEST v) = false → x.locked = false → (∀ b ∈ blocks, syncValid b = false) →
        ∃ t, exec (.servoBlockLock ⟨v, blocks⟩) s = .next t ∧ (t.servo v).locked = false ∧ t = { s with srv := t.srv })
    ∧ (∀ blocks, s.flag (Reg.SRV_CTL_TEST v) = false → x.locked = true → 16 ≤ blocks.length → (∀ b ∈ blocks, syncValid b = false) →
        ∃ t, exec (.servoBlockLockLoss ⟨v, blocks⟩) s = .next t ∧ (t.servo v).locked = false ∧ t = { s with srv := t.srv })
    ∧ (∀ blocks, s.flag (Reg.SRV_CTL_TEST v) = true → exec (.servoBlockLock ⟨v, blocks⟩) s = .next s ∧ exec (.servoBlockLockLoss ⟨v, blocks⟩) s = .next s)
    ∧ (∀ on w (m : Fin 128) mode b o a n, s.flag ⟨Reg.PWR_RST, 17 + v.val, 1⟩ = true →
        ∀ c ∈ [Instr.servoEnable v on, .servoTest v on, .srvTimeWrite v w, .modeWrite v m mode, .bankWrite v m b, .coefficientWrite v b m o w, .rcBufferWrite v m a n w],
          exec c s = .next s)
    ∧ (s.flag ⟨Reg.PWR_RST, 17 + v.val, 1⟩ = false →
      let ignored := s.set (Reg.SRV_STATUS_IGNWR v) 1
      let shut := s.srvShut v
      (∀ en : Bool, exec (.servoEnable v en) s
          = .next (if en = true then s.set (Reg.SRV_CTL_EN v) 1 else (s.set (Reg.SRV_CTL_EN v) 0).set (Reg.SRV_STATUS_ACTIVE v) 0))
      ∧ (s.holder = some v.val ∧ s.flag Reg.JIG_STATUS_LOADED = true → exec (.servoTest v true) s = .next s)
      ∧ (¬ (s.holder = some v.val ∧ s.flag Reg.JIG_STATUS_LOADED = true) →
          exec (.servoTest v true) s = .next ((s.set (Reg.SRV_CTL_TEST v) 1).set (Reg.SRV_STATUS_ACTIVE v) 0))
      ∧ exec (.servoTest v false) s = .next ((s.set (Reg.SRV_CTL_TEST v) 0).set (Reg.SRV_PAT_CTL_LOCK v) 0)
      ∧ (∀ w : Word64,
          let lead := bits w.toNat 0 16
          let rxdl := bits w.toNat 16 16
          exec (.srvTimeWrite v w) s = .next (if 8000 ≤ rxdl ∧ rxdl ≤ 14000 ∧ rxdl + lead ≤ 15000 then
            (s.set (Reg.SRV_TIME_LEAD v) lead).set (Reg.SRV_TIME_RXDL v) rxdl else s))
      ∧ (∀ (m : Fin 128) (mode : Fin 8),
          (shut = true → exec (.modeWrite v m mode) s = .next ignored)
          ∧ (shut = false → s.driven v m = false ∨ 4 ≤ mode.val → exec (.modeWrite v m mode) s = .next s)
          ∧ (s.driven v m = true → shut = false → mode.val < 4 → ∃ t, exec (.modeWrite v m mode) s = .next t ∧ t.get (Reg.SRV_MIR_CTL_MODE v m) = mode
              ∧ (s.get Reg.PWR_STATUS_STATE ≠ 3 → (t.mirror v m).move = some { target := mode, attempts := 0, base0 := 0, base1 := 0 })
              ∧ (∀ c, s.circuit (mirrorPort m) = some c → 3 ≤ c.phase → c.phase ≤ 6 → (c.usedMirrors (mirrorPort m)).contains m.val = true →
                  (t.circuit (mirrorPort m)).map (fun c => (c.phase, c.result)) = some (9, 10))
              ∧ (s.circuit (mirrorPort m) = none → t.circ = s.circ ∧ RegsOnly [Reg.SRV_MIR_CTL v m] s { t with srv := s.srv })))
      ∧ (∀ (m : Fin 128) (b : Fin 2), exec (.bankWrite v m b) s = .next (if shut = true then ignored else s.set (Reg.SRV_MIR_CTL_BANK v m) b))
      ∧ (∀ (m : Fin 128) (b : Fin 2) (o : Fin 256) (w : Word64),
          exec (.coefficientWrite v b m o w) s = .next (if shut = true ∨ s.get (Reg.SRV_MIR_CTL_BANK v m) = b.val then ignored
            else if o.val < 114 ∨ (128 ≤ o.val ∧ o.val < 152) then s.setReg (Reg.SRV_COEF_A v b m o) (w &&& 0x1fffffffff)
            else if o.val = 152 then s.setReg (Reg.SRV_COEF_A v b m o) (w &&& 0xf03ff07ff) else s))
      ∧ (∀ (m : Fin 128) (a : Fin 2) (n : Fin 512) (w : Word64),
          exec (.rcBufferWrite v m a n w) s = .next (if s.get (Reg.SRV_MIR_STATUS_MODE v m) = 3 then ignored else s.setReg (Reg.SRV_RC v (2 * m + a) n) w)))

/-- CIRC_ARM with a descriptor that passes every check arms the port's circuit, at once late when its START has passed; a port outside K0 to K3, an address, a port or module state, a running circuit, a field or an undriven mirror that refuses it answers the
status for it. CIRC_CANCEL ends a running circuit, CIRC_STATUS tells it. START, after a table swap that is due by then, brings it to the quiesce, which ends when the port is empty or after 1 ms and lets the slew begin; the bound of a later phase fails it, with that phase's result, or lets it go on when at least 8 lanes do.
Completion: under the conditions on the state and the operands that its clauses name, exec answers a next state with the own effect of circArm,
circCancel, circStatus, circuitSwitchMoment, quiesceEnd, circuitPhaseBound. -/
def Obligations.TrunkCircuits : Prop :=
  ∀ s : State, s.running = true →
    (∀ n : Fin 8,
      let p := s.mbxArg n 0 % 16
      let a := s.mbxArg n 1 % 2 ^ 43
      let st := s.linkState p
      let answer (s : State) (status rlen : Nat) (rsp : List Nat) : State := s.keeping (s.mbxDone n status rlen rsp)
      (∀ c cmd, (c, cmd) ∈ [(Instr.circArm n, 0x0d01), (.circCancel n, 0x0d02), (.circStatus n, 0x0d03)] →
        (s.mbxHas n cmd = false → exec c s = .next s) ∧ (s.mbxHas n cmd = true → (p < 6 ∨ 9 < p) → exec c s = .next (answer s 2 1 [])))
      ∧ (s.mbxHas n 0x0d03 = true → 6 ≤ p → p ≤ 9 → exec (.circStatus n) s = .next (answer s 0 4 (s.circResponse p)))
      ∧ (s.mbxHas n 0x0d02 = true → 6 ≤ p → p ≤ 9 →
          ((s.circuit p).any Circuit.running = false → exec (.circCancel n) s = .next (answer s 0x0105 4 (s.circResponse p)))
          ∧ ((s.circuit p).any Circuit.running = true → exec (.circCancel n) s = .next (s.keeping ((s.circEnd p 0x0a).mbxDone n 0 4 ((s.circEnd p 0x0a).circResponse p)))))
      ∧ (s.mbxHas n 0x0d01 = true → 6 ≤ p → p ≤ 9 →
          (a % 64 ≠ 0 ∨ dramEnd < a + 640 → exec (.circArm n) s = .next (answer s 2 1 []))
          ∧ (a % 64 = 0 → a + 640 ≤ dramEnd →
            let wrong : Prop := st = 12 ∨ st = 11 ∨ 2 ≤ s.get Reg.PWR_STATUS_STATE ∨ s.flag Reg.JIG_STATUS_LOADED = false
            (wrong → exec (.circArm n) s = .next (answer s 0x0104 4 (s.circResponse p)))
            ∧ (¬ wrong → (s.circuit p).any Circuit.running = true → exec (.circArm n) s = .next (answer s 0x0103 4 (s.circResponse p)))
            ∧ (¬ wrong → (s.circuit p).any Circuit.running = false → (s.memRead a 640 false).1 = none →
              ∃ t, exec (.circArm n) s = .next t ∧ t.get (Reg.MBX_CTL_STATUS n) = 0x0101 ∧ t.circ = s.circ)
            ∧ (¬ wrong → (s.circuit p).any Circuit.running = false → ∀ d, (s.memRead a 640 false).1 = some d →
              let u := (s.memRead a 640 false).2
              let c := parseCircuit d
              (∀ e, (descriptorChecks d p s.ownMod).find? (fun e => !e.2) = some e →
                ∃ t, exec (.circArm n) s = .next t ∧ t.get (Reg.MBX_CTL_STATUS n) = 0x0101 ∧ t.get (Reg.MBX_RSP_V n 1) = e.1 ∧ t.circ = s.circ ∧ MemSame u t)
              ∧ ((∀ e ∈ descriptorChecks d p s.ownMod, e.2 = true) →
                ((c.usedMirrors p).any (fun m => !s.flag (Reg.SRV_MIR_CFG_EN s.evr m)) = true →
                  ∃ t, exec (.circArm n) s = .next t ∧ t.get (Reg.MBX_CTL_STATUS n) = 0x0102 ∧ t.circ = s.circ ∧ MemSame u t)
                ∧ ((c.usedMirrors p).any (fun m => !s.flag (Reg.SRV_MIR_CFG_EN s.evr m)) = false →
                  ∃ t, exec (.circArm n) s = .next t ∧ t.get (Reg.MBX_CTL_STATUS n) = 0 ∧ t.flag (Reg.MBX_CTL_GO n) = false ∧ MemSame u t
                    ∧ t.circuit p = some (if c.start < s.ft then { c with phase := 2, phaseFt := s.ft, late := true } else { c with phaseFt := s.ft })
                    ∧ (c.start < s.ft → t.flag Reg.FTU_STATUS_LATE = true)))))))
    ∧ (∀ p c result, s.circuit p = some c →
        let done : Bool := result == 1 || result == 2 || result == 13
        (s.circEnd p result).circuit p = some { c with phase := if done = true then 8 else 9, result, phaseFt := s.ft, endFt := s.ft, leaving := false })
    ∧ (∀ k : Fin 4,
      let p := 6 + k.val
      (s.circuit p = none → exec (.circuitSwitchMoment k) s = .next s ∧ exec (.quiesceEnd k) s = .next s ∧ exec (.circuitPhaseBound k) s = .next s)
      ∧ ∀ c, s.circuit p = some c →
        (c.phase = 1 → c.start ≤ s.ft → s.swapDue c.start = false → exec (.circuitSwitchMoment k) s = .next (s.setCirc p { c with phase := 2, phaseFt := s.ft, leaving := false, late := false }))
        ∧ (c.phase ≠ 1 ∨ s.ft < c.start ∨ s.swapDue c.start = true → exec (.circuitSwitchMoment k) s = .next s)
        ∧ (c.phase = 2 → s.portEmpty p = true ∨ c.start + 1000000 ≤ s.ft → exec (.quiesceEnd k) s = .next (s.setCirc p { c with leaving := true }))
        ∧ (c.phase ≠ 2 ∨ (s.portEmpty p = false ∧ s.ft < c.start + 1000000) → exec (.quiesceEnd k) s = .next s)
        ∧ (c.leaving = true ∨ c.phase ∉ [2, 3, 4, 5, 6, 7] ∨ s.ft < c.bound → exec (.circuitPhaseBound k) s = .next s)
        ∧ (c.leaving = false → c.bound ≤ s.ft → c.phase = 2 → exec (.circuitPhaseBound k) s = .next (s.setCirc p { c with leaving := true }))
        ∧ (c.leaving = false → c.bound ≤ s.ft → c.phase ∈ [3, 4, 7] → exec (.circuitPhaseBound k) s = .next (s.keeping (s.circEnd p c.phase)))
        ∧ (c.leaving = false → c.bound ≤ s.ft → c.phase = 5 → popCount 16 c.acq < 8 → exec (.circuitPhaseBound k) s = .next (s.keeping (s.circEnd p 5)))
        ∧ (c.leaving = false → c.bound ≤ s.ft → c.phase = 5 → 8 ≤ popCount 16 c.acq → ∃ t y, exec (.circuitPhaseBound k) s = .next t ∧ t.circuit p = some y ∧ y.leaving = true ∧ y.phase = 5
            ∧ y.acq = c.acq ∧ RegsOnly [] s { t with srv := s.srv, circ := s.circ } ∧ ∀ i, i < 16 → c.lanes.length = 16 → (y.lane i).used = ((c.lane i).used && c.acq.testBit i))
        ∧ (c.leaving = false → c.bound ≤ s.ft → c.phase = 6 → popCount 16 c.litLanes < 8 →
            exec (.circuitPhaseBound k) s = .next (s.keeping ((s.setCirc p { c with lit := c.litLanes }).circEnd p 6)))
        ∧ (c.leaving = false → c.bound ≤ s.ft → c.phase = 6 → 8 ≤ popCount 16 c.litLanes → ∃ t, exec (.circuitPhaseBound k) s = .next t
            ∧ t.circuit p = some { c with lit := c.litLanes, leaving := true } ∧ t = { s with circ := t.circ }))

/-- A release by the holder: OWNER none, LASTCAUSE, LASTFROM and AON_RELFT recorded, a fault release closes the gate at once; by another nothing. FORCEREL needs its key. A lockstep, SRAM, watchdog or clock fault makes a running pylon FAULTED, and a lost
island OFF; power restored leads to BOOT. TOKEN_GRANT gives the token, while nobody holds it, to a READY pylon in STANDBY or READY, in the first 2 s, and of two that both wait at their end, only to the preferred one: its gate opens and it is ACTIVE. VC7_GATE_CLOSE sends what the outbox still
holds, within 5 ms, and closes the gate. A kick starts the watchdog, which expires PERIOD ms after it.
Completion: under the conditions on the state and the operands that its clauses name, exec answers a next state with the own effect of tokenGrant,
prefWindowExpiry, forcerel, lockstepMiscompare, sramUncorrectable, watchdogExpiry, watchdogKick, pylonPowerClockFault, vc7GateClose,
pylonIslandPowerRestored. -/
def Obligations.TokenLatch : Prop :=
  ∀ (k : Fin 2) (s : State), s.running = true → s.pyl.pylons.length = 2 → s.pyl.gates.length = 2 →
    let st := s.pylState k
    let held : Prop := s.holder = some k.val
    (∀ cause, (¬ held → s.release k cause = s)
      ∧ (held → let t := s.release k cause
          t.holder = none ∧ t.get Reg.AON_TOKEN_LASTCAUSE = cause % 16 ∧ t.get Reg.AON_TOKEN_LASTFROM = k.val + 1 ∧ t.get Reg.AON_RELFT_FT = s.ft % 2 ^ 64
          ∧ t.get (Reg.PYL_CNT_RELEASES k) = min (s.get (Reg.PYL_CNT_RELEASES k) + 1) 255 ∧ t.gateOpen k = (s.gateOpen k && !faultCause cause)
          ∧ t.pylState k = (if st = 4 then 2 else st) ∧ t.ev.fifo = s.ev.fifo ++ s.ev.held ∧ MemSame s t))
    ∧ (∀ v : Word64, exec (.forcerel k v) s = .next (s.keeping (if v.getLsbD 0 = true ∧ bits v.toNat 16 16 = 0xa55a then s.release k 2 else s)))
    ∧ (∀ c cause, (c, cause) ∈ [(Instr.lockstepMiscompare k, 3), (.sramUncorrectable k, 4), (.pylonPowerClockFault k false, 7)] →
        (s.pylRuns k = false → exec c s = .next s)
        ∧ (s.pylRuns k = true → ∃ t, exec c s = .next t ∧ t.pylState k = 5 ∧ t.get (Reg.PYL_STATUS_FAULT k) = cause ∧ t.pylReady k = false
            ∧ (held → t.holder = none ∧ t.get Reg.AON_TOKEN_LASTCAUSE = cause ∧ t.gateOpen k = false) ∧ (¬ held → t.holder = s.holder) ∧ MemSame s t))
    ∧ ((∀ x, (s.pylon k).kicked = some x → s.now < x + 1000000 * (s.pylon k).period) → exec (.watchdogExpiry k) s = .next s)
    ∧ (∀ x, (s.pylon k).kicked = some x → x + 1000000 * (s.pylon k).period ≤ s.now → s.pylRuns k = true → ∃ t, exec (.watchdogExpiry k) s = .next t ∧ t.pylState k = 5 ∧ t.get (Reg.PYL_STATUS_FAULT k) = 5
        ∧ (t.pylon k).kicked = none ∧ (held → t.holder = none) ∧ (¬ held → t.holder = s.holder))
    ∧ (s.pylRuns k = true → ∃ t, exec (.watchdogKick k) s = .next t ∧ (t.pylon k).kicked = some s.now
        ∧ (t.pylon k).period = clampNat 1 8 (s.get (Reg.PYL_WDOG_PERIOD k)) ∧ t.regs = s.regs)
    ∧ (s.pylRuns k = false → exec (.watchdogKick k) s = .next s)
    ∧ (∃ t, exec (.pylonPowerClockFault k true) s = .next t ∧ t.pylState k = 0 ∧ t.holder = (if held then none else s.holder)
        ∧ t.pylon k = { Pylon.reset with recoverNext := (s.pylon k).recoverNext } ∧ t.servo k = SrvState.reset ∧ t.pylReady k = false ∧ MemSame s t)
    ∧ exec (.pylonIslandPowerRestored k) s = .next (if st = 0 then s.set (Reg.PYL_STATUS_STATE k) 1 else s)
    ∧ (held ∨ s.gateOpen k = false → exec (.vc7GateClose k) s = .next s)
    ∧ (¬ held → s.gateOpen k = true → ∃ t, exec (.vc7GateClose k) s = .next t ∧ t.gateOpen k = false ∧ t.holder = s.holder ∧ MemSame s t
        ∧ (s.get Reg.AON_RELFT_FT + 5000000 < s.ft → t.rtr = s.rtr ∧ t.pyl.outbox = s.pyl.outbox)
        ∧ (s.ft ≤ s.get Reg.AON_RELFT_FT + 5000000 → ∀ x ∈ t.pyl.outbox, x.2.st ≠ 1))
    ∧ exec .prefWindowExpiry s = .next (if s.pwr.startAt + 2000000000 ≤ s.now then { s with pyl := { s.pyl with prefOver := true } } else s)
    ∧ (let may : Prop := s.get Reg.AON_TOKEN_OWNER = 0 ∧ s.pylReady k = true ∧ (st = 2 ∨ st = 3)
          ∧ (s.get Reg.AON_TOKEN_PREF = k.val ∨ (s.pyl.prefOver = true ∧ (s.pyl.granted = true ∨ s.mayRequest (1 - k) = false)))
       (¬ may → exec (.tokenGrant k) s = .next s)
       ∧ (may → ∃ t, exec (.tokenGrant k) s = .next t ∧ t.holder = some k.val ∧ t.pylState k = 4 ∧ t.gateOpen k = true ∧ MemSame s t
            ∧ t.get (Reg.PYL_CNT_TAKEOVERS k) = min (s.get (Reg.PYL_CNT_TAKEOVERS k) + 1) 255
            ∧ t.get Reg.AON_TOKEN_HANDOVERS = (if s.pyl.granted = true then min (s.get Reg.AON_TOKEN_HANDOVERS + 1) 255 else s.get Reg.AON_TOKEN_HANDOVERS)
            ∧ t.pyl.granted = true ∧ t.pyl.takeover = (if s.pyl.granted = true then some .loading else none)
            ∧ (t.servo k).activeSent = false ∧ (t.servo k).ready = false))

/-- A self-test of a running pylon sets its PASS bit, a failure also FAILSEEN and the failure count, and READY follows PASS. HEALTH_PUBLICATION brings READY and the time up to date. A heartbeat is sent with the pylon's health, 100 µs after the last; the tenth good one in succession sets
XLINK and PASS bit 8, a loss, 1 ms without one, clears both and is counted. PYLON_BOOT_STAGE takes a pylon in BOOT through its four steps, each with its extend, into STANDBY, or into ROM recovery when no slot passes; COMPONENT_IMAGE_LOAD starts the component images in order.
Completion: under the conditions on the state and the operands that its clauses name, exec answers a next state with the own effect of selfTest,
healthPublication, heartbeatSend, heartbeat, heartbeatLoss, pylonBootStage, componentImageLoad. -/
def Obligations.PylonHealth : Prop :=
  ∀ (k : Fin 2) (s : State), s.running = true → s.pyl.pylons.length = 2 → s.upd.comps.length = 9 →
    let st := s.pylState k
    let beat : Beat := { state := st, pass := s.get (Reg.PYL_HEALTH_PASS k), ready := s.get (Reg.PYL_HEALTH_READY k), gen := (s.newestSlot.map (·.2.gen)).getD 0 }
    (s.pylRuns k = false → ∀ c ∈ [Instr.selfTest k 0 true, .selfTest k 9 false, .healthPublication k, .heartbeatSend k, .heartbeatLoss k], exec c s = .next s)
    ∧ (s.pylRuns k = true →
      (∀ (n : Fin 10) pass, ∃ t, exec (.selfTest k n pass) s = .next t ∧ t.flag (passBit k n) = pass ∧ MemSame s t
          ∧ (pass = false → t.flag (failBit k n) = true ∧ t.get (Reg.PYL_CNT_STFAIL k) = min (s.get (Reg.PYL_CNT_STFAIL k) + 1) 255)
          ∧ RegsBut [Reg.PYL_HEALTH k, Reg.PYL_CNT k, Reg.PYL_STATUS k] s t
          ∧ t.pylReady k = ((t.get (Reg.PYL_HEALTH_PASS k) &&& 0x2ff) == 0x2ff)
          ∧ (st = 4 → t.pylState k = 4) ∧ (st ≠ 4 → t.pylState k = if t.pylReady k = true then 3 else 2))
      ∧ (∃ t, exec (.healthPublication k) s = .next t ∧ t.get (Reg.PYL_HEALTH_FT_FT k) = s.ft % 2 ^ 64 ∧ RegsOnly [Reg.PYL_HEALTH k, Reg.PYL_STATUS k, Reg.PYL_HEALTH_FT k] s t
          ∧ t.pylReady k = ((s.get (Reg.PYL_HEALTH_PASS k) &&& 0x2ff) == 0x2ff))
      ∧ ((∀ x, (s.pylon k).sentAt = some x → x + 100000 ≤ s.now) → ∃ t, exec (.heartbeatSend k) s = .next t ∧ t.regs = s.regs ∧ (t.pylon k).sent = (s.pylon k).sent ++ [beat])
      ∧ (∀ b rest, (s.pylon (1 - k.val)).sent = b :: rest → ∃ t, exec (.heartbeat k) s = .next t ∧ (t.pylon (1 - k.val)).sent = rest ∧ (t.pylon k).beat = some b
          ∧ (t.pylon k).beats = (s.pylon k).beats + 1 ∧ MemSame s t
          ∧ (9 ≤ (s.pylon k).beats → t.flag (Reg.PYL_STATUS_XLINK k) = true ∧ t.flag (passBit k 8) = true) ∧ ((s.pylon k).beats < 9 → t.regs = s.regs))
      ∧ ((∃ x, (s.pylon k).sentAt = some x ∧ s.now < x + 100000) → exec (.heartbeatSend k) s = .next s)
      ∧ (s.now < (s.pylon k).beatAt + 1000000 → exec (.heartbeatLoss k) s = .next s)
      ∧ ((s.pylon k).beatAt + 1000000 ≤ s.now → ∃ t, exec (.heartbeatLoss k) s = .next t ∧ (t.pylon k).beats = 0 ∧ t.flag (Reg.PYL_STATUS_XLINK k) = false
          ∧ (s.flag (Reg.PYL_STATUS_XLINK k) = true → t.flag (passBit k 8) = false ∧ t.get (Reg.PYL_CNT_XLOSS k) = min (s.get (Reg.PYL_CNT_XLOSS k) + 1) 255)
          ∧ t.holder = s.holder))
    ∧ ((s.pylon (1 - k.val)).sent = [] → exec (.heartbeat k) s = .next s)
    ∧ (∀ a b ring, st ≠ 1 ∨ (s.pylon k).recovery = true ∨ s.pylHeld k = true ∨ 3 < (s.pylon k).stage → exec (.pylonBootStage k ring ⟨a, b⟩) s = .next s)
    ∧ (st = 1 → (s.pylon k).recovery = false → s.pylHeld k = false →
        let n := (s.pylon k).stage
        (∀ a b ring, n = 0 → s.get (Reg.SEC_EXTCNT_COUNT 0) = 0 → ∃ t, exec (.pylonBootStage k ring ⟨a, b⟩) s = .next t ∧ (t.pylon k).stage = 1 ∧ t.get (Reg.SEC_EXTCNT_COUNT 0) = 1
            ∧ t.flag Reg.SEC_STATUS_KEYOK = s.sec.keyed ∧ MemSame s t)
        ∧ (∀ a b ring, n = 0 → s.get (Reg.SEC_EXTCNT_COUNT 0) ≠ 0 → ∃ t, exec (.pylonBootStage k ring ⟨a, b⟩) s = .next t ∧ (t.pylon k).stage = 1 ∧ t.regs = s.regs)
        ∧ (∀ a b ring, n = 1 → ∃ t, exec (.pylonBootStage k ring ⟨a, b⟩) s = .next t ∧ (t.pylon k).stage = 2 ∧ MemSame s t
            ∧ t.flag (Reg.EVR_STATUS_DEGRADED k) = (s.flag (Reg.EVR_STATUS_DEGRADED k) && !ring)
            ∧ t.get (Reg.SEC_EXTCNT_COUNT (1 + k)) = (s.get (Reg.SEC_EXTCNT_COUNT (1 + k)) + 1) % 2 ^ (Reg.SEC_EXTCNT_COUNT 0).width)
        ∧ (∀ a b ring i, n = 2 → (s.pylon k).recoverNext = false → s.bootSlot 2 k a b = some i → ∃ t, exec (.pylonBootStage k ring ⟨a, b⟩) s = .next t ∧ (t.pylon k).stage = 3
            ∧ (t.comp 2 k).image = (s.comp 2 k).slot i ∧ (t.comp 2 k).running = i ∧ (t.comp 2 k).started = true ∧ t.pylState k = 1)
        ∧ (∀ a b ring, n = 2 → (s.pylon k).recoverNext = true ∨ s.bootSlot 2 k a b = none → ∃ t, exec (.pylonBootStage k ring ⟨a, b⟩) s = .next t ∧ (t.pylon k).recovery = true
            ∧ t.get Reg.UPD_STATUS_LOCK = 3 ∧ t.pylState k = 1)
        ∧ (∀ a b ring i, n = 3 → s.bootSlot 1 k a b = some i → ∃ t, exec (.pylonBootStage k ring ⟨a, b⟩) s = .next t ∧ (t.pylon k).stage = 4 ∧ t.pylState k = 2
            ∧ (t.comp 1 k).image = (s.comp 1 k).slot i ∧ (t.comp 1 k).running = i ∧ (t.comp 1 k).started = true)
        ∧ (∀ a b ring, n = 3 → s.bootSlot 1 k a b = none → ∃ t, exec (.pylonBootStage k ring ⟨a, b⟩) s = .next t ∧ (t.pylon k).recovery = true ∧ t.get Reg.UPD_STATUS_LOCK = 3))
    ∧ (∀ (c : Fin 5) good,
        (s.holder = none ∨ s.pyl.granted = false ∨ s.upd.loads ≠ c.val → exec (.componentImageLoad c good) s = .next s)
        ∧ (s.holder.isSome = true → s.pyl.granted = true → s.upd.loads = c.val →
            let r := 3 + c.val
            let x := s.comp r 0
            let i := x.slot x.boot
            let starts : Prop := good = true ∧ i.valid = true ∧ (s.keySlot i.root).isSome = true
            (starts → ∃ t, exec (.componentImageLoad c good) s = .next t ∧ t.upd.loads = c.val + 1 ∧ (t.comp r 0).image = i ∧ (t.comp r 0).running = x.boot
              ∧ (t.comp r 0).started = true ∧ (r = 6 → ∀ p, p < 11 → t.get (Reg.LNK_ID_EPOCH p) = i.linkep % 256)
              ∧ t.get (Reg.SEC_EXTCNT_COUNT r) = (s.get (Reg.SEC_EXTCNT_COUNT r) + 1) % 2 ^ (Reg.SEC_EXTCNT_COUNT 0).width)
            ∧ (¬ starts → ∃ t u, exec (.componentImageLoad c good) s = .next t ∧ u = { s with upd := { s.upd with loads := c.val + 1 } }
              ∧ t = u.occur 0x0e01 0 (leBytes 1 r ++ leBytes 1 ((s.keySlot i.root).getD 0xff)))))

/-- CHECKPOINT_WRITE puts the present contents into the slot that does not hold the newest, with the next GEN; CHECKPOINT_NV_COPY copies the newest, at most once a second and only when GEN changed. CHECKPOINT_LOAD takes the first slot that the firmware accepts, or loses every
coefficient with CKPTLOST. TAKEOVER_COMPLETE after the first ACTIVE frame takes the circuits over, those that moved ended, and completes the mailboxes: a command that is not idempotent with 0x0004, PYL_HANDOVER with 0x0000. PYL_HANDOVER is refused for a standby that is not READY,
a down cross-link or a moving circuit, and HANDOFF_CHECKPOINT releases the token with cause 1 or ends it.
Completion: under the conditions on the state and the operands that its clauses name, exec answers a next state with the own effect of
checkpointWrite, checkpointNvCopy, checkpointLoad, takeoverComplete, pylHandover, handoffCheckpoint. -/
def Obligations.CheckpointsAndTakeover : Prop :=
  ∀ s : State, s.running = true → s.pyl.slots.length = 2 → s.pyl.pylons.length = 2 → s.pyl.gates.length = 2 →
    (s.holder = none → ∀ c ∈ [Instr.checkpointWrite, .checkpointNvCopy, .checkpointLoad, .takeoverComplete, .handoffCheckpoint true, .handoffCheckpoint false], exec c s = .next s)
    ∧ ∀ k, s.holder = some k →
      (s.pyl.takeover = none → ∃ t i, exec .checkpointWrite s = .next t ∧ t.newestSlot = some (i, s.checkpointOf k false) ∧ t.regs = s.regs ∧ MemSame s t
          ∧ ∀ j c, s.newestSlot = some (j, c) → i = 1 - j ∧ t.pyl.slots[j]? = some c ∧ (s.checkpointOf k false).gen = c.gen + 1)
      ∧ (s.pyl.takeover.isSome = true → exec .checkpointWrite s = .next s)
      ∧ (∀ i c, s.newestSlot = some (i, c) → (∀ t, s.pyl.nvAt = some t → t + 1000000000 ≤ s.now) → (s.pyl.nv.valid = false ∨ s.pyl.nv.gen ≠ c.gen) →
          exec .checkpointNvCopy s = .next { s with pyl := { s.pyl with nv := c, nvAt := some s.now } })
      ∧ (∀ i c, s.newestSlot = some (i, c) → ((∃ t, s.pyl.nvAt = some t ∧ s.now < t + 1000000000) ∨ (s.pyl.nv.valid = true ∧ s.pyl.nv.gen = c.gen)) → exec .checkpointNvCopy s = .next s)
      ∧ (s.pyl.takeover = some .loading →
          (∀ c, s.chooseCheckpoint k = some c → ∃ t, exec .checkpointLoad s = .next t ∧ t.pyl.takeover = some (.loaded (some c))
              ∧ (t.servo k).mirrors = c.mirrors ∧ (t.servo k).takeover = some (some c.srvgen) ∧ MemSame s t)
          ∧ (s.chooseCheckpoint k = none → ∃ t, exec .checkpointLoad s = .next t ∧ t.pyl.takeover = some (.loaded none) ∧ t.flag (Reg.PYL_STATUS_CKPTLOST k) = true
              ∧ (∀ b m o, b < 2 → m < 128 → o < 152 → t.reg (Reg.SRV_COEF_A k b m o) = 0)
              ∧ (∀ m, m < 128 → s.driven k m = true → t.get (Reg.SRV_MIR_CTL_MODE k m) = 1)))
      ∧ (s.pyl.takeover ≠ some .loading → exec .checkpointLoad s = .next s)
      ∧ (∀ c, s.pyl.takeover = some (.loaded c) → (s.servo k).activeSent = false → exec .takeoverComplete s = .next s)
      ∧ (∀ c, s.pyl.takeover = some (.loaded c) → (s.servo k).activeSent = true → (∀ y, c = some y → ∀ e ∈ y.recorder, e.1 < 0x100000) →
          let circuits := (c.map Checkpoint.circuits).getD []
          ∃ t, exec .takeoverComplete s = .next t ∧ t.pyl.takeover = none ∧ t.pyl.handover = none ∧ t.holder = some k ∧ MemSame s t
            ∧ (∀ p, 6 ≤ p → p ≤ 9 → (t.circuit p).map (fun y => (y.phase, y.result))
                = ((circuits.find? (·.1 == p)).map (·.2)).map fun y => if y.moving = true then (9, 11) else (y.phase, y.result))
            ∧ (∀ n, n < 8 → s.flag (Reg.MBX_CTL_GO n) = true → mbxIdempotent (s.get (Reg.MBX_CTL_CMD n)) = false → s.pyl.handover.any (fun h => h.1 == some n) = false →
                s.upd.act.any (fun a => a.who == Asker.mailbox n) = false → t.flag (Reg.MBX_CTL_GO n) = false ∧ t.get (Reg.MBX_CTL_STATUS n) = 4)
            ∧ (∀ n b, n < 8 → s.pyl.handover = some (some n, b) → t.flag (Reg.MBX_CTL_GO n) = false ∧ t.get (Reg.MBX_CTL_STATUS n) = 0 ∧ t.get (Reg.MBX_CTL_RLEN n) = 2
                ∧ t.get (Reg.MBX_RSP_V n 1) = s.ft % 2 ^ 64))
      ∧ (∀ n : Fin 8, s.mbxHas n 0x0e01 = true →
          (s.pyl.handover.isSome = true ∨ s.pyl.takeover.isSome = true → exec (.pylHandover n) s = .next s)
          ∧ (s.pyl.handover = none → s.pyl.takeover = none → s.handoverCheck k ≠ 0 → exec (.pylHandover n) s = .next (s.mbxFail n (s.handoverCheck k)))
          ∧ (s.pyl.handover = none → s.pyl.takeover = none → s.handoverCheck k = 0 →
              exec (.pylHandover n) s = .next { s with pyl := { s.pyl with handover := some (some n.val, false) } }))
      ∧ (∀ n : Fin 8, s.mbxHas n 0x0e01 = false → exec (.pylHandover n) s = .next s)
      ∧ (∀ who, s.pyl.handover = some (who, false) → k < 2 →
          let u (good : Bool) : State := s.putCheckpoint { s.checkpointOf k true with valid := good }
          (s.pylReady (1 - k) = true → exec (.handoffCheckpoint true) s = .next (s.keeping ((u true).release k 1)))
          ∧ (∀ good, good = false ∨ s.pylReady (1 - k) = false → ∃ t, exec (.handoffCheckpoint good) s = .next t ∧ t.pyl.handover = none ∧ t.holder = some k
              ∧ ∀ n, n < 8 → who = some n → t.get (Reg.MBX_CTL_STATUS n) = (if good = true then 0x0101 else 0x0104) ∧ t.flag (Reg.MBX_CTL_GO n) = false))
      ∧ (∀ good, (∀ who, s.pyl.handover ≠ some (who, false)) → exec (.handoffCheckpoint good) s = .next s)

/-- An occurrence of a reserved code group is counted in BADCODE; one whose code has no token left in RATELIM; any other goes to the FIFO, to the holding queue while the writer is frozen, or is counted. RECORD_WRITE takes the head of the FIFO with the next sequence number into the
ring, where the vault would lose an older record counted in VLOST; a bad ring word begins degraded mode, in which records go straight to the vault. A Critical record sets CRIT. SUMMARY_PERIOD queues a summary for each suppressed code. FREEZE stops the writer; its end, and its timeout FRZMAX ms after it, let it
go on behind a freeze summary. A good VAULT_COMMIT, outside shutdown, holds every record between the mark and the newest, and moves the mark; a failed one is logged, and the third in succession sets VFAIL. VAULT_READ gives the records at consecutive sequence numbers, zeros where the vault does not hold that number, and the mark. NOTICE_SEND puts
up to three waiting records, the highest class first, into one notice for each valid target, within the budget of the ms; nothing goes out while the token moves.
Completion: under the conditions on the state and the operands that its clauses name, exec answers a next state with the own effect of occurrence,
recordWrite, summaryPeriod, freeze, freezeEnd, freezeTimeout, vaultCommit, noticeSend, vaultRead. -/
def Obligations.EventRecorder : Prop :=
   (∀ s : State, s.running = true →
      (∀ (code : Fin 65536) (sev : Fin 5) (src : Nat) (data : List Byte),
        let c := code.val
        let group := c / 256
        let o : Occ := { code := c, sev := if 0x8000 ≤ c then sev.val else evSev c, ft := s.ft, src, count := 1, summary := false, data := data.take 40 }
        let free : Prop := (1 ≤ c ∧ c ≤ 0xff) ∨ evToken ≤ s.evLevel c
        ((0x13 ≤ group ∧ group < 0x80) → exec (.occurrence code sev src data) s = .next (s.sat (Reg.EVR_LOST_BADCODE s.evr) 1))
        ∧ (¬ (0x13 ≤ group ∧ group < 0x80) → ¬ free → ∃ t, exec (.occurrence code sev src data) s = .next t ∧ t.ev.fifo = s.ev.fifo ∧ t.ev.held = s.ev.held
            ∧ RegsOnly [Reg.EVR_LOST s.evr] s { t with ev := s.ev } ∧ t.get (Reg.EVR_LOST_RATELIM s.evr) = (s.get (Reg.EVR_LOST_RATELIM s.evr) + 1) % 2 ^ 32)
        ∧ (¬ (0x13 ≤ group ∧ group < 0x80) → free →
            (s.evFrozen = false → s.evFull = false → ∃ t, exec (.occurrence code sev src data) s = .next t ∧ t.ev.fifo = s.ev.fifo ++ [o] ∧ t = { s with ev := t.ev })
            ∧ (s.evFrozen = true → s.ev.held.length < 256 → ∃ t, exec (.occurrence code sev src data) s = .next t ∧ t.ev.held = s.ev.held ++ [o] ∧ t.ev.fifo = s.ev.fifo ∧ t = { s with ev := t.ev })
            ∧ (s.evFrozen = true → 256 ≤ s.ev.held.length → ∃ t, exec (.occurrence code sev src data) s = .next t ∧ t.ev.held = s.ev.held ∧ t.ev.fifo = s.ev.fifo
                ∧ t.get (evSevLost s.evr o.sev) = min (s.get (evSevLost s.evr o.sev) + 1) (2 ^ (evSevLost s.evr o.sev).width - 1))
            ∧ (s.evFrozen = false → s.evFull = true → ∃ t, exec (.occurrence code sev src data) s = .next t ∧ t.ev.fifo = s.ev.fifo ∧ t.ev.supp = suppAdd s.ev.supp c o.sev s.ft 0 1
                ∧ t.get Reg.AON_EVINTAKE_OVERFLOW = (s.get Reg.AON_EVINTAKE_OVERFLOW + 1) % 2 ^ Reg.AON_EVINTAKE_OVERFLOW.width)))
      ∧ (∀ good, s.holder = none ∨ s.ev.fifo = [] ∨ s.pyl.takeover.isSome = true ∨ s.evFrozen = true → exec (.recordWrite good) s = .next s)
      ∧ (∀ k o rest, s.holder = some k → s.ev.fifo = o :: rest → s.pyl.takeover = none → s.evFrozen = false →
          let seq := s.get Reg.AON_EVSEQ_NEXT
          let place := seq % 16384
          (s.flag (Reg.EVR_STATUS_DEGRADED k) = false →
            ∃ t, exec (.recordWrite true) s = .next t ∧ t.ev.fifo = rest ∧ t.get Reg.AON_EVSEQ_NEXT = (seq + 1) % 2 ^ 32 ∧ MemSame s t
              ∧ (t.ring k).find? (fun x => x.1 == place) = some (place, { occ := o, seq, flags := recFlags k o })
              ∧ (o.sev = 4 → t.flag Reg.AON_ALERT_CRIT = true)
              ∧ (∀ n old, (s.ring k).find? (fun x => x.1 == place) = some (n, old) → (s.set Reg.AON_EVSEQ_NEXT (seq + 1)).uncommitted k old.seq = true →
                  t.get (Reg.EVR_LOST_VLOST k) = min (s.get (Reg.EVR_LOST_VLOST k) + 1) (2 ^ 16 - 1)))
          ∧ (∀ good, s.flag (Reg.EVR_STATUS_DEGRADED k) = true → s.flag (Reg.EVR_VAULT_VFAIL k) = false →
            ∃ t, exec (.recordWrite good) s = .next t ∧ t.ev.fifo = rest ∧ t.get Reg.AON_EVSEQ_NEXT = (seq + 1) % 2 ^ 32 ∧ t.ring k = s.ring k
              ∧ t.ev.vault.find? (fun x => x.1 == seq % 1048576) = some (seq % 1048576, { occ := o, seq, flags := recFlags k o + 16 }))
          ∧ (s.flag (Reg.EVR_STATUS_DEGRADED k) = false →
            ∃ t, exec (.recordWrite false) s = .next t ∧ t.ev.fifo = rest ∧ t.flag (Reg.EVR_STATUS_DEGRADED k) = true ∧ t.flag (ringBit k) = true ∧ t.flag Reg.AON_ALERT_CRIT = true
              ∧ t.get Reg.AON_EVSEQ_NEXT = (seq + 2) % 2 ^ 32 ∧ t.ring k = s.ring k))
      ∧ (let period := 1000000 * max 1 (s.get (Reg.EVR_CTL_SUMPERIOD s.evr))
         (∀ t, s.ev.sumFt = some t → s.ft / period ≤ t / period → exec .summaryPeriod s = .next s)
         ∧ ((∀ t, s.ev.sumFt = some t → t / period < s.ft / period) → s.evFrozen = false → s.ev.fifo.length + s.ev.supp.length ≤ 512 → s.ev.supp.length ≤ 256 →
            (s.ev.drops.all (· == 0)) = true → ∃ t, exec .summaryPeriod s = .next t ∧ t.ev.sumFt = some s.ft ∧ t.ev.supp = [] ∧ t.regs = s.regs
              ∧ t.ev.fifo = s.ev.fifo ++ s.ev.supp.map fun x => summaryOcc s.ft x.1 x.2))
      ∧ (∀ i : Fin 2, s.flag ⟨Reg.PWR_RST, 17 + i.val, 1⟩ = false →
          (∃ t, exec (.freeze i) s = .next t ∧ t.flag (Reg.EVR_CTL_FREEZE i) = true ∧ t.flag (Reg.EVR_STATUS_FROZEN i) = true
            ∧ RegsOnly [Reg.EVR_CTL i, Reg.EVR_STATUS i] s { t with ev := s.ev }
            ∧ t.ev = if s.flag (Reg.EVR_STATUS_FROZEN i) = true then s.ev else { s.ev with frozenAt := s.ev.frozenAt.set i.val s.now })
          ∧ exec (.freezeEnd i) s = .next (s.freezeEnd i))
      ∧ (∀ i : Fin 2,
          let overdue : Prop := s.ev.frozenAt.getD i.val 0 + 1000000 * max 1 (s.get (Reg.EVR_CTL_FRZMAX i)) ≤ s.now
          (s.flag (Reg.EVR_STATUS_FROZEN i) = false ∨ ¬ overdue → exec (.freezeTimeout i) s = .next s)
          ∧ (s.flag (Reg.EVR_STATUS_FROZEN i) = true → overdue → exec (.freezeTimeout i) s = .next (s.freezeEnd i)
            ∧ (s.freezeEnd i).flag (Reg.EVR_STATUS_FROZEN i) = false ∧ (s.freezeEnd i).flag (Reg.EVR_CTL_FREEZE i) = false
            ∧ (s.holder = some i.val → (s.freezeEnd i).ev.held = [] ∧ (∀ c, c < 5 → (s.freezeEnd i).get (evSevLost i c) = 0)
                ∧ (s.freezeEnd i).ev.fifo = s.ev.fifo ++ s.ev.held ++ (if (s.sevLost i).all (· == 0) = true then []
                    else [{ code := 0x0002, sev := 1, ft := s.ft, src := i, count := 1, summary := false, data := counts5 (s.sevLost i) }])))))
  ∧
   (∀ s : State, s.running = true →
      (∀ good, s.holder = none ∨ s.pyl.takeover.isSome = true ∨ s.pwr.shutdown.isSome = true → exec (.vaultCommit good) s = .next s)
      ∧ (∀ k, s.holder = some k → s.pyl.takeover = none → s.pwr.shutdown = none →
          (∃ t, exec (.vaultCommit true) s = .next t ∧ t.get (Reg.EVR_VAULT_MARK k) = s.get Reg.AON_EVSEQ_NEXT ∧ t.ev.failRun = 0 ∧ t.ev.fifo = s.ev.fifo
            ∧ (∀ r ∈ s.toCommit k, (∀ q ∈ s.toCommit k, q.seq % 1048576 = r.seq % 1048576 → q = r) →
                t.ev.vault.find? (fun x => x.1 == r.seq % 1048576) = some (r.seq % 1048576, r))
            ∧ RegsOnly [Reg.EVR_VAULT k] s { t with ev := s.ev })
          ∧ (∃ t, exec (.vaultCommit false) s = .next t ∧ t.ev.failRun = s.ev.failRun + 1 ∧ t.ev.vault = s.ev.vault ∧ t.get (Reg.EVR_VAULT_MARK k) = s.get (Reg.EVR_VAULT_MARK k)
            ∧ t.flag (Reg.EVR_VAULT_VFAIL k) = (s.flag (Reg.EVR_VAULT_VFAIL k) || decide (2 ≤ s.ev.failRun))))
      ∧ (∀ n : Fin 8,
          let first := s.mbxArg n 1 % 2 ^ 32
          let count := s.mbxArg n 2 % 4
          (s.mbxHas n 0x0f01 = false → exec (.vaultRead n) s = .next s)
          ∧ (s.mbxHas n 0x0f01 = true → count = 0 → exec (.vaultRead n) s = .next (s.mbxFail n 2))
          ∧ (s.mbxHas n 0x0f01 = true → count ≠ 0 → ∃ t, exec (.vaultRead n) s = .next t ∧ t.get (Reg.MBX_CTL_STATUS n) = 0 ∧ t.get (Reg.MBX_CTL_RLEN n) = 26
              ∧ t.get (Reg.MBX_RSP_V n 25) = s.get (Reg.EVR_VAULT_MARK s.evr) ∧ t.ev = s.ev ∧ MemSame s t
              ∧ ∀ i j, i < count → j < 8 → t.get (Reg.MBX_RSP_V n (1 + 8 * i + j)) = leAt (s.vaultRead ((first + i) % 2 ^ 32)) (8 * j) 8))
      ∧ (∀ seq r, s.ev.vault.find? (fun x => x.1 == seq % 1048576) = some (seq % 1048576, r) → s.vaultRead seq = if r.seq = seq then evBytes r else List.replicate 64 0)
      ∧ (s.holder = none ∨ s.pyl.takeover.isSome = true ∨ s.pyl.handover.isSome = true → exec .noticeSend s = .next s)
      ∧ (∀ k, s.holder = some k → s.pyl.takeover = none → s.pyl.handover = none → s.ev.sendTo = [] →
          let sorted := s.ev.notices.mergeSort noticeBefore
          let used := if s.ev.budgetMs = s.ft / 1000000 then s.ev.budgetUsed else 0
          ∃ t, exec .noticeSend s = .next t ∧ t.ev.sending = sorted.take 3 ∧ t.ev.notices = sorted.drop 3 ∧ MemSame s t ∧ t.ev.budgetMs = s.ft / 1000000
            ∧ (∀ targets, targets = (if sorted.isEmpty = true then [] else s.noticeTargets k) → targets.length + used ≤ max 1 (s.get (Reg.EVR_NOTIFY_NBUDGET k)) →
                t.ev.sendTo = [] ∧ t.ev.budgetUsed = used + targets.length ∧ t.get Reg.AON_MSEQ_NEXT = (s.get Reg.AON_MSEQ_NEXT + targets.length) % 2 ^ 32
                ∧ ∀ d, targets = [d] → ∃ e, (s.pyl.outNext, e) ∈ t.pyl.outbox ∧ e.frame.dstmod = d ∧ e.frame.body = noticeBody (sorted.take 3)
                    ∧ e.frame.tag = s.get Reg.AON_MSEQ_NEXT)))

/-- CLR clears a bank's cycle counter, counts and overflow bits; a counter that passes its top wraps and sets its overflow bit, and the bank's stop when OVFFRZ is set. EN empties the buffer. An epoch or NOW makes a record: at HEAD, with the next SEQ, or dropped when the buffer is full without WRAP or has fewer than two slots. A tagged
instruction shows BUSY; its record is written at TAGHEAD, or dropped and counted. CLR of a histogram clears its bins and total.
Completion: under the conditions on the state and the operands that its clauses name, exec answers a next state with the own effect of counterClear,
counterOverflow, ctrEnable, snapshotEpoch, manualSnapshot, instructionTagged, tagRecordWrite, histogramClear. -/
def Obligations.CountersAndSnapshots : Prop :=
  ∀ s : State, s.running = true →
    (∀ (kind : Fin 7) inst, bankExists kind inst = false → exec (.counterClear kind inst) s = .next s ∧ ∀ n, exec (.counterOverflow kind inst n) s = .next s)
    ∧ (∀ (kind : Fin 7) inst, bankExists kind inst = true →
        let b := bankBase kind inst
        (s.reaches b = true → ∃ t, exec (.counterClear kind inst) s = .next t ∧ t.get (pmcCycle b) = 0 ∧ (∀ n, n < 6 → t.get (pmcCnt b n) = 0 ∧ t.flag (pmcOvf b n) = false)
          ∧ t = { s with regs := t.regs } ∧ ∀ a, (a < b + 0x10 ∨ b + 0xb0 ≤ a ∨ (b + 0x40 ≤ a ∧ a < b + 0x80)) → t.reg a = s.reg a)
        ∧ (s.reaches b = false → exec (.counterClear kind inst) s = .next s)
        ∧ (∀ n : Fin 6, (s.bankAbsent kind inst = true ∨ s.flag (pmcEn b) = false ∨ s.flag (pmcSelEn b n) = false) → exec (.counterOverflow kind inst n) s = .next s)
        ∧ (∀ n : Fin 6, s.bankAbsent kind inst = false → s.flag (pmcEn b) = true → s.flag (pmcSelEn b n) = true → (n.val % 2 = 1 ∨ s.flag (pmcSelChain b (n + 1)) = false) →
            ∃ t, exec (.counterOverflow kind inst n) s = .next t ∧ t.get (pmcCnt b n) = 0 ∧ t.flag (pmcOvf b n) = true ∧ t.flag (pmcEn b) = !s.flag (pmcOvfFrz b) ∧ MemSame s t)
        ∧ (∀ n : Fin 6, s.bankAbsent kind inst = false → s.flag (pmcEn b) = true → s.flag (pmcSelEn b n) = true → n.val % 2 = 0 → s.flag (pmcSelChain b (n + 1)) = true →
            s.flag (pmcSelEn b (n + 1)) = true →
            ∃ t, exec (.counterOverflow kind inst n) s = .next t ∧ t.get (pmcCnt b n) = 0 ∧ t.get (pmcCnt b (n + 1)) = (s.get (pmcCnt b (n + 1)) + 1) % 2 ^ 48))
    ∧ (∃ t, exec .ctrEnable s = .next t ∧ t.flag Reg.CTR_CTL_EN = true ∧ t.get Reg.CTR_HEAD_HEAD = 0 ∧ t.get Reg.CTR_TAIL_TAIL = 0 ∧ t.reg Reg.CTR_STATUS = 0
        ∧ RegsOnly [Reg.CTR_CTL, Reg.CTR_HEAD, Reg.CTR_TAIL, Reg.CTR_STATUS] s { t with ctr := s.ctr } ∧ (s.flag Reg.CTR_CTL_EN = false → t.ctr.epoch = s.epochNow))
    ∧ exec .manualSnapshot s = .next (s.keeping (s.ctrRecord true s.ft))
    ∧ (let at_ (n : Nat) : Nat := n * s.ctrPeriod + s.ctrPhase
       let waits (n : Nat) : Prop := at_ n < s.ctr.resume ∨ s.swapDue (at_ n) = true ∨ s.startDue (at_ n) = true ∨ s.barDue (at_ n) = true
       (s.flag Reg.CTR_CTL_EN = false ∨ s.epochNow = none ∨ s.ctr.epoch = s.epochNow ∨ (∃ n, s.epochNow = some n ∧ waits n) → exec .snapshotEpoch s = .next s)
       ∧ (∀ n, s.flag Reg.CTR_CTL_EN = true → s.epochNow = some n → s.ctr.epoch ≠ some n → ¬ waits n → (∀ m, s.ctr.epoch = some m → n ≤ m + 1) →
        (s.ctr.epoch = none → n ≤ (s.ctr.resume - s.ctrPhase + s.ctrPeriod - 1) / s.ctrPeriod) → exec .snapshotEpoch s = .next (s.keeping (State.ctrRecord { s with ctr := { s.ctr with epoch := some n } } false (n * s.ctrPeriod + s.ctrPhase))))
       ∧ (∀ m n, s.flag Reg.CTR_CTL_EN = true → s.epochNow = some n → s.ctr.epoch = some m → m + 1 < n → ¬ waits n →
        ∃ t, exec .snapshotEpoch s = .next t ∧ t.ctr.epoch = some n ∧ t.get Reg.CTR_STATUS_MISSED = min (s.get Reg.CTR_STATUS_MISSED + (n - m - 1)) (2 ^ Reg.CTR_STATUS_MISSED.width - 1)))
    ∧ (∀ manual ft,
        let d := s.snapshot manual ft
        let slots := s.ctrSlots
        let h := s.get Reg.CTR_HEAD_HEAD
        let a := s.get Reg.CTR_BUF_ADDR / 4096 * 4096 + h * d.length
        let full : Prop := (h + 1) % max 1 slots = s.get Reg.CTR_TAIL_TAIL
        let t := s.ctrRecord manual ft
        t.get Reg.CTR_SEQ_SEQ = (s.get Reg.CTR_SEQ_SEQ + 1) % 2 ^ Reg.CTR_SEQ_SEQ.width
        ∧ ((slots < 2 ∨ (full ∧ s.flag Reg.CTR_CTL_WRAP = false)) → MemSame s t ∧ t.get Reg.CTR_HEAD_HEAD = h ∧ t.ctr.dropped = s.ctr.dropped + 1
            ∧ t.get Reg.CTR_STATUS_DROPPED = min (s.get Reg.CTR_STATUS_DROPPED + 1) (2 ^ Reg.CTR_STATUS_DROPPED.width - 1))
        ∧ (2 ≤ slots → (¬ full ∨ s.flag Reg.CTR_CTL_WRAP = true) → a + d.length ≤ dramEnd →
            t.bytes a d.length = d ∧ (∀ b, b < a ∨ a + d.length ≤ b → t.byte b = s.byte b) ∧ t.get Reg.CTR_HEAD_HEAD = (h + 1) % slots % 2 ^ Reg.CTR_HEAD_HEAD.width
            ∧ t.get Reg.CTR_TAIL_TAIL = (if (h + 1) % slots = s.get Reg.CTR_TAIL_TAIL then (s.get Reg.CTR_TAIL_TAIL + 1) % slots % 2 ^ Reg.CTR_TAIL_TAIL.width else s.get Reg.CTR_TAIL_TAIL)
            ∧ t.ctr.missed = 0 ∧ t.ctr.dropped = 0))
    ∧ (∀ i : Fin 288, ((s.spindle i).tagged = none → exec (.instructionTagged i) s = .next s ∧ exec (.tagRecordWrite i) s = .next s)
        ∧ ∀ x, (s.spindle i).tagged = some x →
          let n := s.get Reg.CTR_TAGSZ_RECORDS
          let h := s.get Reg.CTR_TAGHEAD_HEAD
          let a := s.get Reg.CTR_TAGBUF_ADDR / 4096 * 4096 + 64 * h
          let full : Prop := n < 2 ∨ (h + 1) % n = s.get Reg.CTR_TAGTAIL_TAIL
          exec (.instructionTagged i) s = .next (s.set (Reg.SPN_PMC_TAG_BUSY i) 1)
          ∧ (full → ∃ t, exec (.tagRecordWrite i) s = .next t ∧ (t.spindle i).tagged = none ∧ t.flag (Reg.SPN_PMC_TAG_BUSY i) = false ∧ MemSame s t
              ∧ t.get Reg.CTR_TAGSTAT_DROPPED = min (s.get Reg.CTR_TAGSTAT_DROPPED + 1) (2 ^ Reg.CTR_TAGSTAT_DROPPED.width - 1))
          ∧ (¬ full → a + 64 ≤ dramEnd → ∃ t, exec (.tagRecordWrite i) s = .next t ∧ (t.spindle i).tagged = none ∧ t.flag (Reg.SPN_PMC_TAG_BUSY i) = false
              ∧ t.get Reg.CTR_TAGHEAD_HEAD = (h + 1) % n % 2 ^ Reg.CTR_TAGHEAD_HEAD.width ∧ (∀ b, b < a ∨ a + 64 ≤ b → t.byte b = s.byte b)
              ∧ t.bytes a 16 = leBytes 2 i ++ leBytes 1 x.gang ++ leBytes 1 x.slot ++ leBytes 4 (unsigned 32 x.pc) ++ leBytes 8 x.ft ∧ t.num (a + 48) 8 = x.word % 2 ^ 64))
    ∧ (∀ h : Fin 17, ∃ t, exec (.histogramClear h) s = .next t ∧ (∀ b, b < 32 → t.get (Reg.CTR_HIST_BIN_COUNT h b) = 0) ∧ t.get (Reg.CTR_HIST_TOTAL_TOTAL h) = 0
        ∧ t = { s with regs := t.regs } ∧ ∀ a, (∀ b, b < 32 → a ≠ (Reg.CTR_HIST_BIN_COUNT h b).addr) → a ≠ (Reg.CTR_HIST_TOTAL_TOTAL h).addr → t.reg a = s.reg a)

/-- A request of a mailbox or, within the token bucket, of a module reaches the signer, which refuses it without a key, when the indices are used up, when a reservation failed or when 16 wait, and else queues it; one that
heads the queue is latched when an index is reserved, or a reservation of 256 begins. A reservation is in force only after its copy has been read back, and the second failure is reported. A signature uses index NEXT once, shows LOW and
EXHAUSTED, raises RESV when 64 are left, and delivers the report: to DRAM for the host, to the store of four for a module. Fragments that come back are kept until all are there.
Completion: under the conditions on the state and the operands that its clauses name, exec answers a next state with the own effect of attReport,
attestationRequest, attestationReportFragment, resvWriteComplete, signatureComplete. -/
def Obligations.Attestation : Prop :=
  ∀ s : State, s.running = true →
    (∀ n : Fin 8,
        let a := s.mbxArg n 5 % 2 ^ 43
        let req : SignReq := { who := .mailbox n, nonce := ((List.range 4).map fun k => leBytes 8 (s.mbxArg n (k + 1))).flatten, addr := a }
        (s.mbxHas n 0x1001 = false ∨ (∃ q ∈ s.sec.queue, q.who = .mailbox n) → exec (.attReport n) s = .next s)
        ∧ (s.mbxHas n 0x1001 = true → (∀ q ∈ s.sec.queue, q.who ≠ .mailbox n) →
            ((a % 64 ≠ 0 ∨ dramEnd < a + 6139) → exec (.attReport n) s = .next (s.mbxFail n 2))
            ∧ (a % 64 = 0 → a + 6139 ≤ dramEnd → exec (.attReport n) s = .next (s.keeping (s.signRequest req)))))
    ∧ (∀ (p : Fin 11) f u, MgmtAt s p 3 f u →
        let who := Asker.vc7 f.srcmod f.tag
        let level := u.attLevel
        (s.flag Reg.SEC_CTL_AVC7EN = false ∨ level < attToken →
          exec (.attestationRequest p) s = .next (s.keeping ((State.sat { u with sec := { u.sec with bucket := some (level, s.now) } } Reg.SEC_ARATE_LIMITED 1).refuseReport who 1)))
        ∧ (s.flag Reg.SEC_CTL_AVC7EN = true → attToken ≤ level →
          exec (.attestationRequest p) s = .next (s.keeping (State.signRequest { u with sec := { u.sec with bucket := some (level - attToken, s.now) } }
            { who, nonce := slice f.body 8 32, addr := 0 }))))
    ∧ (s.sec.bucket = none → s.attLevel = max 1 (s.get Reg.SEC_ARATE_BURST) * attToken)
    ∧ (∀ l t, s.sec.bucket = some (l, t) → s.attLevel = min (max 1 (s.get Reg.SEC_ARATE_BURST) * attToken) (l + (s.now - t) * max 1 (s.get Reg.SEC_ARATE_RATE)))
    ∧ (∀ r : SignReq,
        let t := s.signRequest r
        let failed : Prop := s.sec.raiseFailed = true ∧ s.sigResv ≤ s.sigNext
        (s.flag Reg.SEC_STATUS_KEYOK = false → t = s.refuseReport r.who 4)
        ∧ (s.flag Reg.SEC_STATUS_KEYOK = true → s.flag Reg.SEC_STATUS_EXHAUSTED = true → t = s.refuseReport r.who 2)
        ∧ (s.flag Reg.SEC_STATUS_KEYOK = true → s.flag Reg.SEC_STATUS_EXHAUSTED = false → failed → t = s.raiseResv.refuseReport r.who 5)
        ∧ (s.flag Reg.SEC_STATUS_KEYOK = true → s.flag Reg.SEC_STATUS_EXHAUSTED = false → ¬ failed →
            (16 ≤ s.sec.queue.length → t = s.refuseReport r.who 3)
            ∧ (s.sec.queue.length < 16 → t.sec.queue = s.sec.queue ++ [r] ∧ MemSame s t ∧ RegsBut [Reg.SEC_STATUS] s t
              ∧ (s.sec.queue = [] → s.sec.signing = none →
                  (s.sigNext < s.sigResv → t.sec.signing = some (s.reportHead r) ∧ t.flag Reg.SEC_STATUS_BUSY = true)
                  ∧ (s.sigResv ≤ s.sigNext → s.sigResv < 1048576 → s.sec.raising = none → s.pwr.shutdown = none → t.sec.signing = none ∧ t.sec.raising = some (s.sigResv + 256, 0))))))
    ∧ (∀ (who : Asker) astat, MemSame s (s.refuseReport who astat) ∧ (s.refuseReport who astat).sec.queue = s.sec.queue ∧ (s.refuseReport who astat).get Reg.SEC_SIGIDX_NEXT = s.sigNext
        ∧ ∀ n, who = .mailbox n → n < 8 → astat < 6 → (s.refuseReport who astat).get (Reg.MBX_CTL_STATUS n) = 0x100 + astat ∧ (s.refuseReport who astat).flag (Reg.MBX_CTL_GO n) = false)
    ∧ (∀ (p : Fin 11) f u, MgmtAt s p 0x83 f u →
        let frag := leAt f.body 8 2
        (u.outEntry f = none → exec (.attestationReportFragment p) s = .next (u.toFirmware f))
        ∧ ∀ i e, u.outEntry f = some (i, e) →
          ((e.st = 3 ∨ e.frags.any (fun x => x.1 == frag) = true) → exec (.attestationReportFragment p) s = .next (u.sat Reg.AON_MGMT_DUPS 1))
          ∧ (e.st ≠ 3 → e.frags.any (fun x => x.1 == frag) = false → ∃ t e', exec (.attestationReportFragment p) s = .next t ∧ t.pyl.inbox = s.pyl.inbox ++ [f] ∧ (i, e') ∈ t.pyl.outbox
              ∧ e'.frame = e.frame ∧ e'.frags = e.frags ++ [(frag, f.body.drop 16)] ∧ e'.st = if leAt f.body 10 2 ≤ e.frags.length + 1 then 3 else e.st))
    ∧ (∀ good, s.sec.raising = none → exec (.resvWriteComplete good) s = .next s)
    ∧ (∀ v fails, s.sec.raising = some (v, fails) → s.sec.resv.length = 2 →
        (∃ t, exec (.resvWriteComplete true) s = .next t ∧ t.sigResv = v % 2 ^ 21 ∧ resvInForce t.sec.resv = v ∧ t.sigNext = s.sigNext ∧ t.sec.raiseFailed = false ∧ t.sec.queue = s.sec.queue
          ∧ (∀ r rest, s.sec.signing = none → s.sec.queue = r :: rest → s.sigNext < v % 2 ^ 21 → t.sec.signing = some (s.reportHead r)))
        ∧ (∃ t, exec (.resvWriteComplete false) s = .next t ∧ resvInForce t.sec.resv = resvInForce s.sec.resv ∧ t.sigResv = s.sigResv ∧ t.sigNext = s.sigNext ∧ MemSame s t
          ∧ (fails = 0 → t.sec.raising = some (v, 1) ∧ t.regs = s.regs ∧ t.sec.queue = s.sec.queue)
          ∧ (fails ≠ 0 → t.sec.raising = none ∧ t.sec.raiseFailed = true ∧ t.flag Reg.SEC_STATUS_NVFAIL = true
              ∧ t.sec.queue = if s.sigNext < s.sigResv then s.sec.queue else [])))
    ∧ (s.sec.signing = none ∨ s.sec.queue = [] → exec .signatureComplete s = .next s)
    ∧ (∀ m r rest, s.sec.signing = some m → s.sec.queue = r :: rest → s.sigNext < 1048576 →
        let i := s.sigNext
        let d := m ++ signature i m
        let host : Prop := ∃ n, r.who = .mailbox n
        (host → s.memAvail r.addr 6139 = false → exec .signatureComplete s = .next s)
        ∧ ((host → s.memAvail r.addr 6139 = true) → (∀ q ∈ rest, q.who ≠ r.who) → ∃ t, exec .signatureComplete s = .next t ∧ t.sigNext = i + 1
            ∧ t.sec.queue = (if s.flag Reg.SEC_STATUS_EXHAUSTED = true ∨ i + 1 = 1048576 then [] else rest)
            ∧ (1048576 - (i + 1) ≤ s.get Reg.SEC_CTL_LOWMARK → t.flag Reg.SEC_STATUS_LOW = true) ∧ (i + 1 = 1048576 → t.flag Reg.SEC_STATUS_EXHAUSTED = true)
            ∧ (s.sigResv - (i + 1) = 64 → s.sigResv < 1048576 → s.sec.raising = none → s.pwr.shutdown = none → t.sec.raising = some (s.sigResv + 256, 0))
            ∧ (¬ host → MemSame s t)
            ∧ (∀ n, r.who = .mailbox n → n < 8 → m.length = 1176 → r.addr + 6139 ≤ dramEnd →
                let w := s.memWrite r.addr d false
                (w.1 = true → t.bytes r.addr 6139 = d) ∧ (∀ b, b < r.addr ∨ r.addr + 6139 ≤ b → t.byte b = w.2.byte b) ∧ t.get (Reg.MBX_CTL_STATUS n) = 0 ∧ t.get (Reg.MBX_CTL_RLEN n) = 3
                  ∧ t.get (Reg.MBX_RSP_V n 1) = 6139 ∧ t.get (Reg.MBX_RSP_V n 2) = i)
            ∧ (∀ mod tag, r.who = .vc7 mod tag → t.sec.reports = ((mod, tag, d, s.holder.isSome && s.pyl.takeover.isNone) :: s.sec.reports).take 4)))

/-- SEC_EXTGO with a register outside 11 to 15 sets EXTREF; with GO it sets MEAS r to SHAKE256(MEAS r, D), counts it, and appends a log entry, leaving the other measurement registers. KEY_REVOKE checks its record and revokes the slot, which
extends MEAS 10; a revoked slot completes without change. OWNER_SET sets the owner root while it is all zero, and OWNER_RECORD locks, unlocks or replaces it by a record under the owner's key with a higher sequence number.
Completion: under the conditions on the state and the operands that its clauses name, exec answers a next state with the own effect of driverExtend,
keyRevoke, ownerSet, ownerRecord. -/
def Obligations.KeysAndOwner : Prop :=
  ∀ s : State, s.running = true →
    (∀ v : Word64,
        let r := bits v.toNat 0 4
        let d := s.words (Reg.SEC_EXTDATA 0) 8
        let n := s.get Reg.SEC_LOGSEQ_NEXT
        (r < 11 → exec (.driverExtend v) s = .next (s.set Reg.SEC_STATUS_EXTREF 1))
        ∧ (11 ≤ r → v.getLsbD 4 = false → exec (.driverExtend v) s = .next s)
        ∧ (11 ≤ r → v.getLsbD 4 = true → ∃ t, exec (.driverExtend v) s = .next t ∧ t.meas r = shake256 64 (s.meas r ++ d)
            ∧ t.get (Reg.SEC_EXTCNT_COUNT r) = (s.get (Reg.SEC_EXTCNT_COUNT r) + 1) % 2 ^ 32 ∧ t.get Reg.SEC_LOGSEQ_NEXT = (n + 1) % 2 ^ 32
            ∧ t.words (Reg.SEC_LOG (n % 512) 0) 16 = leBytes 4 n ++ leBytes 1 r ++ [8] ++ [0, 0] ++ leBytes 8 s.ft ++ d ++ d.take 16 ++ List.replicate 32 0
            ∧ (∀ k, k < 16 → k ≠ r → t.meas k = s.meas k) ∧ (∀ k, k < 16 → k ≠ r → t.get (Reg.SEC_EXTCNT_COUNT k) = s.get (Reg.SEC_EXTCNT_COUNT k)) ∧ MemSame s t
            ∧ ∀ a, noteReg a = false → a < Reg.SEC_ID ∨ Reg.SEC_LOG 511 15 < a → t.reg a = s.reg a))
    ∧ (∀ n : Fin 8,
        let a := s.mbxArg n 1 % 2 ^ 43
        (s.mbxHas n 0x1002 = false → exec (.keyRevoke n) s = .next s)
        ∧ (s.mbxHas n 0x1002 = true → dramEnd < a + 5091 → exec (.keyRevoke n) s = .next (s.mbxFail n 2))
        ∧ (s.mbxHas n 0x1002 = true → a + 5091 ≤ dramEnd → s.memAvail a 5091 = false → exec (.keyRevoke n) s = .next s)
        ∧ (s.mbxHas n 0x1002 = true → a + 5091 ≤ dramEnd → s.memAvail a 5091 = true →
            let read := s.memRead a 5091 false
            (read.1 = none → exec (.keyRevoke n) s = .next (s.keeping (read.2.mbxFail n 0x0101)))
            ∧ ∀ d, read.1 = some d →
              let c := s.revokeCheck d
              (c.1 ≠ 0 → exec (.keyRevoke n) s = .next (s.keeping (read.2.mbxFail n c.1)))
              ∧ (c.1 = 0 → s.get (Reg.SEC_KEYSLOT_STATE c.2) = 2 → exec (.keyRevoke n) s = .next (s.keeping (read.2.mbxDone n 0 1 [])))
              ∧ (c.1 = 0 → s.get (Reg.SEC_KEYSLOT_STATE c.2) ≠ 2 → ∃ t, exec (.keyRevoke n) s = .next t ∧ t.get (Reg.SEC_KEYSLOT_STATE c.2) = 2
                  ∧ (∀ k, k < 4 → k ≠ c.2 → t.get (Reg.SEC_KEYSLOT_STATE k) = s.get (Reg.SEC_KEYSLOT_STATE k))
                  ∧ t.get (Reg.SEC_EXTCNT_COUNT 10) = (s.get (Reg.SEC_EXTCNT_COUNT 10) + 1) % 2 ^ 32 ∧ t.get (Reg.MBX_CTL_STATUS n) = 0 ∧ t.flag (Reg.MBX_CTL_GO n) = false ∧ MemSame read.2 t)))
    ∧ (∀ d k, s.revokeCheck d = (0, k) → k < 4 ∧ k = leAt d 6 1 ∧ leAt d 0 4 = 0x4b564552 ∧ leAt d 4 2 = 3 ∧ (∃ j, s.keySlot (keyRoot (slice d 24 68)) = some j)
        ∧ (s.get (Reg.SEC_KEYSLOT_STATE k) = 2 ∨ s.fuseRoot k ≠ keyRoot (slice d 24 68))
        ∧ (s.get (Reg.SEC_KEYSLOT_STATE k) = 1 → ∃ j, j < 4 ∧ j ≠ k ∧ s.get (Reg.SEC_KEYSLOT_STATE j) = 1))
    ∧ (∀ (n : Fin 8) c cmd len, (c, cmd, len) ∈ [(Instr.ownerSet n, 0x1108, 68), (.ownerRecord n, 0x1109, 5099)] →
        let a := s.mbxArg n 1 % 2 ^ 43
        (s.mbxHas n cmd = false → exec c s = .next s)
        ∧ (s.mbxHas n cmd = true → dramEnd < a + len → exec c s = .next (s.mbxFail n 2))
        ∧ (s.mbxHas n cmd = true → a + len ≤ dramEnd → s.memAvail a len = false ∨ s.pwr.shutdown ≠ none → exec c s = .next s))
    ∧ (∀ n : Fin 8,
        let a := s.mbxArg n 1 % 2 ^ 43
        let key := s.memRead a 68 false
        let record := s.memRead a 5099 false
        let d := record.1.getD []
        let op := leAt d 6 1
        let code := if record.1.isNone then 2 else s.ownerCheck d
        (s.mbxHas n 0x1108 = true → a + 68 ≤ dramEnd → s.memAvail a 68 = true → s.pwr.shutdown = none →
          (allZero s.upd.owner = false → exec (.ownerSet n) s = .next (s.ownerDone n 9))
          ∧ (allZero s.upd.owner = true → key.1 = none → exec (.ownerSet n) s = .next (s.keeping (key.2.ownerDone n 2)))
          ∧ (∀ k, allZero s.upd.owner = true → key.1 = some k → ∃ t, exec (.ownerSet n) s = .next t
              ∧ t.upd = { s.upd with owner := keyRoot k } ∧ t.flag Reg.UPD_OWNER_SET = !allZero (keyRoot k) ∧ t.get Reg.UPD_STATUS_LASTCODE = 0
              ∧ t.get (Reg.MBX_CTL_STATUS n) = 0 ∧ t.flag (Reg.MBX_CTL_GO n) = false ∧ MemSame key.2 t))
        ∧ (s.mbxHas n 0x1109 = true → a + 5099 ≤ dramEnd → s.memAvail a 5099 = true → s.pwr.shutdown = none → ∃ t, exec (.ownerRecord n) s = .next t ∧ t.get Reg.UPD_STATUS_LASTCODE = code ∧ MemSame record.2 t
            ∧ t.get (Reg.MBX_CTL_STATUS n) = (if code = 0 then 0 else 0x100 + code) ∧ t.flag (Reg.MBX_CTL_GO n) = false
            ∧ t.upd = { s.upd with owner := if code = 0 ∧ op = 3 then slice d 32 32 else s.upd.owner }
            ∧ t.flag Reg.UPD_OWNER_LOCKED = (if code = 0 ∧ op = 1 then true else if code = 0 ∧ op = 2 then false else s.flag Reg.UPD_OWNER_LOCKED)
            ∧ t.get Reg.UPD_OWNER_LOCKSEQ = (if code = 0 then leAt d 24 4 else s.get Reg.UPD_OWNER_LOCKSEQ)
            ∧ (code = 0 → keyRoot (slice d 64 68) = s.upd.owner ∧ s.get Reg.UPD_OWNER_LOCKSEQ < leAt d 24 4 ∧ 1 ≤ op ∧ op ≤ 3 ∧ slice d 8 16 = padTo 16 Config.serial)))

/-- The commands of R473 that a mailbox carries, with what the update block does for the asker. -/
def Sys2Proof.Machine.MailboxUpdate (n : Fin 8) (c : Instr) (cmd : Nat) (h : State → Asker → State) : Prop :=
  (c, cmd, h) ∈ [(Instr.updCommit n, 0x1102, fun s w => s.updCommit w 3), (.updActivate n, 0x1103, fun s w => s.updActivate w),
   (.updConfirm n, 0x1104, fun s w => s.updConfirm w (s.mbxArg n 1 % 16)), (.updRevert n, 0x1105, fun s w => s.updRevert w (s.mbxArg n 1 % 16)),
   (.updAbort n, 0x1106, fun s w => s.updAbort w)]

/-- The update frames of R474 but for START and DATA, with their UOP and what the update block does for the asker. -/
def Sys2Proof.Machine.FabricUpdate (p : Fin 11) (c : Instr) (uop : Nat) (h : State → Asker → Frame → State) : Prop :=
  (c, uop, h) ∈ [(Instr.fabricUpdCommit p, 3, fun s w _ => s.updCommit w 3), (.fabricUpdActivate p, 4, fun s w _ => s.updActivate w),
   (.fabricUpdConfirm p, 5, fun s w f => s.updConfirm w (leAt f.body 9 1)), (.fabricUpdRevert p, 6, fun s w f => s.updRevert w (leAt f.body 9 1)),
   (.fabricUpdAbort p, 7, fun s w _ => s.updAbort w)]

/-- START is refused with the code of its first failed check, else it takes the lock and stages; of the STARTs of one cycle the lowest SRCMOD wins. DATA adds bytes in order; the whole image is checked, and discarded when it fails. COMMIT
invalidates the inactive slot of every copy and COMMIT_COMPLETE writes it last, or leaves the image staged. ABORT releases the lock and ends what runs, an idle holder loses it. Every mailbox command is answered by its STATUS and LASTCODE, a frame from a sender that may not write with 0x12.
Completion: under the conditions on the state and the operands that its clauses name, exec answers a next state with the own effect of updStart,
updCommit, updActivate, updConfirm, updRevert, updAbort, fabricUpdStart, fabricUpdData, fabricUpdCommit, fabricUpdActivate, fabricUpdConfirm,
fabricUpdRevert, fabricUpdAbort, imageStaged, commitComplete, lockIdleTimeout. -/
def Obligations.UpdateStaging : Prop :=
  ∀ s : State, s.running = true →
    (∀ who uop code, code < 256 → let t := s.updReply who uop code
        t.get Reg.UPD_STATUS_LASTCODE = code ∧ t.upd = s.upd ∧ MemSame s t
        ∧ (∀ n, who = .mailbox n → n < 8 → t.get (Reg.MBX_CTL_STATUS n) = (if code = 0 then 0 else 0x100 + code) ∧ t.flag (Reg.MBX_CTL_GO n) = false)
        ∧ (∀ k m tag, who = .vc7 m tag → m ≠ s.ownMod → s.holder = some k → s.gateOpen k = true →
            t.rtr = originated s (s.mgmtFrame k m tag 0 (updBody uop code s.upd.staging.length)) s.rtr))
    ∧ (∀ (n : Fin 8) c cmd h, MailboxUpdate n c cmd h →
        (s.mbxHas n cmd = false → exec c s = .next s) ∧ (s.mbxHas n cmd = true → exec c s = .next (s.keeping (h s (.mailbox n)))))
    ∧ (∀ (p : Fin 11) c uop h f u, FabricUpdate p c uop h → MgmtKind s p (isUop uop) f u →
        (u.fabricOpen f = true → exec c s = .next (s.keeping (h u (frameAsker f) f)))
        ∧ (u.fabricOpen f = false → exec c s = .next (s.keeping (u.updRefuse (frameAsker f) uop 0x12 (leAt f.body 9 1)))))
    ∧ (∀ (n : Fin 8) rivals,
        let a := s.mbxArg n 1 % 2 ^ 43
        let who := Asker.mailbox n
        (s.mbxHas n 0x1101 = false ∨ s.upd.starter = some who → exec (.updStart n rivals) s = .next s)
        ∧ (s.mbxHas n 0x1101 = true → s.upd.starter ≠ some who →
            (a % 64 ≠ 0 ∨ dramEnd < a + 192 → exec (.updStart n rivals) s = .next (s.mbxFail n 2))
            ∧ (a % 64 = 0 → a + 192 ≤ dramEnd → s.memAvail a 192 = false → exec (.updStart n rivals) s = .next s)
            ∧ (a % 64 = 0 → a + 192 ≤ dramEnd → s.memAvail a 192 = true →
              let header := s.memRead a 192 false
              let d := header.1.getD []
              let u := header.2
              let code := if header.1 = none ∧ (u.lockCode who = 0 ∨ u.lockCode who = 0x0c) then 2 else u.startCode who d
              let len := imgLength d
              (code ≠ 0 → exec (.updStart n []) s = .next (s.keeping (u.updRefuse who 1 code (imgComp d))))
              ∧ (code = 0 → dramEnd < a + len → exec (.updStart n []) s = .next (s.keeping (u.mbxFail n 2)))
              ∧ (code = 0 → a + len ≤ dramEnd → u.memAvail a len = false → exec (.updStart n rivals) s = .next s)
              ∧ (code = 0 → a + len ≤ dramEnd → u.memAvail a len = true →
                let body := u.memRead a len false
                (body.1 = none → exec (.updStart n []) s = .next (s.keeping (body.2.updRefuse who 1 0x0a (imgComp d))))
                ∧ ∀ image, body.1 = some image → ∃ t, exec (.updStart n []) s = .next t ∧ t.upd.staging = image ∧ t.upd.starter = some who
                  ∧ t.get Reg.UPD_STATUS_LOCK = 1 ∧ t.get Reg.UPD_STATUS_PHASE = 1 ∧ t.staged = imgComp image ∧ t.get Reg.UPD_STAGE_EPOCH = imgEpoch image
                  ∧ t.get Reg.UPD_STAGE_RECEIVED = len % 2 ^ 25 ∧ t.upd.lockAt = s.now ∧ t.flag (Reg.MBX_CTL_GO n) = true ∧ MemSame body.2 t))))
    ∧ (∀ (p : Fin 11) f u, MgmtKind s p (isUop 1) f u →
        let who := frameAsker f
        let d := startHeader f
        let code := if u.fabricOpen f = true then u.startCode who d else 0x12
        (code ≠ 0 → exec (.fabricUpdStart p []) s = .next (s.keeping (u.updRefuse who 1 code (imgComp d))))
        ∧ (code = 0 → ∃ t, exec (.fabricUpdStart p []) s = .next t ∧ t.upd.staging = d ∧ t.upd.starter = none ∧ t.get Reg.UPD_STATUS_LOCK = 2 ∧ t.get Reg.UPD_STATUS_LOCKMOD = f.srcmod % 2 ^ 13
            ∧ t.get Reg.UPD_STATUS_PHASE = 1 ∧ t.staged = imgComp d ∧ t.get Reg.UPD_STAGE_RECEIVED = 192 ∧ t.get Reg.UPD_STATUS_LASTCODE = 0 ∧ t.upd.lockAt = s.now))
    ∧ (∀ ps, (s.get Reg.UPD_STATUS_LOCK ≠ 0 → s.startRivals ps = []) ∧ (s.startRivals ps).Pairwise fun a b => a.2.srcmod ≤ b.2.srcmod)
    ∧ (∀ (p : Fin 11) rivals w l ls, s.startRivals (p.val :: rivals.map (·.val)) = w :: l :: ls →
        exec (.fabricUpdStart p rivals) s = .next (s.keeping
          (((s.arbWin (frameAsker w.2) (startHeader w.2)).mgmtTakeIf w.1 (isUop 1) State.frameStart).startLosers (l :: ls))))
    ∧ (∀ who (d : List Byte), 96 ≤ d.length → (s.arbWin who d).words (Reg.UPD_DIGW 0) 8 = slice d 32 64 ∧ (s.arbLose who d).words (Reg.UPD_DIGL 0) 8 = slice d 32 64
        ∧ (s.arbLose who d).get Reg.UPD_STATUS_LASTCODE = 1)
    ∧ (∀ (p : Fin 11) f u, MgmtKind s p (isUop 2) f u →
        let who := frameAsker f
        let d := f.body.drop 16
        let off := leAt f.body 12 4
        let have_ := s.upd.staging
        let len := imgLength have_
        let lock := u.lockCode who
        let code := if u.fabricOpen f = false then 0x12 else if lock ≠ 0 then lock
          else if have_ = [] ∨ (have_.length ≤ off ∧ (have_.length < off ∨ u.updPhase ≠ 1 ∨ len < have_.length + d.length)) then 0x0c else 0
        (code ≠ 0 → exec (.fabricUpdData p) s = .next (s.keeping (u.updRefuse who 2 code (leAt f.body 9 1))))
        ∧ (code = 0 → off < have_.length → ∃ t, exec (.fabricUpdData p) s = .next t ∧ t.upd = { s.upd with lockAt := s.now } ∧ t.get Reg.UPD_STATUS_LASTCODE = 0)
        ∧ (code = 0 → off = have_.length → ∃ t, exec (.fabricUpdData p) s = .next t ∧ t.get Reg.UPD_STAGE_RECEIVED = (have_.length + d.length) % 2 ^ 25
            ∧ t.upd = { s.upd with staging := have_ ++ d, lockAt := s.now, starter := if have_.length + d.length < len then s.upd.starter else some who }
            ∧ (have_.length + d.length < len → t.get Reg.UPD_STATUS_LASTCODE = 0)))
    ∧ (s.upd.starter = none → exec .imageStaged s = .next s)
    ∧ (∀ who, s.upd.starter = some who → ∃ t, exec .imageStaged s = .next t ∧ t.get Reg.UPD_STATUS_LASTCODE = s.imageCheck s.upd.staging ∧ t.upd.starter = none ∧ t.upd.lockAt = s.now
        ∧ t.get Reg.UPD_STATUS_LOCK = s.get Reg.UPD_STATUS_LOCK ∧ MemSame s t
        ∧ (s.imageCheck s.upd.staging = 0 → t.get Reg.UPD_STATUS_PHASE = 2 ∧ t.upd.staging = s.upd.staging ∧ t.staged = s.staged)
        ∧ (s.imageCheck s.upd.staging ≠ 0 → t.get Reg.UPD_STATUS_PHASE = 0 ∧ t.upd.staging = [] ∧ t.staged = 0)
        ∧ (∀ n, who = .mailbox n → n < 8 → t.flag (Reg.MBX_CTL_GO n) = false))
    ∧ (∀ who uop,
        let lock := s.lockCode who
        let c := s.staged
        let code := if lock ≠ 0 then lock else if s.updPhase = 4 then 0 else if s.updPhase ≠ 2 then 0x0c else if s.updBlocked ≠ 0 then s.updBlocked else if s.updPending c = true then 0x0d else 0
        let t := s.updCommit who uop
        (s.upd.committing = some who ∨ s.pwr.shutdown ≠ none → t = s)
        ∧ (s.upd.committing ≠ some who → s.pwr.shutdown = none → (code ≠ 0 → t = s.updRefuse who uop code c)
          ∧ (code = 0 → s.updPhase = 4 → t.get Reg.UPD_STATUS_LASTCODE = 0 ∧ t.upd = { s.upd with lockAt := s.now })
          ∧ (code = 0 → s.updPhase ≠ 4 → t.get Reg.UPD_STATUS_PHASE = 3 ∧ t.upd.committing = some who ∧ t.upd.staging = s.upd.staging ∧ MemSame s t
              ∧ (1 ≤ c → c ≤ 7 → s.upd.comps.length = 9 → ∀ k ∈ compHomes c, (t.comp c k).slots = (s.comp c k).slots.set (1 - (s.comp c k).boot) Slot.none ∧ (t.comp c k).boot = (s.comp c k).boot))))
    ∧ (∀ good, s.upd.committing = none ∨ s.pwr.shutdown ≠ none → exec (.commitComplete good) s = .next s)
    ∧ (∀ good who, s.upd.committing = some who → s.pwr.shutdown = none →
        let c := s.staged
        let code := if s.updBlocked ≠ 0 then s.updBlocked else if good = true then 0 else 0x0f
        ∃ t, exec (.commitComplete good) s = .next t ∧ t.get Reg.UPD_STATUS_LASTCODE = code ∧ t.upd.committing = none ∧ t.upd.staging = s.upd.staging ∧ MemSame s t
          ∧ (code ≠ 0 → t.get Reg.UPD_STATUS_PHASE = 2 ∧ t.upd.comps = s.upd.comps)
          ∧ (code = 0 → t.get Reg.UPD_STATUS_PHASE = 4 ∧ (1 ≤ c → c ≤ 7 → s.upd.comps.length = 9 →
              ∀ k ∈ compHomes c, (t.comp c k).slots = (s.comp c k).slots.set (1 - (s.comp c k).boot) (imgSlot s.upd.staging))))
    ∧ (∀ who,
        let t := s.updAbort who
        (s.lockCode who ≠ 0 → t = s.updRefuse who 7 (s.lockCode who) s.staged)
        ∧ (s.lockCode who = 0 → s.upd.act.any (fun a => !a.revert) = true → t = s.updReply who 7 0)
        ∧ (s.lockCode who = 0 → s.upd.act.any (fun a => !a.revert) = false → t.get Reg.UPD_STATUS_LOCK = 0 ∧ t.get Reg.UPD_STATUS_PHASE = 0 ∧ t.get Reg.UPD_STATUS_LASTCODE = 0
            ∧ t.upd = { s.upd with staging := [], starter := none, committing := none } ∧ MemSame s t))
    ∧ (let idle := max 1 (s.get Reg.UPD_CTL_IDLE) * 1000000000
       let ends : Prop := (s.get Reg.UPD_STATUS_LOCK = 1 ∨ s.get Reg.UPD_STATUS_LOCK = 2) ∧ s.updPhase ≠ 3 ∧ s.updPhase ≠ 5 ∧ s.upd.starter = none ∧ s.upd.lockAt + idle ≤ s.now
       (¬ ends → exec .lockIdleTimeout s = .next s)
       ∧ (ends → ∃ t, exec .lockIdleTimeout s = .next t ∧ t.get Reg.UPD_STATUS_LOCK = 0 ∧ t.get Reg.UPD_STATUS_PHASE = 0 ∧ t.upd.staging = [] ∧ RegsOnly [Reg.UPD_STATUS, Reg.UPD_STAGE] s { t with upd := s.upd }))

/-- ACTIVATE and REVERT are refused with the first code that holds, else the activation begins; of pylon firmware, with the standby pylon's boot record switched and its reset. ACTIVATION_COMPLETE goes from part to part; the last switches the boot record and the running image, extends the
measurement register, sets or clears PENDING, releases the lock and answers; without hold-up energy it waits up to 1 s and ends with 0x08. A pylon that does not become READY within 12.4 s gets its boot record back. CONFIRM clears PENDING and frees the older settings. A recovery request marks the pylon, and a download, once
checked, goes into both of its slots.
Completion: under the conditions on the state and the operands that its clauses name, exec answers a next state with the own effect of
activationComplete, activationReadyTimeout, recoveryRequest, recoveryDownload. -/
def Obligations.UpdateActivation : Prop :=
  ∀ s : State, s.running = true → s.upd.comps.length = 9 → s.pyl.pylons.length = 2 →
    let sb := 1 - s.holder.getD 0
    let begins (t : State) (c : Nat) (revert : Bool) (who : Asker) : Prop :=
      t.upd.act = some (s.activation c revert who) ∧ MemSame s t ∧ (c ≠ 1 → t.upd.comps = s.upd.comps)
        ∧ (c = 1 → (t.comp 1 sb).boot = 1 - (s.comp 1 sb).boot ∧ t.pylState sb = 1 ∧ t.comp 1 (1 - sb) = s.comp 1 (1 - sb) ∧ t.holder = s.holder)
    (∀ who,
        let c := s.staged
        let lock := s.lockCode who
        let code := if lock ≠ 0 then lock else if s.updPhase ≠ 4 ∨ s.upd.act.isSome = true then 0x0c else if s.updBlocked ≠ 0 then s.updBlocked else if s.updPending c = true then 0x0d
          else if 3 ≤ c ∧ s.mixed 1 = true then 0x0e else if c = 1 ∧ s.standbyReady = false then 0x10 else 0
        let t := s.updActivate who
        (s.pwr.shutdown ≠ none ∨ s.upd.act.any (fun a => a.who == who && !a.revert) = true → t = s)
        ∧ (s.pwr.shutdown = none → s.upd.act.any (fun a => a.who == who && !a.revert) = false → (code ≠ 0 → t = s.updRefuse who 4 code c) ∧ (code = 0 → begins t c false who ∧ t.get Reg.UPD_STATUS_PHASE = 5)))
    ∧ (∀ who c,
        let code := if s.updPending c = false ∨ s.upd.act.isSome = true then 0x0c else if s.updBlocked ≠ 0 then s.updBlocked else if c = 1 ∧ s.standbyReady = false then 0x10 else 0
        let t := s.updRevert who c
        (s.pwr.shutdown ≠ none ∨ s.upd.act.any (fun a => a.who == who && a.revert) = true → t = s)
        ∧ (s.pwr.shutdown = none → s.upd.act.any (fun a => a.who == who && a.revert) = false → (code ≠ 0 → t = s.updRefuse who 6 code c) ∧ (code = 0 → begins t c true who)))
    ∧ (∀ who c,
        let own := s.setfmt (s.holder.getD 0)
        let t := s.updConfirm who c
        let bad : Prop := s.updPending c = false ∨ s.upd.act.any (fun a => a.revert && a.comp == c) = true
        (s.pwr.shutdown ≠ none → t = s) ∧ (s.pwr.shutdown = none → bad → t = s.updRefuse who 5 0x0c c)
        ∧ (s.pwr.shutdown = none → ¬ bad → t.upd = { s.upd with pending := s.upd.pending.filter (· != c) } ∧ t.get Reg.UPD_STATUS_LASTCODE = 0 ∧ MemSame s t
            ∧ (c ≠ 1 → t.pwr = s.pwr) ∧ (c = 1 → t.flag Reg.UPD_STATUS_SETUNREAD = false ∧ t.pwr.regions = s.pwr.regions.map fun r => if r.fmt ≠ 0 ∧ r.fmt < own then Region.empty else r)))
    ∧ (s.upd.act = none → exec .activationComplete s = .next s ∧ exec .activationReadyTimeout s = .next s)
    ∧ (∀ a, s.upd.act = some a →
        let go (part : Nat) : State := { s with upd := { s.upd with act := some { a with part, since := s.now, lowSince := none } } }
        let powered : Prop := s.pwr.shutdown = none ∧ s.flag Reg.PWR_STATUS_HOLDUP = true
        let boots : Prop := a.comp = 2 ∨ a.comp = 3 ∨ a.comp = 4 ∨ (a.comp = 1 ∧ a.part = 4 ∧ a.standby < 2 ∧ s.pyl.handover = none ∧ s.pyl.takeover = none ∧ s.holder = some a.standby)
        (a.comp = 3 ∨ a.comp = 4 ∨ (a.comp = 5 ∧ 3 ≤ a.part) ∨ (a.comp = 7 ∧ (36 ≤ a.part ∨ s.setBusy a.part = false) ∧ s.nextBusySet (a.part + 1) = 36) →
          exec .activationComplete s = .next (s.keeping (s.compSwitch a)))
        ∧ (a.comp = 5 → a.part < 3 → exec .activationComplete s = .next (go (a.part + 1)))
        ∧ (a.comp = 7 → a.part < 36 → s.setBusy a.part = true → exec .activationComplete s = .next s)
        ∧ (a.comp = 7 → a.part < 36 → s.setBusy a.part = false → s.nextBusySet (a.part + 1) < 36 → exec .activationComplete s = .next (go (s.nextBusySet (a.part + 1))))
        ∧ (a.comp = 6 → a.part ≤ 10 → ∃ t, exec .activationComplete s = .next t ∧ t.get (Reg.LNK_ID_EPOCH a.part) = ((s.comp 6 0).slot (1 - (s.comp 6 0).boot)).linkep % 256
            ∧ (a.part < 10 → t.upd.act = some { a with part := a.part + 1, since := s.now, lowSince := none } ∧ t.upd.comps = s.upd.comps)
            ∧ (a.part = 10 → powered → t.upd.act = none ∧ ((t.comp 6 0).image = (s.comp 6 0).slot (1 - (s.comp 6 0).boot))))
        ∧ (boots → s.pwr.shutdown ≠ none → exec .activationComplete s = .next s)
        ∧ (boots → s.pwr.shutdown = none → s.flag Reg.PWR_STATUS_HOLDUP = false →
            (a.lowSince = none → exec .activationComplete s = .next { s with upd := { s.upd with act := some { a with lowSince := some s.now } } })
            ∧ ∀ b, a.lowSince = some b → (s.now < b + 1000000000 → exec .activationComplete s = .next s)
                ∧ (b + 1000000000 ≤ s.now → ∃ t, exec .activationComplete s = .next t ∧ t.upd.act = none ∧ t.get Reg.UPD_STATUS_LASTCODE = 8 ∧ t.upd.comps = s.upd.comps
                    ∧ t.upd.pending = s.upd.pending ∧ MemSame s t))
        ∧ (a.comp = 2 → powered → ∃ t, exec .activationComplete s = .next t ∧ t.upd.act = none ∧ MemSame s t ∧ t.get Reg.UPD_STATUS_LASTCODE = 0
            ∧ ∀ k, k < 2 → (t.comp 2 k).boot = 1 - (s.comp 2 k).boot ∧ (t.comp 2 k).image = (s.comp 2 k).image)
        ∧ (a.comp = 1 → a.part = 2 → a.standby < 2 →
            (s.pylReady a.standby = true → s.handoverCheck (1 - a.standby) = 0 → s.holder = some (1 - a.standby) →
              exec .activationComplete s = .next { go 4 with pyl := { s.pyl with handover := some (none, false) } })
            ∧ (s.pylReady a.standby = false ∨ s.handoverCheck (1 - a.standby) ≠ 0 ∨ s.holder ≠ some (1 - a.standby) → exec .activationComplete s = .next s))
        ∧ (a.comp = 1 → a.part = 4 → a.standby < 2 → s.pyl.handover = none → s.pyl.takeover = none → s.holder = some a.standby → powered →
            s.get Reg.UPD_STATUS_LOCK ≠ 3 → ∃ t, exec .activationComplete s = .next t ∧ t.upd.act = some { a with part := 6, since := s.now, lowSince := none } ∧ t.pylState (1 - a.standby) = 1 ∧ t.holder = s.holder
              ∧ (t.comp 1 (1 - a.standby)).boot = 1 - (s.comp 1 (1 - a.standby)).boot)
        ∧ (a.comp = 1 → a.part = 4 → a.standby < 2 → s.pyl.handover = none → s.pyl.takeover = none → s.holder = some (1 - a.standby) →
            exec .activationComplete s = .next (if s.handoverCheck (1 - a.standby) = 0 then { s with pyl := { s.pyl with handover := some (none, false) } } else s))
        ∧ (a.comp = 1 → a.part = 6 → exec .activationComplete s = .next (if s.pylReady (1 - a.standby) = true then s.keeping (s.actDone a) else s))
        ∧ (let k := if a.part = 2 then a.standby else 1 - a.standby
           let waits : Prop := a.comp = 1 ∧ a.part ≠ 4 ∧ s.pylReady k = false ∧ a.since + 12400000000 ≤ s.now ∧ s.pwr.shutdown = none
           (¬ waits → exec .activationReadyTimeout s = .next s)
           ∧ (waits → a.standby < 2 → ∃ t, exec .activationReadyTimeout s = .next t ∧ t.upd.act = none ∧ (t.comp 1 k).boot = 1 - (s.comp 1 k).boot ∧ t.pylState k = 1 ∧ MemSame s t
               ∧ t.get Reg.UPD_STATUS_LASTCODE = (if a.part = 2 then 0x10 else 0x11)))
        ∧ (3 ≤ a.comp → a.comp ≤ 7 →
          let t := s.compSwitch a
          let c := a.comp
          let x := s.comp c 0
          MemSame s t ∧ (¬ powered → t.upd.comps = s.upd.comps ∧ t.upd.pending = s.upd.pending)
          ∧ (powered → t.upd.act = none ∧ t.get Reg.UPD_STATUS_LASTCODE = 0
            ∧ (t.comp c 0).boot = 1 - x.boot ∧ (t.comp c 0).slots = x.slots ∧ (t.comp c 0).running = 1 - x.boot ∧ (t.comp c 0).image = x.slot (1 - x.boot) ∧ (t.comp c 0).started = true
            ∧ t.upd.pending = (if a.revert = true then s.upd.pending.filter (· != c) else s.upd.pending ++ [c])
            ∧ t.get (Reg.SEC_EXTCNT_COUNT c) = (s.get (Reg.SEC_EXTCNT_COUNT c) + 1) % 2 ^ 32
            ∧ t.meas c = shake256 64 (s.meas c ++ padTo 64 (x.slot (1 - x.boot)).digest)
            ∧ (a.revert = false → s.get Reg.UPD_STATUS_LOCK ≠ 3 → t.get Reg.UPD_STATUS_LOCK = 0 ∧ t.get Reg.UPD_STATUS_PHASE = 0 ∧ t.upd.staging = []))))
    ∧ (∀ v : Word64,
        let k := bits v.toNat 2 1
        let keyed : Prop := v.getLsbD 0 = true ∧ bits v.toNat 16 16 = 0x5aa5
        ∃ t, exec (.recoveryRequest v) s = .next t ∧ t.get Reg.UPD_RECOV_PYL = k ∧ t.get Reg.UPD_RECOV_LEN = bits v.toNat 32 25
          ∧ (keyed → (t.pylon k).recoverNext = true) ∧ (¬ keyed → t.pyl = s.pyl) ∧ RegsOnly [Reg.UPD_RECOV] s { t with pyl := s.pyl })
    ∧ (∀ v : Word64,
        let k := bits v.toNat 2 1
        let u := s.recovFields v
        let d := u.windowImage
        let code := u.recovCode d
        (v.getLsbD 1 = false ∨ (s.pylon k).recovery = false ∨ s.pwr.shutdown ≠ none → exec (.recoveryDownload v) s = .next u)
        ∧ (v.getLsbD 1 = true → (s.pylon k).recovery = true → s.pwr.shutdown = none → ∃ t, exec (.recoveryDownload v) s = .next t ∧ t.get Reg.UPD_RECOV_STATUS = code ∧ t.upd.staging = [] ∧ MemSame s t
            ∧ (code ≠ 0 → t.upd.comps = s.upd.comps ∧ (t.pylon k).recovery = true)
            ∧ (code = 0 → (t.comp (imgComp d) k).slots = [imgSlot d, imgSlot d] ∧ t.pylState k = 1 ∧ (t.pylon k).recovery = false
                ∧ t.get (Reg.SEC_EXTCNT_COUNT 9) = (s.get (Reg.SEC_EXTCNT_COUNT 9) + 1) % 2 ^ 32)))

/-- ZONE_SAMPLE stores the temperatures and makes due what moved by more than DELTA; CAL_REQ makes an element due. CALIBRATION_START takes the next element: a requested one, else the one that moved most, the lower number first; a port begins a calibration drain, a channel group is paused.
A port run in RECAL exchanges a new spare, passes and returns to ACTIVE, or fails on its failed lanes. A memory run ends with the pause. A passing run stores LASTTEMP, a failing one sets its FAIL bit; each is counted. Start-up calibration ends with one run of every group.
Completion: under the conditions on the state and the operands that its clauses name, exec answers a next state with the own effect of zoneSample,
calibrationRequest, calibrationStart, portCalibrationComplete, memoryCalibrationComplete, startupCalibrationComplete. -/
def Obligations.Calibration : Prop :=
  ∀ s : State, s.running = true →
    (∀ temps, ∃ t, exec (.zoneSample temps) s = .next t ∧ t = { s with regs := t.regs }
        ∧ (∀ e, calElement e = true → t.get (Reg.CAL_ZONE_TEMP e) = leAt temps e 1 ∧ t.get (Reg.CAL_ZONE_LASTTEMP e) = s.get (Reg.CAL_ZONE_LASTTEMP e)
            ∧ t.flag (calDue e) = (s.flag (calDue e) || decide (s.calDelta < t.calMoved e)))
        ∧ ∀ a, a ≠ Reg.CAL_DUE0 → a ≠ Reg.CAL_DUE1 → (∀ e, calElement e = true → a ≠ Reg.CAL_ZONE e) → t.reg a = s.reg a)
    ∧ (∀ e : Fin 128, (calElement e = false → exec (.calibrationRequest e) s = .next s)
        ∧ (calElement e = true → ∃ t, exec (.calibrationRequest e) s = .next t ∧ t.flag (calDue e) = true ∧ t.cal.requested = (if s.cal.requested.contains e.val then s.cal.requested else s.cal.requested ++ [e.val])
            ∧ RegsOnly [(calDue e).addr] s { t with cal := s.cal }))
    ∧ (∀ mem e, s.calNext mem = some e → calElement e = true ∧ (mem = true ↔ 16 ≤ e) ∧ s.flag (calDue e) = true ∧ s.calBlocked e = false
        ∧ (∀ x ∈ s.cal.requested, calElement x = true → (mem = true ↔ 16 ≤ x) → s.flag (calDue x) = true → s.calBlocked x = false → e ∈ s.cal.requested)
        ∧ (e ∉ s.cal.requested → e ≠ 10 ∧ ∀ x, x ≠ 10 → calElement x = true → (mem = true ↔ 16 ≤ x) → s.flag (calDue x) = true → s.calBlocked x = false →
            s.calMoved x < s.calMoved e ∨ (s.calMoved x = s.calMoved e ∧ e ≤ x)))
    ∧ (∀ mem, s.get (if mem = true then Reg.CAL_STATUS_MEMRUN else Reg.CAL_STATUS_PORTRUN) ≠ 0x7f ∨ s.calNext mem = none → exec (.calibrationStart mem) s = .next s)
    ∧ (∀ e, s.get Reg.CAL_STATUS_MEMRUN = 0x7f → s.calNext true = some e → ∃ t, exec (.calibrationStart true) s = .next t ∧ t.get Reg.CAL_STATUS_MEMRUN = e ∧ t.flag (calDue e) = false
        ∧ t.get (Reg.PIER_STATUS_PAUSED ((e - 16) / 24)) = (e - 16) % 24 ∧ MemSame s t)
    ∧ (∀ e, s.get Reg.CAL_STATUS_PORTRUN = 0x7f → s.calNext false = some e → ∃ t, exec (.calibrationStart false) s = .next t ∧ t.get Reg.CAL_STATUS_PORTRUN = e ∧ t.flag (calDue e) = false
        ∧ t.linkState e = 9 ∧ (t.port e).calDrain = true ∧ (t.port e).ctlQ = (s.port e).ctlQ ++ [(5, [1, 1])] ∧ MemSame s t)
    ∧ (∀ (i : Fin 11) lanes (spare : Fin 17),
        let bad := (List.range (physLanes i)).filter fun n => !lanes.testBit n
        let sp := bad.headD spare.val
        let runs : Prop := s.linkState i = 12 ∧ s.get Reg.CAL_STATUS_PORTRUN = i.val ∧ spare.val < physLanes i ∧ (s.port i).change = none
        let ended (t : State) : Prop := t.get Reg.CAL_STATUS_PORTRUN = 0x7f ∧ t.get Reg.CAL_STATUS_RUNS = (s.get Reg.CAL_STATUS_RUNS + 1) % 2 ^ 16 ∧ t.flag (calDue i) = s.cal.requested.contains i.val
        (¬ runs → exec (.portCalibrationComplete i lanes spare) s = .next s)
        ∧ (runs → bad.length ≤ physLanes i - logLanes i →
          (s.get (Reg.LNK_LANEMAP_SPARE i) ≠ sp → exec (.portCalibrationComplete i lanes spare) s = .next (s.keeping (s.proposeLanes i sp (2 ^ logLanes i - 1) sp)))
          ∧ (s.get (Reg.LNK_LANEMAP_SPARE i) = sp → ∃ t, exec (.portCalibrationComplete i lanes spare) s = .next t ∧ ended t ∧ t.linkState i = (if (s.port i).pressWaits = true then 9 else 6)
              ∧ t.get (Reg.CAL_ZONE_LASTTEMP i) = s.get (Reg.CAL_ZONE_TEMP i) ∧ t.flag (Reg.CAL_ZONE_STORED i) = true ∧ t.flag (calFail i) = s.flag (calFail i)
              ∧ t.get Reg.CAL_STATUS_FAILS = s.get Reg.CAL_STATUS_FAILS))
        ∧ (runs → physLanes i - logLanes i < bad.length → ∃ t, exec (.portCalibrationComplete i lanes spare) s = .next t ∧ ended t ∧ t.linkState i ≠ 12 ∧ t.flag (calFail i) = true
            ∧ t.get (Reg.CAL_ZONE_LASTTEMP i) = s.get (Reg.CAL_ZONE_LASTTEMP i) ∧ t.get Reg.CAL_STATUS_FAILS = min (s.get Reg.CAL_STATUS_FAILS + 1) (2 ^ 16 - 1)))
    ∧ (∀ pass, s.get Reg.CAL_STATUS_MEMRUN = 0x7f → exec (.memoryCalibrationComplete pass) s = .next s)
    ∧ (∀ pass e, s.get Reg.CAL_STATUS_MEMRUN = e → 16 ≤ e → e < 112 → ∃ t, exec (.memoryCalibrationComplete pass) s = .next t ∧ t.get Reg.CAL_STATUS_MEMRUN = 0x7f ∧ MemSame s t
        ∧ t.get (Reg.PIER_STATUS_PAUSED ((e - 16) / 24)) = 0xff ∧ t.get Reg.CAL_STATUS_RUNS = (s.get Reg.CAL_STATUS_RUNS + 1) % 2 ^ 16 ∧ t.flag (calDue e) = s.cal.requested.contains e
        ∧ (pass = true → t.get (Reg.CAL_ZONE_LASTTEMP e) = s.get (Reg.CAL_ZONE_TEMP e) ∧ t.flag (Reg.CAL_ZONE_STORED e) = true ∧ t.flag (calFail e) = s.flag (calFail e))
        ∧ (pass = false → t.flag (calFail e) = true ∧ t.get (Reg.CAL_ZONE_LASTTEMP e) = s.get (Reg.CAL_ZONE_LASTTEMP e) ∧ t.get Reg.CAL_STATUS_FAILS = min (s.get Reg.CAL_STATUS_FAILS + 1) (2 ^ 16 - 1)))
    ∧ (∀ fails, s.flag Reg.CAL_STATUS_STARTUP = false → exec (.startupCalibrationComplete fails) s = .next s)
    ∧ (∀ fails : List (Fin 96), s.flag Reg.CAL_STATUS_STARTUP = true → ∃ t, exec (.startupCalibrationComplete fails) s = .next t ∧ t.flag Reg.CAL_STATUS_STARTUP = false ∧ MemSame s t
        ∧ t.get Reg.CAL_STATUS_RUNS = (s.get Reg.CAL_STATUS_RUNS + 96) % 2 ^ 16
        ∧ ∀ n : Fin 96, (n ∈ fails → t.flag (calFail (16 + n.val)) = true ∧ t.get (Reg.CAL_ZONE_LASTTEMP (16 + n.val)) = s.get (Reg.CAL_ZONE_LASTTEMP (16 + n.val)))
            ∧ (n ∉ fails → t.flag (calFail (16 + n.val)) = s.flag (calFail (16 + n.val)) ∧ t.get (Reg.CAL_ZONE_LASTTEMP (16 + n.val)) = s.get (Reg.CAL_ZONE_TEMP (16 + n.val))))

/-- SETTINGS_SAVE puts the present value of every settings field into the region of the firmware's format, with the highest write counter, and completes with 0x0101 when its read-back fails; SETTINGS_DEFAULT marks the region empty.
Completion: under the conditions on the state and the operands that its clauses name, exec answers a next state with the own effect of settingsSave,
settingsDefault. -/
def Obligations.SettingsStore : Prop :=
  ∀ (n : Fin 8) (s : State), s.running = true →
    (∀ good, s.mbxHas n 0x1201 = false → exec (.settingsSave n good) s = .next s)
    ∧ (s.mbxHas n 0x1202 = false → exec (.settingsDefault n) s = .next s)
    ∧ (s.pwr.shutdown ≠ none → exec (.settingsDefault n) s = .next s ∧ ∀ good, exec (.settingsSave n good) s = .next s)
    ∧ ∀ k, s.holder = some k → s.pwr.shutdown = none → s.pwr.regions.length = 2 →
      let fmt := s.setfmt k
      (∀ good, s.mbxHas n 0x1201 = true →
        let r : Region := { fmt, count := s.regionCount + 1, good, values := some ((settingLocs k).map s.get) }
        ∃ t i, exec (.settingsSave n good) s = .next t ∧ i < 2 ∧ t.pwr = { s.pwr with regions := s.pwr.regions.set i r } ∧ (∀ j q, s.regionOf fmt = some (j, q) → i = j)
          ∧ (good = true → t.regionOf fmt = some (i, r)) ∧ t.get (Reg.MBX_CTL_STATUS n) = (if good = true then 0 else 0x0101) ∧ t.flag (Reg.MBX_CTL_GO n) = false ∧ MemSame s t)
      ∧ (s.mbxHas n 0x1202 = true → ∃ t, exec (.settingsDefault n) s = .next t ∧ t.get (Reg.MBX_CTL_STATUS n) = 0 ∧ t.flag (Reg.MBX_CTL_GO n) = false ∧ MemSame s t
          ∧ (s.regionOf fmt = none → t.pwr = s.pwr) ∧ ∀ i q, s.regionOf fmt = some (i, q) → t.pwr = { s.pwr with regions := s.pwr.regions.set i { q with values := none } })

/-- Test-Logic-Reset selects the identification register, and IDCODE is 0x3961_634F: version 0x3, part number 0x9616, manufacturer code 0x1A7, and 1 in bit 0. MODULE_INFO gives the same number. -/
def Obligations.IdcodeOfTheModule : Prop :=
  ∀ s : State, s.pwr.pwrGood = true →
    (∃ t, exec .tapReset s = .next t ∧ t.tap.sel = .identification ∧ t.tap.ident = 0x3961634f
      ∧ bits t.tap.ident 28 4 = 0x3 ∧ bits t.tap.ident 12 16 = 0x9616 ∧ bits t.tap.ident 1 11 = 0x1a7 ∧ bits t.tap.ident 0 1 = 1)
    ∧ (∀ n : Fin 8, s.running = true → s.mbxHas n 0x1301 = true → ∃ t, exec (.moduleInfo n) s = .next t ∧ t.get (Reg.MBX_RSP_V n 4) = 0x3961634f)

/-- At the third equal IDENT of a peer that matches the expected one, and for which, if it is accepted, the lanes suffice (R257), the port becomes ACTIVE when the epochs differ by at most 1 and own FEAT AND peer FEAT holds the mandatory bits 0, 1 and 5, and INCOMPAT otherwise;
LNK_PEER.FEAT shows the common set. -/
def Obligations.MatchingPeerIsAccepted : Prop :=
  ∀ (i : Fin 11) (f : Flit) (s : State), s.running = true → f.ftype = 3 → (s.flitIn i f).1 = true →
    let u := (s.flitIn i f).2
    u.linkState i = 5 →
    let d := parseIdent f.payload
    let own := u.get (Reg.LNK_ID_EPOCH i)
    let common := u.get (Reg.LNK_ID_FEAT i) &&& d.feat
    let held := (((u.set (Reg.LNK_STATUS_PEER_EPOCH i) d.epoch).set (Reg.LNK_PEER_MODNUM i) d.modnum).set (Reg.LNK_PEER_PORT i) d.port).set (Reg.LNK_PEER_FEAT i) common
    (u.port i).identLast = some d → 2 ≤ (u.port i).identCount → (u.port i).fastPeer = none ∨ (u.port i).fastPeer = some (d.modnum, d.port) →
    held.peerMatches i (held.get (Reg.LNK_PEER_MODNUM i)) (held.get (Reg.LNK_PEER_PORT i)) = true →
    let accepted : Prop := ((d.epoch : Int) - own).natAbs ≤ 1 ∧ common.testBit 0 = true ∧ common.testBit 1 = true ∧ common.testBit 5 = true
    (accepted → (held.identPlan i).isSome = true) →
    ∃ t, exec (.identFlit i f true) s = .next t ∧ t.get (Reg.LNK_PEER_FEAT i) = common
      ∧ (accepted → t.linkState i = 6) ∧ (¬ accepted → t.linkState i = 8)
end

