-- ==== Sys2Proof/Laws/Store.lean ====
section
/-! SUPPORT. Laws/Store.lean: a sparse map reads back what was written, leaves every other key alone, and stays in its canonical
form. -/

namespace Sys2Proof.Machine

variable {V : Type}

/-- Every key of the list is at least `n`. -/
def smapFrom (n : Nat) : List (Nat × V) → Prop
  | [] => True
  | (a, _) :: m => n ≤ a ∧ smapFrom n m

theorem smapFrom_le {n k : Nat} (h : k ≤ n) : ∀ m : List (Nat × V), smapFrom n m → smapFrom k m
  | [], _ => trivial
  | (_, _) :: m, hm => ⟨Nat.le_trans h hm.1, smapFrom_le h m hm.2⟩

theorem smapGet_drop (d : Nat → V) (m : List (Nat × V)) (k : Nat) : smapGet d (smapDrop m k) k = d k := by
  induction m with
  | nil => rfl
  | cons e m ih =>
    obtain ⟨a, v⟩ := e
    by_cases h : a = k
    · simp [smapDrop, h, ih]
    · simp [smapDrop, h, smapGet, ih]

theorem smapGet_drop_ne (d : Nat → V) (m : List (Nat × V)) {k j : Nat} (h : j ≠ k) :
    smapGet d (smapDrop m k) j = smapGet d m j := by
  induction m with
  | nil => rfl
  | cons e m ih =>
    obtain ⟨a, v⟩ := e
    by_cases ha : a = k
    · have : a ≠ j := fun e => h (e ▸ ha)
      simp [smapDrop, ha, smapGet, ih, Ne.symm h]
    · simp [smapDrop, ha, smapGet, ih]

theorem smapGet_insert_ne (d : Nat → V) (m : List (Nat × V)) (v : V) {k j : Nat} (h : j ≠ k) :
    smapGet d (smapInsert m k v) j = smapGet d m j := by
  induction m with
  | nil => simp [smapInsert, smapGet, Ne.symm h]
  | cons e m ih =>
    obtain ⟨a, w⟩ := e
    by_cases ha : a < k
    · simp [smapInsert, ha, smapGet, ih]
    · simp [smapInsert, ha, smapGet, Ne.symm h]

theorem smapGet_insert (d : Nat → V) (m : List (Nat × V)) (v : V) (k : Nat) :
    smapGet d (smapInsert m k v) k = v := by
  induction m with
  | nil => simp [smapInsert, smapGet]
  | cons e m ih =>
    obtain ⟨a, w⟩ := e
    by_cases ha : a < k
    · simp [smapInsert, ha, smapGet, ih, Nat.ne_of_lt ha]
    · simp [smapInsert, ha, smapGet]

section
variable [DecidableEq V]

/-- Read after write. -/
@[simp] theorem smapGet_set (d : Nat → V) (m : List (Nat × V)) (k : Nat) (v : V) :
    smapGet d (smapSet d m k v) k = v := by
  unfold smapSet
  split
  · rename_i h; rw [smapGet_drop, h]
  · exact smapGet_insert d _ v k

/-- A write leaves every other key alone. -/
theorem smapGet_set_ne (d : Nat → V) (m : List (Nat × V)) (v : V) {k j : Nat} (h : j ≠ k) :
    smapGet d (smapSet d m k v) j = smapGet d m j := by
  unfold smapSet
  split
  · exact smapGet_drop_ne d m h
  · rw [smapGet_insert_ne d _ v h, smapGet_drop_ne d m h]

theorem smapWf_cons (d : Nat → V) (a : Nat) (v : V) (m : List (Nat × V)) :
    smapWf d ((a, v) :: m) = true ↔ v ≠ d a ∧ smapFrom (a + 1) m ∧ smapWf d m = true := by
  induction m generalizing a v with
  | nil => simp [smapWf, smapFrom]
  | cons e m ih =>
    obtain ⟨b, w⟩ := e
    have hb := ih b w
    simp only [smapWf, Bool.and_eq_true, decide_eq_true_eq, smapFrom]
    constructor
    · rintro ⟨⟨h1, h2⟩, h3⟩
      obtain ⟨-, h5, -⟩ := hb.1 h3
      exact ⟨h2, ⟨h1, smapFrom_le (by omega) m h5⟩, h3⟩
    · rintro ⟨h1, ⟨h2, -⟩, h3⟩
      exact ⟨⟨by omega, h1⟩, h3⟩

omit [DecidableEq V] in
theorem smapFrom_drop {n k : Nat} : ∀ m : List (Nat × V), smapFrom n m → smapFrom n (smapDrop m k)
  | [], _ => trivial
  | (a, v) :: m, h => by
    by_cases ha : a = k
    · simpa [smapDrop, ha] using smapFrom_drop m h.2
    · simpa [smapDrop, ha, smapFrom] using ⟨h.1, smapFrom_drop m h.2⟩

theorem smapWf_drop (d : Nat → V) (k : Nat) : ∀ m : List (Nat × V), smapWf d m = true → smapWf d (smapDrop m k) = true
  | [], _ => rfl
  | (a, v) :: m, h => by
    obtain ⟨h1, h2, h3⟩ := (smapWf_cons d a v m).1 h
    by_cases ha : a = k
    · simpa [smapDrop, ha] using smapWf_drop d k m h3
    · simp only [smapDrop, ha, if_false]
      exact (smapWf_cons d a v _).2 ⟨h1, smapFrom_drop m h2, smapWf_drop d k m h3⟩

/-- The list holds no entry of key `k`. -/
def smapLacks (k : Nat) : List (Nat × V) → Prop
  | [] => True
  | (a, _) :: m => a ≠ k ∧ smapLacks k m

omit [DecidableEq V] in
theorem smapLacks_drop (k : Nat) : ∀ m : List (Nat × V), smapLacks k (smapDrop m k)
  | [] => trivial
  | (a, v) :: m => by
    by_cases ha : a = k
    · simpa [smapDrop, ha] using smapLacks_drop k m
    · simpa [smapDrop, ha, smapLacks] using smapLacks_drop k m

omit [DecidableEq V] in
theorem smapFrom_insert {n k : Nat} {v : V} (hk : n ≤ k) : ∀ m : List (Nat × V), smapFrom n m → smapFrom n (smapInsert m k v)
  | [], _ => ⟨hk, trivial⟩
  | (a, w) :: m, h => by
    by_cases ha : a < k
    · simpa [smapInsert, ha, smapFrom] using ⟨h.1, smapFrom_insert hk m h.2⟩
    · simpa [smapInsert, ha, smapFrom] using ⟨hk, h⟩

theorem smapWf_insert (d : Nat → V) {k : Nat} {v : V} (hv : v ≠ d k) :
    ∀ m : List (Nat × V), smapWf d m = true → smapLacks k m → smapWf d (smapInsert m k v) = true
  | [], _, _ => by simp [smapInsert, smapWf, hv]
  | (a, w) :: m, h, hl => by
    obtain ⟨h1, h2, h3⟩ := (smapWf_cons d a w m).1 h
    by_cases ha : a < k
    · simp only [smapInsert, ha, if_true]
      exact (smapWf_cons d a w _).2 ⟨h1, smapFrom_insert (by omega) m h2, smapWf_insert d hv m h3 hl.2⟩
    · simp only [smapInsert, ha, if_false]
      have := hl.1
      exact (smapWf_cons d k v _).2 ⟨hv, ⟨by omega, smapFrom_le (by omega) m h2⟩, h⟩

/-- A write keeps the canonical form. -/
theorem smapWf_set (d : Nat → V) (m : List (Nat × V)) (k : Nat) (v : V) (h : smapWf d m = true) :
    smapWf d (smapSet d m k v) = true := by
  unfold smapSet
  split
  · exact smapWf_drop d k m h
  · rename_i hv
    exact smapWf_insert d hv _ (smapWf_drop d k m h) (smapLacks_drop k m)

/-- What a list in canonical form lists is what it reads as: equal contents are equal lists. -/
theorem smapWf_ext (d : Nat → V) : ∀ m n : List (Nat × V), smapWf d m = true → smapWf d n = true →
    (∀ k, smapGet d m k = smapGet d n k) → m = n := by
  have below : ∀ (m : List (Nat × V)) (k : Nat), smapFrom (k + 1) m → smapGet d m k = d k := by
    intro m
    induction m with
    | nil => intros; rfl
    | cons e m ih =>
      obtain ⟨a, v⟩ := e
      intro k h
      have : a ≠ k := by have := h.1; omega
      simp [smapGet, this, ih k h.2]
  intro m
  induction m with
  | nil =>
    intro n _ hn h
    cases n with
    | nil => rfl
    | cons e n =>
      obtain ⟨b, w⟩ := e
      obtain ⟨h1, -, -⟩ := (smapWf_cons d b w n).1 hn
      exact absurd (by simpa [smapGet] using (h b).symm) h1
  | cons e m ih =>
    obtain ⟨a, v⟩ := e
    intro n hm hn h
    obtain ⟨h1, h2, h3⟩ := (smapWf_cons d a v m).1 hm
    cases n with
    | nil => exact absurd (by simpa [smapGet] using h a) h1
    | cons e n =>
      obtain ⟨b, w⟩ := e
      obtain ⟨g1, g2, g3⟩ := (smapWf_cons d b w n).1 hn
      have hab : a = b := by
        rcases Nat.lt_trichotomy a b with hlt | heq | hgt
        · have := h a
          rw [show smapGet d ((b, w) :: n) a = d a from
            below _ a ⟨by omega, smapFrom_le (by omega) n g2⟩] at this
          exact absurd (by simpa [smapGet] using this) h1
        · exact heq
        · have := h b
          rw [show smapGet d ((a, v) :: m) b = d b from
            below _ b ⟨by omega, smapFrom_le (by omega) m h2⟩] at this
          exact absurd (by simpa [smapGet] using this.symm) g1
      subst hab
      have hv : v = w := by simpa [smapGet] using h a
      subst hv
      rw [ih n h3 g3 fun k => ?_]
      by_cases hk : a = k
      · subst hk; rw [below m a h2, below n a g2]
      · simpa [smapGet, hk] using h k

end

/-! ### Small association lists -/

theorem alGet_set {K : Type} [DecidableEq K] (d : V) (m : List (K × V)) (k : K) (v : V) : alGet d (alSet m k v) k = v := by
  induction m with
  | nil => simp [alSet, alGet]
  | cons e m ih =>
    obtain ⟨a, w⟩ := e
    by_cases h : a = k
    · simp [alSet, h, alGet]
    · simp [alSet, h, alGet, ih]

theorem alGet_set_ne {K : Type} [DecidableEq K] (d : V) (m : List (K × V)) (v : V) {k j : K} (h : j ≠ k) :
    alGet d (alSet m k v) j = alGet d m j := by
  induction m with
  | nil => simp [alSet, alGet, Ne.symm h]
  | cons e m ih =>
    obtain ⟨a, w⟩ := e
    by_cases ha : a = k
    · simp [alSet, ha, alGet, Ne.symm h]
    · simp [alSet, ha, alGet, ih]

end Sys2Proof.Machine
end

