-- ==== Sys2Proof/Laws/State.lean ====
section
/-! SUPPORT. Laws/State.lean: what each basic update of the state leaves alone, one lemma for each field, and what registers, fields
and bytes of memory read after a write. -/

namespace Sys2Proof.Machine

/-! ### Fields an update leaves alone -/

@[simp] theorem State.pending_set (s : State) (l : Loc) (n : Nat) : (s.set l n).pending = s.pending := rfl
@[simp] theorem State.now_set (s : State) (l : Loc) (n : Nat) : (s.set l n).now = s.now := rfl
@[simp] theorem State.free_set (s : State) (l : Loc) (n : Nat) : (s.set l n).free = s.free := rfl
@[simp] theorem State.mem_set (s : State) (l : Loc) (n : Nat) : (s.set l n).mem = s.mem := rfl
@[simp] theorem State.ctl_set (s : State) (l : Loc) (n : Nat) : (s.set l n).ctl = s.ctl := rfl
@[simp] theorem State.jig_set (s : State) (l : Loc) (n : Nat) : (s.set l n).jig = s.jig := rfl
@[simp] theorem State.lm_set (s : State) (l : Loc) (n : Nat) : (s.set l n).lm = s.lm := rfl
@[simp] theorem State.spn_set (s : State) (l : Loc) (n : Nat) : (s.set l n).spn = s.spn := rfl
@[simp] theorem State.gge_set (s : State) (l : Loc) (n : Nat) : (s.set l n).gge = s.gge := rfl
@[simp] theorem State.hds_set (s : State) (l : Loc) (n : Nat) : (s.set l n).hds = s.hds := rfl
@[simp] theorem State.lnk_set (s : State) (l : Loc) (n : Nat) : (s.set l n).lnk = s.lnk := rfl
@[simp] theorem State.chk_set (s : State) (l : Loc) (n : Nat) : (s.set l n).chk = s.chk := rfl
@[simp] theorem State.rtr_set (s : State) (l : Loc) (n : Nat) : (s.set l n).rtr = s.rtr := rfl
@[simp] theorem State.ftu_set (s : State) (l : Loc) (n : Nat) : (s.set l n).ftu = s.ftu := rfl
@[simp] theorem State.srv_set (s : State) (l : Loc) (n : Nat) : (s.set l n).srv = s.srv := rfl
@[simp] theorem State.circ_set (s : State) (l : Loc) (n : Nat) : (s.set l n).circ = s.circ := rfl
@[simp] theorem State.pyl_set (s : State) (l : Loc) (n : Nat) : (s.set l n).pyl = s.pyl := rfl
@[simp] theorem State.ev_set (s : State) (l : Loc) (n : Nat) : (s.set l n).ev = s.ev := rfl
@[simp] theorem State.ctr_set (s : State) (l : Loc) (n : Nat) : (s.set l n).ctr = s.ctr := rfl
@[simp] theorem State.sec_set (s : State) (l : Loc) (n : Nat) : (s.set l n).sec = s.sec := rfl
@[simp] theorem State.upd_set (s : State) (l : Loc) (n : Nat) : (s.set l n).upd = s.upd := rfl
@[simp] theorem State.cal_set (s : State) (l : Loc) (n : Nat) : (s.set l n).cal = s.cal := rfl
@[simp] theorem State.pwr_set (s : State) (l : Loc) (n : Nat) : (s.set l n).pwr = s.pwr := rfl
@[simp] theorem State.host_set (s : State) (l : Loc) (n : Nat) : (s.set l n).host = s.host := rfl
@[simp] theorem State.tap_set (s : State) (l : Loc) (n : Nat) : (s.set l n).tap = s.tap := rfl

@[simp] theorem State.pending_setReg (s : State) (a : Nat) (v : Word64) : (s.setReg a v).pending = s.pending := rfl
@[simp] theorem State.now_setReg (s : State) (a : Nat) (v : Word64) : (s.setReg a v).now = s.now := rfl
@[simp] theorem State.free_setReg (s : State) (a : Nat) (v : Word64) : (s.setReg a v).free = s.free := rfl
@[simp] theorem State.mem_setReg (s : State) (a : Nat) (v : Word64) : (s.setReg a v).mem = s.mem := rfl
@[simp] theorem State.ctl_setReg (s : State) (a : Nat) (v : Word64) : (s.setReg a v).ctl = s.ctl := rfl
@[simp] theorem State.jig_setReg (s : State) (a : Nat) (v : Word64) : (s.setReg a v).jig = s.jig := rfl
@[simp] theorem State.lm_setReg (s : State) (a : Nat) (v : Word64) : (s.setReg a v).lm = s.lm := rfl
@[simp] theorem State.spn_setReg (s : State) (a : Nat) (v : Word64) : (s.setReg a v).spn = s.spn := rfl
@[simp] theorem State.gge_setReg (s : State) (a : Nat) (v : Word64) : (s.setReg a v).gge = s.gge := rfl
@[simp] theorem State.hds_setReg (s : State) (a : Nat) (v : Word64) : (s.setReg a v).hds = s.hds := rfl
@[simp] theorem State.lnk_setReg (s : State) (a : Nat) (v : Word64) : (s.setReg a v).lnk = s.lnk := rfl
@[simp] theorem State.chk_setReg (s : State) (a : Nat) (v : Word64) : (s.setReg a v).chk = s.chk := rfl
@[simp] theorem State.rtr_setReg (s : State) (a : Nat) (v : Word64) : (s.setReg a v).rtr = s.rtr := rfl
@[simp] theorem State.ftu_setReg (s : State) (a : Nat) (v : Word64) : (s.setReg a v).ftu = s.ftu := rfl
@[simp] theorem State.srv_setReg (s : State) (a : Nat) (v : Word64) : (s.setReg a v).srv = s.srv := rfl
@[simp] theorem State.circ_setReg (s : State) (a : Nat) (v : Word64) : (s.setReg a v).circ = s.circ := rfl
@[simp] theorem State.pyl_setReg (s : State) (a : Nat) (v : Word64) : (s.setReg a v).pyl = s.pyl := rfl
@[simp] theorem State.ev_setReg (s : State) (a : Nat) (v : Word64) : (s.setReg a v).ev = s.ev := rfl
@[simp] theorem State.ctr_setReg (s : State) (a : Nat) (v : Word64) : (s.setReg a v).ctr = s.ctr := rfl
@[simp] theorem State.sec_setReg (s : State) (a : Nat) (v : Word64) : (s.setReg a v).sec = s.sec := rfl
@[simp] theorem State.upd_setReg (s : State) (a : Nat) (v : Word64) : (s.setReg a v).upd = s.upd := rfl
@[simp] theorem State.cal_setReg (s : State) (a : Nat) (v : Word64) : (s.setReg a v).cal = s.cal := rfl
@[simp] theorem State.pwr_setReg (s : State) (a : Nat) (v : Word64) : (s.setReg a v).pwr = s.pwr := rfl
@[simp] theorem State.host_setReg (s : State) (a : Nat) (v : Word64) : (s.setReg a v).host = s.host := rfl
@[simp] theorem State.tap_setReg (s : State) (a : Nat) (v : Word64) : (s.setReg a v).tap = s.tap := rfl

@[simp] theorem State.pending_inc (s : State) (l : Loc) (n : Nat) : (s.inc l n).pending = s.pending := rfl
@[simp] theorem State.now_inc (s : State) (l : Loc) (n : Nat) : (s.inc l n).now = s.now := rfl
@[simp] theorem State.free_inc (s : State) (l : Loc) (n : Nat) : (s.inc l n).free = s.free := rfl
@[simp] theorem State.mem_inc (s : State) (l : Loc) (n : Nat) : (s.inc l n).mem = s.mem := rfl
@[simp] theorem State.ctl_inc (s : State) (l : Loc) (n : Nat) : (s.inc l n).ctl = s.ctl := rfl
@[simp] theorem State.jig_inc (s : State) (l : Loc) (n : Nat) : (s.inc l n).jig = s.jig := rfl
@[simp] theorem State.lm_inc (s : State) (l : Loc) (n : Nat) : (s.inc l n).lm = s.lm := rfl
@[simp] theorem State.spn_inc (s : State) (l : Loc) (n : Nat) : (s.inc l n).spn = s.spn := rfl
@[simp] theorem State.gge_inc (s : State) (l : Loc) (n : Nat) : (s.inc l n).gge = s.gge := rfl
@[simp] theorem State.hds_inc (s : State) (l : Loc) (n : Nat) : (s.inc l n).hds = s.hds := rfl
@[simp] theorem State.lnk_inc (s : State) (l : Loc) (n : Nat) : (s.inc l n).lnk = s.lnk := rfl
@[simp] theorem State.chk_inc (s : State) (l : Loc) (n : Nat) : (s.inc l n).chk = s.chk := rfl
@[simp] theorem State.rtr_inc (s : State) (l : Loc) (n : Nat) : (s.inc l n).rtr = s.rtr := rfl
@[simp] theorem State.ftu_inc (s : State) (l : Loc) (n : Nat) : (s.inc l n).ftu = s.ftu := rfl
@[simp] theorem State.srv_inc (s : State) (l : Loc) (n : Nat) : (s.inc l n).srv = s.srv := rfl
@[simp] theorem State.circ_inc (s : State) (l : Loc) (n : Nat) : (s.inc l n).circ = s.circ := rfl
@[simp] theorem State.pyl_inc (s : State) (l : Loc) (n : Nat) : (s.inc l n).pyl = s.pyl := rfl
@[simp] theorem State.ev_inc (s : State) (l : Loc) (n : Nat) : (s.inc l n).ev = s.ev := rfl
@[simp] theorem State.ctr_inc (s : State) (l : Loc) (n : Nat) : (s.inc l n).ctr = s.ctr := rfl
@[simp] theorem State.sec_inc (s : State) (l : Loc) (n : Nat) : (s.inc l n).sec = s.sec := rfl
@[simp] theorem State.upd_inc (s : State) (l : Loc) (n : Nat) : (s.inc l n).upd = s.upd := rfl
@[simp] theorem State.cal_inc (s : State) (l : Loc) (n : Nat) : (s.inc l n).cal = s.cal := rfl
@[simp] theorem State.pwr_inc (s : State) (l : Loc) (n : Nat) : (s.inc l n).pwr = s.pwr := rfl
@[simp] theorem State.host_inc (s : State) (l : Loc) (n : Nat) : (s.inc l n).host = s.host := rfl
@[simp] theorem State.tap_inc (s : State) (l : Loc) (n : Nat) : (s.inc l n).tap = s.tap := rfl

@[simp] theorem State.pending_sat (s : State) (l : Loc) (n : Nat) : (s.sat l n).pending = s.pending := rfl
@[simp] theorem State.now_sat (s : State) (l : Loc) (n : Nat) : (s.sat l n).now = s.now := rfl
@[simp] theorem State.free_sat (s : State) (l : Loc) (n : Nat) : (s.sat l n).free = s.free := rfl
@[simp] theorem State.mem_sat (s : State) (l : Loc) (n : Nat) : (s.sat l n).mem = s.mem := rfl
@[simp] theorem State.ctl_sat (s : State) (l : Loc) (n : Nat) : (s.sat l n).ctl = s.ctl := rfl
@[simp] theorem State.jig_sat (s : State) (l : Loc) (n : Nat) : (s.sat l n).jig = s.jig := rfl
@[simp] theorem State.lm_sat (s : State) (l : Loc) (n : Nat) : (s.sat l n).lm = s.lm := rfl
@[simp] theorem State.spn_sat (s : State) (l : Loc) (n : Nat) : (s.sat l n).spn = s.spn := rfl
@[simp] theorem State.gge_sat (s : State) (l : Loc) (n : Nat) : (s.sat l n).gge = s.gge := rfl
@[simp] theorem State.hds_sat (s : State) (l : Loc) (n : Nat) : (s.sat l n).hds = s.hds := rfl
@[simp] theorem State.lnk_sat (s : State) (l : Loc) (n : Nat) : (s.sat l n).lnk = s.lnk := rfl
@[simp] theorem State.chk_sat (s : State) (l : Loc) (n : Nat) : (s.sat l n).chk = s.chk := rfl
@[simp] theorem State.rtr_sat (s : State) (l : Loc) (n : Nat) : (s.sat l n).rtr = s.rtr := rfl
@[simp] theorem State.ftu_sat (s : State) (l : Loc) (n : Nat) : (s.sat l n).ftu = s.ftu := rfl
@[simp] theorem State.srv_sat (s : State) (l : Loc) (n : Nat) : (s.sat l n).srv = s.srv := rfl
@[simp] theorem State.circ_sat (s : State) (l : Loc) (n : Nat) : (s.sat l n).circ = s.circ := rfl
@[simp] theorem State.pyl_sat (s : State) (l : Loc) (n : Nat) : (s.sat l n).pyl = s.pyl := rfl
@[simp] theorem State.ev_sat (s : State) (l : Loc) (n : Nat) : (s.sat l n).ev = s.ev := rfl
@[simp] theorem State.ctr_sat (s : State) (l : Loc) (n : Nat) : (s.sat l n).ctr = s.ctr := rfl
@[simp] theorem State.sec_sat (s : State) (l : Loc) (n : Nat) : (s.sat l n).sec = s.sec := rfl
@[simp] theorem State.upd_sat (s : State) (l : Loc) (n : Nat) : (s.sat l n).upd = s.upd := rfl
@[simp] theorem State.cal_sat (s : State) (l : Loc) (n : Nat) : (s.sat l n).cal = s.cal := rfl
@[simp] theorem State.pwr_sat (s : State) (l : Loc) (n : Nat) : (s.sat l n).pwr = s.pwr := rfl
@[simp] theorem State.host_sat (s : State) (l : Loc) (n : Nat) : (s.sat l n).host = s.host := rfl
@[simp] theorem State.tap_sat (s : State) (l : Loc) (n : Nat) : (s.sat l n).tap = s.tap := rfl

@[simp] theorem State.pending_clearReg (s : State) (a : Nat) : (s.clearReg a).pending = s.pending := rfl
@[simp] theorem State.now_clearReg (s : State) (a : Nat) : (s.clearReg a).now = s.now := rfl
@[simp] theorem State.free_clearReg (s : State) (a : Nat) : (s.clearReg a).free = s.free := rfl
@[simp] theorem State.mem_clearReg (s : State) (a : Nat) : (s.clearReg a).mem = s.mem := rfl
@[simp] theorem State.ctl_clearReg (s : State) (a : Nat) : (s.clearReg a).ctl = s.ctl := rfl
@[simp] theorem State.jig_clearReg (s : State) (a : Nat) : (s.clearReg a).jig = s.jig := rfl
@[simp] theorem State.lm_clearReg (s : State) (a : Nat) : (s.clearReg a).lm = s.lm := rfl
@[simp] theorem State.spn_clearReg (s : State) (a : Nat) : (s.clearReg a).spn = s.spn := rfl
@[simp] theorem State.gge_clearReg (s : State) (a : Nat) : (s.clearReg a).gge = s.gge := rfl
@[simp] theorem State.hds_clearReg (s : State) (a : Nat) : (s.clearReg a).hds = s.hds := rfl
@[simp] theorem State.lnk_clearReg (s : State) (a : Nat) : (s.clearReg a).lnk = s.lnk := rfl
@[simp] theorem State.chk_clearReg (s : State) (a : Nat) : (s.clearReg a).chk = s.chk := rfl
@[simp] theorem State.rtr_clearReg (s : State) (a : Nat) : (s.clearReg a).rtr = s.rtr := rfl
@[simp] theorem State.ftu_clearReg (s : State) (a : Nat) : (s.clearReg a).ftu = s.ftu := rfl
@[simp] theorem State.srv_clearReg (s : State) (a : Nat) : (s.clearReg a).srv = s.srv := rfl
@[simp] theorem State.circ_clearReg (s : State) (a : Nat) : (s.clearReg a).circ = s.circ := rfl
@[simp] theorem State.pyl_clearReg (s : State) (a : Nat) : (s.clearReg a).pyl = s.pyl := rfl
@[simp] theorem State.ev_clearReg (s : State) (a : Nat) : (s.clearReg a).ev = s.ev := rfl
@[simp] theorem State.ctr_clearReg (s : State) (a : Nat) : (s.clearReg a).ctr = s.ctr := rfl
@[simp] theorem State.sec_clearReg (s : State) (a : Nat) : (s.clearReg a).sec = s.sec := rfl
@[simp] theorem State.upd_clearReg (s : State) (a : Nat) : (s.clearReg a).upd = s.upd := rfl
@[simp] theorem State.cal_clearReg (s : State) (a : Nat) : (s.clearReg a).cal = s.cal := rfl
@[simp] theorem State.pwr_clearReg (s : State) (a : Nat) : (s.clearReg a).pwr = s.pwr := rfl
@[simp] theorem State.host_clearReg (s : State) (a : Nat) : (s.clearReg a).host = s.host := rfl
@[simp] theorem State.tap_clearReg (s : State) (a : Nat) : (s.clearReg a).tap = s.tap := rfl

@[simp] theorem State.pending_clearRange (s : State) (a b : Nat) : (s.clearRange a b).pending = s.pending := rfl
@[simp] theorem State.now_clearRange (s : State) (a b : Nat) : (s.clearRange a b).now = s.now := rfl
@[simp] theorem State.free_clearRange (s : State) (a b : Nat) : (s.clearRange a b).free = s.free := rfl
@[simp] theorem State.mem_clearRange (s : State) (a b : Nat) : (s.clearRange a b).mem = s.mem := rfl
@[simp] theorem State.ctl_clearRange (s : State) (a b : Nat) : (s.clearRange a b).ctl = s.ctl := rfl
@[simp] theorem State.jig_clearRange (s : State) (a b : Nat) : (s.clearRange a b).jig = s.jig := rfl
@[simp] theorem State.lm_clearRange (s : State) (a b : Nat) : (s.clearRange a b).lm = s.lm := rfl
@[simp] theorem State.spn_clearRange (s : State) (a b : Nat) : (s.clearRange a b).spn = s.spn := rfl
@[simp] theorem State.gge_clearRange (s : State) (a b : Nat) : (s.clearRange a b).gge = s.gge := rfl
@[simp] theorem State.hds_clearRange (s : State) (a b : Nat) : (s.clearRange a b).hds = s.hds := rfl
@[simp] theorem State.lnk_clearRange (s : State) (a b : Nat) : (s.clearRange a b).lnk = s.lnk := rfl
@[simp] theorem State.chk_clearRange (s : State) (a b : Nat) : (s.clearRange a b).chk = s.chk := rfl
@[simp] theorem State.rtr_clearRange (s : State) (a b : Nat) : (s.clearRange a b).rtr = s.rtr := rfl
@[simp] theorem State.ftu_clearRange (s : State) (a b : Nat) : (s.clearRange a b).ftu = s.ftu := rfl
@[simp] theorem State.srv_clearRange (s : State) (a b : Nat) : (s.clearRange a b).srv = s.srv := rfl
@[simp] theorem State.circ_clearRange (s : State) (a b : Nat) : (s.clearRange a b).circ = s.circ := rfl
@[simp] theorem State.pyl_clearRange (s : State) (a b : Nat) : (s.clearRange a b).pyl = s.pyl := rfl
@[simp] theorem State.ev_clearRange (s : State) (a b : Nat) : (s.clearRange a b).ev = s.ev := rfl
@[simp] theorem State.ctr_clearRange (s : State) (a b : Nat) : (s.clearRange a b).ctr = s.ctr := rfl
@[simp] theorem State.sec_clearRange (s : State) (a b : Nat) : (s.clearRange a b).sec = s.sec := rfl
@[simp] theorem State.upd_clearRange (s : State) (a b : Nat) : (s.clearRange a b).upd = s.upd := rfl
@[simp] theorem State.cal_clearRange (s : State) (a b : Nat) : (s.clearRange a b).cal = s.cal := rfl
@[simp] theorem State.pwr_clearRange (s : State) (a b : Nat) : (s.clearRange a b).pwr = s.pwr := rfl
@[simp] theorem State.host_clearRange (s : State) (a b : Nat) : (s.clearRange a b).host = s.host := rfl
@[simp] theorem State.tap_clearRange (s : State) (a b : Nat) : (s.clearRange a b).tap = s.tap := rfl

@[simp] theorem State.pending_drawn (s : State) : (s.drawn).pending = s.pending := rfl
@[simp] theorem State.now_drawn (s : State) : (s.drawn).now = s.now := rfl
@[simp] theorem State.regs_drawn (s : State) : (s.drawn).regs = s.regs := rfl
@[simp] theorem State.mem_drawn (s : State) : (s.drawn).mem = s.mem := rfl
@[simp] theorem State.ctl_drawn (s : State) : (s.drawn).ctl = s.ctl := rfl
@[simp] theorem State.jig_drawn (s : State) : (s.drawn).jig = s.jig := rfl
@[simp] theorem State.lm_drawn (s : State) : (s.drawn).lm = s.lm := rfl
@[simp] theorem State.spn_drawn (s : State) : (s.drawn).spn = s.spn := rfl
@[simp] theorem State.gge_drawn (s : State) : (s.drawn).gge = s.gge := rfl
@[simp] theorem State.hds_drawn (s : State) : (s.drawn).hds = s.hds := rfl
@[simp] theorem State.lnk_drawn (s : State) : (s.drawn).lnk = s.lnk := rfl
@[simp] theorem State.chk_drawn (s : State) : (s.drawn).chk = s.chk := rfl
@[simp] theorem State.rtr_drawn (s : State) : (s.drawn).rtr = s.rtr := rfl
@[simp] theorem State.ftu_drawn (s : State) : (s.drawn).ftu = s.ftu := rfl
@[simp] theorem State.srv_drawn (s : State) : (s.drawn).srv = s.srv := rfl
@[simp] theorem State.circ_drawn (s : State) : (s.drawn).circ = s.circ := rfl
@[simp] theorem State.pyl_drawn (s : State) : (s.drawn).pyl = s.pyl := rfl
@[simp] theorem State.ev_drawn (s : State) : (s.drawn).ev = s.ev := rfl
@[simp] theorem State.ctr_drawn (s : State) : (s.drawn).ctr = s.ctr := rfl
@[simp] theorem State.sec_drawn (s : State) : (s.drawn).sec = s.sec := rfl
@[simp] theorem State.upd_drawn (s : State) : (s.drawn).upd = s.upd := rfl
@[simp] theorem State.cal_drawn (s : State) : (s.drawn).cal = s.cal := rfl
@[simp] theorem State.pwr_drawn (s : State) : (s.drawn).pwr = s.pwr := rfl
@[simp] theorem State.host_drawn (s : State) : (s.drawn).host = s.host := rfl
@[simp] theorem State.tap_drawn (s : State) : (s.drawn).tap = s.tap := rfl

@[simp] theorem State.pending_drawnBy (s : State) (n : Nat) : (s.drawnBy n).pending = s.pending := rfl
@[simp] theorem State.now_drawnBy (s : State) (n : Nat) : (s.drawnBy n).now = s.now := rfl
@[simp] theorem State.regs_drawnBy (s : State) (n : Nat) : (s.drawnBy n).regs = s.regs := rfl
@[simp] theorem State.mem_drawnBy (s : State) (n : Nat) : (s.drawnBy n).mem = s.mem := rfl
@[simp] theorem State.ctl_drawnBy (s : State) (n : Nat) : (s.drawnBy n).ctl = s.ctl := rfl
@[simp] theorem State.jig_drawnBy (s : State) (n : Nat) : (s.drawnBy n).jig = s.jig := rfl
@[simp] theorem State.lm_drawnBy (s : State) (n : Nat) : (s.drawnBy n).lm = s.lm := rfl
@[simp] theorem State.spn_drawnBy (s : State) (n : Nat) : (s.drawnBy n).spn = s.spn := rfl
@[simp] theorem State.gge_drawnBy (s : State) (n : Nat) : (s.drawnBy n).gge = s.gge := rfl
@[simp] theorem State.hds_drawnBy (s : State) (n : Nat) : (s.drawnBy n).hds = s.hds := rfl
@[simp] theorem State.lnk_drawnBy (s : State) (n : Nat) : (s.drawnBy n).lnk = s.lnk := rfl
@[simp] theorem State.chk_drawnBy (s : State) (n : Nat) : (s.drawnBy n).chk = s.chk := rfl
@[simp] theorem State.rtr_drawnBy (s : State) (n : Nat) : (s.drawnBy n).rtr = s.rtr := rfl
@[simp] theorem State.ftu_drawnBy (s : State) (n : Nat) : (s.drawnBy n).ftu = s.ftu := rfl
@[simp] theorem State.srv_drawnBy (s : State) (n : Nat) : (s.drawnBy n).srv = s.srv := rfl
@[simp] theorem State.circ_drawnBy (s : State) (n : Nat) : (s.drawnBy n).circ = s.circ := rfl
@[simp] theorem State.pyl_drawnBy (s : State) (n : Nat) : (s.drawnBy n).pyl = s.pyl := rfl
@[simp] theorem State.ev_drawnBy (s : State) (n : Nat) : (s.drawnBy n).ev = s.ev := rfl
@[simp] theorem State.ctr_drawnBy (s : State) (n : Nat) : (s.drawnBy n).ctr = s.ctr := rfl
@[simp] theorem State.sec_drawnBy (s : State) (n : Nat) : (s.drawnBy n).sec = s.sec := rfl
@[simp] theorem State.upd_drawnBy (s : State) (n : Nat) : (s.drawnBy n).upd = s.upd := rfl
@[simp] theorem State.cal_drawnBy (s : State) (n : Nat) : (s.drawnBy n).cal = s.cal := rfl
@[simp] theorem State.pwr_drawnBy (s : State) (n : Nat) : (s.drawnBy n).pwr = s.pwr := rfl
@[simp] theorem State.host_drawnBy (s : State) (n : Nat) : (s.drawnBy n).host = s.host := rfl
@[simp] theorem State.tap_drawnBy (s : State) (n : Nat) : (s.drawnBy n).tap = s.tap := rfl

@[simp] theorem State.pending_putBytes (s : State) (a : Nat) (b : List Byte) : (s.putBytes a b).pending = s.pending := rfl
@[simp] theorem State.now_putBytes (s : State) (a : Nat) (b : List Byte) : (s.putBytes a b).now = s.now := rfl
@[simp] theorem State.free_putBytes (s : State) (a : Nat) (b : List Byte) : (s.putBytes a b).free = s.free := rfl
@[simp] theorem State.regs_putBytes (s : State) (a : Nat) (b : List Byte) : (s.putBytes a b).regs = s.regs := rfl
@[simp] theorem State.ctl_putBytes (s : State) (a : Nat) (b : List Byte) : (s.putBytes a b).ctl = s.ctl := rfl
@[simp] theorem State.jig_putBytes (s : State) (a : Nat) (b : List Byte) : (s.putBytes a b).jig = s.jig := rfl
@[simp] theorem State.lm_putBytes (s : State) (a : Nat) (b : List Byte) : (s.putBytes a b).lm = s.lm := rfl
@[simp] theorem State.spn_putBytes (s : State) (a : Nat) (b : List Byte) : (s.putBytes a b).spn = s.spn := rfl
@[simp] theorem State.gge_putBytes (s : State) (a : Nat) (b : List Byte) : (s.putBytes a b).gge = s.gge := rfl
@[simp] theorem State.hds_putBytes (s : State) (a : Nat) (b : List Byte) : (s.putBytes a b).hds = s.hds := rfl
@[simp] theorem State.lnk_putBytes (s : State) (a : Nat) (b : List Byte) : (s.putBytes a b).lnk = s.lnk := rfl
@[simp] theorem State.chk_putBytes (s : State) (a : Nat) (b : List Byte) : (s.putBytes a b).chk = s.chk := rfl
@[simp] theorem State.rtr_putBytes (s : State) (a : Nat) (b : List Byte) : (s.putBytes a b).rtr = s.rtr := rfl
@[simp] theorem State.ftu_putBytes (s : State) (a : Nat) (b : List Byte) : (s.putBytes a b).ftu = s.ftu := rfl
@[simp] theorem State.srv_putBytes (s : State) (a : Nat) (b : List Byte) : (s.putBytes a b).srv = s.srv := rfl
@[simp] theorem State.circ_putBytes (s : State) (a : Nat) (b : List Byte) : (s.putBytes a b).circ = s.circ := rfl
@[simp] theorem State.pyl_putBytes (s : State) (a : Nat) (b : List Byte) : (s.putBytes a b).pyl = s.pyl := rfl
@[simp] theorem State.ev_putBytes (s : State) (a : Nat) (b : List Byte) : (s.putBytes a b).ev = s.ev := rfl
@[simp] theorem State.ctr_putBytes (s : State) (a : Nat) (b : List Byte) : (s.putBytes a b).ctr = s.ctr := rfl
@[simp] theorem State.sec_putBytes (s : State) (a : Nat) (b : List Byte) : (s.putBytes a b).sec = s.sec := rfl
@[simp] theorem State.upd_putBytes (s : State) (a : Nat) (b : List Byte) : (s.putBytes a b).upd = s.upd := rfl
@[simp] theorem State.cal_putBytes (s : State) (a : Nat) (b : List Byte) : (s.putBytes a b).cal = s.cal := rfl
@[simp] theorem State.pwr_putBytes (s : State) (a : Nat) (b : List Byte) : (s.putBytes a b).pwr = s.pwr := rfl
@[simp] theorem State.host_putBytes (s : State) (a : Nat) (b : List Byte) : (s.putBytes a b).host = s.host := rfl
@[simp] theorem State.tap_putBytes (s : State) (a : Nat) (b : List Byte) : (s.putBytes a b).tap = s.tap := rfl

@[simp] theorem State.pending_putNum (s : State) (a n v : Nat) : (s.putNum a n v).pending = s.pending := rfl
@[simp] theorem State.now_putNum (s : State) (a n v : Nat) : (s.putNum a n v).now = s.now := rfl
@[simp] theorem State.free_putNum (s : State) (a n v : Nat) : (s.putNum a n v).free = s.free := rfl
@[simp] theorem State.regs_putNum (s : State) (a n v : Nat) : (s.putNum a n v).regs = s.regs := rfl
@[simp] theorem State.ctl_putNum (s : State) (a n v : Nat) : (s.putNum a n v).ctl = s.ctl := rfl
@[simp] theorem State.jig_putNum (s : State) (a n v : Nat) : (s.putNum a n v).jig = s.jig := rfl
@[simp] theorem State.lm_putNum (s : State) (a n v : Nat) : (s.putNum a n v).lm = s.lm := rfl
@[simp] theorem State.spn_putNum (s : State) (a n v : Nat) : (s.putNum a n v).spn = s.spn := rfl
@[simp] theorem State.gge_putNum (s : State) (a n v : Nat) : (s.putNum a n v).gge = s.gge := rfl
@[simp] theorem State.hds_putNum (s : State) (a n v : Nat) : (s.putNum a n v).hds = s.hds := rfl
@[simp] theorem State.lnk_putNum (s : State) (a n v : Nat) : (s.putNum a n v).lnk = s.lnk := rfl
@[simp] theorem State.chk_putNum (s : State) (a n v : Nat) : (s.putNum a n v).chk = s.chk := rfl
@[simp] theorem State.rtr_putNum (s : State) (a n v : Nat) : (s.putNum a n v).rtr = s.rtr := rfl
@[simp] theorem State.ftu_putNum (s : State) (a n v : Nat) : (s.putNum a n v).ftu = s.ftu := rfl
@[simp] theorem State.srv_putNum (s : State) (a n v : Nat) : (s.putNum a n v).srv = s.srv := rfl
@[simp] theorem State.circ_putNum (s : State) (a n v : Nat) : (s.putNum a n v).circ = s.circ := rfl
@[simp] theorem State.pyl_putNum (s : State) (a n v : Nat) : (s.putNum a n v).pyl = s.pyl := rfl
@[simp] theorem State.ev_putNum (s : State) (a n v : Nat) : (s.putNum a n v).ev = s.ev := rfl
@[simp] theorem State.ctr_putNum (s : State) (a n v : Nat) : (s.putNum a n v).ctr = s.ctr := rfl
@[simp] theorem State.sec_putNum (s : State) (a n v : Nat) : (s.putNum a n v).sec = s.sec := rfl
@[simp] theorem State.upd_putNum (s : State) (a n v : Nat) : (s.putNum a n v).upd = s.upd := rfl
@[simp] theorem State.cal_putNum (s : State) (a n v : Nat) : (s.putNum a n v).cal = s.cal := rfl
@[simp] theorem State.pwr_putNum (s : State) (a n v : Nat) : (s.putNum a n v).pwr = s.pwr := rfl
@[simp] theorem State.host_putNum (s : State) (a n v : Nat) : (s.putNum a n v).host = s.host := rfl
@[simp] theorem State.tap_putNum (s : State) (a n v : Nat) : (s.putNum a n v).tap = s.tap := rfl

@[simp] theorem State.pending_setSpindle (s : State) (i : Nat) (x : Spindle) : (s.setSpindle i x).pending = s.pending := rfl
@[simp] theorem State.now_setSpindle (s : State) (i : Nat) (x : Spindle) : (s.setSpindle i x).now = s.now := rfl
@[simp] theorem State.free_setSpindle (s : State) (i : Nat) (x : Spindle) : (s.setSpindle i x).free = s.free := rfl
@[simp] theorem State.regs_setSpindle (s : State) (i : Nat) (x : Spindle) : (s.setSpindle i x).regs = s.regs := rfl
@[simp] theorem State.mem_setSpindle (s : State) (i : Nat) (x : Spindle) : (s.setSpindle i x).mem = s.mem := rfl
@[simp] theorem State.ctl_setSpindle (s : State) (i : Nat) (x : Spindle) : (s.setSpindle i x).ctl = s.ctl := rfl
@[simp] theorem State.jig_setSpindle (s : State) (i : Nat) (x : Spindle) : (s.setSpindle i x).jig = s.jig := rfl
@[simp] theorem State.lm_setSpindle (s : State) (i : Nat) (x : Spindle) : (s.setSpindle i x).lm = s.lm := rfl
@[simp] theorem State.gge_setSpindle (s : State) (i : Nat) (x : Spindle) : (s.setSpindle i x).gge = s.gge := rfl
@[simp] theorem State.hds_setSpindle (s : State) (i : Nat) (x : Spindle) : (s.setSpindle i x).hds = s.hds := rfl
@[simp] theorem State.lnk_setSpindle (s : State) (i : Nat) (x : Spindle) : (s.setSpindle i x).lnk = s.lnk := rfl
@[simp] theorem State.chk_setSpindle (s : State) (i : Nat) (x : Spindle) : (s.setSpindle i x).chk = s.chk := rfl
@[simp] theorem State.rtr_setSpindle (s : State) (i : Nat) (x : Spindle) : (s.setSpindle i x).rtr = s.rtr := rfl
@[simp] theorem State.ftu_setSpindle (s : State) (i : Nat) (x : Spindle) : (s.setSpindle i x).ftu = s.ftu := rfl
@[simp] theorem State.srv_setSpindle (s : State) (i : Nat) (x : Spindle) : (s.setSpindle i x).srv = s.srv := rfl
@[simp] theorem State.circ_setSpindle (s : State) (i : Nat) (x : Spindle) : (s.setSpindle i x).circ = s.circ := rfl
@[simp] theorem State.pyl_setSpindle (s : State) (i : Nat) (x : Spindle) : (s.setSpindle i x).pyl = s.pyl := rfl
@[simp] theorem State.ev_setSpindle (s : State) (i : Nat) (x : Spindle) : (s.setSpindle i x).ev = s.ev := rfl
@[simp] theorem State.ctr_setSpindle (s : State) (i : Nat) (x : Spindle) : (s.setSpindle i x).ctr = s.ctr := rfl
@[simp] theorem State.sec_setSpindle (s : State) (i : Nat) (x : Spindle) : (s.setSpindle i x).sec = s.sec := rfl
@[simp] theorem State.upd_setSpindle (s : State) (i : Nat) (x : Spindle) : (s.setSpindle i x).upd = s.upd := rfl
@[simp] theorem State.cal_setSpindle (s : State) (i : Nat) (x : Spindle) : (s.setSpindle i x).cal = s.cal := rfl
@[simp] theorem State.pwr_setSpindle (s : State) (i : Nat) (x : Spindle) : (s.setSpindle i x).pwr = s.pwr := rfl
@[simp] theorem State.host_setSpindle (s : State) (i : Nat) (x : Spindle) : (s.setSpindle i x).host = s.host := rfl
@[simp] theorem State.tap_setSpindle (s : State) (i : Nat) (x : Spindle) : (s.setSpindle i x).tap = s.tap := rfl

@[simp] theorem State.pending_updSpindle (s : State) (i : Nat) (f : Spindle → Spindle) : (s.updSpindle i f).pending = s.pending := rfl
@[simp] theorem State.now_updSpindle (s : State) (i : Nat) (f : Spindle → Spindle) : (s.updSpindle i f).now = s.now := rfl
@[simp] theorem State.free_updSpindle (s : State) (i : Nat) (f : Spindle → Spindle) : (s.updSpindle i f).free = s.free := rfl
@[simp] theorem State.regs_updSpindle (s : State) (i : Nat) (f : Spindle → Spindle) : (s.updSpindle i f).regs = s.regs := rfl
@[simp] theorem State.mem_updSpindle (s : State) (i : Nat) (f : Spindle → Spindle) : (s.updSpindle i f).mem = s.mem := rfl
@[simp] theorem State.ctl_updSpindle (s : State) (i : Nat) (f : Spindle → Spindle) : (s.updSpindle i f).ctl = s.ctl := rfl
@[simp] theorem State.jig_updSpindle (s : State) (i : Nat) (f : Spindle → Spindle) : (s.updSpindle i f).jig = s.jig := rfl
@[simp] theorem State.lm_updSpindle (s : State) (i : Nat) (f : Spindle → Spindle) : (s.updSpindle i f).lm = s.lm := rfl
@[simp] theorem State.gge_updSpindle (s : State) (i : Nat) (f : Spindle → Spindle) : (s.updSpindle i f).gge = s.gge := rfl
@[simp] theorem State.hds_updSpindle (s : State) (i : Nat) (f : Spindle → Spindle) : (s.updSpindle i f).hds = s.hds := rfl
@[simp] theorem State.lnk_updSpindle (s : State) (i : Nat) (f : Spindle → Spindle) : (s.updSpindle i f).lnk = s.lnk := rfl
@[simp] theorem State.chk_updSpindle (s : State) (i : Nat) (f : Spindle → Spindle) : (s.updSpindle i f).chk = s.chk := rfl
@[simp] theorem State.rtr_updSpindle (s : State) (i : Nat) (f : Spindle → Spindle) : (s.updSpindle i f).rtr = s.rtr := rfl
@[simp] theorem State.ftu_updSpindle (s : State) (i : Nat) (f : Spindle → Spindle) : (s.updSpindle i f).ftu = s.ftu := rfl
@[simp] theorem State.srv_updSpindle (s : State) (i : Nat) (f : Spindle → Spindle) : (s.updSpindle i f).srv = s.srv := rfl
@[simp] theorem State.circ_updSpindle (s : State) (i : Nat) (f : Spindle → Spindle) : (s.updSpindle i f).circ = s.circ := rfl
@[simp] theorem State.pyl_updSpindle (s : State) (i : Nat) (f : Spindle → Spindle) : (s.updSpindle i f).pyl = s.pyl := rfl
@[simp] theorem State.ev_updSpindle (s : State) (i : Nat) (f : Spindle → Spindle) : (s.updSpindle i f).ev = s.ev := rfl
@[simp] theorem State.ctr_updSpindle (s : State) (i : Nat) (f : Spindle → Spindle) : (s.updSpindle i f).ctr = s.ctr := rfl
@[simp] theorem State.sec_updSpindle (s : State) (i : Nat) (f : Spindle → Spindle) : (s.updSpindle i f).sec = s.sec := rfl
@[simp] theorem State.upd_updSpindle (s : State) (i : Nat) (f : Spindle → Spindle) : (s.updSpindle i f).upd = s.upd := rfl
@[simp] theorem State.cal_updSpindle (s : State) (i : Nat) (f : Spindle → Spindle) : (s.updSpindle i f).cal = s.cal := rfl
@[simp] theorem State.pwr_updSpindle (s : State) (i : Nat) (f : Spindle → Spindle) : (s.updSpindle i f).pwr = s.pwr := rfl
@[simp] theorem State.host_updSpindle (s : State) (i : Nat) (f : Spindle → Spindle) : (s.updSpindle i f).host = s.host := rfl
@[simp] theorem State.tap_updSpindle (s : State) (i : Nat) (f : Spindle → Spindle) : (s.updSpindle i f).tap = s.tap := rfl

@[simp] theorem State.pending_updGang (s : State) (i g : Nat) (f : Gang → Gang) : (s.updGang i g f).pending = s.pending := rfl
@[simp] theorem State.now_updGang (s : State) (i g : Nat) (f : Gang → Gang) : (s.updGang i g f).now = s.now := rfl
@[simp] theorem State.free_updGang (s : State) (i g : Nat) (f : Gang → Gang) : (s.updGang i g f).free = s.free := rfl
@[simp] theorem State.regs_updGang (s : State) (i g : Nat) (f : Gang → Gang) : (s.updGang i g f).regs = s.regs := rfl
@[simp] theorem State.mem_updGang (s : State) (i g : Nat) (f : Gang → Gang) : (s.updGang i g f).mem = s.mem := rfl
@[simp] theorem State.ctl_updGang (s : State) (i g : Nat) (f : Gang → Gang) : (s.updGang i g f).ctl = s.ctl := rfl
@[simp] theorem State.jig_updGang (s : State) (i g : Nat) (f : Gang → Gang) : (s.updGang i g f).jig = s.jig := rfl
@[simp] theorem State.lm_updGang (s : State) (i g : Nat) (f : Gang → Gang) : (s.updGang i g f).lm = s.lm := rfl
@[simp] theorem State.gge_updGang (s : State) (i g : Nat) (f : Gang → Gang) : (s.updGang i g f).gge = s.gge := rfl
@[simp] theorem State.hds_updGang (s : State) (i g : Nat) (f : Gang → Gang) : (s.updGang i g f).hds = s.hds := rfl
@[simp] theorem State.lnk_updGang (s : State) (i g : Nat) (f : Gang → Gang) : (s.updGang i g f).lnk = s.lnk := rfl
@[simp] theorem State.chk_updGang (s : State) (i g : Nat) (f : Gang → Gang) : (s.updGang i g f).chk = s.chk := rfl
@[simp] theorem State.rtr_updGang (s : State) (i g : Nat) (f : Gang → Gang) : (s.updGang i g f).rtr = s.rtr := rfl
@[simp] theorem State.ftu_updGang (s : State) (i g : Nat) (f : Gang → Gang) : (s.updGang i g f).ftu = s.ftu := rfl
@[simp] theorem State.srv_updGang (s : State) (i g : Nat) (f : Gang → Gang) : (s.updGang i g f).srv = s.srv := rfl
@[simp] theorem State.circ_updGang (s : State) (i g : Nat) (f : Gang → Gang) : (s.updGang i g f).circ = s.circ := rfl
@[simp] theorem State.pyl_updGang (s : State) (i g : Nat) (f : Gang → Gang) : (s.updGang i g f).pyl = s.pyl := rfl
@[simp] theorem State.ev_updGang (s : State) (i g : Nat) (f : Gang → Gang) : (s.updGang i g f).ev = s.ev := rfl
@[simp] theorem State.ctr_updGang (s : State) (i g : Nat) (f : Gang → Gang) : (s.updGang i g f).ctr = s.ctr := rfl
@[simp] theorem State.sec_updGang (s : State) (i g : Nat) (f : Gang → Gang) : (s.updGang i g f).sec = s.sec := rfl
@[simp] theorem State.upd_updGang (s : State) (i g : Nat) (f : Gang → Gang) : (s.updGang i g f).upd = s.upd := rfl
@[simp] theorem State.cal_updGang (s : State) (i g : Nat) (f : Gang → Gang) : (s.updGang i g f).cal = s.cal := rfl
@[simp] theorem State.pwr_updGang (s : State) (i g : Nat) (f : Gang → Gang) : (s.updGang i g f).pwr = s.pwr := rfl
@[simp] theorem State.host_updGang (s : State) (i g : Nat) (f : Gang → Gang) : (s.updGang i g f).host = s.host := rfl
@[simp] theorem State.tap_updGang (s : State) (i g : Nat) (f : Gang → Gang) : (s.updGang i g f).tap = s.tap := rfl

@[simp] theorem State.pending_dropGang (s : State) (i g : Nat) : (s.dropGang i g).pending = s.pending := rfl
@[simp] theorem State.now_dropGang (s : State) (i g : Nat) : (s.dropGang i g).now = s.now := rfl
@[simp] theorem State.free_dropGang (s : State) (i g : Nat) : (s.dropGang i g).free = s.free := rfl
@[simp] theorem State.regs_dropGang (s : State) (i g : Nat) : (s.dropGang i g).regs = s.regs := rfl
@[simp] theorem State.mem_dropGang (s : State) (i g : Nat) : (s.dropGang i g).mem = s.mem := rfl
@[simp] theorem State.ctl_dropGang (s : State) (i g : Nat) : (s.dropGang i g).ctl = s.ctl := rfl
@[simp] theorem State.jig_dropGang (s : State) (i g : Nat) : (s.dropGang i g).jig = s.jig := rfl
@[simp] theorem State.lm_dropGang (s : State) (i g : Nat) : (s.dropGang i g).lm = s.lm := rfl
@[simp] theorem State.gge_dropGang (s : State) (i g : Nat) : (s.dropGang i g).gge = s.gge := rfl
@[simp] theorem State.hds_dropGang (s : State) (i g : Nat) : (s.dropGang i g).hds = s.hds := rfl
@[simp] theorem State.lnk_dropGang (s : State) (i g : Nat) : (s.dropGang i g).lnk = s.lnk := rfl
@[simp] theorem State.chk_dropGang (s : State) (i g : Nat) : (s.dropGang i g).chk = s.chk := rfl
@[simp] theorem State.rtr_dropGang (s : State) (i g : Nat) : (s.dropGang i g).rtr = s.rtr := rfl
@[simp] theorem State.ftu_dropGang (s : State) (i g : Nat) : (s.dropGang i g).ftu = s.ftu := rfl
@[simp] theorem State.srv_dropGang (s : State) (i g : Nat) : (s.dropGang i g).srv = s.srv := rfl
@[simp] theorem State.circ_dropGang (s : State) (i g : Nat) : (s.dropGang i g).circ = s.circ := rfl
@[simp] theorem State.pyl_dropGang (s : State) (i g : Nat) : (s.dropGang i g).pyl = s.pyl := rfl
@[simp] theorem State.ev_dropGang (s : State) (i g : Nat) : (s.dropGang i g).ev = s.ev := rfl
@[simp] theorem State.ctr_dropGang (s : State) (i g : Nat) : (s.dropGang i g).ctr = s.ctr := rfl
@[simp] theorem State.sec_dropGang (s : State) (i g : Nat) : (s.dropGang i g).sec = s.sec := rfl
@[simp] theorem State.upd_dropGang (s : State) (i g : Nat) : (s.dropGang i g).upd = s.upd := rfl
@[simp] theorem State.cal_dropGang (s : State) (i g : Nat) : (s.dropGang i g).cal = s.cal := rfl
@[simp] theorem State.pwr_dropGang (s : State) (i g : Nat) : (s.dropGang i g).pwr = s.pwr := rfl
@[simp] theorem State.host_dropGang (s : State) (i g : Nat) : (s.dropGang i g).host = s.host := rfl
@[simp] theorem State.tap_dropGang (s : State) (i g : Nat) : (s.dropGang i g).tap = s.tap := rfl

@[simp] theorem State.pending_keeping (s t : State) : (s.keeping t).pending = s.pending := rfl
@[simp] theorem State.now_keeping (s t : State) : (s.keeping t).now = s.now := rfl
@[simp] theorem State.free_keeping (s t : State) : (s.keeping t).free = t.free := rfl
@[simp] theorem State.regs_keeping (s t : State) : (s.keeping t).regs = t.regs := rfl
@[simp] theorem State.mem_keeping (s t : State) : (s.keeping t).mem = t.mem := rfl
@[simp] theorem State.ctl_keeping (s t : State) : (s.keeping t).ctl = t.ctl := rfl
@[simp] theorem State.jig_keeping (s t : State) : (s.keeping t).jig = t.jig := rfl
@[simp] theorem State.lm_keeping (s t : State) : (s.keeping t).lm = t.lm := rfl
@[simp] theorem State.spn_keeping (s t : State) : (s.keeping t).spn = t.spn := rfl
@[simp] theorem State.gge_keeping (s t : State) : (s.keeping t).gge = t.gge := rfl
@[simp] theorem State.hds_keeping (s t : State) : (s.keeping t).hds = t.hds := rfl
@[simp] theorem State.lnk_keeping (s t : State) : (s.keeping t).lnk = t.lnk := rfl
@[simp] theorem State.chk_keeping (s t : State) : (s.keeping t).chk = t.chk := rfl
@[simp] theorem State.rtr_keeping (s t : State) : (s.keeping t).rtr = t.rtr := rfl
@[simp] theorem State.ftu_keeping (s t : State) : (s.keeping t).ftu = t.ftu := rfl
@[simp] theorem State.srv_keeping (s t : State) : (s.keeping t).srv = t.srv := rfl
@[simp] theorem State.circ_keeping (s t : State) : (s.keeping t).circ = t.circ := rfl
@[simp] theorem State.pyl_keeping (s t : State) : (s.keeping t).pyl = t.pyl := rfl
@[simp] theorem State.ev_keeping (s t : State) : (s.keeping t).ev = t.ev := rfl
@[simp] theorem State.ctr_keeping (s t : State) : (s.keeping t).ctr = t.ctr := rfl
@[simp] theorem State.sec_keeping (s t : State) : (s.keeping t).sec = t.sec := rfl
@[simp] theorem State.upd_keeping (s t : State) : (s.keeping t).upd = t.upd := rfl
@[simp] theorem State.cal_keeping (s t : State) : (s.keeping t).cal = t.cal := rfl
@[simp] theorem State.pwr_keeping (s t : State) : (s.keeping t).pwr = t.pwr := rfl
@[simp] theorem State.host_keeping (s t : State) : (s.keeping t).host = t.host := rfl
@[simp] theorem State.tap_keeping (s t : State) : (s.keeping t).tap = s.tap := rfl

/-! ### Registers and fields -/

@[simp] theorem State.reg_setReg (s : State) (a : Nat) (v : Word64) : (s.setReg a v).reg a = v := by
  simp [State.reg, State.setReg]

theorem State.reg_setReg_ne (s : State) (v : Word64) {a b : Nat} (h : b ≠ a) : (s.setReg a v).reg b = s.reg b := by
  simp [State.reg, State.setReg, smapGet_set_ne _ _ _ h]

theorem State.reg_set_ne (s : State) (l : Loc) (n : Nat) {b : Nat} (h : b ≠ l.addr) : (s.set l n).reg b = s.reg b :=
  s.reg_setReg_ne _ h

/-- The word of `Loc.put` as a number. -/
theorem Loc.put_toNat (l : Loc) (w : Word64) (n : Nat) (h : l.lo + l.width ≤ 64) :
    (l.put w n).toNat = w.toNat / 2 ^ (l.lo + l.width) * 2 ^ (l.lo + l.width) + n % 2 ^ l.width * 2 ^ l.lo
      + w.toNat % 2 ^ l.lo := by
  unfold Loc.put
  rw [BitVec.toNat_ofNat]
  apply Nat.mod_eq_of_lt
  have hw : w.toNat < 2 ^ 64 := w.isLt
  have h1 : n % 2 ^ l.width < 2 ^ l.width := Nat.mod_lt _ (Nat.two_pow_pos _)
  have h2 : w.toNat % 2 ^ l.lo < 2 ^ l.lo := Nat.mod_lt _ (Nat.two_pow_pos _)
  have h3 : n % 2 ^ l.width * 2 ^ l.lo + w.toNat % 2 ^ l.lo < 2 ^ (l.lo + l.width) := by
    rw [Nat.pow_add]
    calc n % 2 ^ l.width * 2 ^ l.lo + w.toNat % 2 ^ l.lo
        < n % 2 ^ l.width * 2 ^ l.lo + 2 ^ l.lo := by omega
      _ = (n % 2 ^ l.width + 1) * 2 ^ l.lo := by ring
      _ ≤ 2 ^ l.width * 2 ^ l.lo := Nat.mul_le_mul_right _ h1
      _ = 2 ^ l.lo * 2 ^ l.width := Nat.mul_comm _ _
  have h4 : w.toNat / 2 ^ (l.lo + l.width) < 2 ^ (64 - (l.lo + l.width)) := by
    rw [Nat.div_lt_iff_lt_mul (Nat.two_pow_pos _), ← Nat.pow_add]
    simpa [Nat.sub_add_cancel h] using hw
  calc w.toNat / 2 ^ (l.lo + l.width) * 2 ^ (l.lo + l.width) + n % 2 ^ l.width * 2 ^ l.lo + w.toNat % 2 ^ l.lo
      < (w.toNat / 2 ^ (l.lo + l.width) + 1) * 2 ^ (l.lo + l.width) := by
        rw [Nat.add_mul, Nat.one_mul]; omega
    _ ≤ 2 ^ (64 - (l.lo + l.width)) * 2 ^ (l.lo + l.width) := Nat.mul_le_mul_right _ h4
    _ = 2 ^ 64 := by rw [← Nat.pow_add, Nat.sub_add_cancel h]

/-- A field reads back what was written, as far as its width goes. -/
theorem State.get_set (s : State) (l : Loc) (n : Nat) (h : l.lo + l.width ≤ 64) : (s.set l n).get l = n % 2 ^ l.width := by
  unfold State.get State.set
  rw [State.reg_setReg, Loc.put_toNat l _ _ h]
  unfold bits
  rw [Nat.pow_add]
  generalize (s.reg l.addr).toNat = w
  have e : w / (2 ^ l.lo * 2 ^ l.width) * (2 ^ l.lo * 2 ^ l.width) + n % 2 ^ l.width * 2 ^ l.lo + w % 2 ^ l.lo
      = 2 ^ l.lo * (w / (2 ^ l.lo * 2 ^ l.width) * 2 ^ l.width + n % 2 ^ l.width) + w % 2 ^ l.lo := by ring
  rw [e, Nat.mul_add_div (Nat.two_pow_pos _), Nat.div_eq_of_lt (Nat.mod_lt _ (Nat.two_pow_pos _)), Nat.add_zero,
    Nat.mul_comm _ (2 ^ l.width), Nat.mul_add_mod, Nat.mod_mod]

/-- A write of a field leaves every other register's fields alone. -/
theorem State.get_set_ne (s : State) (l m : Loc) (n : Nat) (h : m.addr ≠ l.addr) : (s.set l n).get m = s.get m := by
  unfold State.get
  rw [s.reg_set_ne l n h]

/-- A write of a field leaves the register's fields below it alone. -/
theorem State.get_set_below (s : State) (l m : Loc) (n : Nat) (ha : m.addr = l.addr) (hb : m.lo + m.width ≤ l.lo)
    (h : l.lo + l.width ≤ 64) : (s.set l n).get m = s.get m := by
  unfold State.get State.set
  rw [ha, State.reg_setReg, Loc.put_toNat l _ _ h]
  generalize (s.reg l.addr).toNat = w
  unfold bits
  obtain ⟨k, hk⟩ : ∃ k, l.lo = m.lo + m.width + k := ⟨l.lo - (m.lo + m.width), by omega⟩
  have key : ∀ x, x / 2 ^ m.lo % 2 ^ m.width = x % 2 ^ l.lo / 2 ^ m.lo % 2 ^ m.width := by
    intro x
    rw [hk, Nat.pow_add, Nat.pow_add, Nat.mul_assoc, Nat.mod_mul_right_div_self, Nat.mod_mul_right_mod]
  rw [key]
  have e : w / 2 ^ (l.lo + l.width) * 2 ^ (l.lo + l.width) + n % 2 ^ l.width * 2 ^ l.lo + w % 2 ^ l.lo
      = 2 ^ l.lo * (w / 2 ^ (l.lo + l.width) * 2 ^ l.width + n % 2 ^ l.width) + w % 2 ^ l.lo := by
    rw [Nat.pow_add]; ring
  rw [e, Nat.mul_add_mod, Nat.mod_mod, ← key]

/-- A write of a field leaves the register's fields above it alone. -/
theorem State.get_set_above (s : State) (l m : Loc) (n : Nat) (ha : m.addr = l.addr) (hb : l.lo + l.width ≤ m.lo)
    (h : l.lo + l.width ≤ 64) : (s.set l n).get m = s.get m := by
  unfold State.get State.set
  rw [ha, State.reg_setReg, Loc.put_toNat l _ _ h]
  generalize (s.reg l.addr).toNat = w
  unfold bits
  obtain ⟨k, hk⟩ : ∃ k, m.lo = l.lo + l.width + k := ⟨m.lo - (l.lo + l.width), by omega⟩
  have h1 : n % 2 ^ l.width < 2 ^ l.width := Nat.mod_lt _ (Nat.two_pow_pos _)
  have h2 : w % 2 ^ l.lo < 2 ^ l.lo := Nat.mod_lt _ (Nat.two_pow_pos _)
  have h3 : n % 2 ^ l.width * 2 ^ l.lo + w % 2 ^ l.lo < 2 ^ (l.lo + l.width) := by
    rw [Nat.pow_add]
    calc n % 2 ^ l.width * 2 ^ l.lo + w % 2 ^ l.lo
        < n % 2 ^ l.width * 2 ^ l.lo + 2 ^ l.lo := by omega
      _ = (n % 2 ^ l.width + 1) * 2 ^ l.lo := by ring
      _ ≤ 2 ^ l.width * 2 ^ l.lo := Nat.mul_le_mul_right _ h1
      _ = 2 ^ l.lo * 2 ^ l.width := Nat.mul_comm _ _
  congr 1
  rw [hk, Nat.pow_add _ _ k, ← Nat.div_div_eq_div_mul, ← Nat.div_div_eq_div_mul]
  congr 1
  rw [Nat.add_assoc, Nat.mul_comm, Nat.mul_add_div (Nat.two_pow_pos _), Nat.div_eq_of_lt h3, Nat.add_zero]

/-- A register and its fields as numbers. -/
theorem State.get_setReg_ne (s : State) (l : Loc) (v : Word64) {a : Nat} (h : l.addr ≠ a) : (s.setReg a v).get l = s.get l := by
  unfold State.get
  rw [s.reg_setReg_ne v h]

@[simp] theorem State.get_keeping (s t : State) (l : Loc) : (s.keeping t).get l = t.get l := rfl
@[simp] theorem State.reg_keeping (s t : State) (a : Nat) : (s.keeping t).reg a = t.reg a := rfl
@[simp] theorem State.flag_keeping (s t : State) (l : Loc) : (s.keeping t).flag l = t.flag l := rfl
@[simp] theorem State.byte_keeping (s t : State) (a : Nat) : (s.keeping t).byte a = t.byte a := rfl
@[simp] theorem State.running_keeping (s t : State) : (s.keeping t).running = t.running := rfl
@[simp] theorem State.running_set (s : State) (l : Loc) (n : Nat) : (s.set l n).running = s.running := rfl
@[simp] theorem State.running_setReg (s : State) (a : Nat) (v : Word64) : (s.setReg a v).running = s.running := rfl
@[simp] theorem State.byte_set (s : State) (l : Loc) (n a : Nat) : (s.set l n).byte a = s.byte a := rfl

/-- A command of a module that runs answers its effect; without power or in reset it answers the state as it was. -/
theorem State.run_running (s : State) (f : State → State) (h : s.running = true) : s.run f = .next (s.keeping (f s)) := by
  simp [State.run, h]

theorem State.run_off (s : State) (f : State → State) (h : s.running = false) : s.run f = .next s := by simp [State.run, h]

/-- Whatever a command that needs a running module does, it answers a next state whose queue, clock and test access port are
as they were. -/
theorem State.run_next (s : State) (f : State → State) :
    ∃ t, s.run f = .next t ∧ t.pending = s.pending ∧ t.now = s.now ∧ t.tap = s.tap := by
  unfold State.run
  by_cases h : s.running <;> simp [h]

/-! ### Memory -/

theorem memPut_below (m : List Host.Cell) (l : List Byte) {a b : Nat} (h : b < a) :
    smapGet memByte (memPut m a l) b = smapGet memByte m b := by
  induction l generalizing m a with
  | nil => rfl
  | cons x l ih => rw [memPut, ih _ (by omega), smapGet_set_ne _ _ _ (by omega)]

theorem memPut_above (m : List Host.Cell) (l : List Byte) {a b : Nat} (h : a + l.length ≤ b) :
    smapGet memByte (memPut m a l) b = smapGet memByte m b := by
  induction l generalizing m a with
  | nil => rfl
  | cons x l ih =>
    rw [List.length_cons] at h
    rw [memPut, ih _ (by omega), smapGet_set_ne _ _ _ (by omega)]

theorem memPut_at (m : List Host.Cell) (l : List Byte) (a k : Nat) (h : k < l.length) :
    smapGet memByte (memPut m a l) (a + k) = l[k] := by
  induction l generalizing m a k with
  | nil => simp at h
  | cons x l ih =>
    rw [memPut]
    cases k with
    | zero => rw [memPut_below _ _ (by omega), Nat.add_zero, smapGet_set]; rfl
    | succ k =>
      have := ih (smapSet memByte m a x) (a + 1) k (by simpa using h)
      rw [show a + (k + 1) = a + 1 + k by omega, this]; rfl

/-- Writing bytes keeps memory in its canonical form. -/
theorem memPut_wf (m : List Host.Cell) (a : Nat) (l : List Byte) (h : Memory.wf m = true) : Memory.wf (memPut m a l) = true := by
  induction l generalizing m a with
  | nil => exact h
  | cons x l ih => exact ih _ _ (smapWf_set _ _ _ _ h)

/-- The bytes stored read back. -/
theorem State.byte_putBytes (s : State) (a k : Nat) (l : List Byte) (h : k < l.length) : (s.putBytes a l).byte (a + k) = l[k] :=
  memPut_at s.mem l a k h

/-- Every byte outside the stored ones is as it was. -/
theorem State.byte_putBytes_out (s : State) (a b : Nat) (l : List Byte) (h : b < a ∨ a + l.length ≤ b) :
    (s.putBytes a l).byte b = s.byte b := by
  rcases h with h | h
  · exact memPut_below _ _ h
  · exact memPut_above _ _ h

theorem State.putBytes_wf (s : State) (a : Nat) (l : List Byte) (h : Memory.wf s.mem = true) :
    Memory.wf (s.putBytes a l).mem = true := memPut_wf _ _ _ h

theorem State.putNum_wf (s : State) (a n v : Nat) (h : Memory.wf s.mem = true) : Memory.wf (s.putNum a n v).mem = true :=
  s.putBytes_wf _ _ h

theorem State.reset_wf : Memory.wf State.reset.mem = true := rfl

/-- A list with elements left out keeps the canonical form: what clearing a range of memory does. -/
theorem smapFrom_filter {V : Type} (p : Nat × V → Bool) (n : Nat) : ∀ m : List (Nat × V), smapFrom n m → smapFrom n (m.filter p)
  | [], _ => trivial
  | e :: m, h => by
    by_cases hp : p e
    · simpa [hp, smapFrom] using ⟨h.1, smapFrom_filter p n m h.2⟩
    · simpa [hp] using smapFrom_filter p n m h.2

theorem smapWf_filter {V : Type} [DecidableEq V] (d : Nat → V) (p : Nat × V → Bool) :
    ∀ m : List (Nat × V), smapWf d m = true → smapWf d (m.filter p) = true
  | [], _ => rfl
  | (a, v) :: m, h => by
    obtain ⟨h1, h2, h3⟩ := (smapWf_cons d a v m).1 h
    by_cases hp : p (a, v)
    · rw [List.filter_cons_of_pos hp]
      exact (smapWf_cons d a v _).2 ⟨h1, smapFrom_filter p _ m h2, smapWf_filter d p m h3⟩
    · rw [List.filter_cons_of_neg hp]
      exact smapWf_filter d p m h3

/-- Memory with bytes returned to what an unlisted one reads as keeps its canonical form (a reset clears so). -/
theorem Memory.wf_filter (m : List Host.Cell) (p : Host.Cell → Bool) (h : Memory.wf m = true) : Memory.wf (m.filter p) = true :=
  smapWf_filter memByte p m h

end Sys2Proof.Machine
end

