-- ==== Sys2Proof/Laws/Notes.lean ====
section
/-! SUPPORT. Laws/Notes.lean: counting an event, logging an occurrence and raising an interrupt change nothing else (R404, R422, R533). -/

namespace Sys2Proof.Machine

theorem Noted.refl (s : State) : Noted s s := ⟨rfl, fun _ _ => rfl⟩

theorem Noted.trans {s t u : State} (h : Noted s t) (k : Noted t u) : Noted s u := by
  refine ⟨?_, fun a ha => (k.2 a ha).trans (h.2 a ha)⟩
  have h1 := h.1
  have k1 := k.1
  rw [k1, h1]

/-- What a register that is not one of counting or logging holds is as it was. -/
theorem Noted.get {s t : State} (h : Noted s t) (l : Loc) (hl : noteReg l.addr = false) : t.get l = s.get l := by
  unfold State.get; rw [h.2 _ hl]

theorem Noted.field {s t : State} (h : Noted s t) {α : Type} (f : State → α)
    (hf : ∀ r e o, f { s with regs := r, ev := e, host := o } = f s) : f t = f s := by rw [h.1]; exact hf _ _ _

theorem Noted.set {s : State} (l : Loc) (n : Nat) (hl : noteReg l.addr = true) : Noted s (s.set l n) := by
  refine ⟨rfl, fun a ha => s.reg_set_ne l n ?_⟩
  rintro rfl; rw [hl] at ha; exact absurd ha (by decide)

theorem Noted.sat {s : State} (l : Loc) (n : Nat) (hl : noteReg l.addr = true) : Noted s (s.sat l n) := Noted.set l _ hl
theorem Noted.inc {s : State} (l : Loc) (n : Nat) (hl : noteReg l.addr = true) : Noted s (s.inc l n) := Noted.set l _ hl

theorem Noted.ite {s t u : State} {p : Prop} [Decidable p] (h : Noted s t) (k : Noted s u) : Noted s (if p then t else u) := by
  split <;> assumption

theorem Noted.foldl {α : Type} (l : List α) (f : State → α → State) (h : ∀ s x, Noted s (f s x)) (s : State) :
    Noted s (l.foldl f s) := by
  induction l generalizing s with
  | nil => exact Noted.refl s
  | cons x l ih => exact (h s x).trans (ih _)

/-- Elements of a list only: what holds of each of them suffices. -/
theorem Noted.foldl_mem {α : Type} (l : List α) (f : State → α → State) (h : ∀ s x, x ∈ l → Noted s (f s x)) (s : State) :
    Noted s (l.foldl f s) := by
  induction l generalizing s with
  | nil => exact Noted.refl s
  | cons x l ih => exact (h s x (by simp)).trans (ih (fun s y hy => h s y (by simp [hy])) _)

/-! ### Interrupts -/

theorem noted_host (s : State) (o : HostState) : Noted s { s with host := o } := ⟨rfl, fun _ _ => rfl⟩
theorem noted_ev (s : State) (o : EventState) : Noted s { s with ev := o } := ⟨rfl, fun _ _ => rfl⟩

theorem noted_sendMsi (s : State) (v : Nat) : Noted s (s.sendMsi v) := noted_host s _

theorem noted_raiseVec (s : State) (v : Nat) : Noted s (s.raiseVec v) := by
  unfold State.raiseVec
  exact Noted.ite ((noted_host s _).trans (noted_sendMsi _ v)) (noted_host s _)

theorem raiseVec_regs (s : State) (v : Nat) : (s.raiseVec v).regs = s.regs := by
  unfold State.raiseVec
  exact (apply_ite State.regs _ _ _).trans (ite_self s.regs)

@[simp] theorem reg_raiseVec (s : State) (v a : Nat) : (s.raiseVec v).reg a = s.reg a := by
  unfold State.reg; rw [raiseVec_regs]

@[simp] theorem get_raiseVec (s : State) (v : Nat) (l : Loc) : (s.raiseVec v).get l = s.get l := by
  unfold State.get; rw [reg_raiseVec]

/-! ### Counting -/

/-- The counter banks of a kind (R419). -/
def banksOf (kind : Nat) : Nat :=
  match kind with
  | 0 => 288
  | 1 => 36
  | 2 => 4
  | 3 => 1
  | 4 => 11
  | 5 => 1
  | _ => 2

theorem noteReg_of {a : Nat}
    (h : (0x7f000000000 ≤ a ∧ a < 0x7f000000000 + 288 * 0x100000 ∧ 0x80000 ≤ (a - 0x7f000000000) % 0x100000
          ∧ (a - 0x7f000000000) % 0x100000 < 0x800b0)
      ∨ (0x7f040000000 ≤ a ∧ a < 0x7f040000000 + 36 * 0x10000 ∧ 0x8000 ≤ (a - 0x7f040000000) % 0x10000
          ∧ (a - 0x7f040000000) % 0x10000 < 0x80b0)
      ∨ (0x7f080000000 ≤ a ∧ a < 0x7f084000000 ∧ 0x800000 ≤ (a - 0x7f080000000) % 0x1000000
          ∧ (a - 0x7f080000000) % 0x1000000 < 0x8000b0)
      ∨ (0x7f101000000 ≤ a ∧ a < 0x7f1010000b0)
      ∨ (0x7f300000000 ≤ a ∧ a < 0x7f300000000 + 11 * 0x100000 ∧ 0x80000 ≤ (a - 0x7f300000000) % 0x100000
          ∧ (a - 0x7f300000000) % 0x100000 < 0x800b0)
      ∨ (0x7f200080000 ≤ a ∧ a < 0x7f2000800b0)
      ∨ (0x7f410000000 ≤ a ∧ a < 0x7f412000000 ∧ 0x80000 ≤ (a - 0x7f410000000) % 0x1000000
          ∧ (a - 0x7f410000000) % 0x1000000 < 0x800b0)) : noteReg a = true := by
  unfold noteReg
  rcases h with h | h | h | h | h | h | h <;> rw [decide_eq_true h] <;> simp only [Bool.true_or, Bool.or_true]

theorem noteReg_bank (kind inst off : Nat) (hi : inst < banksOf kind) (ho : off < 0xb0) : noteReg (bankBase kind inst + off) = true := by
  apply noteReg_of
  match kind, hi with
  | 0, hi => have h : inst < 288 := hi; simp only [bankBase, Reg.SPN_PMC_ID]; omega
  | 1, hi => have h : inst < 36 := hi; simp only [bankBase, Reg.GGE_PMC_ID]; omega
  | 2, hi => have h : inst < 4 := hi; simp only [bankBase, Reg.PIER_PMC_ID]; omega
  | 3, hi => simp only [bankBase, Reg.HDS_PMC_ID]; omega
  | 4, hi => have h : inst < 11 := hi; simp only [bankBase, Reg.LNK_PMC_ID]; omega
  | 5, hi => simp only [bankBase, Reg.RTR_PMC_ID]; omega
  | n + 6, hi => have h : inst < 2 := hi; simp only [bankBase, Reg.SRV_PMC_ID]; omega

theorem noted_pmcOverflow (s : State) (kind inst n : Nat) (hi : inst < banksOf kind) :
    Noted s (s.pmcOverflow (bankBase kind inst) n) := by
  have h1 : Noted s (s.set (pmcOvf (bankBase kind inst) n) 1) := Noted.set _ _ (noteReg_bank kind inst 0x18 hi (by omega))
  refine h1.trans ?_
  unfold State.pmcOverflow
  dsimp only
  generalize s.set (pmcOvf (bankBase kind inst) n) 1 = u
  have h2 : Noted u (if u.flag (pmcOvfFrz (bankBase kind inst)) then u.set (pmcEn (bankBase kind inst)) 0 else u) :=
    Noted.ite (Noted.set _ _ (noteReg_bank kind inst 8 hi (by omega))) (Noted.refl u)
  exact h2.trans (Noted.ite (noted_raiseVec _ _) (Noted.refl _))

theorem noted_pmcAdd (s : State) (kind inst n v : Nat) (hi : inst < banksOf kind) (hn : n < 6) :
    Noted s (s.pmcAdd (bankBase kind inst) n v) := by
  unfold State.pmcAdd
  have hs : ∀ (u : State) (k x : Nat), k < 6 → Noted u (u.set (pmcCnt (bankBase kind inst) k) x) := by
    intro u k x hk
    refine Noted.set _ _ ?_
    show noteReg (bankBase kind inst + 0x80 + 8 * k) = true
    rw [Nat.add_assoc]; exact noteReg_bank kind inst _ hi (by omega)
  dsimp only
  refine (hs s n (s.get (pmcCnt (bankBase kind inst) n) + v) hn).trans ?_
  generalize s.set (pmcCnt (bankBase kind inst) n) (s.get (pmcCnt (bankBase kind inst) n) + v) = u
  split
  · exact Noted.refl u
  · split
    · rename_i h _
      split
      · split
        · exact hs u (n + 1) _ (by omega)
        · exact (hs u (n + 1) _ (by omega)).trans (noted_pmcOverflow _ _ _ _ hi)
      · exact Noted.refl u
    · exact noted_pmcOverflow _ _ _ _ hi

theorem noted_countQ (s : State) (kind inst code : Nat) (v : Nat → Nat) (hi : inst < banksOf kind) :
    Noted s (s.countQ kind inst code v) := by
  unfold State.countQ
  refine Noted.foldl_mem _ _ (fun u n hn => ?_) s
  have : n < 6 := List.mem_range.1 hn
  exact Noted.ite (noted_pmcAdd _ _ _ _ _ hi this) (Noted.refl u)

theorem noted_count (s : State) (kind inst code v : Nat) (hi : inst < banksOf kind) : Noted s (s.count kind inst code v) :=
  noted_countQ s kind inst code _ hi

/-! ### The event front end -/

theorem evr_le (s : State) : s.evr ≤ 1 := by
  unfold State.evr State.holder
  split <;> simp

theorem noteReg_evr (r off : Nat) (hr : r ≤ 1) (ho : off < 0x200000) : noteReg (0x7f430000000 + r * 0x200000 + off) = true := by
  unfold noteReg
  simp only [Bool.or_eq_true, decide_eq_true_eq]
  omega

theorem noted_evEnqueue (s : State) (o : Occ) : Noted s (s.evEnqueue o) := by
  have hs : ∀ u : State, noteReg (evSevLost u.evr o.sev).addr = true := by
    intro u
    have h : ∀ l : Loc, l.addr = Reg.EVR_SEVLOST u.evr → noteReg l.addr = true := by
      intro l hl
      rw [hl, show Reg.EVR_SEVLOST u.evr = 0x7f430000000 + u.evr * 0x200000 + 0x40 by unfold Reg.EVR_SEVLOST; omega]
      exact noteReg_evr _ _ (evr_le u) (by omega)
    unfold evSevLost
    split <;> exact h _ rfl
  unfold State.evEnqueue
  split
  · exact Noted.ite (noted_ev s _) (Noted.sat _ _ (hs s))
  · refine Noted.ite ((noted_ev s _).trans (Noted.inc _ _ (by decide))) (noted_ev s _)

theorem noted_occurSev (s : State) (code sev src : Nat) (data : List Byte) : Noted s (s.occurSev code sev src data) := by
  have hs : ∀ u : State, noteReg (Reg.EVR_LOST u.evr) = true := by
    intro u
    rw [show Reg.EVR_LOST u.evr = 0x7f430000000 + u.evr * 0x200000 + 0x38 by unfold Reg.EVR_LOST; omega]
    exact noteReg_evr _ _ (evr_le u) (by omega)
  unfold State.occurSev
  dsimp only
  refine Noted.ite (Noted.sat _ _ (hs s)) (Noted.ite (noted_evEnqueue _ _) (Noted.ite ((noted_ev s _).trans (noted_evEnqueue _ _)) ?_))
  refine (noted_ev s _).trans (Noted.inc _ _ ?_)
  exact hs s

theorem noted_occur (s : State) (code src : Nat) (data : List Byte) : Noted s (s.occur code src data) := noted_occurSev s _ _ _ _

theorem noted_unmapped (s : State) (a k w : Nat) : Noted s (s.unmapped a k w) := noted_occur s _ _ _

end Sys2Proof.Machine
end

