-- ==== Sys2Proof/WellFormed.lean ====
section
/-! DEFINITION. WellFormed.lean: the operands that a command can carry: fields within their widths, and lists of the length that the
specification gives them. The bounds of an operand that is a number of something are in its type. -/

namespace Sys2Proof

/-- A module number lies in 0 to 8,191 (R30). -/
def Requester.wf : Requester → Bool
  | .host => true
  | .vc7 m => decide (m < 8192)

/-- The header fields of a flit have their widths, and the payload is 240 bytes (R242). -/
def Flit.wf (f : Flit) : Bool :=
  decide (f.ftype < 16) && decide (f.vc < 8) && decide (f.seq < 4096) && decide (f.ack < 4096) && decide (f.crvc0 < 8)
    && decide (f.crn0 < 256) && decide (f.crvc1 < 8) && decide (f.crn1 < 256) && decide (f.plen < 256) && f.payload.length == 240
    && decide (f.crc < 2 ^ 32)

/-- A light word's fields have their widths (R240). -/
def LightWord.wf (w : LightWord) : Bool :=
  decide (w.lane < 256) && decide (w.rxpwr < 65536) && decide (w.txpwr < 65536) && decide (w.flags < 256) && decide (w.seq < 256)
    && decide (w.conv < 2 ^ 32) && decide (w.crc < 2 ^ 32)

/-- Blocks of a servo lane have 66 bits (R317). -/
def blocksWf (l : List Nat) : Bool := l.all fun x => decide (x < 2 ^ 66)

/-- H has 5 lanes (R523). -/
def PatSet.wf : PatSet → Bool
  | .lane p l => decide (p.val < 10 ∨ l.val < 5)
  | .mesh _ _ => true
  | .servo _ => true

/-- Lines of the usable capacity (R26, R164). -/
def lines : Nat := 0x2e800000000 / 64

/-- Banks of each kind (R419). -/
def banks (kind : Fin 7) : Nat := [288, 36, 4, 1, 11, 1, 2].getD kind 0

/-- A command is well-formed. -/
def Instr.wf : Instr → Bool
  | .controlRegisterWrite r a _ => r.wf && decide (a < 2 ^ 43)
  | .submissionTailDoorbell _ _ => true
  | .completionHeadDoorbell _ _ => true
  | .mailboxUnknownCommand _ => true
  | .jigStart => true
  | .jigAbort => true
  | .jigSeal => true
  | .jigCopyComplete => true
  | .jigValidateComplete => true
  | .jigDrainComplete => true
  | .jigDrainLimitExpiry => true
  | .jigApplyComplete => true
  | .spindleQuiesce _ _ => true
  | .testInjection _ _ => true
  | .gangLaunch _ => true
  | .reservedOperation _ _ => true
  | .nopI _ _ => true
  | .br _ _ => true
  | .brall _ _ => true
  | .brany _ _ => true
  | .movi _ _ => true
  | .movhi _ _ => true
  | .tid _ _ => true
  | .ftrd _ _ => true
  | .setp _ _ => true
  | .endG _ _ => true
  | .fadd _ _ => true
  | .fmul _ _ => true
  | .ffma _ _ => true
  | .fmax _ _ => true
  | .fmin _ _ => true
  | .fexp2 _ _ => true
  | .flog2 _ _ => true
  | .frcp _ _ => true
  | .frsq _ _ => true
  | .iadd _ _ => true
  | .imul _ _ => true
  | .andB _ _ => true
  | .orB _ _ => true
  | .xorB _ _ => true
  | .shl _ _ => true
  | .shr _ _ => true
  | .fsetp _ _ => true
  | .isetp _ _ => true
  | .shfl _ _ => true
  | .cvtf _ _ => true
  | .pack _ _ => true
  | .unpack _ _ => true
  | .tmma _ _ => true
  | .tmv _ _ => true
  | .tzero _ _ => true
  | .tstore _ _ => true
  | .tensorInstructionComplete _ => true
  | .ld _ _ => true
  | .st _ _ => true
  | .ldblk _ _ => true
  | .stblk _ _ => true
  | .waitI _ _ => true
  | .gld _ _ => true
  | .gst _ _ => true
  | .gldblk _ _ => true
  | .gstblk _ _ => true
  | .aadd _ _ => true
  | .amax _ _ => true
  | .aswap _ _ => true
  | .acas _ _ => true
  | .aadd64 _ _ => true
  | .acas64 _ _ => true
  | .bar _ _ => true
  | .red _ _ => true
  | .redv _ _ => true
  | .fenceI _ _ => true
  | .barRelease _ => true
  | .redResult _ => true
  | .redvResult _ => true
  | .gsum _ _ => true
  | .gsel _ _ => true
  | .gougeInstructionComplete _ => true
  | .sample _ _ => true
  | .emit _ _ => true
  | .kvb _ _ => true
  | .loadDataReturn _ _ _ => true
  | .blockCopyComplete _ _ => true
  | .replay _ _ => true
  | .homeSliceAccess _ _ => true
  | .dramLineRead _ mask cmask => decide (mask < 2 ^ 512) && decide (cmask < 2 ^ 16)
  | .pierReread _ mask cmask => decide (mask < 2 ^ 512) && decide (cmask < 2 ^ 16)
  | .partialWriteMerge _ masks => decide (masks.length ≤ 3) && (masks.all fun m => decide (m.1 < 2 ^ 512) && decide (m.2 < 2 ^ 16))
  | .dramWriteComplete line => decide (line < lines)
  | .codeBufferTimeout group => decide (group * 31 < lines)
  | .mr4Readout _ _ => true
  | .perBankRefresh _ _ => true
  | .pierInitGo _ => true
  | .pierInitDone _ => true
  | .rolFlush _ => true
  | .rolFlushDone _ => true
  | .rolwaysWrite _ _ => true
  | .selfRefreshReentry _ => true
  | .qpEnable _ _ => true
  | .qpErrClear _ => true
  | .qpRingWriteHeld _ _ _ => true
  | .hdsProgWrite _ _ => true
  | .programCheckDone _ => true
  | .kvReturn _ => true
  | .kvPoolSizeWrite _ => true
  | .newC => true
  | .extend => true
  | .cancel => true
  | .freeC => true
  | .deferredAdmission => true
  | .deferLimitExpiry _ => true
  | .deadlineExpiry _ => true
  | .prefixLookup _ => true
  | .prefixImport _ => true
  | .flushDelayExpiry _ => true
  | .completionEntryWrite _ => true
  | .linkEnOn _ => true
  | .linkEnOff _ => true
  | .linkDrainWrite _ => true
  | .linkDrainCancel _ => true
  | .linkTestOn _ => true
  | .linkTestOff _ => true
  | .eqSave _ => true
  | .patternInject p => p.wf
  | .patternClear p => p.wf
  | .signalQualified _ lanes => decide (lanes < 2 ^ 17)
  | .trainingComplete i lanes spare => decide (lanes < 2 ^ 17) && decide (spare.val < 5 ∨ i.val < 10)
  | .trainingTimeout _ => true
  | .relockComplete _ lanes => decide (lanes < 2 ^ 17)
  | .relockTimeout _ => true
  | .alignComplete _ lanes => decide (lanes < 2 ^ 17)
  | .identSend _ => true
  | .identFlit _ f _ => f.wf
  | .expectedPeerWrite _ _ => true
  | .signalLost _ => true
  | .dataFlit _ f => f.wf
  | .nullFlit _ f => f.wf
  | .nak _ f => f.wf
  | .lanechg _ f => f.wf
  | .drainFlit _ f => f.wf
  | .drainBufferEmpty _ => true
  | .laneMarker _ _ m => m.block.length == 32
  | .lightWord _ w => w.wf
  | .lightWordTimeout _ _ => true
  | .laneFailure _ _ => true
  | .servicePress _ => true
  | .rdreq _ => true
  | .rdrsp _ => true
  | .wrreq _ => true
  | .wrack _ => true
  | .atreq _ => true
  | .atrsp _ => true
  | .remoteOperationSend _ => true
  | .remoteTimeout _ => true
  | .noRouteTimeout _ => true
  | .transitWaitExpiry _ => true
  | .mgmtRegisterRead _ => true
  | .mgmtRegisterWrite _ => true
  | .readResponse _ => true
  | .writeResponse _ => true
  | .eventNotice _ => true
  | .quench _ => true
  | .quenchOriginate _ => true
  | .quenchLapse => true
  | .swapArm => true
  | .swapDisarm => true
  | .routingSwap => true
  | .timeLoad _ => true
  | .ftEnable => true
  | .ftDisable => true
  | .rootWrite => true
  | .resync => true
  | .timeRequestSend _ => true
  | .timeRequest _ f => f.wf
  | .timeResponse _ f => f.wf
  | .parentLost => true
  | .holdoverTimeout => true
  | .servoTick _ => true
  | .senseFrame _ l => blocksWf l
  | .sampleDeadline _ => true
  | .evaluationComplete _ => true
  | .servoEnable _ _ => true
  | .servoTest _ _ => true
  | .srvTimeWrite _ _ => true
  | .modeWrite _ _ _ => true
  | .bankWrite _ _ _ => true
  | .coefficientWrite _ _ _ _ _ => true
  | .rcBufferWrite _ _ _ _ _ => true
  | .circArm _ => true
  | .circCancel _ => true
  | .circStatus _ => true
  | .circuitSwitchMoment _ => true
  | .quiesceEnd _ => true
  | .circuitPhaseBound _ => true
  | .tokenGrant _ => true
  | .prefWindowExpiry => true
  | .forcerel _ _ => true
  | .lockstepMiscompare _ => true
  | .sramUncorrectable _ => true
  | .watchdogExpiry _ => true
  | .watchdogKick _ => true
  | .pylonPowerClockFault _ _ => true
  | .vc7GateClose _ => true
  | .selfTest _ _ _ => true
  | .healthPublication _ => true
  | .heartbeatSend _ => true
  | .heartbeat _ => true
  | .heartbeatLoss _ => true
  | .checkpointWrite => true
  | .checkpointNvCopy => true
  | .checkpointLoad => true
  | .takeoverComplete => true
  | .pylHandover _ => true
  | .handoffCheckpoint _ => true
  | .pylonBootStage _ _ _ => true
  | .componentImageLoad _ _ => true
  | .occurrence _ _ src data => decide (src < 65536) && decide (data.length ≤ 40)
  | .recordWrite _ => true
  | .summaryPeriod => true
  | .freeze _ => true
  | .freezeEnd _ => true
  | .freezeTimeout _ => true
  | .vaultCommit _ => true
  | .noticeSend => true
  | .vaultRead _ => true
  | .counterClear kind inst => decide (inst < banks kind)
  | .counterOverflow kind inst _ => decide (inst < banks kind)
  | .ctrEnable => true
  | .snapshotEpoch => true
  | .manualSnapshot => true
  | .instructionTagged _ => true
  | .tagRecordWrite _ => true
  | .histogramClear _ => true
  | .driverExtend _ => true
  | .attReport _ => true
  | .attestationRequest _ => true
  | .attestationReportFragment _ => true
  | .resvWriteComplete _ => true
  | .signatureComplete => true
  | .keyRevoke _ => true
  | .ownerSet _ => true
  | .ownerRecord _ => true
  | .updStart _ rivals => decide rivals.Nodup
  | .updCommit _ => true
  | .updActivate _ => true
  | .updConfirm _ => true
  | .updRevert _ => true
  | .updAbort _ => true
  | .fabricUpdStart p rivals => decide (p :: rivals).Nodup
  | .fabricUpdData _ => true
  | .fabricUpdCommit _ => true
  | .fabricUpdActivate _ => true
  | .fabricUpdConfirm _ => true
  | .fabricUpdRevert _ => true
  | .fabricUpdAbort _ => true
  | .updateAnswer _ => true
  | .imageStaged => true
  | .commitComplete _ => true
  | .activationComplete => true
  | .activationReadyTimeout => true
  | .lockIdleTimeout => true
  | .recoveryRequest _ => true
  | .recoveryDownload _ => true
  | .zoneSample temps => temps.length == 112
  | .calibrationRequest _ => true
  | .calibrationStart _ => true
  | .portCalibrationComplete i lanes spare => decide (lanes < 2 ^ 17) && decide (spare.val < 5 ∨ i.val < 10)
  | .memoryCalibrationComplete _ => true
  | .startupCalibrationComplete fails => decide fails.Nodup
  | .powerSample pin avg vbus estore => decide (pin < 65536) && decide (avg < 65536) && decide (vbus < 65536) && decide (estore < 65536)
  | .thermalTrip _ _ => true
  | .envWrite _ => true
  | .enterM2 => true
  | .enterM3 => true
  | .enterM4 => true
  | .leaveM2M3 => true
  | .stateTransitionComplete => true
  | .powerOn => true
  | .moduleReset => true
  | .moduleResetRelease _ _ => true
  | .latheDieReset _ => true
  | .latheDieResetRelease _ => true
  | .pierDieReset _ => true
  | .pierDieResetRelease _ => true
  | .pierReady _ => true
  | .fabricPortReset _ => true
  | .fabricPortResetRelease _ => true
  | .pylonReset _ => true
  | .pylonResetRelease _ => true
  | .hostLinkReset _ => true
  | .hostLinkResetRelease => true
  | .supplyLoss => true
  | .pwrEnLow => true
  | .shutdownNvComplete => true
  | .supplyOutOfRange vbus => decide (vbus < 65536)
  | .holdupLow => true
  | .settingsSave _ _ => true
  | .settingsDefault _ => true
  | .mrd => true
  | .mwr => true
  | .msiModerationExpiry _ => true
  | .heldRelease => true
  | .auxOverload _ => true
  | .moduleInfo _ => true
  | .tapReset => true
  | .extest => true
  | .idcode => true
  | .samplePreload _ => true
  | .clamp => true
  | .highz => true
  | .extestPulse => true
  | .extestTrain => true
  | .bypass _ => true
  | .testAccessUnlock _ => true
  | .servoBlockLock b => blocksWf b.blocks
  | .servoBlockLockLoss b => blocksWf b.blocks
  | .checkerLock c => c.set.wf
  | .checkerLockLoss p _ => p.wf
  | .latheDieReady _ => true
  | .holdupCharged => true
  | .thermalThrottle _ _ => true
  | .inletOverTemperature _ => true
  | .pylonIslandPowerRestored _ => true
  | .instructionFetchReturn _ _ => true
  | .sampleLogitsRead _ _ => true

end Sys2Proof
end

