-- ==== Sys2Proof/Tests/Slice0.lean ====
section
/-! SUPPORT. Tests/Slice0.lean: the author's own tests. Ill-formed commands that the checks refuse; values that the specification gives or
that follow from its tables by hand; and for each statement a concrete state and operands that meet its hypotheses. -/

set_option Elab.async false

namespace Sys2Proof.Tests
open Sys2Proof Sys2Proof.Machine

/-! ### Small states -/

/-- The state that a command leads to. -/
def after (c : Instr) (s : State) : State :=
  match exec c s with
  | .next t => t
  | .fault _ => s
  | .refused _ => s

/-- A state with some register fields set. -/
def sets (l : List (Loc × Nat)) (s : State) : State := l.foldl (fun s x => s.set x.1 x.2) s

/-- Right after reset, with the token held by pylon A and a first full load done: module 5. -/
def on : State :=
  sets [(Reg.AON_TOKEN_OWNER, 1), (Reg.JIG_STATUS_LOADED, 1), (Reg.PYL_STATUS_STATE 0, 3), (Reg.PYL_STATUS_STATE 1, 3), (Reg.PWR_STATUS_HOLDUP, 1),
        (Reg.CAL_STATUS_STARTUP, 0), (Reg.LNK_STATUS_STATE 10, 6)]
    { State.reset with jig := { State.reset.jig with ident := some { modnum := 5, x := 0, y := 0, z := 0, span := 3, dx := 8, dy := 1, dz := 1 } } }

/-- The same with a command in mailbox 0. -/
def asked (cmd : Nat) (args : List Nat) : State :=
  sets ([(Reg.MBX_CTL_CMD 0, cmd), (Reg.MBX_CTL_GO 0, 1)] ++ args.zipIdx.map fun a => (Reg.MBX_CMDREG_V 0 a.2, a.1)) on

/-- A gang of two threads at instruction 0. -/
def gang0 : Gang where
  gang := 0
  set := 0
  active := 2
  nregs := 16
  progAddr := 0x400000
  ninstr := 8
  pc := 0
  regs := [(1, 5), (2, 0xffffffff), (129, 7), (130, 1)]
  preds := []
  groupStart := 0
  groupReads := []
  groupWrites := []
  groupIssued := [0, 0, 0, 0, 0]
  savedRegs := []
  savedPreds := []
  closed := false
  replaying := false
  held := []
  loads := []
  wait := .running
  latched := []
  met := 0
  lastIssue := 0

/-- An instruction word with these fields (R86, R94). -/
def word (cls op dst src1 src2 imm : Nat) : Nat := cls * 2 ^ 60 + op * 2 ^ 52 + dst * 2 ^ 37 + src1 * 2 ^ 30 + src2 * 2 ^ 23 + imm

/-- The gang on spindle 0, with the word at its next instruction. -/
def withGang (x : Gang) (w : Nat) : State :=
  { on with spn := [(0, { Spindle.empty with gangs := [x], icache := [(0x10000, leBytes 64 w)] })] }

/-- A frame that arrived on port 0. -/
def frame (kind vc : Nat) (dst : Nat) (addr len : Nat) (body : List Byte) : Nat × Nat × Frame :=
  (0, vc, { fkind := kind, flags := 0, blen := body.length, skey := 0, srcmod := 9, dstmod := dst, cls := 0, hops := 1, tag := 7, addr, len, code := 0,
            aop := 0, body })

/-- A state with that frame at the head of its VC. -/
def arrived (e : Nat × Nat × Frame) : State := { on with rtr := { on.rtr with arrived := [e] } }

/-! ### Ill-formed commands -/

theorem test_wf_requester : Instr.wf (.controlRegisterWrite (.vc7 8192) 0 0) = false := by decide
theorem test_wf_address : Instr.wf (.controlRegisterWrite .host (2 ^ 43) 0) = false := by decide
theorem test_wf_read_mask : Instr.wf (.dramLineRead 0 (2 ^ 512) 0) = false := by decide +kernel
theorem test_wf_check_mask : Instr.wf (.pierReread 0 0 (2 ^ 16)) = false := by decide +kernel
theorem test_wf_merge_reads : Instr.wf (.partialWriteMerge 0 [(0, 0), (0, 0), (0, 0), (0, 0)]) = false := by decide +kernel
theorem test_wf_line : Instr.wf (.dramWriteComplete 0xba0000000) = false := by decide
theorem test_wf_code_group : Instr.wf (.codeBufferTimeout 0x60000000) = false := by decide
theorem test_wf_pattern_lane : Instr.wf (.patternClear (.lane 10 5)) = false := by decide
theorem test_wf_lane_mask : Instr.wf (.signalQualified 0 (2 ^ 17)) = false := by decide
theorem test_wf_spare_lane : Instr.wf (.trainingComplete 10 0 5) = false := by decide
theorem test_wf_marker : Instr.wf (.laneMarker 0 0 ⟨[], 0, 0⟩) = false := by decide
theorem test_wf_servo_block : Instr.wf (.senseFrame 0 [2 ^ 66]) = false := by decide
theorem test_wf_block_lock : Instr.wf (.servoBlockLock ⟨0, [2 ^ 66]⟩) = false := by decide
theorem test_wf_event_source : Instr.wf (.occurrence 1 0 65536 []) = false := by decide
theorem test_wf_event_data : Instr.wf (.occurrence 1 0 0 (List.replicate 41 0)) = false := by decide
theorem test_wf_bank : Instr.wf (.counterClear 2 4) = false := by decide
theorem test_wf_rivals : Instr.wf (.fabricUpdStart 3 [3]) = false := by decide
theorem test_wf_zones : Instr.wf (.zoneSample []) = false := by decide
theorem test_wf_start_fails : Instr.wf (.startupCalibrationComplete [2, 2]) = false := by decide
theorem test_wf_power : Instr.wf (.powerSample 65536 0 0 0) = false := by decide
theorem test_wf_good : Instr.wf (.occurrence 1 0 0 [1]) = true := by decide

/-! ### No row of the table has bits -/

theorem test_no_word_spells_a_command : decodeTableWord 64 0x0 = none ∧ State.withFetchWord State.reset 64 0x0 = State.reset := ⟨rfl, rfl⟩

/-! ### Values of the specification -/

-- R39: a read of no register answers all ones, and is logged
theorem test_unmapped_read : (State.reset.ctlRead .host 0x7f3fffffff8).1 = 0xffffffffffffffff := by decide +kernel
theorem test_unmapped_read_logged : ((State.reset.ctlRead .host 0x7f3fffffff8).2.ev.fifo.map (·.code)) = [0x0101] := by decide +kernel
-- R10: reserved bits of a register stay 0
theorem test_reserved_bits : (after (.controlRegisterWrite .host Reg.PWR_RST 0) State.reset).reg Reg.PWR_RST = 0 := by decide +kernel
-- R44: an unknown command completes with status 0x0001
theorem test_mailbox_unknown : (after (.mailboxUnknownCommand 0) (asked 0x7777 [])).get (Reg.MBX_CTL_STATUS 0) = 1 := by decide +kernel
-- R564: version 3, part number 0x9616, manufacturer 0x1A7
theorem test_idcode : (after .tapReset State.reset).tap.ident = 3 * 2 ^ 28 + 0x9616 * 2 ^ 12 + 0x1a7 * 2 + 1 := by decide +kernel
-- R94: addition wraps, each thread by itself
theorem test_iadd : ((after (.iadd 0 0) (withGang gang0 (word 1 9 3 1 2 0))).gang 0 0).map (fun x => (x.reg 0 3, x.reg 1 3)) = some (4, 8) := by decide +kernel
-- R94: the upper half alone is set, the lower half stays
theorem test_movhi : ((after (.movhi 0 0) (withGang gang0 (word 0 5 1 0 0 0x1234))).gang 0 0).map (fun x => x.reg 0 1) = some 0x12340005 := by decide +kernel
-- R94: a 16-bit immediate is sign-extended
theorem test_movi : ((after (.movi 0 0) (withGang gang0 (word 0 4 3 0 0 0xffff))).gang 0 0).map (fun x => x.reg 0 3) = some 0xffffffff := by decide +kernel
-- R128: 1.0 + 2.0 = 3.0, and a quiet not-a-number is the canonical one
theorem test_fadd : fadd32 0x3f800000 0x40000000 = 0x40400000 ∧ fadd32 0x7f800000 0xff800000 = 0x7fc00000 := by decide +kernel
-- R128: a product rounds to even: (1 + 2^-23)² = 1 + 2^-22 + 2^-46
theorem test_fmul : fmul32 0x3f800001 0x3f800001 = 0x3f800002 := by decide +kernel
-- R128: the fused form rounds once: (1 + 2^-23)² − (1 + 2^-22) = 2^-46
theorem test_ffma : ffma32 0x3f800001 0x3f800001 0xbf800002 = 0x28800000 := by decide +kernel

/-! ### States that meet the hypotheses of the statements -/

theorem witness_StepTakesTheFront : ({ on with pending := [.ftEnable] } : State).pending = .ftEnable :: [] ∧ on.pending = [] := ⟨rfl, rfl⟩
theorem witness_PinsFunctionKept : PinsFunction on ∧ on.running = true := ⟨fun _ => rfl, by decide⟩
theorem witness_OffOrInResetNothingHappens :
    State.running { on with pwr := { on.pwr with resetN := false } } = false ∧ supplyOrPin .ftEnable = false := by decide
theorem witness_RegisterWrites_unmapped : on.running = true ∧ Reg.find 0x7f3fffffff8 = none := by decide +kernel
theorem witness_RegisterWrites_mapped :
    on.running = true ∧ on.ctl.staged = [] ∧ on.get Reg.JIG_STATUS_PHASE ≠ 4 ∧ on.reg Reg.PWR_RST = 0 ∧ on.get Reg.PWR_STATUS_STATE = 1 := by decide +kernel
theorem witness_SealedWriteKeepsTheField :
    (sets [(Reg.JIG_STATUS_SEALED, 1)] on).flag Reg.JIG_STATUS_SEALED = true ∧ Reg.SRV_MIR_CFG 0 3 ∈ [Reg.SRV_MIR_CFG 0 3, Reg.SRV_MIR_LIM0 0 3, Reg.SRV_MIR_LIM1 0 3] := by
  decide +kernel
theorem witness_DoorbellsAndMailboxes :
    on.running = true ∧ on.jigPhase ≠ 4 ∧ on.ctl.staged = [] ∧ on.mwrWaits = false ∧ on.heldOf .host = [] ∧ (asked 0x1301 []).mbxHas 0 0x1301 = true := by decide +kernel
theorem witness_JigLoads_start : on.flag Reg.JIG_CTL_START = false := by decide +kernel
theorem witness_JigLoads_abort :
    (sets [(Reg.JIG_CTL_START, 1), (Reg.JIG_STATUS_PHASE, 1)] on).jigBusy = true ∧ (sets [(Reg.JIG_CTL_START, 1), (Reg.JIG_STATUS_PHASE, 1)] on).jigPhase ≠ 4 := by
  decide +kernel
theorem witness_SpindleControl : on.reaches (Reg.SPN_CTL 287) = true := by decide +kernel
theorem witness_PowerAndEnvelope_limit : (envLimit (on.get Reg.PWR_STATUS_ENVNOW)).1 < 60000 ∧ on.pwr.thermal = false := by decide +kernel
theorem witness_ModuleStateMoves : on.running = true ∧ on.pwr.shutdown = none ∧ on.goCode 0 ≠ 0 := by decide +kernel
theorem witness_ModuleStateMoves_accepted :
    (sets ((List.range 4).map fun p => (Reg.PIER_STATUS_INITBUSY p, 0)) on).goCode 2 = 0 := by decide +kernel
theorem witness_PartsOfTheModule : on.pwr.rstWaits = [] ∧ partReset (.pierDieReset 3) = some 5 ∧ partRelease (.fabricPortResetRelease 9) = some 15
    ∧ on.flag Reg.PWR_STATUS_BUSY = false := by decide +kernel
theorem witness_PowerAndModuleReset : State.pwr { on with pwr := PowerState.reset } = PowerState.reset ∧ on.pwr.pwrGood = true := by decide +kernel
theorem witness_ShutdownSequence : on.running = true ∧ on.pwr.shutdown = none ∧ (on.throt : Int) + 10 ≤ signed 8 (127 : Byte).toNat := by decide +kernel
theorem witness_TestAccessPort : on.pwr.pwrGood = true := by decide
theorem witness_HostLinkFrames :
    hostLenOk { akind := 1, cstat := 0, len := 8, atag := 3, addr := Reg.PWR_STATUS, body := [] } = true ∧ placeOf Reg.PWR_STATUS = .control ∧ on.heldOf .host = [] := by
  decide +kernel

/-- The gang on spindle 0 is ready to issue the operation that the word spells. -/
def poised (s : State) (o : SpnOp) (x : Gang) (w : Nat) : Bool :=
  s.running && s.gang 0 0 == some x && s.gangReady 0 x && decide (0 ≤ x.pc ∧ x.pc < (x.ninstr : Int)) && s.fetchWord 0 x == some w
    && legalOp (iwordOf w) (s.latencySet x.set) == some o && regsOk x o (iwordOf w) && x.sourcesReady o (iwordOf w) && x.issuedCount == 0
    && s.picks 0 x (slotOfClass (iwordOf w).cls)

theorem poised_of (s : State) (o : SpnOp) (x : Gang) (w : Nat) (h : poised s o x w = true) : Poised s 0 0 o x w (iwordOf w) := by
  simp only [poised, Bool.and_eq_true, beq_iff_eq, decide_eq_true_eq] at h
  obtain ⟨⟨⟨⟨⟨⟨⟨⟨⟨h1, h2⟩, h3⟩, h4⟩, h5⟩, h6⟩, h7⟩, h8⟩, h9⟩, h10⟩ := h
  exact ⟨h1, h2, h3, h4, h5, rfl, h6, h7, h8, .inl h9, h10⟩

theorem witness_SpindleResults : Poised (withGang gang0 (word 1 9 3 1 2 0)) 0 0 .iadd gang0 (word 1 9 3 1 2 0) (iwordOf (word 1 9 3 1 2 0)) :=
  poised_of _ _ _ _ (by decide +kernel)
theorem witness_SpindleResults_goesOn : GoesOn (withGang gang0 0) gang0 := by
  intro n h; exact absurd (show (none : Option Inst) = some n from h) (by simp)
theorem witness_SpindleControlFlow : Poised (withGang gang0 (word 0 0 0 0 0 0)) 0 0 .nop gang0 (word 0 0 0 0 0 0) (iwordOf (word 0 0 0 0 0 0)) :=
  poised_of _ _ _ _ (by decide +kernel)

/-- The gang with a pair of addresses in registers 4 and 5 of each thread. -/
def gangMem (a b : Nat) : Gang := { gang0 with regs := [(2, 9), (4, a), (130, 9), (132, b)] }

theorem witness_SpindleStores :
    let x := gangMem 0x100100 0x100200
    poised (withGang x (word 4 1 0 4 2 0)) .st x (word 4 1 0 4 2 0) = true ∧ localFault 4 0x100100 = none ∧ localFault 4 0x100102 ≠ none := by decide +kernel
theorem witness_SpindleLoads :
    let x := gangMem 0x100100 0x100200
    poised (withGang x (word 4 0 6 4 0 0)) .ld x (word 4 0 6 4 0 0) = true ∧ x.enabled (iwordOf (word 4 0 6 4 0 0)) = [0, 1] := by decide +kernel
theorem witness_SpindleCopies :
    let x := { gang0 with regs := [(4, 0x100000), (6, 0x40), (7, 0x80), (132, 0x100000)] }
    let w := word 4 2 0 4 6 0 + 7 * 2 ^ 16
    poised (withGang x w) .ldblk x w = true ∧ x.enabled (iwordOf w) ≠ [] ∧ x.reg (x.lead (iwordOf w)) (iwordOf w).src3 = 0x80 := by decide +kernel
theorem witness_SpindleAtomics :
    let x := gangMem 0x100100 0x100200
    poised (withGang x (word 6 0 6 4 2 0)) .aadd x (word 6 0 6 4 2 0) = true ∧ localFault 4 0x100100 = none := by decide +kernel
/-- The state with format slot 0 in the spindle's set: weights of format 2, a scale for 32 values. -/
def withFmt (s : State) : State := { s with jig := { s.jig with fmts := [(s.setOf 0, [{ slot := 0, wfmt := 2, afmt := 2, kvfmt := 2, wscale := 1 }])] } }
theorem witness_SpindleConversions :
    let x := { gang0 with regs := [(2, 0x40), (130, 0x40)] }
    let s := withFmt (withGang x (word 2 1 3 1 2 0))
    poised s .pack x (word 2 1 3 1 2 0) = true ∧ (s.fmtSlot 0 0).isSome = true ∧ s.bowlWait 0 0 (bowlAddr 0 0x40) 64 = false := by decide +kernel
theorem witness_TensorEngine :
    let x := { gang0 with regs := [] }
    let s := withFmt (withGang x (word 3 2 0 0 0 0))
    poised s .tzero x (word 3 2 0 0 0 0) = true ∧ (s.spindle 0).tensorQ.length < 4 := by decide +kernel
theorem witness_Collectives : poised (withGang gang0 (word 7 0 0 0 0 0)) .bar gang0 (word 7 0 0 0 0 0) = true := by decide +kernel
theorem witness_Gouge :
    let s := withFmt (withGang gang0 (word 8 0 3 6 0 0))
    poised s .gsum gang0 (word 8 0 3 6 0 0) = true ∧ (alGet [] s.gge 0).length < 3 ∧ s.tensorFull 0 = false ∧ s.bowlBusy 0 0 true (0, 64) = false := by decide +kernel
theorem witness_ServiceInstructions :
    poised (withGang gang0 (word 9 0 3 4 1 0)) .sample gang0 (word 9 0 3 4 1 0) = true ∧ (withGang gang0 0).svcRequest 0 (iwordOf (word 9 0 3 4 1 0)) = none := by
  decide +kernel

/-- A load of 4 bytes by thread 0 of gang 0 of spindle 0, at a stage. -/
def withTxn (st : TxnStage) (op : TxnOp) : State :=
  let s := withGang gang0 0
  { s with lm := { s.lm with txns := [{ id := 1, owner := .load 0 0 0 0, addr := 0x100100, nal := false, ord := false, op, stage := st, inject := 0, since := 0,
                                         window := 200, early := true }] } }
theorem witness_HomeSlice :
    let s := withTxn .atSlice (.read 4)
    (s.txn 1).isSome = true ∧ (s.txn 1).all (fun y => !s.txnHeld y && s.lineUp (lineOf y.addr) && s.txnFits y) = true := by decide +kernel
theorem witness_DramAccesses :
    let s := withTxn .dram (.read 4)
    (s.txn 1).all (fun y => s.pierUp (pierOf (lineOf y.addr)) && s.bankNext y && s.txnFits y) = true ∧ (s.txn 1).isSome = true := by decide +kernel
theorem witness_PierUpkeep :
    let s := { on with lm := { on.lm with wbuf := [0x4004] } }
    s.writePending 0x4004 = true ∧ s.pierUp (pierOf 0x4004) = true ∧ s.linePaused 0x4004 = false ∧ s.bankUrgent 0x4004 = false := by decide +kernel
theorem witness_QueuePairs : on.abtHeld = false ∧ on.flag (Reg.HDS_QP_CTL_EN 7) = false ∧ on.qpRunning 7 = 0 := by decide +kernel
theorem witness_ProgramsAndPool : on.running = true ∧ on.hds.checking.contains 3 = false := by decide +kernel
theorem witness_AdmissionOfEntries :
    let s := sets [(Reg.HDS_CTL_ENABLE, 1), (Reg.HDS_QP_CTL_EN 3, 1), (Reg.HDS_QP_STATUS_SQTAIL 3, 1)]
      { on with jig := { on.jig with qmap := [{ first := 3, qcnt := 1, prog := 0, prio := 1, sets := 1 }] } }
    s.nextQp = some 3 ∧ s.pwr.shutdown = none := by decide +kernel
theorem witness_LinkTraining : on.portHeld 3 = false ∧ on.linkState 3 = 0 := by decide +kernel
theorem witness_LinksInService : patThere (.lane 3 15) = true ∧ on.patRuns (.servo 0) = false
    ∧ (sets [(Reg.SRV_CTL_TEST 0, 1)] on).patRuns (.servo 0) = true := by decide +kernel
theorem witness_FramesInTransit :
    let s := arrived (frame 1 0 77 0x100000 8 [])
    (Instr.rdreq 0, 1) ∈ dataKinds 0 ∧ (s.headFrame 0 fun f => f.fkind == 1) = some (frame 1 0 77 0x100000 8 []) ∧ s.ownMod = 5 := by
  refine ⟨List.mem_cons_self, by decide +kernel, by decide +kernel⟩
theorem witness_RequestsAtTheirTarget :
    let s := arrived (frame 1 0 5 0x100000 8 [])
    (s.headFrame 0 fun f => f.fkind == 1) = some (frame 1 0 5 0x100000 8 []) ∧ s.flag Reg.JIG_STATUS_LOADED = true ∧ (s.taken 0 (frame 1 0 5 0x100000 8 []).2.2).skey = s.get Reg.RTR_SKEY_SKEY := by
  decide +kernel
/-- A remote read of module 77 that waits to be sent. -/
def remoteRead : RemoteOp :=
  { index := 3, gen := 0, owner := .load 0 0 0 0, frame := (frame 1 0 77 0x100000 4 []).2.2, order := 0, sent := false, since := 0 }
def withRemote : State :=
  sets [(Reg.RTR_ENT_LO_VALID 77, 1), (Reg.RTR_ENT_LO_NH0 77, 2), (Reg.LNK_STATUS_STATE 2, 6)] { on with rtr := { on.rtr with ops := [remoteRead] } }
theorem witness_RemoteOperations :
    withRemote.remote 3 = some remoteRead ∧ withRemote.flag (Reg.RTR_ENT_LO_VALID 77) = true ∧ withRemote.nextHop 77 false = some (2, 0)
      ∧ withRemote.maySend remoteRead = true := by decide +kernel
theorem test_remote_read_is_sent : ((after (.remoteOperationSend 3) withRemote).rtr.queued.map fun q => (q.port, q.frame.dstmod)) = [(2, 77)] := by decide +kernel
theorem witness_ManagementFrames :
    let f := (frame 7 7 5 Reg.RTR_SKEY 0 [1, 0, 0, 0, 0, 0, 0, 0]).2.2
    MgmtAt { on with pyl := { on.pyl with heldQ := [f] } } 10 1 f { on with pyl := { on.pyl with heldQ := [] } } := by
  unfold MgmtAt MgmtKind
  rw [if_pos rfl]
  exact ⟨[], rfl, by decide +kernel, by decide +kernel, rfl⟩
theorem witness_FabricTime : (sets [(Reg.LNK_STATUS_STATE 3, 6)] on).timeCarries 3 = true ∧ (on.timePort 3).reqAt = none := by decide +kernel
theorem witness_ServoTicks :
    let s := sets [(Reg.SRV_CTL_EN 0, 1), (Reg.SRV_TIME_LEAD 0, 25000 - 3538)] on
    s.tickNow 0 = some 1 ∧ s.srvSends 0 = true := by decide +kernel
theorem witness_MirrorCodesStayInRange :
    let s := { on with srv := [(0, { on.servo 0 with evaluating := some { sample := 1, entries := none, snap := on.regs, mirrors := [], since := 0 } })] }
    (s.servo 0).evaluating.isSome = true := by decide +kernel
theorem witness_ServoWrites : on.flag (Reg.SRV_CTL_TEST 0) = false ∧ (on.servo 0).locked = false ∧ (on.servo 0).headers = [] ∧ syncValid 1 = true ∧ syncValid 3 = false := by
  decide +kernel
theorem witness_TrunkCircuits : (asked 0x0d01 [6]).mbxHas 0 0x0d01 = true ∧ (asked 0x0d01 [6]).mbxArg 0 0 % 16 = 6 := by decide +kernel
theorem witness_TokenLatch : on.pyl.pylons.length = 2 ∧ on.pyl.gates.length = 2 ∧ on.holder = some 0 := by decide +kernel
theorem witness_PylonHealth : on.pyl.pylons.length = 2 ∧ on.upd.comps.length = 9 ∧ State.pylRuns State.reset 1 = false := by decide +kernel
theorem witness_CheckpointsAndTakeover : on.pyl.slots.length = 2 ∧ on.holder = some 0 ∧ State.holder State.reset = none ∧ on.pyl.takeover = none := by decide +kernel
theorem witness_EventRecorder : evToken ≤ on.evLevel 0x0701 ∧ evSev 0x0101 < 5 := by decide +kernel
theorem witness_CountersAndSnapshots : bankExists 0 287 = true ∧ bankExists 2 4 = false ∧ on.reaches (bankBase 0 287) = true := by decide +kernel
theorem witness_Attestation :
    let s := asked 0x1001 [0, 1, 2, 3, 4, 0x100000]
    s.mbxHas 0 0x1001 = true ∧ s.sec.queue.length = 0 ∧ s.mbxArg 0 5 % 2 ^ 43 = 0x100000 ∧ s.sigNext < s.sigResv + 1 := by decide +kernel
theorem witness_KeysAndOwner :
    let s := asked 0x1109 [0, 0x100000]
    s.mbxHas 0 0x1109 = true ∧ s.mbxArg 0 1 % 2 ^ 43 + 5099 ≤ dramEnd ∧ s.memAvail 0x100000 5099 = true ∧ s.pwr.shutdown = none := by decide +kernel
theorem witness_UpdateStaging :
    let s := asked 0x1101 [0, 0x100000]
    s.mbxHas 0 0x1101 = true ∧ s.upd.starter ≠ some (.mailbox 0) ∧ s.memAvail 0x100000 192 = true := by decide +kernel
theorem witness_UpdateActivation : on.upd.comps.length = 9 ∧ on.pyl.pylons.length = 2 ∧ on.upd.act = none
    ∧ on.updPending 3 = false ∧ on.flag Reg.PWR_STATUS_HOLDUP = true := by decide +kernel
theorem witness_Calibration : calElement 111 = true ∧ calElement 11 = false ∧ on.get Reg.CAL_STATUS_MEMRUN = 0x7f := by decide +kernel
theorem witness_SettingsStore : (asked 0x1201 []).mbxHas 0 0x1201 = true ∧ (asked 0x1201 []).holder = some 0 ∧ on.pwr.regions.length = 2 := by decide +kernel
theorem witness_IdcodeOfTheModule : on.pwr.pwrGood = true ∧ (asked 0x1301 []).mbxHas 0 0x1301 = true := by decide +kernel

end Sys2Proof.Tests
end

section
open Sys2Proof Sys2Proof.Machine

namespace Sys2Proof.Machine

theorem exec_controlRegisterWrite_eq (r : Requester) (a : Nat) (v : Word64) (s : State) :
    exec (.controlRegisterWrite r a v) s = execControlRegisterWrite r a v s := rfl

/-- A write behind a held one of its requester joins the held ones (R38, R74), whatever phase the jig is in. -/
theorem exec_controlRegisterWrite_waits {s : State} {r : Requester} {a : Nat} {v : Word64}
    (hrun : s.running = true) (hbell : isDoorbell a = false) (hfind : (Reg.find a).isSome = true) (halign : a % 8 = 0)
    (hreach : s.reaches a = true) (hwait : s.waitsHeld r a = true) :
    exec (.controlRegisterWrite r a v) s = .next { s with jig := { s.jig with held := s.jig.held ++ [(r, a, v)] } } := by
  obtain ⟨⟨row, is⟩, hfind⟩ := Option.isSome_iff_exists.mp hfind
  rw [exec_controlRegisterWrite_eq, execControlRegisterWrite, State.run_running _ _ hrun]
  simp only [hbell, Bool.false_eq_true, false_and, and_false, if_false, State.ctlWrite, hfind, halign, ne_eq, not_true_eq_false,
    hreach, Bool.not_true, State.orHold, hwait, Bool.or_true, if_true]
  rfl

/-- The state right after reset, but with a host write of the register at `a` held although no load is in its apply phase. -/
def heldOutsideApply (a : Nat) : State := { State.reset with jig := { State.reset.jig with held := [(.host, a, 0)] } }

end Sys2Proof.Machine

/-- Refutes O7: nothing in the statement excludes a write of the requester that is still held outside the apply phase; behind it the
write of RTR_CTL is held too, so that the state changes outside the registers. -/
theorem not_registerWrites : ¬ Obligations.RegisterWrites := by
  unfold Obligations.RegisterWrites
  rintro ⟨-, h⟩
  obtain ⟨⟨t, ht, ⟨hframe, -⟩, -⟩, -⟩ := h .host 0 (heldOutsideApply Reg.RTR_CTL) (by decide +kernel) (by decide +kernel) (by decide +kernel)
    (by decide +kernel) (by decide +kernel)
  rw [exec_controlRegisterWrite_waits (s := heldOutsideApply Reg.RTR_CTL)
    (by decide +kernel) (by decide +kernel) (by decide +kernel) (by decide) (by decide +kernel) (by decide +kernel)] at ht
  obtain rfl := Host.Outcome.next.inj ht
  have hlen := congrArg (fun u : State => u.jig.held.length) hframe
  exact absurd hlen (by decide)

/-- Refutes O8: as for O7, a write of SRV_MIR_CFG behind one that is still held outside the apply phase is held too, and not counted. -/
theorem not_sealedWriteKeepsTheField : ¬ Obligations.SealedWriteKeepsTheField := by
  unfold Obligations.SealedWriteKeepsTheField
  intro h
  let s := (heldOutsideApply (Reg.SRV_MIR_CFG 0 0)).set Reg.JIG_STATUS_SEALED 1
  obtain ⟨t, ht, -, -, -, hcount, -⟩ := h .host 0 s 0 0 (Reg.SRV_MIR_CFG 0 0)
    (by decide +kernel) (by decide +kernel) (by decide +kernel) (by decide +kernel) (by decide +kernel) (by decide +kernel) (by simp)
  rw [exec_controlRegisterWrite_waits (s := s)
    (by decide +kernel) (by decide +kernel) (by decide +kernel) (by decide) (by decide +kernel) (by decide +kernel)] at ht
  obtain rfl := Host.Outcome.next.inj ht
  exact absurd hcount (by decide +kernel)
end

section
open Sys2Proof Sys2Proof.Machine

namespace Sys2Proof.Machine

/-- Pylon A holds the token, and the planned handover in progress names the mailbox number 0x10000, which no mailbox has: the address
that MBX_CTL's pattern gives for it is AON_TOKEN's. -/
def strayHandover : State :=
  { State.reset.set Reg.AON_TOKEN_OWNER 1 with pyl := { State.reset.pyl with handover := some (some 0x10000, false) } }

end Sys2Proof.Machine

/-- Refutes O50: nothing in the statement bounds the mailbox number that the handover in progress names. The command that a failed handoff
fails is then written over AON_TOKEN, and the holder does not stay what it was. -/
theorem not_checkpointsAndTakeover : ¬ Obligations.CheckpointsAndTakeover := by
  unfold Obligations.CheckpointsAndTakeover
  intro h
  obtain ⟨-, hheld⟩ := h strayHandover (by decide +kernel) (by decide +kernel) (by decide +kernel) (by decide +kernel)
  obtain ⟨-, -, -, -, -, -, -, -, -, -, hstop, -⟩ := hheld 0 (by decide +kernel)
  obtain ⟨-, hfail⟩ := hstop (some 0x10000) (by decide +kernel) (by decide)
  obtain ⟨t, ht, -, hholder, -⟩ := hfail false (.inl rfl)
  obtain rfl := Host.Outcome.next.inj ht
  exact absurd hholder (by decide +kernel)
end

section
open Sys2Proof Sys2Proof.Machine

namespace Sys2Proof.Machine

/-- A load in flight that no group of the gang below has issued. -/
def strayLoad : PendingLoad where
  num := 7
  dst := 6
  pair := false
  atomic := none
  replayed := false
  pc := 0
  dead := []
  results := []
  args := []

/-- A gang of one thread that stands at the beginning of a group, but has a load in flight. -/
def loadedGang : Gang where
  gang := 0
  set := 0
  active := 1
  nregs := 16
  progAddr := 0x400000
  ninstr := 8
  pc := 0
  regs := []
  preds := []
  groupStart := 0
  groupReads := []
  groupWrites := []
  groupIssued := [0, 0, 0, 0, 0]
  savedRegs := []
  savedPreds := []
  closed := false
  replaying := false
  held := []
  loads := [strayLoad]
  wait := .running
  latched := []
  met := 0
  lastIssue := 0

/-- AADD r0 ← (r2, r3), r4 (R92, R94). -/
def aaddWord : Nat := 6 * 2 ^ 60 + 2 * 2 ^ 30 + 4 * 2 ^ 23

/-- That gang on spindle 0, with AADD at its next instruction. -/
def loadedState : State :=
  { State.reset with spn := [(0, { Spindle.empty with gangs := [loadedGang], icache := [(0x10000, leBytes 64 aaddWord)] })] }

theorem loadedState_poised : Poised loadedState (0 : Fin 288) (0 : Fin 256) .aadd loadedGang aaddWord (iwordOf aaddWord) where
  runs := by decide +kernel
  resident := by decide +kernel
  ready := by decide +kernel
  inProgram := by decide
  fetched := by decide +kernel
  fields := rfl
  legal := by decide +kernel
  regs := by decide +kernel
  loaded := by decide +kernel
  inGroup := .inl rfl
  picked := by decide +kernel

end Sys2Proof.Machine

/-- Refutes O24: the registers that the atomic writes are entered in the `dead` list of every load already in flight (R99), and
nothing in the statement excludes a load in flight at the beginning of a group; so the loads are not the old ones with one more. -/
theorem not_spindleAtomics : ¬ Obligations.SpindleAtomics := by
  unfold Obligations.SpindleAtomics
  rintro ⟨h, -⟩
  obtain ⟨-, hlocal⟩ := h (.aadd, .aadd, .add32) (by simp) 0 0 loadedState loadedGang aaddWord (iwordOf aaddWord) loadedState_poised
  obtain ⟨hdram, -⟩ := hlocal (by decide)
  obtain ⟨t, z, l, ht, -, -, -, hgang, hloads, -⟩ := hdram (by decide +kernel) (by decide +kernel) (by decide +kernel)
  obtain rfl := Host.Outcome.next.inj ht
  have hz : some (z.loads.map (·.dead.length)) = some [1, 0] := by
    rw [← Option.map_some (f := fun z : Gang => z.loads.map (·.dead.length)), ← hgang]
    decide +kernel
  rw [hloads] at hz
  simp [loadedGang, strayLoad] at hz
end

section
open Sys2Proof Sys2Proof.Machine

namespace Sys2Proof.Machine

/-! ### Finding a register -/

/-- Every register of a row lies below an address, by the row's widest stride. -/
def RegRow.endsBy (r : RegRow) (lo : Nat) : Bool :=
  match r.dims with
  | [] => decide (r.base < lo)
  | (n, st) :: _ => decide (0 < st) && decide (r.base + n * st ≤ lo)

theorem indices_of_endsBy {r : RegRow} {lo a : Nat} (h : r.endsBy lo = true) (ha : lo ≤ a) : Reg.indices r.dims (a - r.base) = none := by
  unfold RegRow.endsBy at h
  split at h
  next hd =>
    have := of_decide_eq_true h
    simp [hd, Reg.indices, show a - r.base ≠ 0 by omega]
  next n st ds hd =>
    simp only [Bool.and_eq_true, decide_eq_true_eq] at h
    have : n ≤ (a - r.base) / st := (Nat.le_div_iff_mul_le h.1).2 (by omega)
    simp [hd, Reg.indices, Nat.not_lt.2 this]

theorem findIn_cons_miss {r : RegRow} {a : Nat} (rs : List RegRow) (h : Reg.indices r.dims (a - r.base) = none) :
    Reg.findIn a (r :: rs) = Reg.findIn a rs := by
  simp [Reg.findIn, h]

theorem findIn_cons_hit {r : RegRow} {a : Nat} {is : List Nat} (rs : List RegRow) (hb : r.base ≤ a)
    (h : Reg.indices r.dims (a - r.base) = some is) : Reg.findIn a (r :: rs) = some (r, is) := by
  simp [Reg.findIn, hb, h]

/-- Rows that end below an address are passed over. -/
theorem findIn_append_of_endsBy {lo a : Nat} (ha : lo ≤ a) (rs : List RegRow) :
    ∀ pre : List RegRow, (∀ r ∈ pre, r.endsBy lo = true) → Reg.findIn a (pre ++ rs) = Reg.findIn a rs
  | [], _ => rfl
  | r :: pre, h => by
    rw [List.cons_append, findIn_cons_miss _ (indices_of_endsBy (h r (by simp)) ha),
      findIn_append_of_endsBy ha rs pre fun x hx => h x (by simp [hx])]

theorem rowsAt_hds {a : Nat} (h : 0x7f100000000 ≤ a) (h' : a < 0x7f200000000) : Reg.rowsAt a = Reg.rowsHDS := by
  unfold Reg.rowsAt
  simp (disch := omega) only [if_neg, if_pos]

/-- The row of the submission doorbells, and that of the completion doorbells (R194). -/
def sqdbRow : RegRow := ⟨"HDS_SQDB", 0x7f110000000, [(4096, 0x1000)], [⟨0, 16, .wo, .val 0⟩]⟩
def cqdbRow : RegRow := ⟨"HDS_CQDB", 0x7f110000008, [(4096, 0x1000)], [⟨0, 16, .wo, .val 0⟩]⟩

theorem rowsHDS_split : Reg.rowsHDS = Reg.rowsHDS.take 20 ++ sqdbRow :: cqdbRow :: Reg.rowsHDS.drop 22 := by rfl

theorem findIn_hds_above {a : Nat} (h : 0x7f110000000 ≤ a) (h' : a < 0x7f200000000) :
    Reg.find a = Reg.findIn a (sqdbRow :: cqdbRow :: Reg.rowsHDS.drop 22) := by
  rw [Reg.find, rowsAt_hds (by omega) h']
  conv_lhs => rw [rowsHDS_split]
  exact findIn_append_of_endsBy h _ _ (by decide)

theorem find_sqdb (q : Fin 4096) : Reg.find (Reg.HDS_SQDB q) = some (sqdbRow, [q.val]) := by
  have hq := q.isLt
  unfold Reg.HDS_SQDB
  rw [findIn_hds_above (by omega) (by omega)]
  refine findIn_cons_hit _ (by simp [sqdbRow]) ?_
  simp [sqdbRow, Reg.indices]

theorem find_cqdb (q : Fin 4096) : Reg.find (Reg.HDS_CQDB q) = some (cqdbRow, [q.val]) := by
  have hq := q.isLt
  unfold Reg.HDS_CQDB
  rw [findIn_hds_above (by omega) (by omega), findIn_cons_miss, findIn_cons_hit]
  · simp [cqdbRow]
  · simp [cqdbRow, Reg.indices]
  · have : (0x7f110000008 + q.val * 0x1000 - 0x7f110000000) / 0x1000 = q.val := by omega
    have h8 : (0x7f110000008 + q.val * 0x1000 - 0x7f110000000) % 0x1000 = 8 := by omega
    simp [sqdbRow, Reg.indices, this, h8, hq]

theorem isDoorbell_sqdb (q : Fin 4096) : isDoorbell (Reg.HDS_SQDB q) = true := by
  rw [isDoorbell, find_sqdb]; rfl
theorem isDoorbell_cqdb (q : Fin 4096) : isDoorbell (Reg.HDS_CQDB q) = true := by
  rw [isDoorbell, find_cqdb]; rfl

/-! ### Writes that go through -/

theorem State.jigHolds_of_phase {s : State} (h : s.jigPhase ≠ 4) (a : Nat) : s.jigHolds a = false := by
  simp [State.jigHolds, h]

theorem State.waitsHeld_of_none {s : State} {r : Requester} (h : s.heldOf r = []) (a : Nat) : s.waitsHeld r a = false := by
  simp [State.waitsHeld, h]

/-- A write that nothing holds back reaches its register (R34, R74, R508). -/
theorem State.ctlWrite_through {s : State} {r : Requester} {a : Nat} {row : RegRow} {is : List Nat} (v : Word64)
    (hfind : Reg.find a = some (row, is)) (halign : a % 8 = 0) (hreach : s.reaches a = true) (hjig : s.jigPhase ≠ 4)
    (hheld : s.heldOf r = []) : s.ctlWrite r a v = s.pairWrite r row is a v := by
  simp [State.ctlWrite, State.orHold, hfind, halign, hreach, State.jigHolds_of_phase hjig, State.waitsHeld_of_none hheld]

/-- A register that is no lower half is written at once while no lower half waits for its upper one (R39). -/
theorem State.pairWrite_single {s : State} (r : Requester) {row : RegRow} {is : List Nat} {a : Nat} (v : Word64)
    (hupper : s.upperOf row is a = none) (hstaged : s.ctl.staged = []) : s.pairWrite r row is a v = s.regWrite row is a v := by
  simp [State.pairWrite, hupper, State.stagedHalf, hstaged]

/-- The headstock's block is neither gated nor held in reset (R508, R510). -/
theorem State.reaches_hds (s : State) {a : Nat} (h : 0x7f100000000 ≤ a) (h' : a < 0x7f300000000) : s.reaches a = true := by
  have hgated : s.gated a = false := by
    unfold State.gated
    simp only [Bool.or_eq_false_iff, Bool.and_eq_false_iff, decide_eq_false_iff_not]
    exact ⟨.inr (by omega), .inr (by omega)⟩
  have hheld : s.blockHeld a = false := by
    unfold State.blockHeld
    simp (disch := omega) only [if_neg, if_pos, Option.any_none]
  simp [State.reaches, hgated, hheld]

/-! ### Doorbells -/

theorem bits_ofNat16 (v : Fin 65536) : bits (BitVec.ofNat 64 v).toNat 0 16 = v := by
  have := v.isLt
  simp [bits]

/-- A doorbell of the host behind a write frame of the host joins the frames (R40). -/
theorem exec_hostWrite_queued {s : State} {a : Nat} (v : Word64) (hrun : s.running = true) (hbell : isDoorbell a = true)
    (hmwr : s.mwrWaits = true) : execControlRegisterWrite .host a v s = .next (s.hostDoorbell a v) := by
  rw [execControlRegisterWrite, State.run_running _ _ hrun, if_pos ⟨rfl, hbell, hmwr⟩]
  rfl

/-- A write of the headstock's block that nothing holds back is performed. -/
theorem exec_hostWrite_hds {s : State} {a : Nat} {row : RegRow} {is : List Nat} (v : Word64) (hrun : s.running = true)
    (hmwr : s.mwrWaits = false) (hjig : s.jigPhase ≠ 4) (hheld : s.heldOf .host = []) (hstaged : s.ctl.staged = [])
    (hfind : Reg.find a = some (row, is)) (halign : a % 8 = 0) (hlo : 0x7f100000000 ≤ a) (hhi : a < 0x7f300000000)
    (hupper : s.upperOf row is a = none) :
    execControlRegisterWrite .host a v s = .next (s.keeping (s.regWrite row is a v)) := by
  rw [execControlRegisterWrite, State.run_running _ _ hrun, if_neg (by simp [hmwr]),
    State.ctlWrite_through v hfind halign (s.reaches_hds hlo hhi) hjig hheld, State.pairWrite_single _ v hupper hstaged]

theorem State.regWrite_sqdb (s : State) (q : Fin 4096) (v : Fin 65536) :
    s.regWrite sqdbRow [q.val] (Reg.HDS_SQDB q) (BitVec.ofNat 64 v) = s.sqDoorbell q v := by
  have hq := q.isLt
  have hbank : s.bankWriteReg sqdbRow [q.val] (BitVec.ofNat 64 v) = none := rfl
  unfold State.regWrite Reg.HDS_SQDB
  rw [hbank]
  simp (disch := omega) only [if_neg, if_pos]
  rw [State.hdsWrite, bits_ofNat16]
  simp [sqdbRow, Reg.HDS_CTXBASE, Reg.HDS_SEQTAB, Reg.HDS_KVFREE, Reg.HDS_KVRET, Reg.HDS_PROG, Reg.HDS_QP_SQ,
    Reg.HDS_QP_CQ, Reg.HDS_QP_CTL, Reg.HDS_SQDB]

theorem State.regWrite_cqdb (s : State) (q : Fin 4096) (v : Fin 65536) :
    s.regWrite cqdbRow [q.val] (Reg.HDS_CQDB q) (BitVec.ofNat 64 v) = s.cqDoorbell q v := by
  have hq := q.isLt
  have hbank : s.bankWriteReg cqdbRow [q.val] (BitVec.ofNat 64 v) = none := rfl
  unfold State.regWrite Reg.HDS_CQDB
  rw [hbank]
  simp (disch := omega) only [if_neg, if_pos]
  rw [State.hdsWrite, bits_ofNat16]
  simp [cqdbRow, Reg.HDS_CTXBASE, Reg.HDS_SEQTAB, Reg.HDS_KVFREE, Reg.HDS_KVRET, Reg.HDS_PROG, Reg.HDS_QP_SQ,
    Reg.HDS_QP_CQ, Reg.HDS_QP_CTL, Reg.HDS_SQDB, Reg.HDS_CQDB]

section
variable {s : State} (q : Fin 4096) (v : Fin 65536)

theorem exec_sqDoorbell (hrun : s.running = true) (hmwr : s.mwrWaits = false) (hjig : s.jigPhase ≠ 4) (hheld : s.heldOf .host = [])
    (hstaged : s.ctl.staged = []) : exec (.submissionTailDoorbell q v) s = .next (s.keeping (s.sqDoorbell q v)) := by
  have hq := q.isLt
  rw [← State.regWrite_sqdb]
  exact exec_hostWrite_hds _ hrun hmwr hjig hheld hstaged (find_sqdb q) (by unfold Reg.HDS_SQDB; omega) (by unfold Reg.HDS_SQDB; omega)
    (by unfold Reg.HDS_SQDB; omega) rfl

theorem exec_cqDoorbell (hrun : s.running = true) (hmwr : s.mwrWaits = false) (hjig : s.jigPhase ≠ 4) (hheld : s.heldOf .host = [])
    (hstaged : s.ctl.staged = []) : exec (.completionHeadDoorbell q v) s = .next (s.keeping (s.cqDoorbell q v)) := by
  have hq := q.isLt
  rw [← State.regWrite_cqdb]
  exact exec_hostWrite_hds _ hrun hmwr hjig hheld hstaged (find_cqdb q) (by unfold Reg.HDS_CQDB; omega) (by unfold Reg.HDS_CQDB; omega)
    (by unfold Reg.HDS_CQDB; omega) rfl

end

/-! ### Fields of one register -/

/-- A field reads back what was written (as `State.get_set`, for a field given by its place). -/
theorem State.get_set_same (s : State) (a lo w n : Nat) (h : lo + w ≤ 64) : (s.set ⟨a, lo, w⟩ n).get ⟨a, lo, w⟩ = n % 2 ^ w :=
  s.get_set ⟨a, lo, w⟩ n h

/-- A write of a field leaves the other fields of its register alone. -/
theorem State.get_set_apart (s : State) (a lo w lo' w' n : Nat) (h : lo' + w' ≤ lo ∨ lo + w ≤ lo') (hw : lo + w ≤ 64) :
    (s.set ⟨a, lo, w⟩ n).get ⟨a, lo', w'⟩ = s.get ⟨a, lo', w'⟩ := by
  rcases h with h | h
  · exact s.get_set_below _ _ n rfl h hw
  · exact s.get_set_above _ _ n rfl h hw

theorem State.get_of_reg {s t : State} {l : Loc} (h : t.reg l.addr = s.reg l.addr) : t.get l = s.get l := by unfold State.get; rw [h]

/-! ### What a chain of updates leaves alone -/

theorem MemSame.trans {s t u : State} (h : MemSame s t) (k : MemSame t u) : MemSame s u := fun a => (k a).trans (h a)

theorem Noted.memSame {s t : State} (h : Noted s t) : MemSame s t := fun a => by rw [h.1]; rfl

theorem RegsOnly.refl (rs : List Nat) (s : State) : RegsOnly rs s s := ⟨rfl, fun _ _ => rfl⟩

theorem RegsOnly.trans {rs : List Nat} {s t u : State} (h : RegsOnly rs s t) (k : RegsOnly rs t u) : RegsOnly rs s u := by
  obtain ⟨h1, h2⟩ := h
  obtain ⟨k1, k2⟩ := k
  exact ⟨by rw [k1, h1], fun a ha => (k2 a ha).trans (h2 a ha)⟩

theorem RegsOnly.setReg {rs : List Nat} (s : State) {a : Nat} (v : Word64) (h : a ∈ rs) : RegsOnly rs s (s.setReg a v) :=
  ⟨rfl, fun _ hb => s.reg_setReg_ne v fun e => hb (e ▸ h)⟩

theorem RegsOnly.set {rs : List Nat} (s : State) {l : Loc} (n : Nat) (h : l.addr ∈ rs) : RegsOnly rs s (s.set l n) :=
  RegsOnly.setReg s _ h

theorem RegsOnly.regsBut {rs : List Nat} {s t : State} (h : RegsOnly rs s t) : RegsBut rs s t := fun a ha _ => h.2 a ha

theorem RegsOnly.memSame {rs : List Nat} {s t : State} (h : RegsOnly rs s t) : MemSame s t := fun a => by rw [h.1]; rfl

theorem RegsBut.trans {rs : List Nat} {s t u : State} (h : RegsBut rs s t) (k : RegsBut rs t u) : RegsBut rs s u :=
  fun a ha hn => (k a ha hn).trans (h a ha hn)

theorem RegsBut.mono {rs rs' : List Nat} {s t : State} (h : RegsBut rs s t) (hsub : ∀ a ∈ rs, a ∈ rs') : RegsBut rs' s t :=
  fun a ha hn => h a (fun hr => ha (hsub a hr)) hn

theorem Noted.regsBut {s t : State} (h : Noted s t) (rs : List Nat) : RegsBut rs s t := fun a _ hn => h.2 a hn

/-! ### A refused doorbell -/

/-- HDS_LASTERR as a refusal records it (R193, R230). -/
def State.lastErrSet (s : State) (q code pos : Nat) : State :=
  ((((s.clearReg Reg.HDS_LASTERR).set Reg.HDS_LASTERR_QP q).set Reg.HDS_LASTERR_CODE code).set Reg.HDS_LASTERR_POS pos).set
    Reg.HDS_LASTERR_VALID 1

theorem State.lastErr_noted (s : State) (q code pos : Nat) : Noted (s.lastErrSet q code pos) (s.lastErr q code pos) :=
  noted_occur (s.lastErrSet q code pos) _ _ _

theorem State.lastErrSet_only (s : State) (q code pos : Nat) : RegsOnly [Reg.HDS_LASTERR] s (s.lastErrSet q code pos) := by
  have h (u : State) (l : Loc) (n : Nat) (hl : l.addr = Reg.HDS_LASTERR) : RegsOnly [Reg.HDS_LASTERR] u (u.set l n) :=
    RegsOnly.set u n (by simp [hl])
  exact ((((RegsOnly.setReg s _ (by simp)).trans (h _ _ _ rfl)).trans (h _ _ _ rfl)).trans (h _ _ _ rfl)).trans (h _ _ _ rfl)

theorem State.get_lastErr (s : State) (q code pos lo w : Nat) :
    (s.lastErr q code pos).get ⟨Reg.HDS_LASTERR, lo, w⟩ = (s.lastErrSet q code pos).get ⟨Reg.HDS_LASTERR, lo, w⟩ :=
  (s.lastErr_noted q code pos).get ⟨Reg.HDS_LASTERR, lo, w⟩ (show noteReg Reg.HDS_LASTERR = false by decide)

/-- What a refusal leaves (R193, R230): LASTERR names the queue pair, the code and the position; only it and the note of it change. -/
theorem State.lastErr_spec (s : State) {q code pos : Nat} (hq : q < 4096) (hcode : code < 256) (hpos : pos < 65536) :
    RegsBut [Reg.HDS_LASTERR] s (s.lastErr q code pos) ∧ MemSame s (s.lastErr q code pos)
      ∧ (s.lastErr q code pos).get Reg.HDS_LASTERR_QP = q ∧ (s.lastErr q code pos).get Reg.HDS_LASTERR_CODE = code
      ∧ (s.lastErr q code pos).get Reg.HDS_LASTERR_POS = pos ∧ (s.lastErr q code pos).flag Reg.HDS_LASTERR_VALID = true := by
  have hset := s.lastErrSet_only q code pos
  have hnote := s.lastErr_noted q code pos
  refine ⟨hset.regsBut.trans (hnote.regsBut _), hset.memSame.trans hnote.memSame, ?_⟩
  have hq' : q % 2 ^ 12 = q := by omega
  have hcode' : code % 2 ^ 8 = code := by omega
  have hpos' : pos % 2 ^ 16 = pos := by omega
  simp (disch := decide) only [State.flag, Reg.HDS_LASTERR_QP, Reg.HDS_LASTERR_CODE, Reg.HDS_LASTERR_POS, Reg.HDS_LASTERR_VALID,
    State.get_lastErr, State.lastErrSet, State.get_set_apart, State.get_set_same, hq', hcode', hpos', true_and]
  decide

theorem noteReg_hds {a : Nat} (h : 0x7f1010000b0 ≤ a) (h' : a < 0x7f200080000) : noteReg a = false := by
  rw [Bool.eq_false_iff]
  unfold noteReg Reg.AON_EVINTAKE
  simp only [ne_eq, Bool.or_eq_true, decide_eq_true_eq]
  omega

theorem noteReg_qpStatus (q : Fin 4096) : noteReg (Reg.HDS_QP_STATUS q) = false := by
  unfold Reg.HDS_QP_STATUS
  exact noteReg_hds (by omega) (by omega)

theorem noteReg_qpStatus2 (q : Fin 4096) : noteReg (Reg.HDS_QP_STATUS2 q) = false := by
  unfold Reg.HDS_QP_STATUS2
  exact noteReg_hds (by omega) (by omega)

theorem qpStatus_ne_lastErr (q : Nat) : Reg.HDS_QP_STATUS q ≠ Reg.HDS_LASTERR := by unfold Reg.HDS_QP_STATUS Reg.HDS_LASTERR; omega
theorem qpStatus2_ne_lastErr (q : Nat) : Reg.HDS_QP_STATUS2 q ≠ Reg.HDS_LASTERR := by unfold Reg.HDS_QP_STATUS2 Reg.HDS_LASTERR; omega
theorem qpStatus2_ne_qpStatus (q p : Nat) : Reg.HDS_QP_STATUS2 q ≠ Reg.HDS_QP_STATUS p := by unfold Reg.HDS_QP_STATUS2 Reg.HDS_QP_STATUS; omega

/-- A refused position (R193): as `State.lastErr_spec`, with ERR set and the positions of the queue pair kept. -/
theorem State.qpError_spec (s : State) (q : Fin 4096) {code pos : Nat} (hcode : code < 256) (hpos : pos < 65536) :
    RegsBut [Reg.HDS_QP_STATUS q, Reg.HDS_LASTERR] s (s.qpError q code pos) ∧ MemSame s (s.qpError q code pos)
      ∧ (s.qpError q code pos).get (Reg.HDS_QP_STATUS_SQTAIL q) = s.get (Reg.HDS_QP_STATUS_SQTAIL q)
      ∧ (s.qpError q code pos).get (Reg.HDS_QP_STATUS2_CQHEAD q) = s.get (Reg.HDS_QP_STATUS2_CQHEAD q)
      ∧ (s.qpError q code pos).flag (Reg.HDS_QP_STATUS_ERR q) = true
      ∧ (s.qpError q code pos).get Reg.HDS_LASTERR_QP = q ∧ (s.qpError q code pos).get Reg.HDS_LASTERR_CODE = code
      ∧ (s.qpError q code pos).get Reg.HDS_LASTERR_POS = pos ∧ (s.qpError q code pos).flag Reg.HDS_LASTERR_VALID = true := by
  obtain ⟨hregs, hmem, hlast⟩ := (s.set (Reg.HDS_QP_STATUS_ERR q) 1).lastErr_spec q.isLt hcode hpos
  have hset : RegsOnly [Reg.HDS_QP_STATUS q, Reg.HDS_LASTERR] s (s.set (Reg.HDS_QP_STATUS_ERR q) 1) :=
    RegsOnly.set s _ (List.mem_cons_self ..)
  have hst : (s.qpError q code pos).reg (Reg.HDS_QP_STATUS q) = (s.set (Reg.HDS_QP_STATUS_ERR q) 1).reg (Reg.HDS_QP_STATUS q) :=
    hregs _ (by simp [qpStatus_ne_lastErr]) (noteReg_qpStatus q)
  have hst2 : (s.qpError q code pos).reg (Reg.HDS_QP_STATUS2 q) = (s.set (Reg.HDS_QP_STATUS_ERR q) 1).reg (Reg.HDS_QP_STATUS2 q) :=
    hregs _ (by simp [qpStatus2_ne_lastErr]) (noteReg_qpStatus2 q)
  refine ⟨hset.regsBut.trans (hregs.mono (by simp)), hset.memSame.trans hmem, ?_, ?_, ?_, hlast⟩
  · exact (State.get_of_reg (l := Reg.HDS_QP_STATUS_SQTAIL q) hst).trans (s.get_set_apart _ 48 1 16 16 1 (by decide) (by decide))
  · exact (State.get_of_reg (l := Reg.HDS_QP_STATUS2_CQHEAD q) hst2).trans
      (s.get_set_ne (Reg.HDS_QP_STATUS_ERR q) (Reg.HDS_QP_STATUS2_CQHEAD q) 1 (qpStatus2_ne_qpStatus q q))
  · have : (s.qpError q code pos).get (Reg.HDS_QP_STATUS_ERR q) = 1 :=
      (State.get_of_reg (l := Reg.HDS_QP_STATUS_ERR q) hst).trans (s.get_set_same _ 48 1 1 (by decide))
    simp [State.flag, this]

/-! ### Positions of a ring -/

section
variable {s : State} (q : Fin 4096) (v : Fin 65536)

theorem State.sqDoorbell_unserved (h : s.qpServed q = false) : s.sqDoorbell q v = s.lastErr q 2 v := by
  simp [State.sqDoorbell, h]

theorem State.cqDoorbell_unserved (h : s.qpServed q = false) : s.cqDoorbell q v = s.lastErr q 2 v := by
  simp [State.cqDoorbell, h]

theorem State.sqDoorbell_served (h : s.qpServed q = true) :
    s.sqDoorbell q v =
      if v.val < s.sqSize q ∧ (s.get (Reg.HDS_QP_STATUS_SQTAIL q) + s.sqSize q - s.get (Reg.HDS_QP_STATUS_SQHEAD q)) % s.sqSize q
          ≤ (v.val + s.sqSize q - s.get (Reg.HDS_QP_STATUS_SQHEAD q)) % s.sqSize q
      then s.set (Reg.HDS_QP_STATUS_SQTAIL q) v else s.qpError q 1 v := by
  simp only [State.sqDoorbell, h, Bool.not_true, Bool.false_eq_true, if_false]
  split
  · rw [if_neg (by omega)]
  · rw [if_pos (by omega)]

theorem State.cqDoorbell_served (h : s.qpServed q = true) :
    s.cqDoorbell q v =
      if v.val < s.cqSize q ∧ (v.val + s.cqSize q - s.get (Reg.HDS_QP_STATUS2_CQHEAD q)) % s.cqSize q
          ≤ (s.get (Reg.HDS_QP_STATUS_CQTAIL q) + s.cqSize q - s.get (Reg.HDS_QP_STATUS2_CQHEAD q)) % s.cqSize q
      then s.set (Reg.HDS_QP_STATUS2_CQHEAD q) v else s.qpError q 3 v := by
  simp only [State.cqDoorbell, h, Bool.not_true, Bool.false_eq_true, if_false]
  split
  · rw [if_neg (by omega)]
  · rw [if_pos (by omega)]

end

/-! ### Mailboxes -/

theorem mbxRsp_ne_ctl (n k : Nat) : k < 448 → Reg.MBX_RSP n k ≠ Reg.MBX_CTL n := by
  unfold Reg.MBX_RSP Reg.MBX_CTL; omega

theorem mbxRsp_inj {n j k : Nat} : Reg.MBX_RSP n j = Reg.MBX_RSP n k → j = k := by
  unfold Reg.MBX_RSP; omega

theorem State.get_lt (s : State) (l : Loc) : s.get l < 2 ^ l.width := Nat.mod_lt _ (Nat.two_pow_pos _)

/-- Response registers from `k + 1` up take the values of a list, in order (R44). -/
def State.mbxRsp (s : State) (n k : Nat) (rsp : List Nat) : State :=
  (rsp.zipIdx k).foldl (fun s v => s.set (Reg.MBX_RSP_V n (v.2 + 1)) v.1) s

/-- MBX_CTL as a completion leaves it (R44, R46). -/
def State.mbxCtlDone (s : State) (n status rlen : Nat) : State :=
  (((s.set (Reg.MBX_CTL_STATUS n) status).set (Reg.MBX_CTL_RLEN n) rlen).set (Reg.MBX_CTL_DONE n) 1).set (Reg.MBX_CTL_GO n) 0

/-- What a completion does to the registers (R44, R46). -/
def State.mbxRegs (s : State) (n status rlen : Nat) (rsp : List Nat) : State :=
  let u := s.mbxRsp n 0 rsp
  (u.set (Reg.MBX_RSP_V n 0) (u.get (Reg.MBX_CTL_SEQ n))).mbxCtlDone n status rlen

theorem State.mbxDone_eq (s : State) (n status rlen : Nat) (rsp : List Nat) :
    s.mbxDone n status rlen rsp = (s.mbxRegs n status rlen rsp).raiseVec n := rfl

theorem State.mbxRsp_cons (s : State) (n k x : Nat) (rsp : List Nat) :
    s.mbxRsp n k (x :: rsp) = (s.set (Reg.MBX_RSP_V n (k + 1)) x).mbxRsp n (k + 1) rsp := rfl

theorem State.mbxRsp_only (s : State) (n k : Nat) (rsp : List Nat) :
    RegsOnly ((List.range rsp.length).map fun j => Reg.MBX_RSP n (k + 1 + j)) s (s.mbxRsp n k rsp) := by
  induction rsp generalizing s k with
  | nil => exact RegsOnly.refl _ s
  | cons x rsp ih =>
    have hset : RegsOnly ((List.range (x :: rsp).length).map fun j => Reg.MBX_RSP n (k + 1 + j)) s (s.set (Reg.MBX_RSP_V n (k + 1)) x) :=
      RegsOnly.set s x (List.mem_map.2 ⟨0, by simp, rfl⟩)
    rw [State.mbxRsp_cons]
    refine hset.trans ⟨(ih _ (k + 1)).1, fun a ha => (ih _ (k + 1)).2 a fun hmem => ha ?_⟩
    obtain ⟨j, hj, rfl⟩ := List.mem_map.1 hmem
    exact List.mem_map.2 ⟨j + 1, by simpa using hj, by rw [show k + 1 + (j + 1) = k + 1 + 1 + j by omega]⟩

theorem State.get_mbxRsp (s : State) (n k : Nat) (rsp : List Nat) (j : Nat) (hj : j < rsp.length) :
    (s.mbxRsp n k rsp).get (Reg.MBX_RSP_V n (k + 1 + j)) = rsp[j] % 2 ^ 64 := by
  induction rsp generalizing s k j with
  | nil => simp at hj
  | cons x rsp ih =>
    rw [State.mbxRsp_cons]
    cases j with
    | zero =>
      rw [State.get_of_reg (s := s.set (Reg.MBX_RSP_V n (k + 1)) x)]
      · exact s.get_set_same _ 0 64 x (by decide)
      · refine (State.mbxRsp_only _ n (k + 1) rsp).2 _ fun hmem => ?_
        obtain ⟨j, -, hj⟩ := List.mem_map.1 hmem
        have := mbxRsp_inj hj
        omega
    | succ j =>
      rw [show k + 1 + (j + 1) = k + 1 + 1 + j by omega]
      exact ih _ (k + 1) j (by simpa using hj)

theorem State.mbxCtlDone_only (s : State) (n status rlen : Nat) : RegsOnly [Reg.MBX_CTL n] s (s.mbxCtlDone n status rlen) := by
  have h (u : State) (l : Loc) (x : Nat) (hl : l.addr = Reg.MBX_CTL n) : RegsOnly [Reg.MBX_CTL n] u (u.set l x) :=
    RegsOnly.set u x (by simp [hl])
  exact (((h _ _ _ rfl).trans (h _ _ _ rfl)).trans (h _ _ _ rfl)).trans (h _ _ _ rfl)

theorem State.mbxCtlDone_fields (s : State) (n status rlen : Nat) :
    (s.mbxCtlDone n status rlen).get (Reg.MBX_CTL_STATUS n) = status % 2 ^ 16
      ∧ (s.mbxCtlDone n status rlen).get (Reg.MBX_CTL_RLEN n) = rlen % 2 ^ 8
      ∧ (s.mbxCtlDone n status rlen).flag (Reg.MBX_CTL_DONE n) = true ∧ (s.mbxCtlDone n status rlen).flag (Reg.MBX_CTL_GO n) = false
      ∧ (s.mbxCtlDone n status rlen).get (Reg.MBX_CTL_SEQ n) = s.get (Reg.MBX_CTL_SEQ n) := by
  simp (disch := decide) only [State.flag, State.mbxCtlDone, Reg.MBX_CTL_STATUS, Reg.MBX_CTL_RLEN, Reg.MBX_CTL_DONE, Reg.MBX_CTL_GO,
    Reg.MBX_CTL_SEQ, State.get_set_apart, State.get_set_same, true_and, and_true]
  decide

/-- The addresses that a completion with `m` response values writes. -/
def mbxWritten (n m : Nat) : List Nat := Reg.MBX_CTL n :: (List.range (m + 1)).map (Reg.MBX_RSP n)

theorem rsp_mem_mbxWritten {n m k : Nat} (h : k ≤ m) : Reg.MBX_RSP n k ∈ mbxWritten n m :=
  List.mem_cons_of_mem _ (List.mem_map.2 ⟨k, by simp; omega, rfl⟩)

theorem RegsOnly.mono {rs rs' : List Nat} {s t : State} (h : RegsOnly rs s t) (hsub : ∀ a ∈ rs, a ∈ rs') : RegsOnly rs' s t :=
  ⟨h.1, fun a ha => h.2 a fun hr => ha (hsub a hr)⟩

theorem State.mbxRegs_only (s : State) (n status rlen : Nat) (rsp : List Nat) :
    RegsOnly (mbxWritten n rsp.length) s (s.mbxRegs n status rlen rsp) := by
  refine ((State.mbxRsp_only s n 0 rsp).mono fun a ha => ?_).trans ((RegsOnly.set _ _ (rsp_mem_mbxWritten (Nat.zero_le _))).trans
    ((State.mbxCtlDone_only _ n status rlen).mono (by simp [mbxWritten])))
  obtain ⟨j, hj, rfl⟩ := List.mem_map.1 ha
  exact rsp_mem_mbxWritten (by have := List.mem_range.1 hj; omega)

/-- What a completed mailbox shows (R44, R46). -/
theorem State.mbxRegs_fields (s : State) (n status rlen : Nat) (rsp : List Nat) (hlen : rsp.length < 32) :
    let t := s.mbxRegs n status rlen rsp
    t.get (Reg.MBX_CTL_STATUS n) = status % 2 ^ 16 ∧ t.get (Reg.MBX_CTL_RLEN n) = rlen % 2 ^ 8
      ∧ t.flag (Reg.MBX_CTL_DONE n) = true ∧ t.flag (Reg.MBX_CTL_GO n) = false
      ∧ t.get (Reg.MBX_CTL_SEQ n) = s.get (Reg.MBX_CTL_SEQ n) ∧ t.get (Reg.MBX_RSP_V n 0) = s.get (Reg.MBX_CTL_SEQ n)
      ∧ ∀ j (h : j < rsp.length), t.get (Reg.MBX_RSP_V n (j + 1)) = rsp[j] % 2 ^ 64 := by
  intro t
  let u := s.mbxRsp n 0 rsp
  let w := u.set (Reg.MBX_RSP_V n 0) (u.get (Reg.MBX_CTL_SEQ n))
  obtain ⟨hstatus, hrlen, hdone, hgo, hseq⟩ := w.mbxCtlDone_fields n status rlen
  have hu : u.get (Reg.MBX_CTL_SEQ n) = s.get (Reg.MBX_CTL_SEQ n) := State.get_of_reg <| (State.mbxRsp_only s n 0 rsp).2 _ fun hmem => by
    obtain ⟨j, hj, hj'⟩ := List.mem_map.1 hmem
    exact mbxRsp_ne_ctl n _ (by have := List.mem_range.1 hj; omega) hj'
  have hw : w.get (Reg.MBX_CTL_SEQ n) = s.get (Reg.MBX_CTL_SEQ n) :=
    (u.get_set_ne _ _ _ (mbxRsp_ne_ctl n 0 (by omega)).symm).trans hu
  have hrsp (k : Nat) (hk : k < 32) : t.get (Reg.MBX_RSP_V n k) = w.get (Reg.MBX_RSP_V n k) :=
    State.get_of_reg <| (w.mbxCtlDone_only n status rlen).2 _ (by rw [List.mem_singleton]; exact mbxRsp_ne_ctl n k (by omega))
  refine ⟨hstatus, hrlen, hdone, hgo, hseq.trans hw, ?_, fun j hj => ?_⟩
  · rw [hrsp 0 (by omega)]
    refine (u.get_set_same _ 0 64 _ (by decide)).trans ?_
    rw [hu]
    exact Nat.mod_eq_of_lt (Nat.lt_of_lt_of_le (s.get_lt (Reg.MBX_CTL_SEQ n)) (show 2 ^ 8 ≤ 2 ^ 64 by decide))
  · rw [hrsp _ (by omega)]
    refine (u.get_set_ne (Reg.MBX_RSP_V n 0) (Reg.MBX_RSP_V n (j + 1)) _ fun h => by have := mbxRsp_inj h; omega).trans ?_
    rw [show j + 1 = 0 + 1 + j by omega]
    exact State.get_mbxRsp s n 0 rsp j hj

theorem hostOnly_ite {s t u : State} {c : Prop} [Decidable c] (ht : t = { s with host := t.host }) (hu : u = { s with host := u.host }) :
    (if c then t else u) = { s with host := (if c then t else u).host } := by split <;> assumption

theorem State.raiseVec_frame (s : State) (v : Nat) : s.raiseVec v = { s with host := (s.raiseVec v).host } := by
  unfold State.raiseVec
  exact hostOnly_ite rfl rfl

theorem RegsOnly.host_frame {rs : List Nat} {s u t : State} (h : RegsOnly rs s u) (ht : t = { u with host := t.host }) :
    t = { s with regs := u.regs, host := t.host } :=
  ht.trans (congrArg (fun w : State => { w with host := t.host }) h.1)

/-- Registers alone change if a change of registers is followed by one of the interrupts that wait. -/
theorem RegsOnly.of_host_frame {rs : List Nat} {s u t : State} (h : RegsOnly rs s u) (ht : t = { u with host := t.host }) :
    RegsOnly rs s { t with host := s.host } := by
  have hregs : t.regs = u.regs := by rw [ht]
  refine ⟨?_, fun a ha => (congrArg (smapGet Reg.resetVal · a) hregs).trans (h.2 a ha)⟩
  rw [h.host_frame ht]

theorem State.mem_of_host_frame {rs : List Nat} {s u t : State} (h : RegsOnly rs s u) (ht : t = { u with host := t.host }) : MemSame s t := by
  have hmem : t.mem = s.mem := by rw [h.host_frame ht]
  exact fun a => congrArg (smapGet memByte · a) hmem

theorem State.get_of_host_frame {u t : State} (ht : t = { u with host := t.host }) (l : Loc) : t.get l = u.get l := by
  have hregs : t.regs = u.regs := by rw [ht]
  exact State.get_of_reg (congrArg (smapGet Reg.resetVal · l.addr) hregs)

/-- A completion of mailbox `n` (R44, R46): the mailbox and the interrupts that wait change alone. -/
theorem State.mbxDone_spec (s : State) (n status rlen : Nat) (rsp : List Nat) (hlen : rsp.length < 32) :
    let t := s.mbxDone n status rlen rsp
    RegsOnly (mbxWritten n rsp.length) s { t with host := s.host } ∧ MemSame s t
      ∧ t.get (Reg.MBX_CTL_STATUS n) = status % 2 ^ 16 ∧ t.get (Reg.MBX_CTL_RLEN n) = rlen % 2 ^ 8
      ∧ t.flag (Reg.MBX_CTL_DONE n) = true ∧ t.flag (Reg.MBX_CTL_GO n) = false
      ∧ t.get (Reg.MBX_CTL_SEQ n) = s.get (Reg.MBX_CTL_SEQ n) ∧ t.get (Reg.MBX_RSP_V n 0) = s.get (Reg.MBX_CTL_SEQ n)
      ∧ ∀ j (h : j < rsp.length), t.get (Reg.MBX_RSP_V n (j + 1)) = rsp[j] % 2 ^ 64 := by
  have hframe := (s.mbxRegs n status rlen rsp).raiseVec_frame n
  have honly := s.mbxRegs_only n status rlen rsp
  have hfields := s.mbxRegs_fields n status rlen rsp hlen
  rw [State.mbxDone_eq]
  generalize s.mbxRegs n status rlen rsp = u at hframe honly hfields
  intro t
  simp only [State.flag, t, State.get_of_host_frame hframe]
  exact ⟨honly.of_host_frame hframe, State.mem_of_host_frame honly hframe, hfields⟩

theorem exec_unknownCommand {s : State} {n : Fin 8} (hrun : s.running = true) (hgo : s.flag (Reg.MBX_CTL_GO n) = true)
    (hholder : s.holder.isSome = true) (hcmd : mbxCodes.contains (s.get (Reg.MBX_CTL_CMD n)) = false) :
    exec (.mailboxUnknownCommand n) s = .next (s.keeping (s.mbxDone n 1 1 [])) := by
  have : exec (.mailboxUnknownCommand n) s = execMailboxUnknownCommand n s := rfl
  rw [this, execMailboxUnknownCommand, State.run_running _ _ hrun, if_pos ⟨hgo, hholder, by rw [hcmd]; rfl⟩, State.mbxFail]

/-- The response values of MODULE_INFO (R554). -/
def State.moduleInfo (s : State) : List Nat :=
  [leNat (slice Config.serial 0 8), leNat (slice Config.serial 8 8), s.pwr.slotId % 64 + s.get Reg.AON_TOKEN_PREF * 2 ^ 8 + 3 * 2 ^ 16,
    0x3961634f]

theorem exec_moduleInfo {s : State} {n : Fin 8} (hrun : s.running = true) (hgo : s.flag (Reg.MBX_CTL_GO n) = true)
    (hholder : s.holder.isSome = true) (hcmd : s.get (Reg.MBX_CTL_CMD n) = 0x1301) :
    exec (.moduleInfo n) s = .next (s.keeping (s.mbxDone n 0 5 s.moduleInfo)) := by
  have : exec (.moduleInfo n) s = execModuleInfo n s := rfl
  rw [this, execModuleInfo, State.run_running _ _ hrun, State.mbxRun, if_pos (by simp [State.mbxHas, hgo, hholder, hcmd]), State.moduleInfo]

/-- Register 3 of MODULE_INFO holds the slot and the layout version (R554). -/
theorem moduleInfo_fields (slot pref : Nat) (h : pref < 2) :
    bits ((slot % 64 + pref * 2 ^ 8 + 3 * 2 ^ 16) % 2 ^ 64) 0 6 = slot % 64 ∧ bits ((slot % 64 + pref * 2 ^ 8 + 3 * 2 ^ 16) % 2 ^ 64) 16 8 = 3 := by
  unfold bits
  omega

/-! ### The parts that no operation reaches -/

/-- What no operation of the module reaches is the same in both states. -/
def Unreached (s t : State) : Prop := t.pending = s.pending ∧ t.now = s.now ∧ t.tap = s.tap

theorem Unreached.keeping {s t : State} (h : Unreached s t) : s.keeping t = t := by
  obtain ⟨hp, hn, ht⟩ := h
  rw [State.keeping, ← hp, ← hn, ← ht]

theorem Unreached.trans {s t u : State} (h : Unreached s t) (k : Unreached t u) : Unreached s u := by
  obtain ⟨hp, hn, ht⟩ := h
  obtain ⟨kp, kn, kt⟩ := k
  exact ⟨kp.trans hp, kn.trans hn, kt.trans ht⟩

theorem RegsOnly.unreached {rs : List Nat} {s t : State} (h : RegsOnly rs s t) : Unreached s t := by
  rw [h.1]; exact ⟨rfl, rfl, rfl⟩

theorem Noted.unreached {s t : State} (h : Noted s t) : Unreached s t := by
  rw [h.1]; exact ⟨rfl, rfl, rfl⟩

theorem State.keeping_of_regsOnly {rs : List Nat} {s t : State} (h : RegsOnly rs s { t with host := s.host }) : s.keeping t = t :=
  Unreached.keeping h.unreached

theorem State.keeping_set (s : State) (l : Loc) (n : Nat) : s.keeping (s.set l n) = s.set l n :=
  (RegsOnly.set (rs := [l.addr]) s n (List.mem_singleton_self _)).unreached.keeping

theorem State.unreached_lastErr (s : State) (q code pos : Nat) : Unreached s (s.lastErr q code pos) :=
  (s.lastErrSet_only q code pos).unreached.trans (s.lastErr_noted q code pos).unreached

theorem State.unreached_qpError (s : State) (q code pos : Nat) : Unreached s (s.qpError q code pos) :=
  (RegsOnly.set (rs := [Reg.HDS_QP_STATUS q]) s _ (List.mem_singleton_self _)).unreached.trans (State.unreached_lastErr _ q code pos)

/-! ### O9 -/

section
variable {s : State} (q : Fin 4096) (v : Fin 65536) (hrun : s.running = true) (hmwr : s.mwrWaits = false) (hjig : s.jigPhase ≠ 4)
  (hheld : s.heldOf .host = []) (hstaged : s.ctl.staged = [])
include hrun hmwr hjig hheld hstaged

/-- A doorbell of a queue pair that is not served (R193). -/
theorem exec_doorbell_unserved (hserved : s.qpServed q = false) {c : Instr}
    (hc : c ∈ [Instr.submissionTailDoorbell q v, Instr.completionHeadDoorbell q v]) :
    exec c s = .next (s.lastErr q 2 v) := by
  rw [← (s.unreached_lastErr q 2 v).keeping]
  rcases List.mem_pair.1 hc with rfl | rfl
  · rw [exec_sqDoorbell q v hrun hmwr hjig hheld hstaged, State.sqDoorbell_unserved q v hserved]
  · rw [exec_cqDoorbell q v hrun hmwr hjig hheld hstaged, State.cqDoorbell_unserved q v hserved]

end

end Sys2Proof.Machine

/-- Settles O9: the positions by `State.sqDoorbell_served` and `State.cqDoorbell_served`, what a refusal records by `State.qpError_spec` and
`State.lastErr_spec`, and the mailboxes by what a completion does (`State.mbxDone_spec`). -/
theorem doorbellsAndMailboxes : Obligations.DoorbellsAndMailboxes := by
  unfold Obligations.DoorbellsAndMailboxes
  refine ⟨fun q v s hrun hjig hstaged => ⟨fun hmwr => ⟨exec_hostWrite_queued _ hrun (isDoorbell_sqdb q) hmwr,
    exec_hostWrite_queued _ hrun (isDoorbell_cqdb q) hmwr⟩, fun hmwr hheld => ?_⟩, fun n s hrun hgo hholder => ⟨fun hcmd => ?_, fun hcmd => ?_⟩⟩
  · have hsq := exec_sqDoorbell q v hrun hmwr hjig hheld hstaged
    have hcq := exec_cqDoorbell q v hrun hmwr hjig hheld hstaged
    refine ⟨fun hserved hpos => ?_, fun hserved hpos => ?_, fun hserved hpos => ?_, fun hserved hpos => ?_, fun hserved c hc => ?_⟩
    · rw [hsq, State.sqDoorbell_served q v hserved, if_pos hpos, s.keeping_set]
    · obtain ⟨hregs, hmem, htail, -, herr, hqp, hcode, hp, hvalid⟩ := s.qpError_spec q (code := 1) (by decide) v.isLt
      rw [hsq, State.sqDoorbell_served q v hserved, if_neg hpos, (s.unreached_qpError q _ v).keeping]
      exact ⟨_, rfl, hregs, hmem, htail, herr, hqp, hcode, hp, hvalid⟩
    · rw [hcq, State.cqDoorbell_served q v hserved, if_pos hpos, s.keeping_set]
    · obtain ⟨hregs, hmem, -, hhead, herr, -, hcode, hp, -⟩ := s.qpError_spec q (code := 3) (by decide) v.isLt
      rw [hcq, State.cqDoorbell_served q v hserved, if_neg hpos, (s.unreached_qpError q _ v).keeping]
      exact ⟨_, rfl, hregs, hmem, hhead, herr, hcode, hp⟩
    · obtain ⟨hregs, hmem, hqp, hcode, hp, -⟩ := s.lastErr_spec q.isLt (code := 2) (by decide) v.isLt
      exact ⟨_, exec_doorbell_unserved q v hrun hmwr hjig hheld hstaged hserved hc, hregs, hmem, hqp, hcode, hp⟩
  · obtain ⟨honly, hmem, hstatus, hrlen, hdone, hgo', hseq, hrsp, -⟩ := s.mbxDone_spec n 1 1 [] (by decide)
    refine ⟨_, exec_unknownCommand hrun hgo hholder hcmd, ?_⟩
    rw [State.keeping_of_regsOnly honly]
    exact ⟨honly, hmem, hstatus, hrlen, hdone, hgo', hrsp, hseq⟩
  · obtain ⟨honly, hmem, hstatus, hrlen, hdone, hgo', -, hrsp, hvals⟩ := s.mbxDone_spec n 0 5 s.moduleInfo (by simp [State.moduleInfo])
    refine ⟨_, exec_moduleInfo hrun hgo hholder hcmd, ?_⟩
    rw [State.keeping_of_regsOnly honly]
    obtain ⟨hslot, hlayout⟩ := moduleInfo_fields s.pwr.slotId _ (s.get_lt Reg.AON_TOKEN_PREF)
    refine ⟨hmem, honly, hstatus, hrlen, hdone, hgo', hrsp, ?_, ?_, hvals 3 (by simp [State.moduleInfo])⟩
    · exact (congrArg (bits · 0 6) (hvals 2 (by simp [State.moduleInfo]))).trans hslot
    · exact (congrArg (bits · 16 8) (hvals 2 (by simp [State.moduleInfo]))).trans hlayout
end

section
open Sys2Proof Sys2Proof.Machine

namespace Sys2Proof.Machine

/-! ### What a counter event leaves alone -/

/-- Every register outside the bank at `b` keeps its value. -/
def BankOnly (b : Nat) (s t : State) : Prop := ∀ a, a < b ∨ b + 0xb0 ≤ a → t.reg a = s.reg a

theorem BankOnly.refl (b : Nat) (s : State) : BankOnly b s s := fun _ _ => rfl

theorem BankOnly.trans {b : Nat} {s t u : State} (h : BankOnly b s t) (k : BankOnly b t u) : BankOnly b s u :=
  fun a ha => (k a ha).trans (h a ha)

theorem BankOnly.set {b : Nat} (s : State) (l : Loc) (n : Nat) (hlo : b ≤ l.addr) (hhi : l.addr < b + 0xb0) : BankOnly b s (s.set l n) :=
  fun a ha => s.reg_set_ne l n (by omega)

theorem BankOnly.ite {b : Nat} {s t u : State} {c : Prop} [Decidable c] (h : BankOnly b s t) (k : BankOnly b s u) :
    BankOnly b s (if c then t else u) := by
  split <;> assumption

theorem bankOnly_pmcOverflow (s : State) (b n : Nat) : BankOnly b s (s.pmcOverflow b n) := by
  refine (BankOnly.set s (pmcOvf b n) 1 (Nat.le_add_right ..) (by simp [pmcOvf])).trans ?_
  unfold State.pmcOverflow
  dsimp only
  generalize s.set (pmcOvf b n) 1 = u
  exact (BankOnly.ite (BankOnly.set u _ _ (Nat.le_add_right ..) (by simp [pmcEn])) (BankOnly.refl b u)).trans
    (BankOnly.ite (fun a _ => reg_raiseVec _ _ a) (BankOnly.refl b _))

theorem bankOnly_setCnt (s : State) (b n v : Nat) (hn : n < 6) : BankOnly b s (s.set (pmcCnt b n) v) :=
  BankOnly.set s _ _ (by simp only [pmcCnt]; omega) (by simp only [pmcCnt]; omega)

theorem bankOnly_pmcAdd (s : State) (b n v : Nat) (hn : n < 6) : BankOnly b s (s.pmcAdd b n v) := by
  refine (bankOnly_setCnt s b n (s.get (pmcCnt b n) + v) hn).trans ?_
  unfold State.pmcAdd
  dsimp only
  generalize s.set (pmcCnt b n) (s.get (pmcCnt b n) + v) = u
  split
  · exact BankOnly.refl b u
  · split
    next hpair =>
      obtain ⟨heven, -⟩ := hpair
      have hcnt (x : Nat) := bankOnly_setCnt u b (n + 1) x (by omega)
      exact BankOnly.ite (BankOnly.ite (hcnt _) ((hcnt _).trans (bankOnly_pmcOverflow _ b _))) (BankOnly.refl b u)
    · exact bankOnly_pmcOverflow u b n

theorem bankOnly_countQ (s : State) (kind inst code : Nat) (v : Nat → Nat) : BankOnly (bankBase kind inst) s (s.countQ kind inst code v) := by
  unfold State.countQ
  refine List.foldlRecOn (List.range 6) _ (BankOnly.refl _ s) fun u hu n hn => hu.trans ?_
  exact BankOnly.ite (bankOnly_pmcAdd u _ n _ (List.mem_range.1 hn)) (BankOnly.refl _ u)

theorem bankOnly_count (s : State) (kind inst code v : Nat) : BankOnly (bankBase kind inst) s (s.count kind inst code v) :=
  bankOnly_countQ s kind inst code _

/-! ### What decides where a frame goes -/

/-- All that the choice of a frame's port, next hop and VC reads is the same (R279, R285). -/
structure RouteSame (s t : State) : Prop where
  upd : t.upd = s.upd
  now : t.now = s.now
  skey : t.get Reg.RTR_SKEY_SKEY = s.get Reg.RTR_SKEY_SKEY
  owned : ∀ p < 10, t.flag (Reg.RTR_PEER_OWNED p) = s.flag (Reg.RTR_PEER_OWNED p)
  link : ∀ p < 10, t.linkState p = s.linkState p
  valid : ∀ d, t.flag (Reg.RTR_ENT_LO_VALID d) = s.flag (Reg.RTR_ENT_LO_VALID d)
  hop0 : ∀ d, t.get (Reg.RTR_ENT_LO_NH0 d) = s.get (Reg.RTR_ENT_LO_NH0 d)
  hop1 : ∀ d, t.get (Reg.RTR_ENT_LO_NH1 d) = s.get (Reg.RTR_ENT_LO_NH1 d)
  hop2 : ∀ d, t.get (Reg.RTR_ENT_LO_NH2 d) = s.get (Reg.RTR_ENT_LO_NH2 d)

theorem RouteSame.trans {s t u : State} (h : RouteSame s t) (k : RouteSame t u) : RouteSame s u where
  upd := k.upd.trans h.upd
  now := k.now.trans h.now
  skey := k.skey.trans h.skey
  owned p hp := (k.owned p hp).trans (h.owned p hp)
  link p hp := (k.link p hp).trans (h.link p hp)
  valid d := (k.valid d).trans (h.valid d)
  hop0 d := (k.hop0 d).trans (h.hop0 d)
  hop1 d := (k.hop1 d).trans (h.hop1 d)
  hop2 d := (k.hop2 d).trans (h.hop2 d)

theorem State.flag_of_reg {s t : State} {l : Loc} (h : t.reg l.addr = s.reg l.addr) : t.flag l = s.flag l := by
  unfold State.flag; rw [State.get_of_reg h]

/-- The router's own counter bank decides no route. -/
theorem BankOnly.routeSame {s t : State} (h : BankOnly Reg.RTR_PMC_ID s t) (hupd : t.upd = s.upd) (hnow : t.now = s.now) : RouteSame s t := by
  have hent (d : Nat) : t.reg (Reg.RTR_ENT_LO d) = s.reg (Reg.RTR_ENT_LO d) := h _ (by unfold Reg.RTR_ENT_LO Reg.RTR_PMC_ID; omega)
  exact {
    upd := hupd, now := hnow
    skey := State.get_of_reg (h _ (.inl (by decide)))
    owned := fun p hp => State.flag_of_reg (h (Reg.RTR_PEER p) (by unfold Reg.RTR_PEER Reg.RTR_PMC_ID; omega))
    link := fun p hp => State.get_of_reg (h (Reg.LNK_STATUS p) (by unfold Reg.LNK_STATUS Reg.RTR_PMC_ID; omega))
    valid := fun d => State.flag_of_reg (hent d)
    hop0 := fun d => State.get_of_reg (hent d)
    hop1 := fun d => State.get_of_reg (hent d)
    hop2 := fun d => State.get_of_reg (hent d) }

theorem routeSame_count (s : State) (code v : Nat) : RouteSame s (s.count 5 0 code v) := by
  have hnote := noted_count s 5 0 code v (by decide)
  exact (bankOnly_count s 5 0 code v).routeSame (hnote.field State.upd fun _ _ _ => rfl) (hnote.field State.now fun _ _ _ => rfl)

theorem RouteSame.portUsable {s t : State} (h : RouteSame s t) (p : Nat) (vc7 : Bool) : t.portUsable p vc7 = s.portUsable p vc7 := by
  unfold State.portUsable State.serdesOn
  by_cases hp : p < 10
  · rw [h.link p hp, h.upd]
  · simp [hp]

theorem RouteSame.nextHop {s t : State} (h : RouteSame s t) (d : Nat) (vc7 : Bool) : t.nextHop d vc7 = s.nextHop d vc7 := by
  unfold State.nextHop
  simp only [h.valid, h.hop0, h.hop1, h.hop2, h.portUsable]

/-- A next hop is one of the ten trunk and bay ports. -/
theorem State.nextHop_lt {s : State} {d : Nat} {vc7 : Bool} {p k : Nat} (h : s.nextHop d vc7 = some (p, k)) : p < 10 := by
  unfold State.nextHop at h
  split at h
  · cases h
  · have := List.find?_some h
    simp only [State.portUsable, Bool.and_eq_true, decide_eq_true_eq] at this
    obtain ⟨⟨hlt, -⟩, -⟩ := this
    exact hlt

theorem RouteSame.outVc {s t : State} (h : RouteSame s t) {p : Nat} (hp : p < 10) (f : Frame) : t.outVc p f = s.outVc p f := by
  unfold State.outVc
  rw [h.owned p hp, h.skey]

theorem RouteSame.originated {s t : State} (h : RouteSame s t) (g : Frame) (r : RtrState) : originated t g r = originated s g r := by
  unfold Machine.originated
  rw [h.nextHop, h.now]
  split
  next p k hhop => rw [h.outVc (State.nextHop_lt hhop)]
  · rfl

/-! ### Originating a frame -/

theorem State.queueFor_rtr (s : State) (p nh : Nat) (via : Option Via) (f : Frame) :
    (s.queueFor p nh via f).rtr = { s.rtr with queued := s.rtr.queued ++
      [{ port := p, vc := s.outVc p f, via, frame := if f.isVc7 then f else f.transit (s.outVc p f == 6) }] } := by
  unfold State.queueFor
  dsimp only
  split
  · rfl
  · exact (noted_countQ _ 5 0 0x006 _ (by decide)).field State.rtr fun _ _ _ => rfl

/-- Everything but what the router queues and what is noted is the same. -/
def RoutedOnly (s t : State) : Prop := Noted s { t with rtr := s.rtr }

theorem routedOnly_queueFor (s : State) (p nh : Nat) (via : Option Via) (f : Frame) : RoutedOnly s (s.queueFor p nh via f) := by
  unfold State.queueFor RoutedOnly
  dsimp only
  split
  · exact ⟨rfl, fun _ _ => rfl⟩
  · have h := noted_countQ { s with rtr := { s.rtr with queued := s.rtr.queued ++
      [{ port := p, vc := s.outVc p f, via, frame := if f.isVc7 then f else f.transit (s.outVc p f == 6) }] } } 5 0 0x006 (portQual p 1) (by decide)
    exact ⟨by conv_lhs => rw [h.1], h.2⟩

theorem routedOnly_waitTransit (s : State) (via : Option Via) (f : Frame) : RoutedOnly s (s.waitTransit via f) := ⟨rfl, fun _ _ => rfl⟩

theorem RoutedOnly.regsBut {s t : State} (h : RoutedOnly s t) (rs : List Nat) : RegsBut rs s t := fun a _ hn => h.2 a hn

theorem RoutedOnly.memSame {s t : State} (h : RoutedOnly s t) : MemSame s t := Noted.memSame (t := { t with rtr := s.rtr }) h

theorem Noted.routedOnly {s t u : State} (h : Noted s t) (k : RoutedOnly t u) : RoutedOnly s u := by
  have hrtr : t.rtr = s.rtr := h.field State.rtr fun _ _ _ => rfl
  unfold RoutedOnly at k ⊢
  rw [← hrtr]
  exact h.trans k

/-- The frame that `State.originate` sends. -/
def fromHere (f : Frame) : Frame := { f with hops := 1, blen := f.body.length }

section
variable {s : State} {f : Frame} (h : ¬ (f.dstmod = s.ownMod ∧ f.isVc7 = true))
include h

theorem State.originate_of_hop {p k : Nat} (hhop : s.nextHop f.dstmod f.isVc7 = some (p, k)) :
    s.originate f = (s.count 5 0 0x003 1).queueFor p k none (fromHere f) := by
  have hown : (s.count 5 0 0x003 1).ownMod = s.ownMod := (noted_count s 5 0 0x003 1 (by decide)).field State.ownMod fun _ _ _ => rfl
  unfold Frame.isVc7 at h hhop
  unfold State.originate Frame.isVc7
  dsimp only
  rw [hown, if_neg h, (routeSame_count s 0x003 1).nextHop f.dstmod, hhop]
  rfl

theorem State.originate_of_none (hhop : s.nextHop f.dstmod f.isVc7 = none) :
    s.originate f = (s.count 5 0 0x003 1).waitTransit none (fromHere f) := by
  have hown : (s.count 5 0 0x003 1).ownMod = s.ownMod := (noted_count s 5 0 0x003 1 (by decide)).field State.ownMod fun _ _ _ => rfl
  unfold Frame.isVc7 at h hhop
  unfold State.originate Frame.isVc7
  dsimp only
  rw [hown, if_neg h, (routeSame_count s 0x003 1).nextHop f.dstmod, hhop]
  rfl

end

theorem originated_of_hop {s : State} {g : Frame} {p k : Nat} (hhop : s.nextHop g.dstmod g.isVc7 = some (p, k)) (r : RtrState) :
    originated s g r = { r with queued := r.queued ++
      [{ port := p, vc := s.outVc p g, via := none, frame := if g.isVc7 then g else g.transit (s.outVc p g == 6) }] } := by
  unfold originated
  rw [hhop]

theorem originated_of_none {s : State} {g : Frame} (hhop : s.nextHop g.dstmod g.isVc7 = none) (r : RtrState) :
    originated s g r = { r with transit := r.transit ++ [{ via := none, frame := g, since := s.now }] } := by
  unfold originated
  rw [hhop]

/-- A frame for another module, or of no management, is queued for its next hop or waits for one (R279). -/
theorem State.originate_routed {s : State} {f : Frame} (h : ¬ (f.dstmod = s.ownMod ∧ f.isVc7 = true)) :
    (s.originate f).rtr = originated s (fromHere f) s.rtr ∧ RoutedOnly s (s.originate f) := by
  have hnote := noted_count s 5 0 0x003 1 (by decide)
  have hroute := routeSame_count s 0x003 1
  have hrtr : (s.count 5 0 0x003 1).rtr = s.rtr := hnote.field State.rtr fun _ _ _ => rfl
  cases hhop : s.nextHop f.dstmod f.isVc7 with
  | none =>
    rw [State.originate_of_none h hhop, originated_of_none (g := fromHere f) hhop]
    refine ⟨?_, hnote.routedOnly (routedOnly_waitTransit _ none _)⟩
    unfold State.waitTransit
    rw [hrtr, hroute.now]
  | some pk =>
    obtain ⟨p, k⟩ := pk
    rw [State.originate_of_hop h hhop, originated_of_hop (g := fromHere f) hhop]
    refine ⟨?_, hnote.routedOnly (routedOnly_queueFor _ p k none _)⟩
    rw [State.queueFor_rtr, hrtr, hroute.outVc (State.nextHop_lt hhop)]

end Sys2Proof.Machine
end

section
open Sys2Proof Sys2Proof.Machine

namespace Sys2Proof.Machine

/-! ### Heads of a virtual channel -/

theorem find?_of_imp {α : Type} {P Q : α → Bool} (himp : ∀ x, Q x = true → P x = true) {x : α} (hx : Q x = true) :
    ∀ {l : List α}, l.find? P = some x → l.find? Q = some x
  | [], h => by cases h
  | y :: l, h => by
    rw [List.find?_cons] at h ⊢
    cases hP : P y with
    | true =>
      obtain rfl : y = x := by simpa [hP] using h
      simp [hx]
    | false =>
      have hQ : Q y = false := Bool.eq_false_iff.2 fun hq => by simp [himp y hq] at hP
      rw [hQ]
      exact find?_of_imp himp hx (by simpa [hP] using h)

/-- A frame that also passes a narrower test is the first to pass that one. -/
theorem State.headFrame_of_imp {s : State} {p : Nat} {P Q : Frame → Bool} {e : Nat × Nat × Frame} (himp : ∀ f, Q f = true → P f = true)
    (he : s.headFrame p P = some e) (hQ : Q e.2.2 = true) : s.headFrame p Q = some e := by
  obtain ⟨x, hx, rfl⟩ := Option.map_eq_some_iff.1 he
  have hhead := List.find?_some hx
  unfold State.headFrame
  rw [find?_of_imp _ _ hx]
  · rfl
  · intro y hy
    simp only [Bool.and_eq_true] at hy ⊢
    obtain ⟨⟨hport, htest⟩, hfirst⟩ := hy
    exact ⟨⟨hport, himp _ htest⟩, hfirst⟩
  · simp only [Bool.and_eq_true] at hhead ⊢
    obtain ⟨⟨hport, -⟩, hfirst⟩ := hhead
    exact ⟨⟨hport, hQ⟩, hfirst⟩

/-- The frame at the head passes the test. -/
theorem State.headFrame_test {s : State} {p : Nat} {P : Frame → Bool} {e : Nat × Nat × Frame} (he : s.headFrame p P = some e) :
    P e.2.2 = true := by
  obtain ⟨x, hx, rfl⟩ := Option.map_eq_some_iff.1 he
  have hhead := List.find?_some hx
  simp only [Bool.and_eq_true] at hhead
  obtain ⟨⟨-, htest⟩, -⟩ := hhead
  exact htest

/-! ### The management intake -/

/-- The state in which a frame for the module is delivered: it has left its port, and is counted (R282). -/
def State.deliveredIn (s : State) (e : Nat × Nat × Frame) : State := (s.consume e).count 5 0 0x002 1

theorem State.deliveredIn_noted (s : State) (e : Nat × Nat × Frame) : Noted (s.consume e) (s.deliveredIn e) := noted_count _ 5 0 0x002 1 (by decide)

/-- Only what the intake remembers, the frames that arrived, the queue for a pylon, AON_MGMT and notes differ. -/
structure IntakeOnly (s t : State) : Prop where
  frame : t = { s with regs := t.regs, ev := t.ev, host := t.host, rtr := t.rtr,
                       pyl := { s.pyl with intake := t.pyl.intake, heldQ := t.pyl.heldQ } }
  regs : RegsBut [Reg.AON_MGMT] s t

theorem IntakeOnly.trans {s t u : State} (h : IntakeOnly s t) (k : IntakeOnly t u) : IntakeOnly s u where
  frame := by rw [k.frame, h.frame]
  regs := h.regs.trans k.regs

theorem IntakeOnly.field {s t : State} (h : IntakeOnly s t) {α : Type} (f : State → α)
    (hf : ∀ r e o q i k, f { s with regs := r, ev := e, host := o, rtr := q, pyl := { s.pyl with intake := i, heldQ := k } } = f s) : f t = f s := by
  rw [h.frame]; exact hf _ _ _ _ _ _

theorem IntakeOnly.unreached {s t : State} (h : IntakeOnly s t) : Unreached s t := by rw [h.frame]; exact ⟨rfl, rfl, rfl⟩
theorem IntakeOnly.memSame {s t : State} (h : IntakeOnly s t) : MemSame s t := fun a => by rw [h.frame]; rfl

theorem IntakeOnly.holder {s t : State} (h : IntakeOnly s t) : t.holder = s.holder := by
  have : t.get Reg.AON_TOKEN_OWNER = s.get Reg.AON_TOKEN_OWNER :=
    State.get_of_reg (h.regs Reg.AON_TOKEN (by decide) (show noteReg Reg.AON_TOKEN = false by decide))
  unfold State.holder
  rw [this]

theorem IntakeOnly.mgmtWaits {s t : State} (h : IntakeOnly s t) (f : Frame) : t.mgmtWaits f = s.mgmtWaits f := by
  have : t.pyl.takeover = s.pyl.takeover := h.field (fun u => u.pyl.takeover) fun _ _ _ _ _ _ => rfl
  unfold State.mgmtWaits
  rw [h.holder, this]

theorem State.intakeOnly_deliveredIn (s : State) (e : Nat × Nat × Frame) : IntakeOnly s (s.deliveredIn e) where
  frame := by
    conv_lhs => rw [(s.deliveredIn_noted e).1]
    have hpyl : (s.deliveredIn e).pyl = s.pyl := (s.deliveredIn_noted e).field State.pyl fun _ _ _ => rfl
    have hrtr : (s.deliveredIn e).rtr = (s.consume e).rtr := (s.deliveredIn_noted e).field State.rtr fun _ _ _ => rfl
    rw [hpyl, hrtr]
    rfl
  regs := (s.deliveredIn_noted e).regsBut _

theorem State.deliveredIn_pyl (s : State) (e : Nat × Nat × Frame) : (s.deliveredIn e).pyl = s.pyl :=
  (s.deliveredIn_noted e).field State.pyl fun _ _ _ => rfl

theorem State.deliveredIn_dup (s : State) (e : Nat × Nat × Frame) (f : Frame) : (s.deliveredIn e).mgmtDup f = s.mgmtDup f :=
  (s.deliveredIn_noted e).field (·.mgmtDup f) fun _ _ _ => rfl

/-- The intake remembers other frames. -/
def State.remember (s : State) (i : List (Nat × Nat × Nat × Nat)) : State := { s with pyl := { s.pyl with intake := i } }

theorem State.intakeOnly_remember (s : State) (i : List (Nat × Nat × Nat × Nat)) : IntakeOnly s (s.remember i) := ⟨rfl, fun _ _ _ => rfl⟩

/-- Counting in AON_MGMT changes it alone. -/
theorem RegsOnly.intakeOnly {s t : State} (h : RegsOnly [Reg.AON_MGMT] s t) : IntakeOnly s t := by
  refine ⟨?_, h.regsBut⟩
  have heq := h.1
  generalize t.regs = r at heq
  rw [heq]

theorem State.intakeOnly_sat (s : State) (l : Loc) (n : Nat) (h : l.addr = Reg.AON_MGMT) : IntakeOnly s (s.sat l n) :=
  RegsOnly.intakeOnly (RegsOnly.set s _ (List.mem_singleton.2 h))

/-- A response is not remembered, and a request or notice is, if need be in the place of another, which is counted (R395). -/
theorem State.mgmtKeep_cases (s : State) (f : Frame) :
    s.mgmtKeep f = s ∨ ∃ i, s.mgmtKeep f = s.remember i ∨ s.mgmtKeep f = (s.sat Reg.AON_MGMT_EVICT 1).remember i := by
  unfold State.mgmtKeep
  by_cases hmop : 0x80 ≤ mopOf f
  · exact .inl (if_pos hmop)
  · rw [if_neg hmop]
    by_cases hfull : 16384 ≤ (s.pyl.intake.filter fun (e : Nat × Nat × Nat × Nat) => decide (s.now < e.2.2.2 + 10000000)).length
    · simp only [hfull, decide_true, if_true]
      exact .inr ⟨_, .inr rfl⟩
    · simp only [hfull, decide_false, Bool.false_eq_true, if_false]
      exact .inr ⟨_, .inl rfl⟩

theorem State.intakeOnly_mgmtKeep (s : State) (f : Frame) : IntakeOnly s (s.mgmtKeep f) := by
  obtain h | ⟨i, h | h⟩ := s.mgmtKeep_cases f <;> rw [h]
  · exact ⟨rfl, fun _ _ _ => rfl⟩
  · exact s.intakeOnly_remember i
  · exact (s.intakeOnly_sat _ 1 rfl).trans (State.intakeOnly_remember _ i)

theorem State.heldQ_sat (s : State) (l : Loc) (n : Nat) : (s.sat l n).pyl.heldQ = s.pyl.heldQ := rfl
theorem State.heldQ_remember (s : State) (i : List (Nat × Nat × Nat × Nat)) : (s.remember i).pyl.heldQ = s.pyl.heldQ := rfl
theorem State.get_remember (s : State) (i : List (Nat × Nat × Nat × Nat)) (l : Loc) : (s.remember i).get l = s.get l := rfl

theorem State.mgmtKeep_heldQ (s : State) (f : Frame) : (s.mgmtKeep f).pyl.heldQ = s.pyl.heldQ := by
  obtain h | ⟨i, h | h⟩ := s.mgmtKeep_cases f <;> rw [h]
  · exact s.heldQ_remember i
  · exact (State.heldQ_remember _ i).trans (s.heldQ_sat _ 1)

theorem State.mgmtKeep_heldDrop (s : State) (f : Frame) : (s.mgmtKeep f).get Reg.AON_MGMT_HELDDROP = s.get Reg.AON_MGMT_HELDDROP := by
  obtain h | ⟨i, h | h⟩ := s.mgmtKeep_cases f <;> rw [h]
  · exact s.get_remember i _
  · exact (State.get_remember _ i _).trans (s.get_set_apart Reg.AON_MGMT 16 16 32 16 _ (by decide) (by decide))

section
variable {s : State} {p : Nat} {ask : Frame → Bool} (deliver : State → Frame → State)

/-- The head of the queue that waits for a pylon, once one serves it (R396). -/
theorem State.mgmtTakeIf_queue {f : Frame} {rest : List Frame} (hq : s.pyl.heldQ = f :: rest) (hask : ask f = true)
    (hwait : s.mgmtWaits f = false) : s.mgmtTakeIf 10 ask deliver = deliver { s with pyl := { s.pyl with heldQ := rest } } f := by
  simp [State.mgmtTakeIf, hq, hask, hwait]

variable {e : Nat × Nat × Frame} (hp : p ≠ 10) (he : s.headFrame p (fun f => f.fkind == 7 && (f.dstmod != s.ownMod || ask f)) = some e)
include hp he

theorem State.mgmtTakeIf_forward (hdst : (s.taken p e.2.2).dstmod ≠ s.ownMod) :
    s.mgmtTakeIf p ask deliver = (s.consume e).forward { port := p, vc := 7, cls := 0 } (s.taken p e.2.2) := by
  unfold State.mgmtTakeIf
  rw [if_neg hp, he]
  exact if_pos hdst

/-- A frame for this module is counted, and is a duplicate, waits or is delivered (R394 to R396). -/
theorem State.mgmtTakeIf_here (hdst : (s.taken p e.2.2).dstmod = s.ownMod) :
    s.mgmtTakeIf p ask deliver =
      if s.mgmtDup (s.taken p e.2.2) then (s.deliveredIn e).sat Reg.AON_MGMT_DUPS 1
      else if s.mgmtWaits (s.taken p e.2.2) then
        if 64 ≤ s.pyl.heldQ.length then ((s.deliveredIn e).mgmtKeep (s.taken p e.2.2)).sat Reg.AON_MGMT_HELDDROP 1
        else { (s.deliveredIn e).mgmtKeep (s.taken p e.2.2) with pyl := { ((s.deliveredIn e).mgmtKeep (s.taken p e.2.2)).pyl with
          heldQ := s.pyl.heldQ ++ [s.taken p e.2.2] } }
      else deliver ((s.deliveredIn e).mgmtKeep (s.taken p e.2.2)) (s.taken p e.2.2) := by
  have hin := (s.intakeOnly_deliveredIn e).trans ((s.deliveredIn e).intakeOnly_mgmtKeep (s.taken p e.2.2))
  rw [← s.deliveredIn_dup e, ← hin.mgmtWaits, ← s.deliveredIn_pyl e, ← (s.deliveredIn e).mgmtKeep_heldQ (s.taken p e.2.2)]
  unfold State.mgmtTakeIf
  rw [if_neg hp, he]
  exact if_neg (not_not.2 hdst)

end

/-- The frame that a command of the intake asks for, with its MOP, is the one that it takes in. -/
theorem mgmtTakeIf_of_kind {s : State} {p : Fin 11} {kind ask : Frame → Bool} {f : Frame} {u : State} (h : MgmtKind s p kind f u)
    (hnarrow : ∀ g, ask g = true → kind g = true) (htaken : ∀ g, ask (s.taken p g) = ask g) (hask : ask f = true)
    (deliver : State → Frame → State) : s.mgmtTakeIf p ask deliver = deliver u f := by
  unfold MgmtKind at h
  split at h
  next hp =>
    obtain ⟨rest, hq, -, hwait, rfl⟩ := h
    rw [hp]
    exact State.mgmtTakeIf_queue deliver hq hask hwait
  next hp =>
    obtain ⟨e, he, rfl, hdst, hdup, hwait, rfl⟩ := h
    have hkind := State.headFrame_test he
    rw [htaken] at hask
    have he' : s.headFrame p (fun f => f.fkind == 7 && (f.dstmod != s.ownMod || ask f)) = some e := by
      refine State.headFrame_of_imp (fun g hg => ?_) he ?_
      · simp only [Bool.and_eq_true, Bool.or_eq_true] at hg ⊢
        exact ⟨hg.1, hg.2.imp id (hnarrow g)⟩
      · simp only [Bool.and_eq_true, Bool.or_eq_true] at hkind ⊢
        exact ⟨hkind.1, .inr hask⟩
    rw [State.mgmtTakeIf_here deliver (fun h => hp (Fin.ext h)) he' hdst, if_neg (by simp [hdup]), if_neg (by simp [hwait])]
    rfl

theorem MgmtKind.intakeOnly {s : State} {p : Fin 11} {kind : Frame → Bool} {f : Frame} {u : State} (h : MgmtKind s p kind f u) :
    IntakeOnly s u := by
  unfold MgmtKind at h
  split at h
  · obtain ⟨rest, -, -, -, rfl⟩ := h
    exact ⟨rfl, fun _ _ _ => rfl⟩
  · obtain ⟨e, -, -, -, -, -, rfl⟩ := h
    exact (s.intakeOnly_deliveredIn e).trans ((s.deliveredIn e).intakeOnly_mgmtKeep f)

theorem MgmtKind.kind {s : State} {p : Fin 11} {kind : Frame → Bool} {f : Frame} {u : State} (h : MgmtKind s p kind f u)
    (htaken : ∀ g, kind (s.taken p g) = kind g) : kind f = true := by
  unfold MgmtKind at h
  split at h
  · obtain ⟨rest, -, hk, -⟩ := h
    exact hk
  · obtain ⟨e, he, rfl, hdst, -⟩ := h
    have hkind := State.headFrame_test he
    rw [htaken]
    simp only [Bool.and_eq_true, Bool.or_eq_true, bne_iff_ne] at hkind
    exact hkind.2.resolve_left (not_not.2 hdst)

end Sys2Proof.Machine
end

section
open Sys2Proof Sys2Proof.Machine

namespace Sys2Proof.Machine

/-! ### The register at an address, read over VC7 -/

/-- The answer to a read of no register (R29). -/
theorem State.ctlRead_unmapped (s : State) (r : Requester) {a : Nat} (h : mappedReg a = false) : (s.ctlRead r a).1 = allOnes := by
  unfold mappedReg at h
  unfold State.ctlRead
  cases hfind : Reg.find a with
  | none => rfl
  | some x =>
    obtain ⟨row, is⟩ := x
    have : a % 8 ≠ 0 := by simpa [hfind] using h
    exact congrArg Prod.fst (if_pos this)

/-- The row of RTR_SKEY (R270). -/
def skeyRow : RegRow := ⟨"RTR_SKEY", 0x7f200000008, [], [⟨0, 16, .ro, .val 0⟩]⟩

theorem find_skey : Reg.find Reg.RTR_SKEY = some (skeyRow, []) := by rfl

/-- RTR_SKEY shows what it stores: it has no write-only field, and no field shows other state. -/
theorem State.view_skey (s : State) : s.view skeyRow [] Reg.RTR_SKEY = s.reg Reg.RTR_SKEY := by
  have hmask : Reg.maskOf (· == .wo) skeyRow.fields = 0 := by decide
  have hrtr (w : Word64) : s.rtrView skeyRow.base 0 w = w := by
    unfold State.rtrView
    rw [if_neg (by decide), if_neg (by decide)]
  unfold State.view
  dsimp only
  rw [if_neg (by decide), if_neg (by decide), if_neg (by decide), if_neg (by decide), if_pos (by decide), hmask]
  exact (hrtr _).trans (BitVec.and_allOnes (x := s.reg Reg.RTR_SKEY))

theorem State.ctlRead_skey {s : State} (r : Requester) (h : s.ctl.shadow = []) : (s.ctlRead r Reg.RTR_SKEY).1 = s.reg Reg.RTR_SKEY := by
  have hgated : s.gated Reg.RTR_SKEY = false := by
    unfold State.gated
    simp only [Bool.or_eq_false_iff, Bool.and_eq_false_iff, decide_eq_false_iff_not]
    exact ⟨.inr (by decide), .inr (by decide)⟩
  have hupper : s.upperOf skeyRow [] Reg.RTR_SKEY = none := rfl
  have hread : s.regRead r skeyRow [] Reg.RTR_SKEY = (s.view skeyRow [] Reg.RTR_SKEY, s) := by
    unfold State.regRead
    rw [if_neg (by decide), hupper, h]
    rfl
  unfold State.ctlRead
  rw [find_skey]
  dsimp only
  rw [if_neg (by decide), if_neg (by simp [hgated]), hread, s.view_skey]

/-! ### Answers -/

/-- The answer to a register access of another module is originated as a management frame (R270, R294). -/
theorem State.regAnswer_routed {s : State} {f : Frame} (h : f.srcmod ≠ s.ownMod) (mop code : Nat) (d : List Byte) :
    (s.regAnswer f mop code d).rtr = originated s
        { fkind := 7, flags := 16 * s.evr, blen := 8 + d.length, skey := s.get Reg.RTR_SKEY_SKEY, srcmod := s.ownMod, dstmod := f.srcmod,
          cls := 0, hops := 1, tag := f.tag, addr := 0, len := 0, code, aop := 0,
          body := [BitVec.ofNat 8 mop] ++ List.replicate 7 0 ++ d } s.rtr
      ∧ RoutedOnly s (s.regAnswer f mop code d) := by
  have hlen : ([BitVec.ofNat 8 mop] ++ List.replicate 7 0 ++ d).length = 8 + d.length := by simp; omega
  have hroute := State.originate_routed (s := s)
    (f := s.mgmtFrame s.evr f.srcmod f.tag code ([BitVec.ofNat 8 mop] ++ List.replicate 7 0 ++ d)) fun hown => h hown.1
  rw [← hlen]
  exact hroute

/-! ### The commands of the intake -/

/-- The test that MGMT_REGISTER_READ adds: no earlier write of the module that reads is held (R38). -/
def readAsk (s : State) (f : Frame) : Bool := mopOf f == 0x01 && (f.dstmod != s.ownMod || (s.heldOf (.vc7 f.srcmod)).isEmpty)

theorem readAsk_narrow {s : State} {f : Frame} (h : readAsk s f = true) : (mopOf f == 1) = true := (Bool.and_eq_true_iff.1 h).1

/-- A command takes in frames under a test that those with its MOP pass, but for a read from a module with a held write (R38). -/
def TakesIn (s : State) (p : Fin 11) (c : Instr) (mop : Nat) : Prop :=
  ∃ ask deliver, exec c s = .next (s.keeping (s.mgmtTakeIf p ask deliver)) ∧ (∀ g, ask g = true → (mopOf g == mop) = true)
    ∧ ∀ g, (mopOf g == mop) = true → (mop = 1 → g.dstmod = s.ownMod → s.heldOf (.vc7 g.srcmod) = []) → ask g = true

theorem TakesIn.of_mop {s : State} {p : Fin 11} {c : Instr} {mop : Nat} {deliver : State → Frame → State}
    (h : exec c s = .next (s.keeping (s.mgmtTakeIf p (fun f => mopOf f == mop) deliver))) : TakesIn s p c mop :=
  ⟨_, deliver, h, fun _ hg => hg, fun _ hg _ => hg⟩

section
variable {s : State} (p : Fin 11) (hrun : s.running = true)
include hrun

theorem exec_registerRead_eq : exec (.mgmtRegisterRead p) s = .next (s.keeping (s.mgmtTakeIf p (readAsk s) fun u f =>
    (u.ctlRead (.vc7 f.srcmod) f.addr).2.regAnswer f 0x81 (if mappedReg f.addr then 0 else 2)
      (leBytes 8 (u.ctlRead (.vc7 f.srcmod) f.addr).1.toNat))) := by
  rw [show exec (.mgmtRegisterRead p) s = execMgmtRegisterRead p s from rfl]; exact State.run_running _ _ hrun

theorem exec_registerWrite_eq : exec (.mgmtRegisterWrite p) s = .next (s.keeping (s.mgmtTakeIf p (fun f => mopOf f == 2) fun u f =>
    if !u.mgmtAllowed f then u.regAnswer f 0x82 0x05 []
    else (u.ctlWrite (.vc7 f.srcmod) f.addr (BitVec.ofNat 64 (leAt f.body 8 8))).regAnswer f 0x82 (if mappedReg f.addr then 0 else 0x02) [])) := by
  rw [show exec (.mgmtRegisterWrite p) s = execMgmtRegisterWrite p s from rfl]; exact State.run_running _ _ hrun

theorem exec_response_eq {c : Instr} {mop : Nat}
    (hc : (c, mop) ∈ [(Instr.readResponse p, 0x81), (.writeResponse p, 0x82), (.updateAnswer p, 0x85)]) :
    exec c s = .next (s.keeping (s.mgmtTakeIf p (fun f => mopOf f == mop) State.mgmtResponse)) := by
  simp only [List.mem_cons, Prod.mk.injEq, List.not_mem_nil, or_false] at hc
  obtain ⟨rfl, rfl⟩ | ⟨rfl, rfl⟩ | ⟨rfl, rfl⟩ := hc
  · rw [show exec (.readResponse p) s = execReadResponse p s from rfl]; exact State.run_running _ _ hrun
  · rw [show exec (.writeResponse p) s = execWriteResponse p s from rfl]; exact State.run_running _ _ hrun
  · rw [show exec (.updateAnswer p) s = execUpdateAnswer p s from rfl]; exact State.run_running _ _ hrun

theorem exec_eventNotice_eq : exec (.eventNotice p) s = .next (s.keeping (s.mgmtTakeIf p (fun f => mopOf f == 4) State.toFirmware)) := by
  rw [show exec (.eventNotice p) s = execEventNotice p s from rfl]; exact State.run_running _ _ hrun

/-- Each command of the intake takes in the frames with its MOP, and MGMT_REGISTER_READ no frame whose module has a held write. -/
theorem exec_takesIn {c : Instr} {mop : Nat} (hc : (c, mop) ∈ [(Instr.mgmtRegisterRead p, 1), (.mgmtRegisterWrite p, 2),
      (.readResponse p, 0x81), (.writeResponse p, 0x82), (.updateAnswer p, 0x85), (.eventNotice p, 4)]) : TakesIn s p c mop := by
  simp only [List.mem_cons, Prod.mk.injEq, List.not_mem_nil, or_false] at hc
  obtain ⟨rfl, rfl⟩ | ⟨rfl, rfl⟩ | ⟨rfl, rfl⟩ | ⟨rfl, rfl⟩ | ⟨rfl, rfl⟩ | ⟨rfl, rfl⟩ := hc
  · refine ⟨_, _, exec_registerRead_eq p hrun, fun g hg => readAsk_narrow hg, fun g hg hheld => ?_⟩
    rw [readAsk, hg, Bool.true_and]
    by_cases hdst : g.dstmod = s.ownMod
    · simp [hheld rfl hdst]
    · simp [hdst]
  · exact TakesIn.of_mop (exec_registerWrite_eq p hrun)
  · exact TakesIn.of_mop (exec_response_eq p hrun (by simp))
  · exact TakesIn.of_mop (exec_response_eq p hrun (by simp))
  · exact TakesIn.of_mop (exec_response_eq p hrun (by simp))
  · exact TakesIn.of_mop (exec_eventNotice_eq p hrun)

end

/-! ### Counts that stop at their highest value -/

theorem satAdd_eq_min (w v n : Nat) : satAdd w v n = min (v + n) (2 ^ w - 1) := by
  have := Nat.two_pow_pos w
  unfold satAdd
  split <;> omega

theorem State.get_sat (s : State) (l : Loc) (n : Nat) (h : l.lo + l.width ≤ 64) :
    (s.sat l n).get l = min (s.get l + n) (2 ^ l.width - 1) := by
  have := Nat.two_pow_pos l.width
  rw [State.sat, s.get_set l _ h, satAdd_eq_min]
  exact Nat.mod_eq_of_lt (by omega)

/-! ### O42 -/

theorem State.unreached_toFirmware (s : State) (f : Frame) : Unreached s (s.toFirmware f) := ⟨rfl, rfl, rfl⟩
theorem State.unreached_updOut (s : State) (i : Nat) (g : OutEntry → OutEntry) : Unreached s (s.updOut i g) := ⟨rfl, rfl, rfl⟩
theorem State.unreached_sat (s : State) (l : Loc) (n : Nat) : Unreached s (s.sat l n) := ⟨rfl, rfl, rfl⟩

section
variable {s : State} {p : Fin 11} (hrun : s.running = true)
include hrun

theorem exec_registerRead_of_kind {f : Frame} {u : State} (h : MgmtAt s p 1 f u) (hheld : s.heldOf (.vc7 f.srcmod) = []) :
    exec (.mgmtRegisterRead p) s = .next (s.keeping ((u.ctlRead (.vc7 f.srcmod) f.addr).2.regAnswer f 0x81
      (if mappedReg f.addr = true then 0 else 2) (leBytes 8 (u.ctlRead (.vc7 f.srcmod) f.addr).1.toNat))) := by
  have hmop : (mopOf f == 1) = true := h.kind fun _ => rfl
  have hask : readAsk s f = true := by rw [readAsk, hmop, hheld]; simp
  rw [exec_registerRead_eq p hrun, mgmtTakeIf_of_kind h (fun _ hg => readAsk_narrow hg) (fun _ => rfl) hask]

theorem exec_registerWrite_of_kind {f : Frame} {u : State} (h : MgmtAt s p 2 f u) :
    exec (.mgmtRegisterWrite p) s = .next (s.keeping (if !u.mgmtAllowed f then u.regAnswer f 0x82 5 []
      else (u.ctlWrite (.vc7 f.srcmod) f.addr (BitVec.ofNat 64 (leAt f.body 8 8))).regAnswer f 0x82 (if mappedReg f.addr then 0 else 2) [])) := by
  rw [exec_registerWrite_eq p hrun, mgmtTakeIf_of_kind h (fun _ hg => hg) (fun _ => rfl) (h.kind fun _ => rfl)]

theorem exec_response_of_kind {c : Instr} {mop : Nat}
    (hc : (c, mop) ∈ [(Instr.readResponse p, 0x81), (.writeResponse p, 0x82), (.updateAnswer p, 0x85)]) {f : Frame} {u : State}
    (h : MgmtAt s p mop f u) :
    (∀ i e, s.outEntry f = some (i, e) → e.st ≠ 3 → exec c s = .next ((u.updOut i fun x => { x with st := 3 }).toFirmware f))
      ∧ (∀ i e, s.outEntry f = some (i, e) → e.st = 3 → exec c s = .next (u.sat Reg.AON_MGMT_DUPS 1))
      ∧ (s.outEntry f = none → exec c s = .next (u.toFirmware f)) := by
  have hin := h.intakeOnly
  have hout : u.outEntry f = s.outEntry f := hin.field (·.outEntry f) fun _ _ _ _ _ _ => rfl
  rw [exec_response_eq p hrun hc, mgmtTakeIf_of_kind h (fun _ hg => hg) (fun _ => rfl) (h.kind fun _ => rfl), State.mgmtResponse, hout]
  refine ⟨fun i e he hst => ?_, fun i e he hst => ?_, fun he => ?_⟩
  · rw [he]
    dsimp only
    rw [if_neg hst, ((hin.unreached.trans (u.unreached_updOut i _)).trans (State.unreached_toFirmware _ f)).keeping]
  · rw [he]
    dsimp only
    rw [if_pos hst, (hin.unreached.trans (u.unreached_sat _ 1)).keeping]
  · rw [he]
    dsimp only
    rw [(hin.unreached.trans (u.unreached_toFirmware f)).keeping]

theorem exec_eventNotice_of_kind {f : Frame} {u : State} (h : MgmtAt s p 4 f u) :
    ∃ t, exec (.eventNotice p) s = .next t ∧ t.pyl.inbox = s.pyl.inbox ++ [f] ∧ t.ev.fifo = u.ev.fifo ∧ MemSame s t := by
  have hin := h.intakeOnly
  have hinbox : u.pyl.inbox = s.pyl.inbox := hin.field (fun v => v.pyl.inbox) fun _ _ _ _ _ _ => rfl
  refine ⟨u.toFirmware f, ?_, congrArg (· ++ [f]) hinbox, rfl, hin.memSame⟩
  rw [exec_eventNotice_eq p hrun, mgmtTakeIf_of_kind h (fun _ hg => hg) (fun _ => rfl) (h.kind fun _ => rfl),
    (hin.unreached.trans (u.unreached_toFirmware f)).keeping]

section
variable {c : Instr} {mop : Nat} (hc : (c, mop) ∈ [(Instr.mgmtRegisterRead p, 1), (.mgmtRegisterWrite p, 2),
      (.readResponse p, 0x81), (.writeResponse p, 0x82), (.updateAnswer p, 0x85), (.eventNotice p, 4)])
  {e : Nat × Nat × Frame} (hp : p ≠ 10) (he : s.headFrame p (fun f => f.fkind == 7 && (f.dstmod != s.ownMod || mopOf f == mop)) = some e)
include hc hp he

/-- A frame for another module is taken whatever its kind (R278). -/
theorem exec_intake_forward (hdst : (s.taken p e.2.2).dstmod ≠ s.ownMod) :
    exec c s = .next (s.keeping ((s.consume e).forward { port := p, vc := 7, cls := 0 } (s.taken p e.2.2))) := by
  obtain ⟨ask, deliver, hexec, hnarrow, -⟩ := exec_takesIn p hrun hc
  have hkind := State.headFrame_test he
  have hdst' : (e.2.2.dstmod != s.ownMod) = true := bne_iff_ne.2 hdst
  have he' : s.headFrame p (fun f => f.fkind == 7 && (f.dstmod != s.ownMod || ask f)) = some e := by
    refine State.headFrame_of_imp (fun g hg => ?_) he ?_
    · simp only [Bool.and_eq_true, Bool.or_eq_true] at hg ⊢
      exact ⟨hg.1, hg.2.imp id (hnarrow g)⟩
    · rw [hdst', Bool.true_or, Bool.and_true]
      exact (Bool.and_eq_true_iff.1 hkind).1
  rw [hexec, State.mgmtTakeIf_forward deliver (fun h => hp (Fin.ext h)) he' hdst]

/-- A frame for this module of the kind that a command asks for is a duplicate, waits, or is delivered. -/
theorem exec_intake_here (hdst : (s.taken p e.2.2).dstmod = s.ownMod) (hheld : mop = 1 → s.heldOf (.vc7 (s.taken p e.2.2).srcmod) = []) :
    ∃ deliver : State → Frame → State, exec c s = .next (s.keeping (
      if s.mgmtDup (s.taken p e.2.2) then (s.deliveredIn e).sat Reg.AON_MGMT_DUPS 1
      else if s.mgmtWaits (s.taken p e.2.2) then
        if 64 ≤ s.pyl.heldQ.length then ((s.deliveredIn e).mgmtKeep (s.taken p e.2.2)).sat Reg.AON_MGMT_HELDDROP 1
        else { (s.deliveredIn e).mgmtKeep (s.taken p e.2.2) with pyl := { ((s.deliveredIn e).mgmtKeep (s.taken p e.2.2)).pyl with
          heldQ := s.pyl.heldQ ++ [s.taken p e.2.2] } }
      else deliver ((s.deliveredIn e).mgmtKeep (s.taken p e.2.2)) (s.taken p e.2.2))) := by
  obtain ⟨ask, deliver, hexec, hnarrow, hask⟩ := exec_takesIn p hrun hc
  have hkind := State.headFrame_test he
  simp only [Bool.and_eq_true, Bool.or_eq_true, bne_iff_ne] at hkind
  have hmop := hkind.2.resolve_left (not_not.2 hdst)
  have he' : s.headFrame p (fun f => f.fkind == 7 && (f.dstmod != s.ownMod || ask f)) = some e := by
    refine State.headFrame_of_imp (fun g hg => ?_) he ?_
    · simp only [Bool.and_eq_true, Bool.or_eq_true] at hg ⊢
      exact ⟨hg.1, hg.2.imp id (hnarrow g)⟩
    · rw [hask _ hmop fun hm _ => hheld hm, Bool.or_true, Bool.and_true]
      exact hkind.1
  exact ⟨deliver, by rw [hexec, State.mgmtTakeIf_here deliver (fun h => hp (Fin.ext h)) he' hdst]⟩

/-- A duplicate is discarded and counted (R395). -/
theorem exec_intake_dup (hdst : (s.taken p e.2.2).dstmod = s.ownMod) (hheld : mop = 1 → s.heldOf (.vc7 (s.taken p e.2.2).srcmod) = [])
    (hdup : s.mgmtDup (s.taken p e.2.2) = true) :
    ∃ t, exec c s = .next t ∧ t.pyl = s.pyl ∧ MemSame s t ∧ RegsBut [Reg.AON_MGMT] s t
      ∧ t.get Reg.AON_MGMT_DUPS = min (s.get Reg.AON_MGMT_DUPS + 1) (2 ^ Reg.AON_MGMT_DUPS.width - 1) := by
  obtain ⟨deliver, hexec⟩ := exec_intake_here hrun hc hp he hdst hheld
  have hin := s.intakeOnly_deliveredIn e
  have hsat := State.intakeOnly_sat (s.deliveredIn e) Reg.AON_MGMT_DUPS 1 rfl
  have hdups : (s.deliveredIn e).get Reg.AON_MGMT_DUPS = s.get Reg.AON_MGMT_DUPS :=
    (s.deliveredIn_noted e).get _ (show noteReg Reg.AON_MGMT = false by decide)
  refine ⟨(s.deliveredIn e).sat Reg.AON_MGMT_DUPS 1, ?_, s.deliveredIn_pyl e, (hin.trans hsat).memSame, (hin.trans hsat).regs, ?_⟩
  · rw [hexec, if_pos hdup, (hin.trans hsat).unreached.keeping]
  · rw [State.get_sat _ _ _ (by decide), hdups]

/-- A frame that no pylon may serve waits in a queue of 64, or is dropped and counted (R396). -/
theorem exec_intake_waits (hdst : (s.taken p e.2.2).dstmod = s.ownMod) (hdup : s.mgmtDup (s.taken p e.2.2) = false)
    (hwait : s.mgmtWaits (s.taken p e.2.2) = true) (hmop : 2 < mop) :
    (s.pyl.heldQ.length < 64 → ∃ t, exec c s = .next t ∧ t.pyl.heldQ = s.pyl.heldQ ++ [s.taken p e.2.2] ∧ t.pyl.inbox = s.pyl.inbox)
      ∧ (64 ≤ s.pyl.heldQ.length → ∃ t, exec c s = .next t ∧ t.pyl.heldQ = s.pyl.heldQ
          ∧ t.get Reg.AON_MGMT_HELDDROP = min (s.get Reg.AON_MGMT_HELDDROP + 1) (2 ^ Reg.AON_MGMT_HELDDROP.width - 1)) := by
  obtain ⟨deliver, hexec⟩ := exec_intake_here hrun hc hp he hdst fun hm => by omega
  rw [if_neg (by simp [hdup]), if_pos hwait] at hexec
  have hin := (s.intakeOnly_deliveredIn e).trans ((s.deliveredIn e).intakeOnly_mgmtKeep (s.taken p e.2.2))
  have hdrop : ((s.deliveredIn e).mgmtKeep (s.taken p e.2.2)).get Reg.AON_MGMT_HELDDROP = s.get Reg.AON_MGMT_HELDDROP :=
    (State.mgmtKeep_heldDrop _ _).trans ((s.deliveredIn_noted e).get _ (show noteReg Reg.AON_MGMT = false by decide))
  have hheldQ : ((s.deliveredIn e).mgmtKeep (s.taken p e.2.2)).pyl.heldQ = s.pyl.heldQ :=
    (State.mgmtKeep_heldQ _ _).trans (congrArg PylState.heldQ (s.deliveredIn_pyl e))
  have hinbox : ((s.deliveredIn e).mgmtKeep (s.taken p e.2.2)).pyl.inbox = s.pyl.inbox := hin.field (fun v => v.pyl.inbox) fun _ _ _ _ _ _ => rfl
  generalize (s.deliveredIn e).mgmtKeep (s.taken p e.2.2) = u at hexec hdrop hheldQ hinbox
  refine ⟨fun hlen => ⟨_, hexec, ?_, ?_⟩, fun hlen => ⟨_, hexec, ?_, ?_⟩⟩
  · rw [if_neg (Nat.not_le.2 hlen), State.pyl_keeping]
  · rw [if_neg (Nat.not_le.2 hlen), State.pyl_keeping]
    exact hinbox
  · rw [if_pos hlen, State.pyl_keeping, State.pyl_sat]
    exact hheldQ
  · rw [if_pos hlen, State.get_keeping, State.get_sat _ _ _ (by decide), hdrop]

end

end

end Sys2Proof.Machine

/-- Settles O42: the frame that a command takes in is the one that the statement names (`mgmtTakeIf_of_kind`), taking it in leaves all but the
intake as it was (`MgmtKind.intakeOnly`), and an answer is originated as `State.regAnswer_routed` says. -/
theorem managementFrames : Obligations.ManagementFrames := by
  unfold Obligations.ManagementFrames
  intro p s hrun
  refine ⟨fun f u h hheld => ⟨exec_registerRead_of_kind hrun h hheld, fun hmap => ?_, fun haddr hshadow => ?_⟩,
    fun f u h => ⟨fun hno => ?_, fun hyes => ?_⟩, fun f mop code d hsrc => ?_,
    fun c mop hc f u h => exec_response_of_kind hrun hc h, fun f u h => exec_eventNotice_of_kind hrun h, fun c mop hc e hp he => ?_⟩
  · rw [State.ctlRead_unmapped _ _ hmap]
    rfl
  · have hin := h.intakeOnly
    have hsh : u.ctl.shadow = [] := (hin.field (fun v => v.ctl.shadow) fun _ _ _ _ _ _ => rfl).trans hshadow
    rw [haddr, State.ctlRead_skey _ hsh]
    exact hin.regs Reg.RTR_SKEY (by decide) (by decide)
  · rw [exec_registerWrite_of_kind hrun h, if_pos (by simp [hno])]
  · rw [exec_registerWrite_of_kind hrun h, if_neg (by simp [hyes])]
  · obtain ⟨hrtr, honly⟩ := State.regAnswer_routed hsrc mop code d
    exact ⟨_, rfl, honly.regsBut [], honly.memSame, hrtr⟩
  · exact ⟨fun hdst hdup hheld => exec_intake_dup hrun hc hp he hdst hheld hdup,
      fun hdst hdup hwait hmop => exec_intake_waits hrun hc hp he hdst hdup hwait hmop, exec_intake_forward hrun hc hp he⟩
end

section
open Sys2Proof Sys2Proof.Machine

namespace Sys2Proof.Machine

/-! ### What an access to memory leaves alone -/

/-- A field that decides where a frame goes, or with which key and class (R270, R274, R279, R285). -/
def RouteLoc (l : Loc) : Prop :=
  (0x7f200000000 ≤ l.addr ∧ l.addr < 0x7f200080000) ∨ (∃ p < 10, l.addr = Reg.LNK_STATUS p)
    ∨ ∃ d, l.addr = Reg.RTR_ENT_LO d ∧ l.lo + l.width ≤ 16

theorem RouteLoc.ge {l : Loc} (h : RouteLoc l) : 0x7f200000000 ≤ l.addr := by
  obtain ⟨h, -⟩ | ⟨p, -, h⟩ | ⟨d, h, -⟩ := h
  · exact h
  · rw [h]; unfold Reg.LNK_STATUS; omega
  · rw [h]; unfold Reg.RTR_ENT_LO; omega

/-- What an access to memory may change (R169 to R180): DRAM, the landing cache and the piers, what is noted, and no register of the router
that decides where a frame goes. -/
structure MemStep (s t : State) : Prop where
  frame : t = { s with regs := t.regs, ev := t.ev, host := t.host, mem := t.mem, lm := t.lm, free := t.free, pwr := t.pwr }
  route : ∀ l, RouteLoc l → t.get l = s.get l

theorem MemStep.refl (s : State) : MemStep s s := ⟨rfl, fun _ _ => rfl⟩

theorem MemStep.trans {s t u : State} (h : MemStep s t) (k : MemStep t u) : MemStep s u where
  frame := by rw [k.frame, h.frame]
  route l hl := (k.route l hl).trans (h.route l hl)

theorem MemStep.field {s t : State} (h : MemStep s t) {α : Type} (f : State → α)
    (hf : ∀ r e o m l n w, f { s with regs := r, ev := e, host := o, mem := m, lm := l, free := n, pwr := w } = f s) : f t = f s := by
  rw [h.frame]; exact hf _ _ _ _ _ _ _

theorem MemStep.routeSame {s t : State} (h : MemStep s t) : RouteSame s t where
  upd := h.field State.upd fun _ _ _ _ _ _ _ => rfl
  now := h.field State.now fun _ _ _ _ _ _ _ => rfl
  skey := h.route _ (.inl (by decide))
  owned p hp := by
    unfold State.flag
    rw [h.route _ (.inl (by simp only [Reg.RTR_PEER_OWNED, Reg.RTR_PEER]; omega))]
  link p hp := h.route _ (.inr (.inl ⟨p, hp, rfl⟩))
  valid d := by
    unfold State.flag
    rw [h.route _ (.inr (.inr ⟨d, rfl, Nat.le_of_ble_eq_true rfl⟩))]
  hop0 d := h.route _ (.inr (.inr ⟨d, rfl, Nat.le_of_ble_eq_true rfl⟩))
  hop1 d := h.route _ (.inr (.inr ⟨d, rfl, Nat.le_of_ble_eq_true rfl⟩))
  hop2 d := h.route _ (.inr (.inr ⟨d, rfl, Nat.le_of_ble_eq_true rfl⟩))

/-- As `MemStep`, with no byte of DRAM changed. -/
structure LmStep (s t : State) : Prop extends MemStep s t where
  mem : t.mem = s.mem

theorem LmStep.refl (s : State) : LmStep s s := ⟨MemStep.refl s, rfl⟩

theorem LmStep.trans {s t u : State} (h : LmStep s t) (k : LmStep t u) : LmStep s u :=
  ⟨h.toMemStep.trans k.toMemStep, k.mem.trans h.mem⟩

theorem LmStep.ite {s t u : State} {c : Prop} [Decidable c] (h : LmStep s t) (k : LmStep s u) : LmStep s (if c then t else u) := by
  split <;> assumption

theorem LmStep.byte {s t : State} (h : LmStep s t) (a : Nat) : t.byte a = s.byte a := by
  unfold State.byte; rw [h.mem]

theorem lmStep_lm (s : State) (x : MemState) : LmStep s { s with lm := x } := ⟨⟨rfl, fun _ _ => rfl⟩, rfl⟩

theorem lmStep_setPier (s : State) (l : Loc) (n : Nat) (h : l.addr < 0x7f200000000) : LmStep s (s.set l n) :=
  ⟨⟨rfl, fun m hm => s.get_set_ne l m n (by have := hm.ge; omega)⟩, rfl⟩

theorem lmStep_satPier (s : State) (l : Loc) (n : Nat) (h : l.addr < 0x7f200000000) : LmStep s (s.sat l n) := lmStep_setPier s l _ h

/-- An event of a pier's counter bank. -/
theorem lmStep_countQ (s : State) (l code : Nat) (v : Nat → Nat) : LmStep s (s.countQ 2 (pierOf l) code v) := by
  have hp : pierOf l < 4 := Nat.mod_lt _ (by decide)
  have hnote := noted_countQ s 2 (pierOf l) code v hp
  have hmem : (s.countQ 2 (pierOf l) code v).mem = s.mem := hnote.field State.mem fun _ _ _ => rfl
  refine ⟨⟨?_, fun m hm => State.get_of_reg (bankOnly_countQ s 2 (pierOf l) code v _ (.inr ?_))⟩, hmem⟩
  · have heq := hnote.1
    generalize s.countQ 2 (pierOf l) code v = t at heq
    rw [heq]
  · have := hm.ge
    simp only [bankBase, Reg.PIER_PMC_ID]
    omega

theorem lmStep_count (s : State) (l code v : Nat) : LmStep s (s.count 2 (pierOf l) code v) := lmStep_countQ s l code _

/-! ### What is noted of an access -/

/-- The register of a field that decides where a frame goes holds 0 in the last 4 bits of its address, or lies below the recorders. -/
theorem RouteLoc.addr_mod {m : Loc} (h : RouteLoc m) : m.addr < 0x7f400000000 ∨ m.addr % 16 = 0 ∧ m.lo + m.width ≤ 16 := by
  obtain ⟨-, h⟩ | ⟨p, hp, h⟩ | ⟨d, h, hfit⟩ := h
  · exact .inl (by omega)
  · exact .inl (by rw [h]; unfold Reg.LNK_STATUS; omega)
  · exact .inr ⟨by rw [h]; unfold Reg.RTR_ENT_LO; omega, hfit⟩

/-- A field of the registers that note an occurrence. -/
def NoteLoc (l : Loc) (r : Nat) : Prop :=
  l.addr = Reg.EVR_LOST r ∨ l.addr = Reg.AON_EVINTAKE ∨ l.addr = Reg.EVR_SEVLOST r ∧ 16 ≤ l.lo ∧ l.lo + l.width ≤ 64

/-- The registers that note an occurrence hold no field that decides where a frame goes. -/
theorem get_set_note (s : State) {l m : Loc} (n : Nat) {r : Nat} (h : NoteLoc l r) (hm : RouteLoc m) : (s.set l n).get m = s.get m := by
  by_cases haddr : m.addr = l.addr
  · have hmod := hm.addr_mod
    rw [haddr] at hmod
    unfold NoteLoc Reg.EVR_LOST Reg.AON_EVINTAKE Reg.EVR_SEVLOST at h
    exact s.get_set_below l m n haddr (by omega) (by omega)
  · exact s.get_set_ne l m n haddr

theorem lmStep_ev (s : State) (x : EventState) : LmStep s { s with ev := x } := ⟨⟨rfl, fun _ _ => rfl⟩, rfl⟩

theorem lmStep_setNote (s : State) {l : Loc} (n : Nat) {r : Nat} (h : NoteLoc l r) : LmStep s (s.set l n) :=
  ⟨⟨rfl, fun _ hm => get_set_note s n h hm⟩, rfl⟩

theorem lmStep_evEnqueue (s : State) (o : Occ) (h : o.sev = 2 ∨ o.sev = 3) : LmStep s (s.evEnqueue o) := by
  have hlost : NoteLoc (evSevLost s.evr o.sev) s.evr := by
    rcases h with h | h <;> rw [h] <;> exact .inr (.inr ⟨rfl, Nat.le_of_ble_eq_true rfl, Nat.le_of_ble_eq_true rfl⟩)
  unfold State.evEnqueue
  split
  · exact LmStep.ite (lmStep_ev s _) (lmStep_setNote s _ hlost)
  · exact LmStep.ite ((lmStep_ev s _).trans (lmStep_setNote (r := 0) _ _ (.inr (.inl rfl)))) (lmStep_ev s _)

theorem lmStep_occurSev (s : State) (code sev src : Nat) (data : List Byte) (h : sev = 2 ∨ sev = 3) : LmStep s (s.occurSev code sev src data) := by
  unfold State.occurSev
  dsimp only
  refine LmStep.ite (lmStep_setNote s _ (.inl rfl)) (LmStep.ite (lmStep_evEnqueue s _ h)
    (LmStep.ite ((lmStep_ev s _).trans (lmStep_evEnqueue _ _ h)) ?_))
  exact (lmStep_ev s _).trans (lmStep_setNote _ _ (.inl rfl))

end Sys2Proof.Machine
end

section
open Sys2Proof Sys2Proof.Machine

namespace Sys2Proof.Machine

/-! ### The landing cache, the code buffer and the devices -/

theorem pierOf_lt (l : Nat) : pierOf l < 4 := Nat.mod_lt _ (by decide)

theorem lcPlace_pier (l : Nat) : lcPlace l / 49152 = pierOf l := by unfold lcPlace; omega

theorem lmStep_setLcSet (s : State) (p : Nat) (x : LcSet) : LmStep s (s.setLcSet p x) := lmStep_lm s _
theorem lmStep_touchWay (s : State) (p w : Nat) : LmStep s (s.touchWay p w) := lmStep_lm s _
theorem lmStep_putWay (s : State) (p w : Nat) (x : Way) : LmStep s (s.putWay p w x) := lmStep_lm s _

theorem lmStep_codeStore (s : State) (e : CodeEntry) : LmStep s (s.codeStore e) := lmStep_lm s _

theorem lmStep_codeFlush (s : State) (e : CodeEntry) : LmStep s (s.codeFlush e) :=
  (lmStep_codeStore s e).trans (lmStep_count _ _ _ _)

theorem lmStep_codePut (s : State) (e : CodeEntry) : LmStep s (s.codePut e) := by
  unfold State.codePut
  dsimp only
  split
  · exact (lmStep_lm s _).trans (lmStep_codeFlush _ _)
  · exact lmStep_lm s _

theorem lmStep_codeRead (s : State) (l cmask : Nat) : LmStep s (s.codeRead l cmask) := lmStep_codePut s _

theorem lmStep_codeWrite (s : State) (l : Nat) : LmStep s (s.codeWrite l) := by
  unfold State.codeWrite
  dsimp only
  split
  · exact (lmStep_codeStore s _).trans (lmStep_codePut _ _)
  · exact lmStep_codePut s _

theorem lmStep_codeDropClean (s : State) (l : Nat) : LmStep s (s.codeDropClean l) := lmStep_lm s _

theorem lmStep_pwr (s : State) (x : PowerState) : LmStep s { s with pwr := x } := ⟨⟨rfl, fun _ _ => rfl⟩, rfl⟩

theorem LmStep.when {s t : State} (h : LmStep s t) (c : Bool) (f : State → State) (hf : LmStep t (f t)) : LmStep s (t.when c f) := by
  unfold State.when
  split
  · exact h.trans hf
  · exact h

theorem lmStep_pierWake (s : State) (l : Nat) : LmStep s (s.pierWake (pierOf l)) := by
  have hp := pierOf_lt l
  unfold State.pierWake
  refine LmStep.when (LmStep.when (LmStep.refl s) _ _ (lmStep_setPier s _ _ ?_)) _ _ (lmStep_pwr _ _)
  simp only [Reg.PIER_STATUS_SREF, Reg.PIER_STATUS]
  omega

theorem lmStep_openRow (s : State) (l : Nat) : LmStep s (s.openRow l) := by
  unfold State.openRow
  exact (lmStep_lm s _).trans (lmStep_countQ _ l _ _)

theorem lmStep_dramFetch (s : State) (l cmask : Nat) : LmStep s (s.dramFetch l cmask) := by
  unfold State.dramFetch
  exact (((lmStep_pierWake s l).trans (lmStep_openRow _ l)).trans (lmStep_countQ _ l _ _)).trans (lmStep_codeRead _ l cmask)

theorem lmStep_dramWrite (s : State) (l : Nat) : LmStep s (s.dramWrite l) := by
  unfold State.dramWrite
  exact ((((lmStep_lm s _).trans (lmStep_pierWake _ l)).trans (lmStep_openRow _ l)).trans (lmStep_countQ _ l _ _)).trans (lmStep_codeWrite _ l)

theorem lmStep_dramAgain (s : State) (l cmask : Nat) : LmStep s (s.dramAgain l cmask) := by
  unfold State.dramAgain
  exact ((lmStep_codeDropClean s l).trans (lmStep_count _ l _ _)).trans (lmStep_dramFetch _ l cmask)

/-- One read of a line from DRAM, or re-read. -/
def State.dramTry (s : State) (l : Nat) (m : Nat → Nat × Nat) (k : Nat) : State :=
  if k = 0 then s.dramFetch l (m k).2 else s.dramAgain l (m k).2

theorem State.dramReads_succ (l : Nat) (m : Nat → Nat × Nat) (n k : Nat) (s : State) :
    State.dramReads l m (n + 1) k s =
      if ((s.dramTry l m k).dramRead l (m k).1).2 then (some ((s.dramTry l m k).dramRead l (m k).1).1, k + 1, s.dramTry l m k)
      else State.dramReads l m n (k + 1) (s.dramTry l m k) := rfl

theorem lmStep_dramTry (s : State) (l : Nat) (m : Nat → Nat × Nat) (k : Nat) : LmStep s (s.dramTry l m k) :=
  LmStep.ite (lmStep_dramFetch s l _) (lmStep_dramAgain s l _)

theorem lmStep_dramReads (l : Nat) (m : Nat → Nat × Nat) (n k : Nat) (s : State) : LmStep s (State.dramReads l m n k s).2.2 := by
  induction n generalizing k s with
  | zero => exact LmStep.refl s
  | succ n ih =>
    rw [State.dramReads_succ]
    split
    · exact lmStep_dramTry s l m k
    · exact (lmStep_dramTry s l m k).trans (ih _ _)

theorem lmStep_occur (s : State) (code src : Nat) (data : List Byte) (h : evSev code = 2 ∨ evSev code = 3) : LmStep s (s.occur code src data) :=
  lmStep_occurSev s code _ src data h

theorem lmStep_rereadOk (s : State) (l : Nat) : LmStep s (s.rereadOk l) := by
  have hp := pierOf_lt l
  exact lmStep_satPier s _ _ (by simp only [Reg.PIER_DET_REREAD_OK, Reg.PIER_DET]; omega)

theorem lmStep_mergeFail (s : State) (l : Nat) : LmStep s (s.sat (Reg.PIER_DET_MERGEFAIL (pierOf l)) 1) := by
  have hp := pierOf_lt l
  exact lmStep_satPier s _ _ (by simp only [Reg.PIER_DET_MERGEFAIL, Reg.PIER_DET]; omega)

theorem lmStep_detectionFailure (s : State) (l : Nat) : LmStep s (s.detectionFailure l) := by
  have hp := pierOf_lt l
  have hset (u : State) (m : Loc) (n : Nat) (hm : m.addr = Reg.PIER_DET (pierOf l) ∨ m.addr = Reg.PIER_DET_LAST (pierOf l)) :
      LmStep u (u.set m n) := lmStep_setPier u m n (by unfold Reg.PIER_DET Reg.PIER_DET_LAST at hm; omega)
  unfold State.detectionFailure
  exact ((((hset s _ _ (.inl rfl)).trans (hset _ _ _ (.inr rfl))).trans (hset _ _ _ (.inr rfl))).trans (hset _ _ _ (.inr rfl))).trans
    (lmStep_occur _ _ _ _ (.inr rfl))

theorem lmStep_fillPlace (s : State) (p : Nat) (rol : Bool) : LmStep s (s.fillPlace p rol).2 := by
  unfold State.fillPlace
  split
  · exact LmStep.refl s
  · dsimp only
    split
    · exact lmStep_dramWrite s _
    · exact LmStep.refl s

theorem lmStep_installLocal (s : State) (l : Nat) : LmStep s (s.installLocal l) := by
  unfold State.installLocal
  exact LmStep.ite (LmStep.refl s) ((lmStep_fillPlace s _ _).trans (lmStep_putWay _ _ _ _))

theorem lmStep_lineHit (s : State) (l : Nat) (touch : Bool) : LmStep s (s.lineHit l touch) := by
  unfold State.lineHit
  dsimp only
  split
  · exact (lmStep_count s l _ _).trans (LmStep.ite (lmStep_touchWay _ _ _) (LmStep.refl _))
  · exact lmStep_count s l _ _

theorem lmStep_writeAlloc (s : State) (l : Nat) (nal : Bool) : LmStep s (s.writeAlloc l nal) := by
  unfold State.writeAlloc
  split
  · exact lmStep_touchWay s _ _
  · exact LmStep.ite (LmStep.refl s) (lmStep_installLocal s l)

theorem lmStep_lcError (s : State) (l ecc : Nat) : LmStep s (s.lcError l ecc) := by
  have hp := pierOf_lt l
  have hsat (u : State) (m : Loc) (hm : m.addr = Reg.PIER_LC_ERR (pierOf l)) : LmStep u (u.sat m 1) :=
    lmStep_satPier u m 1 (by unfold Reg.PIER_LC_ERR at hm; omega)
  unfold State.lcError
  split
  · unfold State.wayError
    rw [lcPlace_pier]
    split
    · exact hsat s _ rfl
    · exact (lmStep_setLcSet s _ _).trans (hsat _ _ rfl)
    · exact LmStep.refl s
  · exact LmStep.refl s

theorem lmStep_drawn (s : State) : LmStep s s.drawn := ⟨⟨rfl, fun _ _ => rfl⟩, rfl⟩

theorem lmStep_unmappedOther (s : State) (a : Nat) : LmStep s (s.unmappedOther a) := by
  unfold State.unmappedOther State.unmapped
  exact (lmStep_drawn s).trans (lmStep_occur _ _ _ _ (.inl rfl))

/-! ### Bytes -/

theorem memStep_putBytes (s : State) (a : Nat) (d : List Byte) : MemStep s (s.putBytes a d) := ⟨rfl, fun _ _ => rfl⟩

theorem State.byte_putBytes_ne (s : State) {a b : Nat} (d : List Byte) (h : b < a ∨ a + d.length ≤ b) : (s.putBytes a d).byte b = s.byte b := by
  rcases h with h | h
  · exact memPut_below s.mem d h
  · exact memPut_above s.mem d h

theorem State.byte_putBytes_at (s : State) (a : Nat) (d : List Byte) (k : Nat) (h : k < d.length) : (s.putBytes a d).byte (a + k) = d[k] :=
  memPut_at s.mem d a k h

/-- Only bytes of the line `l` may differ. -/
def LineOnly (l : Nat) (s t : State) : Prop := ∀ a, lineOf a ≠ l → t.byte a = s.byte a

theorem LineOnly.trans {l : Nat} {s t u : State} (h : LineOnly l s t) (k : LineOnly l t u) : LineOnly l s u :=
  fun a ha => (k a ha).trans (h a ha)

theorem LmStep.lineOnly {s t : State} (h : LmStep s t) (l : Nat) : LineOnly l s t := fun a _ => h.byte a

theorem lineOnly_putBytes (s : State) {l a : Nat} (d : List Byte) (hlo : 64 * l ≤ a) (hhi : a + d.length ≤ 64 * l + 64) :
    LineOnly l s (s.putBytes a d) :=
  fun b hb => s.byte_putBytes_ne d (by unfold lineOf at hb; omega)

theorem length_leBytes (n v : Nat) : (leBytes n v).length = n := by
  induction n generalizing v with
  | zero => rfl
  | succ n ih => simp [leBytes, ih]

/-- The bytes that a read of DRAM gives are a line. -/
theorem length_dramReads {l : Nat} {m : Nat → Nat × Nat} {n k : Nat} {s : State} {d : List Byte}
    (h : (State.dramReads l m n k s).1 = some d) : d.length = 64 := by
  induction n generalizing k s with
  | zero => cases h
  | succ n ih =>
    rw [State.dramReads_succ] at h
    split at h
    · obtain rfl := Option.some.inj h
      exact length_leBytes 64 _
    · exact ih h

theorem memStep_lineTake (s : State) (l : Nat) (d : List Byte) : MemStep s (s.lineTake l d) := by
  unfold State.lineTake
  split
  · exact MemStep.refl s
  · exact memStep_putBytes s _ _

theorem lineOnly_lineTake (s : State) (l : Nat) {d : List Byte} (hd : d.length = 64) : LineOnly l s (s.lineTake l d) := by
  unfold State.lineTake
  split
  · exact fun _ _ => rfl
  · exact lineOnly_putBytes s d (Nat.le_refl _) (by omega)

/-- A store into a line: the bytes, and the wait for the DRAM write (R176). -/
theorem State.lineStore_step (s : State) (l off : Nat) (d : List Byte) :
    MemStep s (s.lineStore l off d) ∧ (∀ a, (s.lineStore l off d).byte a = (s.putBytes (64 * l + off) d).byte a) := by
  have hwake := lmStep_pierWake s l
  refine ⟨(hwake.toMemStep.trans (memStep_putBytes _ _ d)).trans (lmStep_lm _ _).toMemStep, fun a => ?_⟩
  have : (s.lineStore l off d).mem = (s.putBytes (64 * l + off) d).mem := congrArg (memPut · (64 * l + off) d) hwake.mem
  unfold State.byte
  rw [this]

end Sys2Proof.Machine
end

section
open Sys2Proof Sys2Proof.Machine

namespace Sys2Proof.Machine

/-! ### Accesses to one line -/

/-- An access to the line `l`: no other line changes (R169, R176, R178). -/
structure LineStep (l : Nat) (s t : State) : Prop extends MemStep s t where
  line : LineOnly l s t

theorem LineStep.trans {l : Nat} {s t u : State} (h : LineStep l s t) (k : LineStep l t u) : LineStep l s u :=
  ⟨h.toMemStep.trans k.toMemStep, h.line.trans k.line⟩

theorem LmStep.lineStep {s t : State} (h : LmStep s t) (l : Nat) : LineStep l s t := ⟨h.toMemStep, h.lineOnly l⟩

theorem LineStep.ite {l : Nat} {s t u : State} {c : Prop} [Decidable c] (h : LineStep l s t) (k : LineStep l s u) :
    LineStep l s (if c then t else u) := by
  split <;> assumption

theorem lineStep_lineTake (s : State) (l : Nat) {d : List Byte} (hd : d.length = 64) : LineStep l s (s.lineTake l d) :=
  ⟨memStep_lineTake s l d, lineOnly_lineTake s l hd⟩

theorem lineStep_lineStore (s : State) (l off : Nat) {d : List Byte} (hd : off + d.length ≤ 64) : LineStep l s (s.lineStore l off d) := by
  obtain ⟨hstep, hbyte⟩ := s.lineStore_step l off d
  exact ⟨hstep, fun a ha => (hbyte a).trans (lineOnly_putBytes s d (Nat.le_add_right ..) (by omega) a ha)⟩

/-- The state as an access meets it: what the storage cells get wrong is drawn, and an array error acts (R180). -/
def State.met (s : State) (l : Nat) : State := s.drawn.lcError l (Config.upsetArray s.free % 3)

/-- A line that an array error drops is filled again whatever NAL says. -/
def State.metNal (s : State) (l : Nat) (nal : Bool) : Bool := nal && !(s.cached l && Config.upsetArray s.free % 3 == 2)

theorem lmStep_met (s : State) (l : Nat) : LmStep s (s.met l) := (lmStep_drawn s).trans (lmStep_lcError _ _ _)

/-- A line that reads of DRAM have given, counted as made good if it took more than one. -/
def goodRead (l : Nat) (r : Option (List Byte) × Nat × State) : State := if r.2.1 = 1 then r.2.2 else r.2.2.rereadOk l

theorem lmStep_goodRead (l : Nat) (r : Option (List Byte) × Nat × State) : LmStep r.2.2 (goodRead l r) :=
  LmStep.ite (LmStep.refl _) (lmStep_rereadOk _ l)

/-- A read once DRAM has answered (R169). -/
def readDone (l : Nat) (nal : Bool) (r : Option (List Byte) × Nat × State) : Option (List Byte) × Nat × State :=
  match r.1 with
  | some d => (some d, r.2.1, if nal then goodRead l r else ((goodRead l r).lineTake l d).installLocal l)
  | none => (none, r.2.1, r.2.2.detectionFailure l)

/-- What reads of a line from DRAM answer, as `State.dramReads` does. The equations below hold whatever it is; with `State.dramReads` in its
place, checking them would run it. -/
abbrev Reads := Nat → (Nat → Nat × Nat) → Nat → Nat → State → Option (List Byte) × Nat × State

/-- A read whose line the slice does not hold (R169, R176). -/
def State.missRead (reads : Reads) (s : State) (l n : Nat) (nal : Bool) : Option (List Byte) × Nat × State :=
  if s.writePending l then (some (s.lineBytes l), 0, if nal then s else s.installLocal l)
  else readDone l nal (reads l (Config.upsetRead n) 2 0 s)

/-- `State.sliceRead` under any answer of DRAM. -/
def State.sliceReadBy (reads : Reads) (s : State) (l : Nat) (nal : Bool) : Option (List Byte) × Nat × State :=
  let n := s.free
  let e := Config.upsetArray n % 3
  let nal := nal && !(s.cached l && e == 2)
  let s := s.drawn.lcError l e
  if s.cached l then (some (s.lineBytes l), 0, s.lineHit l (!nal))
  else
    let s := s.count 2 (pierOf l) 0x004 1
    if s.writePending l then (some (s.lineBytes l), 0, if nal then s else s.installLocal l)
    else
      let r := reads l (Config.upsetRead n) 2 0 s
      match r.1 with
      | some d =>
        let s := if r.2.1 = 1 then r.2.2 else r.2.2.rereadOk l
        (some d, r.2.1, if nal then s else (s.lineTake l d).installLocal l)
      | none => (none, r.2.1, r.2.2.detectionFailure l)

theorem State.sliceReadBy_dram (s : State) (l : Nat) (nal : Bool) : s.sliceRead l nal = State.sliceReadBy State.dramReads s l nal := rfl

theorem State.sliceReadBy_eq (reads : Reads) (s : State) (l : Nat) (nal : Bool) :
    State.sliceReadBy reads s l nal =
      if (s.met l).cached l then (some ((s.met l).lineBytes l), 0, (s.met l).lineHit l (!s.metNal l nal))
      else State.missRead reads ((s.met l).count 2 (pierOf l) 0x004 1) l s.free (s.metNal l nal) := rfl

theorem State.sliceRead_eq (s : State) (l : Nat) (nal : Bool) :
    s.sliceRead l nal =
      if (s.met l).cached l then (some ((s.met l).lineBytes l), 0, (s.met l).lineHit l (!s.metNal l nal))
      else State.missRead State.dramReads ((s.met l).count 2 (pierOf l) 0x004 1) l s.free (s.metNal l nal) :=
  (s.sliceReadBy_dram l nal).trans (State.sliceReadBy_eq State.dramReads s l nal)

theorem State.lineRead_snd (s : State) (l : Nat) (nal : Bool) : (s.lineRead l nal).2 = (s.sliceRead l nal).2.2 := rfl

theorem lineStep_readDone (l : Nat) (nal : Bool) {r : Option (List Byte) × Nat × State} (hlen : ∀ d, r.1 = some d → d.length = 64) :
    LineStep l r.2.2 (readDone l nal r).2.2 := by
  have hgood := lmStep_goodRead l r
  unfold readDone
  split
  next d hd =>
    exact LineStep.ite (hgood.lineStep l)
      (((hgood.lineStep l).trans (lineStep_lineTake _ l (hlen d hd))).trans ((lmStep_installLocal _ l).lineStep l))
  · exact (lmStep_detectionFailure _ l).lineStep l

theorem lineStep_missRead (s : State) (l n : Nat) (nal : Bool) : LineStep l s (State.missRead State.dramReads s l n nal).2.2 := by
  unfold State.missRead
  split
  · exact LineStep.ite ((LmStep.refl s).lineStep l) ((lmStep_installLocal s l).lineStep l)
  · exact ((lmStep_dramReads l _ 2 0 s).lineStep l).trans (lineStep_readDone l nal fun d hd => length_dramReads hd)

theorem lineStep_lineRead (s : State) (l : Nat) (nal : Bool) : LineStep l s (s.lineRead l nal).2 := by
  have hmet := lmStep_met s l
  rw [State.lineRead_snd, State.sliceRead_eq]
  split
  · exact (hmet.trans (lmStep_lineHit _ l _)).lineStep l
  · exact ((hmet.trans (lmStep_count _ l _ _)).lineStep l).trans (lineStep_missRead _ l _ _)

/-- A write that needs a merge, once DRAM has answered (R172). -/
def mergeDone (l off : Nat) (data : List Byte) (nal : Bool) (r : Option (List Byte) × Nat × State) : Bool × State :=
  match r.1 with
  | some d => (true, (((goodRead l r).lineTake l d).lineStore l off data).writeAlloc l nal)
  | none => (false, r.2.2.sat (Reg.PIER_DET_MERGEFAIL (pierOf l)) 1)

/-- `State.lineWrite` under any answer of DRAM. -/
def State.lineWriteBy (reads : Reads) (s : State) (l off : Nat) (data : List Byte) (nal : Bool) : Bool × State :=
  let n := s.free
  let e := Config.upsetArray n % 3
  let nal := nal && !(s.cached l && e == 2)
  let s := s.drawn.lcError l e
  if s.cached l || s.writePending l || data.length == 64 then (true, (s.lineStore l off data).writeAlloc l nal)
  else
    let r := reads l (Config.upsetRead n) 3 0 (s.count 2 (pierOf l) 0x004 1)
    match r.1 with
    | some d =>
      let s := if r.2.1 = 1 then r.2.2 else r.2.2.rereadOk l
      (true, ((s.lineTake l d).lineStore l off data).writeAlloc l nal)
    | none => (false, r.2.2.sat (Reg.PIER_DET_MERGEFAIL (pierOf l)) 1)

theorem State.lineWriteBy_dram (s : State) (l off : Nat) (data : List Byte) (nal : Bool) :
    s.lineWrite l off data nal = State.lineWriteBy State.dramReads s l off data nal := rfl

theorem State.lineWriteBy_eq (reads : Reads) (s : State) (l off : Nat) (data : List Byte) (nal : Bool) :
    State.lineWriteBy reads s l off data nal =
      if (s.met l).cached l || (s.met l).writePending l || data.length == 64 then
        (true, ((s.met l).lineStore l off data).writeAlloc l (s.metNal l nal))
      else mergeDone l off data (s.metNal l nal) (reads l (Config.upsetRead s.free) 3 0 ((s.met l).count 2 (pierOf l) 0x004 1)) := rfl

theorem State.lineWrite_eq (s : State) (l off : Nat) (data : List Byte) (nal : Bool) :
    s.lineWrite l off data nal =
      if (s.met l).cached l || (s.met l).writePending l || data.length == 64 then
        (true, ((s.met l).lineStore l off data).writeAlloc l (s.metNal l nal))
      else mergeDone l off data (s.metNal l nal)
        (State.dramReads l (Config.upsetRead s.free) 3 0 ((s.met l).count 2 (pierOf l) 0x004 1)) :=
  (s.lineWriteBy_dram l off data nal).trans (State.lineWriteBy_eq State.dramReads s l off data nal)

/-- A write that is performed stores its bytes. -/
def Stored (a : Nat) (d : List Byte) (t : State) : Prop := ∀ k (h : k < d.length), t.byte (a + k) = d[k]

theorem Stored.lmStep {a : Nat} {d : List Byte} {t u : State} (h : Stored a d t) (k : LmStep t u) : Stored a d u :=
  fun i hi => (k.byte _).trans (h i hi)

theorem stored_lineStore (s : State) (l off : Nat) (d : List Byte) : Stored (64 * l + off) d (s.lineStore l off d) :=
  fun k hk => ((s.lineStore_step l off d).2 _).trans (s.byte_putBytes_at _ d k hk)

theorem stepStored_mergeDone (l off : Nat) {data : List Byte} (nal : Bool) {r : Option (List Byte) × Nat × State}
    (hlen : ∀ d, r.1 = some d → d.length = 64) (hd : off + data.length ≤ 64) :
    LineStep l r.2.2 (mergeDone l off data nal r).2
      ∧ ((mergeDone l off data nal r).1 = true → Stored (64 * l + off) data (mergeDone l off data nal r).2) := by
  unfold mergeDone
  split
  next d hd' =>
    have htaken := ((lmStep_goodRead l r).lineStep l).trans (lineStep_lineTake _ l (hlen d hd'))
    exact ⟨(htaken.trans (lineStep_lineStore _ l off hd)).trans ((lmStep_writeAlloc _ l nal).lineStep l),
      fun _ => (stored_lineStore _ l off data).lmStep (lmStep_writeAlloc _ l nal)⟩
  · exact ⟨(lmStep_mergeFail _ l).lineStep l, fun h => by cases h⟩

theorem stepStored_lineWrite (s : State) (l off : Nat) {data : List Byte} (nal : Bool) (hd : off + data.length ≤ 64) :
    LineStep l s (s.lineWrite l off data nal).2
      ∧ ((s.lineWrite l off data nal).1 = true → Stored (64 * l + off) data (s.lineWrite l off data nal).2) := by
  have hmet := lmStep_met s l
  rw [State.lineWrite_eq]
  split
  · exact ⟨((hmet.lineStep l).trans (lineStep_lineStore _ l off hd)).trans ((lmStep_writeAlloc _ l _).lineStep l),
      fun _ => (stored_lineStore _ l off data).lmStep (lmStep_writeAlloc _ l _)⟩
  · obtain ⟨hstep, hstored⟩ := stepStored_mergeDone l off (data := data) (s.metNal l nal)
      (r := State.dramReads l (Config.upsetRead s.free) 3 0 ((s.met l).count 2 (pierOf l) 0x004 1)) (fun d hd => length_dramReads hd) hd
    exact ⟨((hmet.trans ((lmStep_count _ l _ _).trans (lmStep_dramReads l _ 3 0 _))).lineStep l).trans hstep, hstored⟩

end Sys2Proof.Machine
end

section
open Sys2Proof Sys2Proof.Machine

namespace Sys2Proof.Machine

/-! ### Writes of a range -/

/-- One piece of a write: whether it was performed, the state, and the bytes that are left. -/
def writePiece (nal : Bool) (acc : Bool × State × List Byte) (x : Nat × Nat × Nat) : Bool × State × List Byte :=
  let r := if dramLine x.1 then acc.2.1.lineWrite x.1 x.2.1 (acc.2.2.take x.2.2) nal
    else (true, acc.2.1.putBytes (64 * x.1 + x.2.1) (acc.2.2.take x.2.2))
  (acc.1 && r.1, r.2, acc.2.2.drop x.2.2)

theorem State.memWrite_of_hole {s : State} {a e : Nat} {data : List Byte} (nal : Bool) (h : rangeHole a data.length = some e) :
    s.memWrite a data nal = (false, s.unmappedOther e) := by
  unfold State.memWrite; rw [h]

theorem State.memWrite_of_mapped {s : State} {a : Nat} {data : List Byte} (nal : Bool) (h : rangeHole a data.length = none) :
    s.memWrite a data nal =
      (((piecesOf a data.length).foldl (writePiece nal) (true, s, data)).1, ((piecesOf a data.length).foldl (writePiece nal) (true, s, data)).2.1) := by
  unfold State.memWrite; rw [h]; rfl

theorem stepStored_writePiece (nal ok : Bool) (s : State) (rest : List Byte) (l off k : Nat) (hk : off + k ≤ 64) :
    LineStep l s (writePiece nal (ok, s, rest) (l, off, k)).2.1
      ∧ ((writePiece nal (ok, s, rest) (l, off, k)).1 = true →
          ok = true ∧ Stored (64 * l + off) (rest.take k) (writePiece nal (ok, s, rest) (l, off, k)).2.1) := by
  have hlen : off + (rest.take k).length ≤ 64 := by rw [List.length_take]; omega
  unfold writePiece
  dsimp only
  split
  · obtain ⟨hstep, hstored⟩ := stepStored_lineWrite s l off nal hlen
    exact ⟨hstep, fun h => ⟨(Bool.and_eq_true_iff.1 h).1, hstored (Bool.and_eq_true_iff.1 h).2⟩⟩
  · exact ⟨⟨memStep_putBytes s _ _, lineOnly_putBytes s _ (Nat.le_add_right ..) (by omega)⟩,
      fun h => ⟨(Bool.and_eq_true_iff.1 h).1, fun i hi => s.byte_putBytes_at _ _ i hi⟩⟩

theorem linePieces_zero (fuel a : Nat) : linePieces fuel a 0 = [] := by
  cases fuel <;> rfl

theorem linePieces_succ (fuel a : Nat) {n : Nat} (h : n ≠ 0) :
    linePieces (fuel + 1) a n = (lineOf a, a % 64, min (64 - a % 64) n) :: linePieces fuel (a + min (64 - a % 64) n) (n - min (64 - a % 64) n) := by
  rw [linePieces, if_neg h]

/-- What the pieces of a write do, in order: no line outside the range changes, and when all were performed every byte is stored. -/
theorem writePieces_spec (nal : Bool) (fuel a n : Nat) (ok : Bool) (s : State) (rest : List Byte) (hlen : rest.length = n) :
    let z := (linePieces fuel a n).foldl (writePiece nal) (ok, s, rest)
    MemStep s z.2.1 ∧ (∀ b, n = 0 ∨ lineOf b < lineOf a ∨ lineOf (a + n - 1) < lineOf b → z.2.1.byte b = s.byte b)
      ∧ (n = 0 ∨ a % 64 + n ≤ 64 * fuel → z.1 = true → ok = true ∧ Stored a rest z.2.1) := by
  induction fuel generalizing a n ok s rest with
  | zero => exact ⟨MemStep.refl s, fun _ _ => rfl, fun hfuel hok => ⟨hok, fun k hk => by omega⟩⟩
  | succ fuel ih =>
    by_cases hn : n = 0
    · subst hn
      rw [linePieces_zero]
      exact ⟨MemStep.refl s, fun _ _ => rfl, fun _ hok => ⟨hok, fun k hk => by omega⟩⟩
    · rw [linePieces_succ fuel a hn]
      generalize hk : min (64 - a % 64) n = k
      have hbase : 64 * lineOf a + a % 64 = a := by unfold lineOf; omega
      obtain ⟨hstep, hstored⟩ := stepStored_writePiece nal ok s rest (lineOf a) (a % 64) k (by omega)
      rw [hbase] at hstored
      obtain ⟨htail, hout, hall⟩ := ih (a + k) (n - k) (writePiece nal (ok, s, rest) (lineOf a, a % 64, k)).1
        (writePiece nal (ok, s, rest) (lineOf a, a % 64, k)).2.1 (rest.drop k) (by rw [List.length_drop, hlen])
      refine ⟨hstep.toMemStep.trans htail, fun b hb => ?_, fun hfuel hok => ?_⟩
      · unfold lineOf at hb
        have hline : lineOf b ≠ lineOf a := by unfold lineOf; omega
        exact (hout b (by unfold lineOf; omega)).trans (hstep.line b hline)
      · obtain ⟨hhead, hlast⟩ := hall (by omega) hok
        obtain ⟨hok', hfirst⟩ := hstored hhead
        refine ⟨hok', fun i hi => ?_⟩
        by_cases hik : i < k
        · have hi' : i < (rest.take k).length := by rw [List.length_take]; omega
          refine (hout (a + i) (by unfold lineOf; omega)).trans ((hfirst i hi').trans ?_)
          exact List.getElem_take
        · have hi' : i - k < (rest.drop k).length := by rw [List.length_drop]; omega
          have hat : a + k + (i - k) = a + i := by omega
          rw [← hat]
          refine (hlast (i - k) hi').trans ?_
          rw [List.getElem_drop]
          congr 1
          omega

/-- A write of a range (R28, R176): no other line changes, and one that was performed stored its bytes. -/
theorem memWrite_spec (s : State) (a : Nat) (data : List Byte) (nal : Bool) :
    MemStep s (s.memWrite a data nal).2
      ∧ (∀ b, lineOf b < lineOf a ∨ lineOf (a + data.length - 1) < lineOf b → (s.memWrite a data nal).2.byte b = s.byte b)
      ∧ ((s.memWrite a data nal).1 = true → Stored a data (s.memWrite a data nal).2) := by
  cases hhole : rangeHole a data.length with
  | some e =>
    have hstep := lmStep_unmappedOther s e
    rw [State.memWrite_of_hole nal hhole]
    exact ⟨hstep.toMemStep, fun b _ => hstep.byte b, fun h => by cases h⟩
  | none =>
    obtain ⟨hstep, hout, hall⟩ := writePieces_spec nal (data.length / 64 + 2) a data.length true s data rfl
    rw [State.memWrite_of_mapped nal hhole]
    exact ⟨hstep, fun b hb => hout b (.inr hb), fun h => (hall (.inr (by omega)) h).2⟩

/-! ### Reads of a range -/

/-- One piece of a read: the bytes so far, the first line that failed, and the state. -/
def readPiece (nal : Bool) (acc : Option (List Byte) × Option Nat × State) (x : Nat × Nat × Nat) : Option (List Byte) × Option Nat × State :=
  let r := if dramLine x.1 then acc.2.2.lineRead x.1 nal else (some (acc.2.2.lineBytes x.1), acc.2.2)
  let bad := acc.2.1.or (if r.1.isNone then some x.1 else none)
  match acc.1, r.1 with
  | some l, some d => (some (l ++ slice d x.2.1 x.2.2), bad, r.2)
  | _, _ => (none, bad, r.2)

theorem State.rangeRead_of_hole {s : State} {a n e : Nat} (nal : Bool) (h : rangeHole a n = some e) :
    s.rangeRead a n nal = (none, none, s.unmappedOther e) := by
  unfold State.rangeRead; rw [h]

theorem State.rangeRead_of_mapped {s : State} {a n : Nat} (nal : Bool) (h : rangeHole a n = none) :
    s.rangeRead a n nal = (piecesOf a n).foldl (readPiece nal) (some [], none, s) := by
  unfold State.rangeRead; rw [h]; rfl

theorem memStep_readPiece (nal : Bool) (acc : Option (List Byte) × Option Nat × State) (x : Nat × Nat × Nat) :
    MemStep acc.2.2 (readPiece nal acc x).2.2 := by
  have hread : MemStep acc.2.2 (if dramLine x.1 then acc.2.2.lineRead x.1 nal else (some (acc.2.2.lineBytes x.1), acc.2.2)).2 := by
    split
    · exact (lineStep_lineRead acc.2.2 x.1 nal).toMemStep
    · exact MemStep.refl _
  unfold readPiece
  generalize (if dramLine x.1 then acc.2.2.lineRead x.1 nal else (some (acc.2.2.lineBytes x.1), acc.2.2)) = r at hread
  dsimp only
  split <;> exact hread

theorem memStep_memRead (s : State) (a n : Nat) (nal : Bool) : MemStep s (s.memRead a n nal).2 := by
  unfold State.memRead
  dsimp only
  cases hhole : rangeHole a n with
  | some e =>
    rw [State.rangeRead_of_hole nal hhole]
    exact (lmStep_unmappedOther s e).toMemStep
  | none =>
    rw [State.rangeRead_of_mapped nal hhole]
    exact List.foldlRecOn (piecesOf a n) (readPiece nal) (b := (some [], none, s)) (motive := fun acc => MemStep s acc.2.2) (MemStep.refl s)
      fun acc hacc x _ => hacc.trans (memStep_readPiece nal acc x)

/-! ### Atomics -/

theorem State.lineAtomic_of_none {s : State} {a : Nat} (op : AtomicOp) (x y : Nat) (h : (s.lineRead (lineOf a) false).1 = none) :
    s.lineAtomic a op x y = (none, (s.lineRead (lineOf a) false).2) := by
  unfold State.lineAtomic
  dsimp only
  rw [h]

/-- An atomic reads its line, and stores the new value over the old one (R178). -/
theorem State.lineAtomic_of_isSome {s : State} {a : Nat} (op : AtomicOp) (x y : Nat) (h : (s.lineRead (lineOf a) false).1.isSome = true) :
    s.lineAtomic a op x y =
      (some ((s.lineRead (lineOf a) false).2.num a (atomicWidth op)), (s.lineRead (lineOf a) false).2.lineStore (lineOf a) (a % 64)
        (leBytes (atomicWidth op) (atomicNew op ((s.lineRead (lineOf a) false).2.num a (atomicWidth op)) x y))) := by
  unfold State.lineAtomic
  obtain ⟨d, hd⟩ := Option.isSome_iff_exists.1 h
  dsimp only
  rw [hd]

theorem leNat_lt (l : List Byte) : leNat l < 256 ^ l.length := by
  induction l with
  | nil => decide
  | cons b l ih =>
    have hb := b.isLt
    simp only [leNat, List.length_cons, Nat.pow_succ]
    omega

theorem leNat_leBytes (n v : Nat) : leNat (leBytes n v) = v % 256 ^ n := by
  induction n generalizing v with
  | zero => simp [leBytes, leNat, Nat.mod_one]
  | succ n ih =>
    rw [leBytes, leNat, ih, BitVec.toNat_ofNat, show 256 ^ (n + 1) = 256 * 256 ^ n from Nat.pow_succ', Nat.mod_mul]

theorem State.num_lt (s : State) (a n : Nat) : s.num a n < 256 ^ n := by
  have := leNat_lt (s.bytes a n)
  rwa [show (s.bytes a n).length = n by simp [State.bytes]] at this

/-- A stored number is read back. -/
theorem Stored.num {t : State} {a n v : Nat} (h : Stored a (leBytes n v) t) (hv : v < 256 ^ n) : t.num a n = v := by
  have hbytes : t.bytes a n = leBytes n v := by
    refine List.ext_getElem (by simp [State.bytes, length_leBytes]) fun i _ hi => ?_
    simpa [State.bytes] using h i hi
  unfold State.num
  rw [hbytes, leNat_leBytes, Nat.mod_eq_of_lt hv]

theorem atomicWidth_cases (op : AtomicOp) : atomicWidth op = 4 ∨ atomicWidth op = 8 := by
  cases op <;> simp [atomicWidth]

theorem atomicNew_lt (op : AtomicOp) {old : Nat} (x y : Nat) (h : old < 256 ^ atomicWidth op) : atomicNew op old x y < 256 ^ atomicWidth op := by
  cases op <;> simp only [atomicWidth, atomicNew] at h ⊢
  case cas32 => split <;> omega
  case cas64 => split <;> omega
  all_goals omega

end Sys2Proof.Machine
end

section
open Sys2Proof Sys2Proof.Machine

namespace Sys2Proof.Machine

/-! ### Accesses from two states that agree on DRAM

What an access to DRAM answers, and what it leaves in DRAM and in the piers, is settled by the memory, the piers, the free values and the
clock: neither a register nor what the router holds takes part. -/

/-- Two states agree on all that an access to DRAM reads. -/
structure Alike (s t : State) : Prop where
  mem : t.mem = s.mem
  lm : t.lm = s.lm
  free : t.free = s.free
  now : t.now = s.now

theorem Alike.refl (s : State) : Alike s s := ⟨rfl, rfl, rfl, rfl⟩

theorem Alike.trans {s t u : State} (h : Alike s t) (k : Alike t u) : Alike s u :=
  ⟨k.mem.trans h.mem, k.lm.trans h.lm, k.free.trans h.free, k.now.trans h.now⟩

theorem Alike.symm {s t : State} (h : Alike s t) : Alike t s := ⟨h.mem.symm, h.lm.symm, h.free.symm, h.now.symm⟩

/-- Steps that change nothing of it keep two states in agreement. -/
theorem Alike.past {s t s' t' : State} (h : Alike s t) (hs : Alike s s') (ht : Alike t t') : Alike s' t' := hs.symm.trans (h.trans ht)

theorem Alike.ite {s t s' t' : State} (c : Prop) [Decidable c] (h : Alike s t) (k : Alike s' t') :
    Alike (if c then s else s') (if c then t else t') := by
  split <;> assumption

theorem alike_set (s : State) (l : Loc) (n : Nat) : Alike s (s.set l n) := ⟨rfl, rfl, rfl, rfl⟩
theorem alike_sat (s : State) (l : Loc) (n : Nat) : Alike s (s.sat l n) := ⟨rfl, rfl, rfl, rfl⟩

theorem Noted.alike {s t : State} (h : Noted s t) : Alike s t :=
  ⟨h.field State.mem fun _ _ _ => rfl, h.field State.lm fun _ _ _ => rfl, h.field State.free fun _ _ _ => rfl, h.field State.now fun _ _ _ => rfl⟩

theorem alike_countQ (s : State) (l code : Nat) (v : Nat → Nat) : Alike s (s.countQ 2 (pierOf l) code v) :=
  (noted_countQ s 2 (pierOf l) code v (pierOf_lt l)).alike

theorem alike_count (s : State) (l code v : Nat) : Alike s (s.count 2 (pierOf l) code v) := alike_countQ s l code _

section
variable {s t : State} (h : Alike s t)
include h

theorem Alike.setLm {x y : MemState} (hxy : y = x) : Alike { s with lm := x } { t with lm := y } := ⟨h.mem, hxy, h.free, h.now⟩

/-! #### What is read -/

theorem Alike.lcSet (p : Nat) : t.lcSet p = s.lcSet p := by unfold State.lcSet; rw [h.lm]
theorem Alike.cached (l : Nat) : t.cached l = s.cached l := by unfold State.cached; rw [h.lcSet]
theorem Alike.writePending (l : Nat) : t.writePending l = s.writePending l := by unfold State.writePending; rw [h.lm]
theorem Alike.bytes (a n : Nat) : t.bytes a n = s.bytes a n := by unfold State.bytes State.byte; rw [h.mem]
theorem Alike.num (a n : Nat) : t.num a n = s.num a n := by unfold State.num; rw [h.bytes]
theorem Alike.lineBytes (l : Nat) : t.lineBytes l = s.lineBytes l := h.bytes _ _
theorem Alike.checkByInit : t.checkByInit = s.checkByInit := by funext l; unfold State.checkByInit; rw [h.lm]
theorem Alike.dramCheck (l : Nat) : t.dramCheck l = s.dramCheck l := by unfold State.dramCheck; rw [h.checkByInit, h.lm]
theorem Alike.codeEntry (l : Nat) : t.codeEntry l = s.codeEntry l := by unfold State.codeEntry; rw [h.lm]
theorem Alike.storedCheck (l : Nat) : t.storedCheck l = s.storedCheck l := by unfold State.storedCheck; rw [h.codeEntry, h.dramCheck]
theorem Alike.dramRead (l mask : Nat) : t.dramRead l mask = s.dramRead l mask := by
  unfold State.dramRead; rw [h.lineBytes, h.storedCheck]
theorem Alike.codeLoad (l cmask : Nat) : t.codeLoad l cmask = s.codeLoad l cmask := by
  unfold State.codeLoad; simp only [h.codeEntry, h.dramCheck]

/-! #### What is left -/

theorem Alike.setLcSet (p : Nat) (x : LcSet) : Alike (s.setLcSet p x) (t.setLcSet p x) := h.setLm (by rw [h.lm])

theorem Alike.touchWay (p w : Nat) : Alike (s.touchWay p w) (t.touchWay p w) := by
  unfold State.touchWay; rw [h.lcSet]; exact h.setLcSet p _

theorem Alike.putWay (p w : Nat) (x : Way) : Alike (s.putWay p w x) (t.putWay p w x) := by
  unfold State.putWay; rw [h.lcSet]; exact h.setLcSet p _

theorem Alike.codeStore (e : CodeEntry) : Alike (s.codeStore e) (t.codeStore e) := by
  unfold State.codeStore
  exact h.setLm (by rw [h.lm, h.checkByInit])

theorem Alike.codeFlush (e : CodeEntry) : Alike (s.codeFlush e) (t.codeFlush e) :=
  (h.codeStore e).past (alike_count _ _ _ _) (alike_count _ _ _ _)

theorem Alike.codePut (e : CodeEntry) : Alike (s.codePut e) (t.codePut e) := by
  unfold State.codePut
  dsimp only
  rw [h.lm]
  split
  · exact Alike.codeFlush (h.setLm rfl) _
  · exact h.setLm rfl

theorem Alike.codeRead (l cmask : Nat) : Alike (s.codeRead l cmask) (t.codeRead l cmask) := by
  unfold State.codeRead; rw [h.codeLoad]; exact h.codePut _

theorem Alike.codeWrite (l : Nat) : Alike (s.codeWrite l) (t.codeWrite l) := by
  unfold State.codeWrite
  rw [h.codeLoad, h.lineBytes, h.now]
  exact Alike.ite _ ((h.codeStore _).codePut _) (h.codePut _)

theorem Alike.codeDropClean (l : Nat) : Alike (s.codeDropClean l) (t.codeDropClean l) := by
  unfold State.codeDropClean
  exact h.setLm (by rw [h.lm])

theorem Alike.putBytes (a : Nat) (d : List Byte) : Alike (s.putBytes a d) (t.putBytes a d) :=
  ⟨congrArg (memPut · a d) h.mem, h.lm, h.free, h.now⟩

end

theorem alike_when (s : State) (c : Bool) {f : State → State} (hf : Alike s (f s)) : Alike s (s.when c f) := by
  unfold State.when
  split
  · exact hf
  · exact Alike.refl s

theorem alike_pierWake (s : State) (p : Nat) : Alike s (s.pierWake p) := by
  unfold State.pierWake
  exact (alike_when s _ (alike_set s _ _)).trans (alike_when _ _ ⟨rfl, rfl, rfl, rfl⟩)

theorem alike_occur (s : State) (code src : Nat) (data : List Byte) : Alike s (s.occur code src data) := (noted_occur s code src data).alike

theorem alike_rereadOk (s : State) (l : Nat) : Alike s (s.rereadOk l) := alike_sat s _ _

theorem alike_detectionFailure (s : State) (l : Nat) : Alike s (s.detectionFailure l) := by
  unfold State.detectionFailure
  exact ((((alike_sat s _ _).trans (alike_set _ _ _)).trans (alike_set _ _ _)).trans (alike_set _ _ _)).trans (alike_occur _ _ _ _)

section
variable {s t : State} (h : Alike s t)
include h

theorem Alike.openRow (l : Nat) : Alike (s.openRow l) (t.openRow l) := by
  unfold State.openRow
  exact (h.setLm (by rw [h.lm])).past (alike_countQ _ _ _ _) (alike_countQ _ _ _ _)

theorem Alike.dramFetch (l cmask : Nat) : Alike (s.dramFetch l cmask) (t.dramFetch l cmask) := by
  unfold State.dramFetch
  exact (((h.past (alike_pierWake s _) (alike_pierWake t _)).openRow l).past (alike_countQ _ _ _ _) (alike_countQ _ _ _ _)).codeRead l cmask

theorem Alike.dramWrite (l : Nat) : Alike (s.dramWrite l) (t.dramWrite l) := by
  unfold State.dramWrite
  exact ((((h.setLm (by rw [h.lm])).past (alike_pierWake _ _) (alike_pierWake _ _)).openRow l).past
    (alike_countQ _ _ _ _) (alike_countQ _ _ _ _)).codeWrite l

theorem Alike.dramAgain (l cmask : Nat) : Alike (s.dramAgain l cmask) (t.dramAgain l cmask) := by
  unfold State.dramAgain
  exact ((h.codeDropClean l).past (alike_count _ _ _ _) (alike_count _ _ _ _)).dramFetch l cmask

theorem Alike.dramTry (l : Nat) (m : Nat → Nat × Nat) (k : Nat) : Alike (s.dramTry l m k) (t.dramTry l m k) :=
  Alike.ite _ (h.dramFetch l _) (h.dramAgain l _)

/-- The reads of a line from DRAM answer the same. -/
theorem Alike.dramReads (l : Nat) (m : Nat → Nat × Nat) (n k : Nat) :
    (State.dramReads l m n k t).1 = (State.dramReads l m n k s).1 ∧ (State.dramReads l m n k t).2.1 = (State.dramReads l m n k s).2.1
      ∧ Alike (State.dramReads l m n k s).2.2 (State.dramReads l m n k t).2.2 := by
  induction n generalizing k s t with
  | zero => exact ⟨rfl, rfl, h⟩
  | succ n ih =>
    have htry := h.dramTry l m k
    rw [State.dramReads_succ, State.dramReads_succ, htry.dramRead]
    split
    · exact ⟨rfl, rfl, htry⟩
    · exact ih htry _

theorem Alike.fillPlace (p : Nat) : (t.fillPlace p false).1 = (s.fillPlace p false).1 ∧ Alike (s.fillPlace p false).2 (t.fillPlace p false).2 := by
  have hopen : t.wayOpen p false = s.wayOpen p false := by
    funext w
    unfold State.wayOpen
    simp only [h.lcSet, h.writePending, Bool.not_false, Bool.true_or, Bool.true_and]
  unfold State.fillPlace
  rw [hopen, h.lcSet]
  simp only [Bool.not_false, Bool.true_or]
  split
  · exact ⟨rfl, h⟩
  · refine ⟨rfl, ?_⟩
    dsimp only
    split
    · exact h.dramWrite _
    · exact h

theorem Alike.installLocal (l : Nat) : Alike (s.installLocal l) (t.installLocal l) := by
  obtain ⟨hway, hstate⟩ := h.fillPlace (lcPlace l)
  unfold State.installLocal
  dsimp only
  rw [h.cached, hway]
  exact Alike.ite _ h (hstate.putWay _ _ _)

theorem Alike.lineTake (l : Nat) (d : List Byte) : Alike (s.lineTake l d) (t.lineTake l d) := by
  unfold State.lineTake
  rw [h.lineBytes]
  exact Alike.ite _ h (h.putBytes _ _)

theorem Alike.lineHit (l : Nat) (touch : Bool) : Alike (s.lineHit l touch) (t.lineHit l touch) := by
  have hcount := h.past (alike_count s l 0x003 1) (alike_count t l 0x003 1)
  unfold State.lineHit
  dsimp only
  rw [hcount.lcSet]
  split
  · exact Alike.ite _ (hcount.touchWay _ _) hcount
  · exact hcount

theorem Alike.lineStore (l off : Nat) (d : List Byte) : Alike (s.lineStore l off d) (t.lineStore l off d) := by
  have hput := (h.past (alike_pierWake s (pierOf l)) (alike_pierWake t (pierOf l))).putBytes (64 * l + off) d
  unfold State.lineStore
  exact hput.setLm (by rw [hput.lm])

theorem Alike.writeAlloc (l : Nat) (nal : Bool) : Alike (s.writeAlloc l nal) (t.writeAlloc l nal) := by
  unfold State.writeAlloc
  rw [h.lcSet]
  split
  · exact h.touchWay _ _
  · exact Alike.ite _ h (h.installLocal l)

theorem Alike.drawn : Alike s.drawn t.drawn := ⟨h.mem, h.lm, congrArg (· + 1) h.free, h.now⟩

theorem Alike.lcError (l ecc : Nat) : Alike (s.lcError l ecc) (t.lcError l ecc) := by
  unfold State.lcError
  rw [h.lcSet]
  split
  · unfold State.wayError
    rw [h.lcSet]
    split
    · exact h.past (alike_sat _ _ _) (alike_sat _ _ _)
    · exact (h.setLcSet _ _).past (alike_sat _ _ _) (alike_sat _ _ _)
    · exact h
  · exact h

theorem Alike.unmappedOther (a : Nat) : Alike (s.unmappedOther a) (t.unmappedOther a) := by
  unfold State.unmappedOther State.unmapped
  exact h.drawn.past (alike_occur _ _ _ _) (alike_occur _ _ _ _)

end

end Sys2Proof.Machine
end

section
open Sys2Proof Sys2Proof.Machine

namespace Sys2Proof.Machine

/-- Two reads that answer the same, with the same note beside it, and leave states in agreement. -/
structure SameReads {α β : Type} (r q : α × β × State) : Prop where
  data : q.1 = r.1
  count : q.2.1 = r.2.1
  state : Alike r.2.2 q.2.2

/-- Two accesses that answer the same and leave states in agreement. -/
structure SameAnswer {α : Type} (r q : α × State) : Prop where
  answer : q.1 = r.1
  state : Alike r.2 q.2

theorem SameReads.goodRead {r q : Option (List Byte) × Nat × State} (h : SameReads r q) (l : Nat) : Alike (goodRead l r) (goodRead l q) := by
  unfold Machine.goodRead
  rw [h.count]
  exact Alike.ite _ h.state (h.state.past (alike_rereadOk _ l) (alike_rereadOk _ l))

theorem SameReads.readDone {r q : Option (List Byte) × Nat × State} (h : SameReads r q) (l : Nat) (nal : Bool) :
    SameReads (readDone l nal r) (readDone l nal q) := by
  have hgood := h.goodRead l
  unfold Machine.readDone
  rw [h.data]
  split
  · exact ⟨rfl, h.count, Alike.ite _ hgood ((hgood.lineTake l _).installLocal l)⟩
  · exact ⟨rfl, h.count, h.state.past (alike_detectionFailure _ l) (alike_detectionFailure _ l)⟩

theorem SameReads.mergeDone {r q : Option (List Byte) × Nat × State} (h : SameReads r q) (l off : Nat) (data : List Byte) (nal : Bool) :
    SameAnswer (mergeDone l off data nal r) (mergeDone l off data nal q) := by
  have hgood := h.goodRead l
  unfold Machine.mergeDone
  rw [h.data]
  split
  · exact ⟨rfl, ((hgood.lineTake l _).lineStore l off data).writeAlloc l nal⟩
  · exact ⟨rfl, h.state.past (alike_sat _ _ _) (alike_sat _ _ _)⟩

section
variable {s t : State} (h : Alike s t)
include h

theorem Alike.sameReads (l : Nat) (m : Nat → Nat × Nat) (n k : Nat) : SameReads (State.dramReads l m n k s) (State.dramReads l m n k t) := by
  obtain ⟨hdata, hcount, hstate⟩ := h.dramReads l m n k
  exact ⟨hdata, hcount, hstate⟩

theorem Alike.met (l : Nat) : Alike (s.met l) (t.met l) := by
  unfold State.met
  rw [h.free]
  exact h.drawn.lcError l _

theorem Alike.metNal (l : Nat) (nal : Bool) : t.metNal l nal = s.metNal l nal := by
  unfold State.metNal
  rw [h.cached, h.free]

theorem Alike.missRead (l n : Nat) (nal : Bool) : SameReads (State.missRead State.dramReads s l n nal) (State.missRead State.dramReads t l n nal) := by
  unfold State.missRead
  rw [h.writePending, h.lineBytes]
  split
  · exact ⟨rfl, rfl, Alike.ite _ h (h.installLocal l)⟩
  · exact (h.sameReads l _ 2 0).readDone l nal

theorem Alike.lineRead (l : Nat) (nal : Bool) : SameAnswer (s.lineRead l nal) (t.lineRead l nal) := by
  have hmet := h.met l
  have hslice : SameReads (s.sliceRead l nal) (t.sliceRead l nal) := by
    rw [State.sliceRead_eq, State.sliceRead_eq, hmet.cached, hmet.lineBytes, h.metNal, h.free]
    split
    · exact ⟨rfl, rfl, hmet.lineHit l _⟩
    · exact (hmet.past (alike_count _ l _ _) (alike_count _ l _ _)).missRead l _ _
  exact ⟨hslice.data, hslice.state⟩

theorem Alike.lineWrite (l off : Nat) (data : List Byte) (nal : Bool) : SameAnswer (s.lineWrite l off data nal) (t.lineWrite l off data nal) := by
  have hmet := h.met l
  rw [State.lineWrite_eq, State.lineWrite_eq, hmet.cached, hmet.writePending, h.metNal, h.free]
  split
  · exact ⟨rfl, (hmet.lineStore l off data).writeAlloc l _⟩
  · exact ((hmet.past (alike_count _ l _ _) (alike_count _ l _ _)).sameReads l _ 3 0).mergeDone l off data _

theorem Alike.lineAtomic (a : Nat) (op : AtomicOp) (x y : Nat) : SameAnswer (s.lineAtomic a op x y) (t.lineAtomic a op x y) := by
  obtain ⟨hdata, hstate⟩ := h.lineRead (lineOf a) false
  cases hd : (s.lineRead (lineOf a) false).1 with
  | none =>
    rw [State.lineAtomic_of_none op x y hd, State.lineAtomic_of_none op x y (hdata.trans hd)]
    exact ⟨rfl, hstate⟩
  | some d =>
    rw [State.lineAtomic_of_isSome op x y (by rw [hd]; rfl), State.lineAtomic_of_isSome op x y (by rw [hdata, hd]; rfl), hstate.num]
    exact ⟨rfl, hstate.lineStore _ _ _⟩

theorem Alike.pieceRead (x : Nat × Nat × Nat) (nal : Bool) : SameAnswer
    (if dramLine x.1 then s.lineRead x.1 nal else (some (s.lineBytes x.1), s))
    (if dramLine x.1 then t.lineRead x.1 nal else (some (t.lineBytes x.1), t)) := by
  split
  · exact h.lineRead x.1 nal
  · exact ⟨by rw [h.lineBytes], h⟩

theorem Alike.pieceWrite (x : Nat × Nat × Nat) (d : List Byte) (nal : Bool) : SameAnswer
    (if dramLine x.1 then s.lineWrite x.1 x.2.1 d nal else (true, s.putBytes (64 * x.1 + x.2.1) d))
    (if dramLine x.1 then t.lineWrite x.1 x.2.1 d nal else (true, t.putBytes (64 * x.1 + x.2.1) d)) := by
  split
  · exact h.lineWrite x.1 x.2.1 d nal
  · exact ⟨rfl, h.putBytes _ _⟩

end

theorem foldl_related {α β : Type} {R : β → β → Prop} (f : β → α → β) (hf : ∀ r q x, R r q → R (f r x) (f q x)) (l : List α) {r q : β}
    (h : R r q) : R (l.foldl f r) (l.foldl f q) := by
  induction l generalizing r q with
  | nil => exact h
  | cons x l ih => exact ih (hf r q x h)

theorem SameReads.readPiece {r q : Option (List Byte) × Option Nat × State} (h : SameReads r q) (nal : Bool) (x : Nat × Nat × Nat) :
    SameReads (readPiece nal r x) (readPiece nal q x) := by
  have hread := h.state.pieceRead x nal
  unfold Machine.readPiece
  generalize (if dramLine x.1 then r.2.2.lineRead x.1 nal else (some (r.2.2.lineBytes x.1), r.2.2)) = u at hread
  generalize (if dramLine x.1 then q.2.2.lineRead x.1 nal else (some (q.2.2.lineBytes x.1), q.2.2)) = v at hread
  dsimp only
  rw [h.data, h.count, hread.answer]
  split <;> exact ⟨rfl, rfl, hread.state⟩

/-- Two stages of a write that agree: so far performed, the states, and the bytes that are left. -/
structure SameStage (r q : Bool × State × List Byte) : Prop where
  done : q.1 = r.1
  state : Alike r.2.1 q.2.1
  rest : q.2.2 = r.2.2

theorem SameStage.writePiece {r q : Bool × State × List Byte} (h : SameStage r q) (nal : Bool) (x : Nat × Nat × Nat) :
    SameStage (writePiece nal r x) (writePiece nal q x) := by
  have hwrite := h.state.pieceWrite x (r.2.2.take x.2.2) nal
  unfold Machine.writePiece
  rw [h.rest, h.done]
  generalize (if dramLine x.1 then r.2.1.lineWrite x.1 x.2.1 (r.2.2.take x.2.2) nal else (true, r.2.1.putBytes (64 * x.1 + x.2.1) (r.2.2.take x.2.2))) = u
    at hwrite
  generalize (if dramLine x.1 then q.2.1.lineWrite x.1 x.2.1 (r.2.2.take x.2.2) nal else (true, q.2.1.putBytes (64 * x.1 + x.2.1) (r.2.2.take x.2.2))) = v
    at hwrite
  exact ⟨congrArg (r.1 && ·) hwrite.answer, hwrite.state, rfl⟩

section
variable {s t : State} (h : Alike s t)
include h

/-- A read of a range answers the same, and leaves the same. -/
theorem Alike.memRead (a n : Nat) (nal : Bool) : SameAnswer (s.memRead a n nal) (t.memRead a n nal) := by
  have hrange : SameReads (s.rangeRead a n nal) (t.rangeRead a n nal) := by
    cases hhole : rangeHole a n with
    | some e =>
      rw [State.rangeRead_of_hole nal hhole, State.rangeRead_of_hole nal hhole]
      exact ⟨rfl, rfl, h.unmappedOther e⟩
    | none =>
      rw [State.rangeRead_of_mapped nal hhole, State.rangeRead_of_mapped nal hhole]
      exact foldl_related (readPiece nal) (fun r q x hrq => hrq.readPiece nal x) _ ⟨rfl, rfl, h⟩
  exact ⟨hrange.data, hrange.state⟩

/-- A write of a range answers the same, and leaves the same. -/
theorem Alike.memWrite (a : Nat) (data : List Byte) (nal : Bool) : SameAnswer (s.memWrite a data nal) (t.memWrite a data nal) := by
  cases hhole : rangeHole a data.length with
  | some e =>
    rw [State.memWrite_of_hole nal hhole, State.memWrite_of_hole nal hhole]
    exact ⟨rfl, h.unmappedOther e⟩
  | none =>
    rw [State.memWrite_of_mapped nal hhole, State.memWrite_of_mapped nal hhole]
    have hstage := foldl_related (writePiece nal) (fun r q x (hrq : SameStage r q) => hrq.writePiece nal x) (piecesOf a data.length)
      (r := (true, s, data)) (q := (true, t, data)) ⟨rfl, h, rfl⟩
    exact ⟨hstage.done, hstage.state⟩

end

end Sys2Proof.Machine
end

section
open Sys2Proof Sys2Proof.Machine

namespace Sys2Proof.Machine

/-! ### A frame that is delivered -/

/-- The frame as it is delivered: with the class that it arrived with (R274). -/
def State.delivered (s : State) (p : Nat) (e : Nat × Nat × Frame) : Frame := { s.taken p e.2.2 with cls := e.2.2.cls }

theorem State.deliveredIn_alike (s : State) (e : Nat × Nat × Frame) : Alike s (s.deliveredIn e) :=
  (⟨rfl, rfl, rfl, rfl⟩ : Alike s (s.consume e)).trans (s.deliveredIn_noted e).alike

/-- A frame with the module's key that is for the module is delivered (R282, R284). -/
theorem State.ingress_here {s : State} {p kind : Nat} {e : Nat × Nat × Frame} (deliver : State → Frame → Option State)
    (he : s.headFrame p (fun f => f.fkind == kind) = some e) (hkey : (s.delivered p e).skey = s.get Reg.RTR_SKEY_SKEY)
    (hloaded : s.flag Reg.JIG_STATUS_LOADED = true) (hdst : (s.delivered p e).dstmod = s.ownMod) :
    s.ingress p kind deliver = (deliver (s.deliveredIn e) (s.delivered p e)).getD s := by
  have hkey' : (s.taken p e.2.2).skey = s.get Reg.RTR_SKEY_SKEY := hkey
  have hdst' : (s.taken p e.2.2).dstmod = s.ownMod := hdst
  have hown : (!s.flag Reg.JIG_STATUS_LOADED || ((s.taken p e.2.2).skey != s.get Reg.RTR_SKEY_SKEY
      && (decide (e.2.1 < 6) || (s.taken p e.2.2).dstmod == s.ownMod))) = false := by
    rw [hkey', hloaded]
    simp
  unfold State.ingress
  rw [he]
  refine (if_neg (by rw [hown]; decide)).trans ((if_pos hdst').trans ?_)
  unfold State.deliveredIn State.delivered
  cases deliver ((s.consume e).count 5 0 0x002 1) { s.taken p e.2.2 with cls := e.2.2.cls } <;> rfl

section
variable {s : State} (p : Fin 10) (hrun : s.running = true) {c : Instr} {kind : Nat} (hc : (c, kind) ∈ dataKinds p)
include hrun hc

theorem exec_request_eq (h : kind = 1 ∨ kind = 3 ∨ kind = 5) : exec c s = .next (s.keeping (s.ingress p kind State.deliverRequest)) := by
  simp only [dataKinds, List.mem_cons, Prod.mk.injEq, List.not_mem_nil, or_false] at hc
  obtain ⟨rfl, rfl⟩ | ⟨rfl, rfl⟩ | ⟨rfl, rfl⟩ | ⟨rfl, rfl⟩ | ⟨rfl, rfl⟩ | ⟨rfl, rfl⟩ := hc
  · rw [show exec (.rdreq p) s = execRdreq p s from rfl]; exact State.run_running _ _ hrun
  · omega
  · rw [show exec (.wrreq p) s = execWrreq p s from rfl]; exact State.run_running _ _ hrun
  · omega
  · rw [show exec (.atreq p) s = execAtreq p s from rfl]; exact State.run_running _ _ hrun
  · omega

theorem exec_answer_eq (h : kind = 2 ∨ kind = 4 ∨ kind = 6) : exec c s = .next (s.keeping (s.ingress p kind State.deliverResponse)) := by
  simp only [dataKinds, List.mem_cons, Prod.mk.injEq, List.not_mem_nil, or_false] at hc
  obtain ⟨rfl, rfl⟩ | ⟨rfl, rfl⟩ | ⟨rfl, rfl⟩ | ⟨rfl, rfl⟩ | ⟨rfl, rfl⟩ | ⟨rfl, rfl⟩ := hc
  · omega
  · rw [show exec (.rdrsp p) s = execRdrsp p s from rfl]; exact State.run_running _ _ hrun
  · omega
  · rw [show exec (.wrack p) s = execWrack p s from rfl]; exact State.run_running _ _ hrun
  · omega
  · rw [show exec (.atrsp p) s = execAtrsp p s from rfl]; exact State.run_running _ _ hrun

end

/-! ### What a request meets at its target -/

/-- A state in which the module answers as it would in `s`, with the router in the state `r`. -/
structure Answering (s : State) (r : RtrState) (x : State) : Prop where
  route : RouteSame s x
  rsp : ∀ c, x.get ⟨Reg.RTR_RSPVC, 3 * c, 3⟩ = s.get ⟨Reg.RTR_RSPVC, 3 * c, 3⟩
  own : x.ownMod = s.ownMod
  rtr : x.rtr = r

theorem State.answering_deliveredIn (s : State) (e : Nat × Nat × Frame) : Answering s (s.consume e).rtr (s.deliveredIn e) where
  route := by
    have hroute := routeSame_count (s.consume e) 0x002 1
    exact ⟨hroute.upd, hroute.now, hroute.skey, hroute.owned, hroute.link, hroute.valid, hroute.hop0, hroute.hop1, hroute.hop2⟩
  rsp c := (s.deliveredIn_noted e).get _ (show noteReg Reg.RTR_RSPVC = false by decide)
  own := (s.deliveredIn_noted e).field State.ownMod fun _ _ _ => rfl
  rtr := (s.deliveredIn_noted e).field State.rtr fun _ _ _ => rfl

theorem routeLoc_rspVc (c : Nat) : RouteLoc ⟨Reg.RTR_RSPVC, 3 * c, 3⟩ :=
  .inl (show 0x7f200000000 ≤ Reg.RTR_RSPVC ∧ Reg.RTR_RSPVC < 0x7f200080000 by decide)

theorem Answering.memStep {s x y : State} {r : RtrState} (h : Answering s r x) (k : MemStep x y) : Answering s r y where
  route := h.route.trans k.routeSame
  rsp c := (k.route _ (routeLoc_rspVc c)).trans (h.rsp c)
  own := (k.field State.ownMod fun _ _ _ _ _ _ _ => rfl).trans h.own
  rtr := (k.field State.rtr fun _ _ _ _ _ _ _ => rfl).trans h.rtr

theorem Answering.responseTo {s x : State} {r : RtrState} (h : Answering s r x) (f : Frame) (code : Nat) (body : List Byte) :
    responseTo x f code body = responseTo s f code body := by
  unfold Machine.responseTo
  rw [h.route.skey, h.own, h.rsp]

/-- A response to another module is originated (R270, R279). -/
theorem Answering.respond {s x : State} {r : RtrState} (h : Answering s r x) {f : Frame} (hsrc : f.srcmod ≠ s.ownMod) (code : Nat)
    (body : List Byte) :
    (x.respond f code body).rtr = originated s (Machine.responseTo s f code body) r ∧ RoutedOnly x (x.respond f code body) := by
  have hsrc' : f.srcmod ≠ x.ownMod := by rw [h.own]; exact hsrc
  have hdef : x.respond f code body = x.originate (Machine.responseTo x f code body) := if_neg hsrc'
  obtain ⟨hrtr, honly⟩ := State.originate_routed (s := x) (f := Machine.responseTo x f code body) fun hown => hsrc' hown.1
  rw [hdef]
  refine ⟨hrtr.trans ?_, honly⟩
  rw [h.route.originated, h.rtr, ← h.responseTo]
  rfl

theorem Noted.memAvail {s t : State} (h : Noted s t) (a n : Nat) : t.memAvail a n = s.memAvail a n := by
  have hstatus (l lo w : Nat) : t.get ⟨Reg.PIER_STATUS (pierOf l), lo, w⟩ = s.get ⟨Reg.PIER_STATUS (pierOf l), lo, w⟩ := by
    refine h.get _ ?_
    have hp := pierOf_lt l
    rw [Bool.eq_false_iff]
    unfold noteReg Reg.PIER_STATUS Reg.AON_EVINTAKE
    simp only [ne_eq, Bool.or_eq_true, decide_eq_true_eq]
    omega
  have hpwr : t.get Reg.PWR_STATUS_STATE = s.get Reg.PWR_STATUS_STATE := h.get _ (show noteReg Reg.PWR_STATUS = false by decide)
  have hcal : t.flag Reg.CAL_STATUS_STARTUP = s.flag Reg.CAL_STATUS_STARTUP := by
    unfold State.flag
    rw [h.get _ (show noteReg Reg.CAL_STATUS = false by decide)]
  have hupd : t.upd = s.upd := h.field State.upd fun _ _ _ => rfl
  have hready : t.pwr = s.pwr := h.field State.pwr fun _ _ _ => rfl
  have hlm : t.lm = s.lm := h.field State.lm fun _ _ _ => rfl
  have halike := h.alike
  have hline (l : Nat) : t.lineAvail l = s.lineAvail l := by
    have hup : t.pierUp (pierOf l) = s.pierUp (pierOf l) := by
      have hinit : t.flag (Reg.PIER_STATUS_INITBUSY (pierOf l)) = s.flag (Reg.PIER_STATUS_INITBUSY (pierOf l)) := by
        unfold State.flag
        exact congrArg (· != 0) (hstatus l 3 1)
      unfold State.pierUp
      rw [hready, hpwr, hcal, hupd, hinit]
    have hpaused : t.linePaused l = s.linePaused l := by
      have : t.get (Reg.PIER_STATUS_PAUSED (pierOf l)) = s.get (Reg.PIER_STATUS_PAUSED (pierOf l)) := hstatus l 16 8
      unfold State.linePaused
      rw [this]
    have hopen : t.wayOpen (lcPlace l) false = s.wayOpen (lcPlace l) false := by
      funext w
      unfold State.wayOpen
      simp only [halike.lcSet, halike.writePending, Bool.not_false, Bool.true_or, Bool.true_and]
    unfold State.lineAvail State.lineUp State.bankUrgent State.rereading State.fillOpen
    rw [hup, hpaused, halike.cached, halike.lcSet, hopen, hlm]
  unfold State.memAvail
  simp only [hline]

theorem State.deliveredIn_memAvail (s : State) (e : Nat × Nat × Frame) (a n : Nat) : (s.deliveredIn e).memAvail a n = s.memAvail a n :=
  (s.deliveredIn_noted e).memAvail a n

theorem State.deliveredIn_targetCheck (s : State) (e : Nat × Nat × Frame) (f : Frame) : (s.deliveredIn e).targetCheck f = s.targetCheck f :=
  (s.deliveredIn_noted e).field (·.targetCheck f) fun _ _ _ => rfl

end Sys2Proof.Machine
end

section
open Sys2Proof Sys2Proof.Machine

namespace Sys2Proof.Machine

/-! ### Performing a request -/

section
variable {s : State} {f : Frame}

/-- A request that passed its checks and is not for DRAM is for a bowl, and is no atomic (R291). -/
theorem State.targetCheck_bowl (hcheck : s.targetCheck f = 0) (hplace : placeOf f.addr ≠ .dram) :
    (∃ i off, placeOf f.addr = .bowl i off) ∧ f.fkind ≠ 5 := by
  unfold State.targetCheck at hcheck
  dsimp only at hcheck
  split at hcheck
  · cases hcheck
  · split at hcheck
    · cases hcheck
    · cases hcheck
    next i off hbowl =>
      refine ⟨⟨i, off, hbowl⟩, fun hkind => ?_⟩
      rw [if_pos hkind] at hcheck
      split at hcheck <;> cases hcheck
    next hdram => exact absurd hdram hplace

theorem State.targetPerform_bowlRead {i off : Nat} (hplace : placeOf f.addr = .bowl i off) (hkind : f.fkind = 1) :
    s.targetPerform f = ((0, s.bytes f.addr f.len), s) := by
  unfold State.targetPerform; rw [hplace]; exact if_pos hkind

theorem State.targetPerform_bowlWrite {i off : Nat} (hplace : placeOf f.addr = .bowl i off) (hkind : f.fkind = 3) :
    s.targetPerform f = ((0, []), s.putBytes f.addr f.body) := by
  unfold State.targetPerform; rw [hplace]; exact if_neg (by omega)

theorem State.targetPerform_read (hplace : placeOf f.addr = .dram) (hkind : f.fkind = 1) :
    s.targetPerform f = (((if (s.memRead f.addr f.len (f.flags.testBit 1)).1.isSome = true then 0 else 7),
      (s.memRead f.addr f.len (f.flags.testBit 1)).1.getD []), (s.memRead f.addr f.len (f.flags.testBit 1)).2) := by
  unfold State.targetPerform
  rw [hplace, hkind]
  dsimp only
  cases (s.memRead f.addr f.len (f.flags.testBit 1)).1 <;> rfl

theorem State.targetPerform_write (hplace : placeOf f.addr = .dram) (hkind : f.fkind = 3) :
    s.targetPerform f = (((if (s.memWrite f.addr f.body (f.flags.testBit 1)).1 = true then 0 else 7), []),
      (s.memWrite f.addr f.body (f.flags.testBit 1)).2) := by
  unfold State.targetPerform
  rw [hplace, hkind]
  dsimp only
  cases (s.memWrite f.addr f.body (f.flags.testBit 1)).1 <;> rfl

/-- The operands of an atomic lie in its body (R269). -/
def State.frameAtomic (s : State) (f : Frame) : Option Nat × State :=
  s.lineAtomic f.addr (atomicOf f.aop) (leAt f.body 0 (atomicWidth (atomicOf f.aop)))
    (leAt f.body (atomicWidth (atomicOf f.aop)) (atomicWidth (atomicOf f.aop)))

theorem State.targetPerform_atomic_some (hplace : placeOf f.addr = .dram) (hkind : f.fkind = 5) {v : Nat}
    (hv : (s.frameAtomic f).1 = some v) :
    s.targetPerform f = ((0, leBytes (atomicWidth (atomicOf f.aop)) v), (s.frameAtomic f).2) := by
  unfold State.frameAtomic at hv ⊢
  unfold State.targetPerform
  rw [hplace, hkind]
  dsimp only
  rw [hv]
  rfl

theorem State.targetPerform_atomic_none (hplace : placeOf f.addr = .dram) (hkind : f.fkind = 5) (hv : (s.frameAtomic f).1 = none) :
    s.targetPerform f = ((7, []), (s.frameAtomic f).2) := by
  unfold State.frameAtomic at hv ⊢
  unfold State.targetPerform
  rw [hplace, hkind]
  dsimp only
  rw [hv]
  rfl

end

/-! ### Delivering a request -/

section
variable {s : State} {f : Frame}

theorem State.deliverRequest_refused (hcheck : s.targetCheck f ≠ 0) : s.deliverRequest f = some (s.respond f (s.targetCheck f) []) := if_pos hcheck

theorem State.deliverRequest_waits (hcheck : s.targetCheck f = 0) (hplace : placeOf f.addr = .dram)
    (havail : s.memAvail f.addr (requestLen f) = false) : s.deliverRequest f = none := by
  unfold State.deliverRequest
  rw [hcheck]
  exact (if_neg (by omega)).trans (if_pos (by simp [hplace, havail]))

theorem State.deliverRequest_performed (hcheck : s.targetCheck f = 0)
    (havail : placeOf f.addr = .dram → s.memAvail f.addr (requestLen f) = true) {code : Nat} {body : List Byte} {x : State}
    (hperform : s.targetPerform f = ((code, body), x)) : s.deliverRequest f = some (x.respond f code body) := by
  have hwait : ((placeOf f.addr = .dram) && !s.memAvail f.addr (requestLen f)) = false := by
    by_cases hplace : placeOf f.addr = .dram
    · simp [havail hplace]
    · simp [hplace]
  unfold State.deliverRequest
  rw [hcheck, hperform]
  exact (if_neg (by omega)).trans (if_neg (by simp [hwait]))

end

theorem RegsBut.keeping {rs : List Nat} {s t : State} (h : RegsBut rs s t) : RegsBut rs s (s.keeping t) := h
theorem MemSame.keeping {s t : State} (h : MemSame s t) : MemSame s (s.keeping t) := h

section
variable {s : State} {p : Fin 10} (hrun : s.running = true) {c : Instr} {kind : Nat} (hc : (c, kind) ∈ dataKinds p) {e : Nat × Nat × Frame}
  (he : s.headFrame p (fun f => f.fkind == kind) = some e) (hkey : (s.delivered p e).skey = s.get Reg.RTR_SKEY_SKEY)
  (hloaded : s.flag Reg.JIG_STATUS_LOADED = true) (hdst : (s.delivered p e).dstmod = s.ownMod)

include he in
theorem delivered_kind : (s.delivered p e).fkind = kind := beq_iff_eq.1 (State.headFrame_test he)

include hrun hc he hkey hloaded hdst

theorem exec_delivered_request (hreq : (s.delivered p e).isRequest = true) :
    exec c s = .next (s.keeping (((s.deliveredIn e).deliverRequest (s.delivered p e)).getD s)) := by
  have hkind : kind = 1 ∨ kind = 3 ∨ kind = 5 := by
    have := delivered_kind he
    simp only [Frame.isRequest, Bool.or_eq_true, beq_iff_eq] at hreq
    omega
  rw [exec_request_eq p hrun hc hkind, State.ingress_here State.deliverRequest he hkey hloaded hdst]

theorem exec_delivered_answer (hrsp : (s.delivered p e).isResponse = true) :
    exec c s = .next (s.keeping (((s.deliveredIn e).deliverResponse (s.delivered p e)).getD s)) := by
  have hkind : kind = 2 ∨ kind = 4 ∨ kind = 6 := by
    have := delivered_kind he
    simp only [Frame.isResponse, Bool.or_eq_true, beq_iff_eq] at hrsp
    omega
  rw [exec_answer_eq p hrun hc hkind, State.ingress_here State.deliverResponse he hkey hloaded hdst]

section
variable (hreq : (s.delivered p e).isRequest = true)
include hreq

/-- The first check that fails gives the code of the response, and nothing else changes (R291). -/
theorem exec_refused (hcheck : s.targetCheck (s.delivered p e) ≠ 0) (hsrc : (s.delivered p e).srcmod ≠ s.ownMod) :
    ∃ t, exec c s = .next t ∧ RegsBut [] s t ∧ MemSame s t
      ∧ t.rtr = originated s (responseTo s (s.delivered p e) (s.targetCheck (s.delivered p e)) []) (s.consume e).rtr := by
  rw [← s.deliveredIn_targetCheck e] at hcheck ⊢
  obtain ⟨hrtr, honly⟩ := (s.answering_deliveredIn e).respond hsrc ((s.deliveredIn e).targetCheck (s.delivered p e)) []
  have hin := s.deliveredIn_noted e
  refine ⟨_, exec_delivered_request hrun hc he hkey hloaded hdst hreq, ?_⟩
  rw [State.deliverRequest_refused hcheck, Option.getD_some]
  refine ⟨RegsBut.keeping fun a ha hn => (honly.regsBut [] a ha hn).trans (hin.2 a hn), MemSame.keeping fun a => ?_, hrtr⟩
  exact (honly.memSame a).trans (hin.memSame a)

/-- A request whose memory cannot be reached waits. -/
theorem exec_waits (hcheck : s.targetCheck (s.delivered p e) = 0) (hplace : placeOf (s.delivered p e).addr = .dram)
    (havail : s.memAvail (s.delivered p e).addr (requestLen (s.delivered p e)) = false) : exec c s = .next s := by
  rw [← s.deliveredIn_targetCheck e] at hcheck
  rw [← s.deliveredIn_memAvail e] at havail
  rw [exec_delivered_request hrun hc he hkey hloaded hdst hreq, State.deliverRequest_waits hcheck hplace havail]
  rfl

/-- A request that is performed is answered, and nothing changes after that but the router and what is noted. -/
theorem exec_performed (hcheck : s.targetCheck (s.delivered p e) = 0) (hsrc : (s.delivered p e).srcmod ≠ s.ownMod)
    (havail : placeOf (s.delivered p e).addr = .dram → s.memAvail (s.delivered p e).addr (requestLen (s.delivered p e)) = true)
    {code : Nat} {body : List Byte} {x : State} (hperform : (s.deliveredIn e).targetPerform (s.delivered p e) = ((code, body), x))
    (hstep : MemStep (s.deliveredIn e) x) :
    ∃ t, exec c s = .next t ∧ MemSame x t ∧ t.rtr = originated s (responseTo s (s.delivered p e) code body) (s.consume e).rtr := by
  rw [← s.deliveredIn_targetCheck e] at hcheck
  rw [← s.deliveredIn_memAvail e] at havail
  obtain ⟨hrtr, honly⟩ := ((s.answering_deliveredIn e).memStep hstep).respond hsrc code body
  refine ⟨_, exec_delivered_request hrun hc he hkey hloaded hdst hreq, ?_⟩
  rw [State.deliverRequest_performed hcheck havail hperform, Option.getD_some]
  exact ⟨fun a => honly.memSame a, hrtr⟩

end

end

end Sys2Proof.Machine
end

section
open Sys2Proof Sys2Proof.Machine

namespace Sys2Proof.Machine

theorem Alike.byte {s t : State} (h : Alike s t) (a : Nat) : t.byte a = s.byte a := congrArg (smapGet memByte · a) h.mem

theorem Alike.frameAtomic {s t : State} (h : Alike s t) (f : Frame) : SameAnswer (s.frameAtomic f) (t.frameAtomic f) := h.lineAtomic _ _ _ _

theorem memStep_frameAtomic (s : State) (f : Frame) : MemStep s (s.frameAtomic f).2 := by
  have hread := (lineStep_lineRead s (lineOf f.addr) false).toMemStep
  unfold State.frameAtomic
  cases hd : (s.lineRead (lineOf f.addr) false).1 with
  | none =>
    rw [State.lineAtomic_of_none _ _ _ hd]
    exact hread
  | some d =>
    rw [State.lineAtomic_of_isSome _ _ _ (by rw [hd]; rfl)]
    exact hread.trans (State.lineStore_step _ _ _ _).1

/-- The new value of an atomic that its frame carries (R178). -/
def frameNew (f : Frame) (old : Nat) : Nat :=
  atomicNew (atomicOf f.aop) old (leAt f.body 0 (atomicWidth (atomicOf f.aop)))
    (leAt f.body (atomicWidth (atomicOf f.aop)) (atomicWidth (atomicOf f.aop)))

/-- An atomic at its home slice (R178): the old value, and the new one in its place. -/
theorem frameAtomic_spec {s : State} {f : Frame} (hread : (s.lineRead (lineOf f.addr) false).1.isSome = true)
    (halign : f.addr % atomicWidth (atomicOf f.aop) = 0) :
    (s.frameAtomic f).1 = some ((s.lineRead (lineOf f.addr) false).2.num f.addr (atomicWidth (atomicOf f.aop)))
      ∧ Stored f.addr (leBytes (atomicWidth (atomicOf f.aop)) (frameNew f
          ((s.lineRead (lineOf f.addr) false).2.num f.addr (atomicWidth (atomicOf f.aop))))) (s.frameAtomic f).2
      ∧ (∀ a, a < f.addr ∨ f.addr + atomicWidth (atomicOf f.aop) ≤ a →
          (s.frameAtomic f).2.byte a = (s.lineRead (lineOf f.addr) false).2.byte a)
      ∧ ∀ a, lineOf a ≠ lineOf f.addr → (s.frameAtomic f).2.byte a = s.byte a := by
  have hwidth := atomicWidth_cases (atomicOf f.aop)
  have hline := (lineStep_lineRead s (lineOf f.addr) false).line
  have heq : s.frameAtomic f = _ := State.lineAtomic_of_isSome (atomicOf f.aop) _ _ hread
  rw [heq]
  generalize (s.lineRead (lineOf f.addr) false).2 = x at hline
  have hbase : 64 * lineOf f.addr + f.addr % 64 = f.addr := by unfold lineOf; omega
  have hstored := stored_lineStore x (lineOf f.addr) (f.addr % 64) (leBytes (atomicWidth (atomicOf f.aop))
    (frameNew f (x.num f.addr (atomicWidth (atomicOf f.aop)))))
  have hbyte := (x.lineStore_step (lineOf f.addr) (f.addr % 64) (leBytes (atomicWidth (atomicOf f.aop))
    (frameNew f (x.num f.addr (atomicWidth (atomicOf f.aop)))))).2
  have hstep := lineStep_lineStore x (lineOf f.addr) (f.addr % 64) (d := leBytes (atomicWidth (atomicOf f.aop))
    (frameNew f (x.num f.addr (atomicWidth (atomicOf f.aop))))) (by rw [length_leBytes]; rcases hwidth with h | h <;> rw [h] at halign ⊢ <;> omega)
  rw [hbase] at hstored hbyte
  exact ⟨rfl, hstored, fun a ha => (hbyte a).trans (x.byte_putBytes_ne _ (by rwa [length_leBytes])),
    fun a ha => (hstep.line a ha).trans (hline a ha)⟩

section
variable {s : State} {p : Fin 10} (hrun : s.running = true) {c : Instr} {kind : Nat} (hc : (c, kind) ∈ dataKinds p) {e : Nat × Nat × Frame}
  (he : s.headFrame p (fun f => f.fkind == kind) = some e) (hkey : (s.delivered p e).skey = s.get Reg.RTR_SKEY_SKEY)
  (hloaded : s.flag Reg.JIG_STATUS_LOADED = true) (hdst : (s.delivered p e).dstmod = s.ownMod)
  (hreq : (s.delivered p e).isRequest = true) (hcheck : s.targetCheck (s.delivered p e) = 0)
  (hsrc : (s.delivered p e).srcmod ≠ s.ownMod)
include hrun hc he hkey hloaded hdst hreq hcheck hsrc

section
variable (hplace : placeOf (s.delivered p e).addr ≠ .dram)
include hplace

/-- A read of a bowl (R28). -/
theorem exec_bowlRead (hkind : kind = 1) : ∃ t, exec c s = .next t ∧ MemSame s t
    ∧ t.rtr = originated s (responseTo s (s.delivered p e) 0 (s.bytes (s.delivered p e).addr (s.delivered p e).len)) (s.consume e).rtr := by
  obtain ⟨⟨i, off, hbowl⟩, -⟩ := State.targetCheck_bowl hcheck hplace
  have halike := s.deliveredIn_alike e
  obtain ⟨t, ht, hmem, hrtr⟩ := exec_performed hrun hc he hkey hloaded hdst hreq hcheck hsrc (fun h => absurd h hplace)
    (State.targetPerform_bowlRead hbowl ((delivered_kind he).trans hkind)) (MemStep.refl _)
  refine ⟨t, ht, fun a => (hmem a).trans (halike.byte a), ?_⟩
  rw [hrtr, halike.bytes]

/-- A write of a bowl (R28). -/
theorem exec_bowlWrite (hkind : kind = 3) : ∃ t, exec c s = .next t
    ∧ t.rtr = originated s (responseTo s (s.delivered p e) 0 []) (s.consume e).rtr
    ∧ Stored (s.delivered p e).addr (s.delivered p e).body t
    ∧ ∀ a, a < (s.delivered p e).addr ∨ (s.delivered p e).addr + (s.delivered p e).body.length ≤ a → t.byte a = s.byte a := by
  obtain ⟨⟨i, off, hbowl⟩, -⟩ := State.targetCheck_bowl hcheck hplace
  have halike := s.deliveredIn_alike e
  obtain ⟨t, ht, hmem, hrtr⟩ := exec_performed hrun hc he hkey hloaded hdst hreq hcheck hsrc (fun h => absurd h hplace)
    (State.targetPerform_bowlWrite hbowl ((delivered_kind he).trans hkind)) (memStep_putBytes _ _ _)
  exact ⟨t, ht, hrtr, fun k hk => (hmem _).trans (State.byte_putBytes_at _ _ _ k hk),
    fun a ha => ((hmem a).trans (State.byte_putBytes_ne _ _ ha)).trans (halike.byte a)⟩

end

section
variable (hplace : placeOf (s.delivered p e).addr = .dram)
  (havail : s.memAvail (s.delivered p e).addr (requestLen (s.delivered p e)) = true)
include hplace havail

/-- A read of DRAM (R175, R292). -/
theorem exec_dramRead (hkind : kind = 1) :
    let d := s.memRead (s.delivered p e).addr (s.delivered p e).len ((s.delivered p e).flags.testBit 1)
    ∃ t, exec c s = .next t ∧ MemSame d.2 t
      ∧ t.rtr = originated s (responseTo s (s.delivered p e) (if d.1.isSome = true then 0 else 7) (d.1.getD [])) (s.consume e).rtr := by
  obtain ⟨hdata, hstate⟩ := (s.deliveredIn_alike e).memRead (s.delivered p e).addr (s.delivered p e).len ((s.delivered p e).flags.testBit 1)
  obtain ⟨t, ht, hmem, hrtr⟩ := exec_performed hrun hc he hkey hloaded hdst hreq hcheck hsrc (fun _ => havail)
    (State.targetPerform_read hplace ((delivered_kind he).trans hkind)) (memStep_memRead _ _ _ _)
  refine ⟨t, ht, fun a => (hmem a).trans (hstate.byte a), ?_⟩
  rw [hrtr, hdata]

/-- A write of DRAM (R176, R292). -/
theorem exec_dramWrite (hkind : kind = 3) :
    let w := s.memWrite (s.delivered p e).addr (s.delivered p e).body ((s.delivered p e).flags.testBit 1)
    ∃ t, exec c s = .next t ∧ MemSame w.2 t
      ∧ t.rtr = originated s (responseTo s (s.delivered p e) (if w.1 = true then 0 else 7) []) (s.consume e).rtr
      ∧ (w.1 = true → Stored (s.delivered p e).addr (s.delivered p e).body t)
      ∧ ∀ a, lineOf a < lineOf (s.delivered p e).addr ∨ lineOf ((s.delivered p e).addr + (s.delivered p e).body.length - 1) < lineOf a →
          t.byte a = s.byte a := by
  obtain ⟨hdone, hstate⟩ := (s.deliveredIn_alike e).memWrite (s.delivered p e).addr (s.delivered p e).body ((s.delivered p e).flags.testBit 1)
  obtain ⟨-, hout, hstored⟩ := memWrite_spec s (s.delivered p e).addr (s.delivered p e).body ((s.delivered p e).flags.testBit 1)
  obtain ⟨t, ht, hmem, hrtr⟩ := exec_performed hrun hc he hkey hloaded hdst hreq hcheck hsrc (fun _ => havail)
    (State.targetPerform_write hplace ((delivered_kind he).trans hkind)) (memWrite_spec _ _ _ _).1
  have hsame : MemSame (s.memWrite (s.delivered p e).addr (s.delivered p e).body ((s.delivered p e).flags.testBit 1)).2 t :=
    fun a => (hmem a).trans (hstate.byte a)
  refine ⟨t, ht, hsame, ?_, fun hok k hk => (hsame _).trans (hstored hok k hk), fun a ha => (hsame a).trans (hout a ha)⟩
  rw [hrtr, hdone]

/-- An atomic (R178, R292). -/
theorem exec_dramAtomic (hkind : kind = 5) :
    let op := atomicOf (s.delivered p e).aop
    let w := atomicWidth op
    let d := s.lineRead (lineOf (s.delivered p e).addr) false
    let old := d.2.num (s.delivered p e).addr w
    (d.1.isSome = true → (s.delivered p e).addr % w = 0 →
      ∃ t, exec c s = .next t ∧ t.rtr = originated s (responseTo s (s.delivered p e) 0 (leBytes w old)) (s.consume e).rtr
        ∧ t.num (s.delivered p e).addr w = atomicNew op old (leAt (s.delivered p e).body 0 w) (leAt (s.delivered p e).body w w)
        ∧ (∀ a, a < (s.delivered p e).addr ∨ (s.delivered p e).addr + w ≤ a → t.byte a = d.2.byte a)
        ∧ ∀ a, lineOf a ≠ lineOf (s.delivered p e).addr → t.byte a = s.byte a)
    ∧ (d.1 = none → ∃ t, exec c s = .next t ∧ MemSame d.2 t
        ∧ t.rtr = originated s (responseTo s (s.delivered p e) 7 []) (s.consume e).rtr) := by
  intro op w d old
  obtain ⟨hold, hstate⟩ := (s.deliveredIn_alike e).frameAtomic (s.delivered p e)
  have hfkind := (delivered_kind he).trans hkind
  have hstep := memStep_frameAtomic (s.deliveredIn e) (s.delivered p e)
  refine ⟨fun hread halign => ?_, fun hread => ?_⟩
  · obtain ⟨hsome, hstored, hbeside, hline⟩ := frameAtomic_spec hread halign
    obtain ⟨t, ht, hmem, hrtr⟩ := exec_performed hrun hc he hkey hloaded hdst hreq hcheck hsrc (fun _ => havail)
      (State.targetPerform_atomic_some hplace hfkind (hold.trans hsome)) hstep
    have hsame : MemSame (s.frameAtomic (s.delivered p e)).2 t := fun a => (hmem a).trans (hstate.byte a)
    have hstoredT : Stored (s.delivered p e).addr (leBytes w (frameNew (s.delivered p e) old)) t := fun k hk => (hsame _).trans (hstored k hk)
    exact ⟨t, ht, hrtr, hstoredT.num (atomicNew_lt op _ _ (State.num_lt _ _ _)), fun a ha => (hsame a).trans (hbeside a ha),
      fun a ha => (hsame a).trans (hline a ha)⟩
  · have hnone : s.frameAtomic (s.delivered p e) = (none, d.2) := State.lineAtomic_of_none _ _ _ hread
    rw [hnone] at hold hstate
    obtain ⟨t, ht, hmem, hrtr⟩ := exec_performed hrun hc he hkey hloaded hdst hreq hcheck hsrc (fun _ => havail)
      (State.targetPerform_atomic_none hplace hfkind hold) hstep
    exact ⟨t, ht, fun a => (hmem a).trans (hstate.byte a), hrtr⟩

end

end

end Sys2Proof.Machine
end

section
open Sys2Proof Sys2Proof.Machine

namespace Sys2Proof.Machine

/-! ### The headstock's own accesses leave the spindles alone -/

/-- The spindles are as they were. -/
def SpnSame (s t : State) : Prop := t.spn = s.spn

theorem SpnSame.refl (s : State) : SpnSame s s := rfl

theorem SpnSame.trans {s t u : State} (h : SpnSame s t) (k : SpnSame t u) : SpnSame s u := Eq.trans k h

theorem SpnSame.ite {s t u : State} {c : Prop} [Decidable c] (h : SpnSame s t) (k : SpnSame s u) : SpnSame s (if c then t else u) := by
  split <;> assumption

theorem SpnSame.foldl {α : Type} (l : List α) {f : State → α → State} (hf : ∀ s x, SpnSame s (f s x)) (s : State) :
    SpnSame s (l.foldl f s) :=
  List.foldlRecOn l f (b := s) (motive := SpnSame s) (SpnSame.refl s) fun t ht x _ => ht.trans (hf t x)

theorem MemStep.spnSame {s t : State} (h : MemStep s t) : SpnSame s t := h.field State.spn fun _ _ _ _ _ _ _ => rfl

theorem spnSame_memRead (s : State) (a n : Nat) (nal : Bool) : SpnSame s (s.memRead a n nal).2 := (memStep_memRead s a n nal).spnSame
theorem spnSame_memWrite (s : State) (a : Nat) (d : List Byte) (nal : Bool) : SpnSame s (s.memWrite a d nal).2 := (memWrite_spec s a d nal).1.spnSame

theorem spnSame_lineAtomic (s : State) (a : Nat) (op : AtomicOp) (x y : Nat) : SpnSame s (s.lineAtomic a op x y).2 := by
  have hread := (lineStep_lineRead s (lineOf a) false).toMemStep
  cases hd : (s.lineRead (lineOf a) false).1 with
  | none =>
    rw [State.lineAtomic_of_none _ _ _ hd]
    exact hread.spnSame
  | some d =>
    rw [State.lineAtomic_of_isSome _ _ _ (by rw [hd]; rfl)]
    exact (hread.trans (State.lineStore_step _ _ _ _).1).spnSame

theorem spnSame_updReq (s : State) (h : Nat) (f : Request → Request) : SpnSame s (s.updReq h f) := rfl
theorem spnSame_setBlocks (s : State) (n : Nat) (l : List (Nat × Nat × Bool)) : SpnSame s (s.setBlocks n l) := rfl
theorem spnSame_endCause (s : State) (h code detail reason : Nat) : SpnSame s (s.endCause h code detail reason) := rfl
theorem spnSame_pubTo (s : State) (h b : Nat) (st : PubStep) (e : Nat) : SpnSame s (s.pubTo h b st e) := rfl
theorem spnSame_hds (s : State) (x : HdsState) : SpnSame s { s with hds := x } := rfl

theorem spnSame_sat (s : State) (l : Loc) (n : Nat) : SpnSame s (s.sat l n) := s.spn_sat l n

theorem spnSame_remoteIssue (s : State) (owner : RemoteOwner) (fkind g len aop : Nat) (body : List Byte) :
    SpnSame s (s.remoteIssue owner fkind g len aop body) := by
  unfold State.remoteIssue
  split <;> rfl

theorem spnSame_hdsPut (s : State) (h a : Nat) (d : List Byte) : SpnSame s (s.hdsPut h a d) := by
  unfold State.hdsPut
  exact SpnSame.ite (spnSame_memWrite s a d false) ((spnSame_memWrite s a d false).trans (spnSame_endCause _ _ _ _ _))

theorem spnSame_poolPush (s : State) (a : Nat) : SpnSame s (s.poolPush a) := by
  unfold State.poolPush
  exact SpnSame.ite ((spnSame_memWrite s _ _ _).trans (spnSame_hds _ _)) (SpnSame.refl s)

theorem spnSame_slotNtok (s : State) (n v : Nat) : SpnSame s (s.slotNtok n v) := spnSame_memWrite s _ _ _
theorem spnSame_slotState (s : State) (n v : Nat) : SpnSame s (s.slotState n v) := spnSame_memWrite s _ _ _

theorem spnSame_freeSlot (s : State) (n : Nat) : SpnSame s (s.freeSlot n) := by
  unfold State.freeSlot
  exact (((SpnSame.foldl _ (fun u b => spnSame_poolPush u _) s).trans (spnSame_setBlocks _ n _)).trans (spnSame_slotNtok _ n 0)).trans
    (spnSame_slotState _ n 0)

theorem spnSame_requestGone (s : State) (h : Nat) : SpnSame s (s.requestGone h) := by
  unfold State.requestGone
  split
  · exact SpnSame.refl s
  · exact (SpnSame.ite ((spnSame_slotNtok s _ _).trans (spnSame_slotState _ _ _)) (spnSame_freeSlot s _)).trans (spnSame_hds _ _)

theorem spnSame_writeBundle (s : State) (h : Nat) (r : Request) (b blockAddr : Nat) : SpnSame s (s.writeBundle h r b blockAddr).2 := by
  unfold State.writeBundle
  refine List.foldlRecOn _ _ (b := (true, s)) (motive := fun acc => SpnSame s acc.2) (SpnSame.refl s) fun acc hacc lh _ => ?_
  split
  · exact hacc
  · have hread := hacc.trans (spnSame_memRead acc.2 (recordAddr r r.hdr lh b) (2 * r.hdr.dim) false)
    dsimp only
    split
    · exact hread.trans (spnSame_hdsPut _ _ _ _)
    · exact hread

theorem spnSame_prefixPump (fuel : Nat) (s : State) (h : Nat) : SpnSame s (State.prefixPump fuel s h) := by
  induction fuel generalizing s with
  | zero => exact SpnSame.refl s
  | succ fuel ih =>
    rw [State.prefixPump]
    split
    · exact SpnSame.refl s
    · dsimp only
      split
      · exact SpnSame.refl s
      · split
        · exact ((spnSame_memRead s _ _ _).trans (spnSame_updReq _ _ _)).trans (ih _)
        · split
          · exact ((spnSame_remoteIssue s _ _ _ _ _ _).trans (spnSame_updReq _ _ _)).trans (ih _)
          · exact SpnSame.refl s

theorem spnSame_prefixGo (s : State) (h : Nat) : SpnSame s (s.prefixGo h) := by
  unfold State.prefixGo
  split
  · exact SpnSame.refl s
  · exact spnSame_prefixPump _ s h

theorem spnSame_pubAnswer (s : State) (h order b : Nat) (d : Option (List Byte)) : SpnSame s (s.pubAnswer h order b d) := by
  unfold State.pubAnswer
  split
  · exact SpnSame.refl s
  · split
    · split
      · exact SpnSame.refl s
      · split
        · exact spnSame_pubTo s _ _ _ _
        · dsimp only
          split
          · exact SpnSame.refl s
          · split
            · exact spnSame_pubTo s _ _ _ _
            · split
              · exact spnSame_pubTo s _ _ _ _
              · exact (spnSame_sat s _ 1).trans (spnSame_pubTo _ _ _ _ _)
          · exact SpnSame.ite (spnSame_pubTo s _ _ _ _) (spnSame_pubTo s _ _ _ _)
          · exact spnSame_pubTo s _ _ _ _
          · exact (spnSame_setBlocks s _ _).trans (spnSame_pubTo _ _ _ _ _)
    · exact SpnSame.refl s

theorem spnSame_pubRun (fuel : Nat) (s : State) (h : Nat) : SpnSame s (State.pubRun fuel s h) := by
  induction fuel generalizing s with
  | zero => exact SpnSame.refl s
  | succ fuel ih =>
    rw [State.pubRun]
    split
    · exact SpnSame.refl s
    · split
      · split
        · exact spnSame_requestGone s h
        · split
          · exact (spnSame_pubTo s _ _ _ _).trans (ih _)
          · dsimp only
            split
            · have hbundle := spnSame_writeBundle s h
              exact (SpnSame.ite ((hbundle _ _ _).trans (spnSame_pubTo _ _ _ _ _)) ((hbundle _ _ _).trans (spnSame_pubTo _ _ _ _ _))).trans (ih _)
            · split
              · refine SpnSame.trans ?_ (ih _)
                refine SpnSame.trans ?_ (spnSame_pubAnswer _ _ _ _ _)
                split
                · exact spnSame_memRead s _ _ _
                · exact spnSame_lineAtomic s _ _ _ _
                · exact spnSame_memWrite s _ _ _
              · exact SpnSame.ite (spnSame_remoteIssue s _ _ _ _ _ _) (SpnSame.refl s)
      · exact spnSame_requestGone s h

theorem spnSame_pubGo (s : State) (h : Nat) : SpnSame s (s.pubGo h) := by
  unfold State.pubGo
  split
  · exact SpnSame.refl s
  · exact SpnSame.ite (SpnSame.refl s) (spnSame_pubRun _ s h)

theorem spnSame_hdsResume (s : State) : SpnSame s s.hdsResume := by
  unfold State.hdsResume State.forEach
  refine SpnSame.foldl _ (fun u h => ?_) s
  split
  · exact SpnSame.refl u
  · exact SpnSame.ite (spnSame_pubGo u h) (SpnSame.ite (SpnSame.refl u) (spnSame_prefixGo u h))

/-- Without requests nothing goes on. -/
theorem State.hdsResume_of_none {s : State} (h : s.hds.requests = []) : s.hdsResume = s := by
  unfold State.hdsResume State.forEach
  rw [h]
  rfl

end Sys2Proof.Machine
end

section
open Sys2Proof Sys2Proof.Machine

namespace Sys2Proof.Machine

/-! ### Gangs -/

theorem gang_of_spn {s t : State} (h : SpnSame s t) (i g : Nat) : t.gang i g = s.gang i g := by
  have hspn : t.spn = s.spn := h
  unfold State.gang State.spindle
  rw [hspn]

/-- A changed gang is read back (as `smapGet_set` for the spindles). -/
theorem gang_updGang (s : State) (i g : Nat) {f : Gang → Gang} (hf : ∀ x, (f x).gang = x.gang) {x : Gang} (h : s.gang i g = some x) :
    (s.updGang i g f).gang i g = some (f x) := by
  have hx : x.gang = g := beq_iff_eq.1 (List.find?_some (p := fun y : Gang => y.gang == g) h)
  have hpred : (fun y : Gang => y.gang == g) ∘ (fun y : Gang => if y.gang = g then f y else y) = fun y : Gang => y.gang == g := by
    funext y
    simp only [Function.comp_apply]
    split
    · rw [hf]
    · rfl
  unfold State.gang State.spindle at h ⊢
  unfold State.updGang State.updSpindle State.setSpindle State.spindle
  rw [smapGet_set, List.find?_map, hpred, h, Option.map_some, if_pos hx]

theorem loadHas_loadResult (s : State) (i g num th : Nat) (r : LoadResult) : LoadHas i g num th r s (s.loadResult i g num th r) := by
  intro x hx
  unfold State.loadResult
  refine gang_updGang s i g ?_ hx
  exact fun _ => rfl

theorem LoadHas.of_spn {s s' t t' : State} {i g num th : Nat} {r : LoadResult} (h : LoadHas i g num th r s t) (hs : SpnSame s' s)
    (ht : SpnSame t t') : LoadHas i g num th r s' t' := by
  intro x hx
  rw [gang_of_spn ht]
  exact h x (by rw [gang_of_spn hs]; exact hx)

/-! ### Completing a remote operation -/

/-- A load's answer without ROL (R99, R288): its thread has its value, and the headstock may go on. -/
theorem State.remoteComplete_load {s : State} {op : RemoteOp} {i g num th : Nat} (howner : op.owner = .load i g num th)
    (hrol : op.frame.flags.testBit 2 = false) (data : List Byte) :
    s.remoteComplete op 0 data = ((s.remoteFree op.index).loadResult i g num th (.value (leNat data))).hdsResume := by
  unfold State.remoteComplete
  rw [howner]
  dsimp only
  rw [hrol]
  simp only [Bool.and_false, Bool.false_and, Bool.false_eq_true, if_false]
  rfl

theorem remote_remoteFree (s : State) (k : Nat) : (s.remoteFree k).remote k = none := by
  unfold State.remote State.remoteFree
  rw [List.find?_filter, List.find?_eq_none]
  intro o _
  simp

theorem spnSame_remoteFree (s : State) (k : Nat) : SpnSame s (s.remoteFree k) := rfl

theorem State.deliveredIn_remote (s : State) (e : Nat × Nat × Frame) (k : Nat) : (s.deliveredIn e).remote k = s.remote k :=
  (s.deliveredIn_noted e).field (·.remote k) fun _ _ _ => rfl

theorem State.deliverResponse_live {s : State} {f : Frame} {op : RemoteOp} (hop : s.remote (f.tag % 2 ^ 14) = some op)
    (hsent : op.sent = true) (htag : op.frame.tag = f.tag) (hkind : op.frame.fkind + 1 = f.fkind) :
    s.deliverResponse f = some (s.remoteComplete op f.code f.body) := by
  unfold State.deliverResponse
  rw [hop]
  exact if_pos ⟨hsent, htag, hkind⟩

theorem State.deliverResponse_late {s : State} {f : Frame}
    (h : ∀ op, s.remote (f.tag % 2 ^ 14) = some op → op.sent = false ∨ op.frame.tag ≠ f.tag ∨ op.frame.fkind + 1 ≠ f.fkind) :
    s.deliverResponse f = some (s.drop Reg.RTR_DROP_LATE) := by
  unfold State.deliverResponse
  cases hop : s.remote (f.tag % 2 ^ 14) with
  | none => rfl
  | some op =>
    refine if_neg fun ⟨hsent, htag, hkind⟩ => ?_
    obtain hno | hno | hno := h op hop
    · rw [hno] at hsent; cases hsent
    · exact hno htag
    · exact hno hkind

section
variable {s : State} {p : Fin 10} (hrun : s.running = true) {c : Instr} {kind : Nat} (hc : (c, kind) ∈ dataKinds p) {e : Nat × Nat × Frame}
  (he : s.headFrame p (fun f => f.fkind == kind) = some e) (hkey : (s.delivered p e).skey = s.get Reg.RTR_SKEY_SKEY)
  (hloaded : s.flag Reg.JIG_STATUS_LOADED = true) (hdst : (s.delivered p e).dstmod = s.ownMod)
  (hrsp : (s.delivered p e).isResponse = true)
include hrun hc he hkey hloaded hdst hrsp

section
variable {op : RemoteOp} (hop : s.remote ((s.delivered p e).tag % 2 ^ 14) = some op) (hsent : op.sent = true)
  (htag : op.frame.tag = (s.delivered p e).tag) (hkind : op.frame.fkind + 1 = (s.delivered p e).fkind)
include hop hsent htag hkind

/-- A response whose TAG names a live operation completes it (R288). -/
theorem exec_live : exec c s = .next (s.keeping ((s.deliveredIn e).remoteComplete op (s.delivered p e).code (s.delivered p e).body)) := by
  rw [← s.deliveredIn_remote e] at hop
  rw [exec_delivered_answer hrun hc he hkey hloaded hdst hrsp, State.deliverResponse_live hop hsent htag hkind, Option.getD_some]

theorem exec_liveLoad {i g num th : Nat} (howner : op.owner = .load i g num th) (hcode : (s.delivered p e).code = 0)
    (hrol : op.frame.flags.testBit 2 = false) :
    ∃ t, exec c s = .next t ∧ LoadHas i g num th (.value (leNat (s.delivered p e).body)) s t
      ∧ (s.hds.requests = [] → t.remote op.index = none ∧ MemSame s t) := by
  have hin := s.deliveredIn_noted e
  have hspn : SpnSame s (s.deliveredIn e) := hin.field State.spn fun _ _ _ => rfl
  have hfree := spnSame_remoteFree (s.deliveredIn e) op.index
  have hhas := loadHas_loadResult ((s.deliveredIn e).remoteFree op.index) i g num th (.value (leNat (s.delivered p e).body))
  refine ⟨_, exec_live hrun hc he hkey hloaded hdst hrsp hop hsent htag hkind, ?_⟩
  rw [hcode, State.remoteComplete_load howner hrol]
  refine ⟨hhas.of_spn (hspn.trans hfree) ((spnSame_hdsResume _).trans (State.spn_keeping s _)), fun hnone => ?_⟩
  have hreqs : (((s.deliveredIn e).remoteFree op.index).loadResult i g num th (.value (leNat (s.delivered p e).body))).hds.requests = [] :=
    (hin.field (fun v => v.hds.requests) fun _ _ _ => rfl).trans hnone
  rw [State.hdsResume_of_none hreqs]
  exact ⟨remote_remoteFree (s.deliveredIn e) op.index, MemSame.keeping fun a => hin.memSame a⟩

end

/-- Any other response is discarded and counted (R288). -/
theorem exec_late (hlate : ∀ op, s.remote ((s.delivered p e).tag % 2 ^ 14) = some op →
      op.sent = false ∨ op.frame.tag ≠ (s.delivered p e).tag ∨ op.frame.fkind + 1 ≠ (s.delivered p e).fkind) :
    ∃ t, exec c s = .next t ∧ t.rtr = (s.consume e).rtr ∧ RegsBut [Reg.RTR_DROP] s t ∧ MemSame s t
      ∧ t.get Reg.RTR_DROP_LATE = min (s.get Reg.RTR_DROP_LATE + 1) (2 ^ Reg.RTR_DROP_LATE.width - 1) := by
  have hin := s.deliveredIn_noted e
  have hcount := noted_count ((s.deliveredIn e).sat Reg.RTR_DROP_LATE 1) 5 0 0x007 1 (by decide)
  have hset : RegsOnly [Reg.RTR_DROP] (s.deliveredIn e) ((s.deliveredIn e).sat Reg.RTR_DROP_LATE 1) :=
    RegsOnly.set _ _ (List.mem_singleton.2 rfl)
  have hregs : RegsBut [Reg.RTR_DROP] s ((s.deliveredIn e).drop Reg.RTR_DROP_LATE) :=
    RegsBut.trans (t := s.deliveredIn e) (hin.regsBut _) (hset.regsBut.trans (hcount.regsBut _))
  have hmem : MemSame s ((s.deliveredIn e).drop Reg.RTR_DROP_LATE) :=
    MemSame.trans (t := s.deliveredIn e) hin.memSame (hset.memSame.trans hcount.memSame)
  have hlate' : ∀ op, (s.deliveredIn e).remote ((s.delivered p e).tag % 2 ^ 14) = some op →
      op.sent = false ∨ op.frame.tag ≠ (s.delivered p e).tag ∨ op.frame.fkind + 1 ≠ (s.delivered p e).fkind := by
    rwa [s.deliveredIn_remote e]
  have hdrop : (s.deliveredIn e).get Reg.RTR_DROP_LATE = s.get Reg.RTR_DROP_LATE := hin.get _ (show noteReg Reg.RTR_DROP = false by decide)
  refine ⟨_, exec_delivered_answer hrun hc he hkey hloaded hdst hrsp, ?_⟩
  rw [State.deliverResponse_late hlate', Option.getD_some]
  refine ⟨?_, hregs.keeping, hmem.keeping, ?_⟩
  · rw [State.rtr_keeping]
    exact (hcount.field State.rtr fun _ _ _ => rfl).trans (hin.field State.rtr fun _ _ _ => rfl)
  · rw [State.get_keeping, State.drop, hcount.get _ (show noteReg Reg.RTR_DROP = false by decide), State.get_sat _ _ _ (by decide), hdrop]

end

end Sys2Proof.Machine

/-- Settles O40: a frame for the module is delivered in the state `State.deliveredIn` (`State.ingress_here`); what memory answers there is what
it answers in `s`, for neither the router nor a counter takes part (`Alike`); what an access leaves alone is `MemStep`, so that the response is
originated as in `s` (`Answering.respond`). -/
theorem requestsAtTheirTarget : Obligations.RequestsAtTheirTarget := by
  unfold Obligations.RequestsAtTheirTarget
  intro p s hrun c kind hc e he f u check nal hkey hloaded hdst
  refine ⟨fun hreq hcheck hsrc => exec_refused hrun hc he hkey hloaded hdst hreq hcheck hsrc,
    fun hreq hcheck hplace havail => exec_waits hrun hc he hkey hloaded hdst hreq hcheck hplace havail,
    fun hreq hcheck hplace hsrc => ⟨exec_bowlRead hrun hc he hkey hloaded hdst hreq hcheck hsrc hplace,
      exec_bowlWrite hrun hc he hkey hloaded hdst hreq hcheck hsrc hplace⟩,
    fun hreq hcheck hplace havail hsrc => ⟨exec_dramRead hrun hc he hkey hloaded hdst hreq hcheck hsrc hplace havail,
      exec_dramWrite hrun hc he hkey hloaded hdst hreq hcheck hsrc hplace havail,
      exec_dramAtomic hrun hc he hkey hloaded hdst hreq hcheck hsrc hplace havail⟩,
    fun hrsp => ⟨fun op hop hsent htag hkind => ⟨exec_live hrun hc he hkey hloaded hdst hrsp hop hsent htag hkind,
      fun i g num th howner hcode hrol => exec_liveLoad hrun hc he hkey hloaded hdst hrsp hop hsent htag hkind howner hcode hrol⟩,
      exec_late hrun hc he hkey hloaded hdst hrsp⟩⟩
end

section
open Sys2Proof Sys2Proof.Machine

namespace Sys2Proof.Machine

/-! ### Frames that are dropped or passed on -/

theorem State.drop_spec (s : State) {l : Loc} (haddr : l.addr = Reg.RTR_DROP) (hfit : l.lo + l.width ≤ 64) :
    (s.drop l).rtr = s.rtr ∧ RegsBut [Reg.RTR_DROP] s (s.drop l) ∧ MemSame s (s.drop l)
      ∧ (s.drop l).get l = min (s.get l + 1) (2 ^ l.width - 1) := by
  have hset : RegsOnly [Reg.RTR_DROP] s (s.sat l 1) := RegsOnly.set s _ (by simp [haddr])
  have hcount : Noted (s.sat l 1) (s.drop l) := noted_count _ 5 0 0x007 1 (by decide)
  refine ⟨hcount.field State.rtr fun _ _ _ => rfl, hset.regsBut.trans (hcount.regsBut _), hset.memSame.trans hcount.memSame, ?_⟩
  rw [hcount.get l (by rw [haddr]; decide), State.get_sat s l 1 hfit]

theorem Noted.routedOnly_of_rtr {s t : State} {r : RtrState} (h : Noted { s with rtr := r } t) : RoutedOnly s t :=
  ⟨by conv_lhs => rw [h.1], h.2⟩

/-- The first drop under a foreign key in each ms is logged (R284). -/
theorem State.foreignKey_spec (s : State) (p : Nat) (f : Frame) :
    (s.foreignKey p f).rtr = { s.rtr with foreignMs := some (s.now / 1000000) } ∧ RoutedOnly s (s.foreignKey p f) := by
  unfold State.foreignKey
  dsimp only
  split
  next hms => exact ⟨by rw [← hms], Noted.refl s⟩
  · have hnote := noted_occur { s with rtr := { s.rtr with foreignMs := some (s.now / 1000000) } } 0x0802 0
      (leBytes 2 f.skey ++ leBytes 2 f.srcmod ++ leBytes 1 p)
    exact ⟨hnote.field State.rtr fun _ _ _ => rfl, hnote.routedOnly_of_rtr⟩

/-- A frame's key is foreign: not the module's on VC0 to VC5 or at its destination, and any before the first full load (R48, R284). -/
def State.Foreign (s : State) (p : Nat) (e : Nat × Nat × Frame) : Prop :=
  s.flag Reg.JIG_STATUS_LOADED = false
    ∨ ((s.taken p e.2.2).skey ≠ s.get Reg.RTR_SKEY_SKEY ∧ (e.2.1 < 6 ∨ (s.taken p e.2.2).dstmod = s.ownMod))

theorem State.foreign_iff (s : State) (p : Nat) (e : Nat × Nat × Frame) :
    (!s.flag Reg.JIG_STATUS_LOADED || ((s.taken p e.2.2).skey != s.get Reg.RTR_SKEY_SKEY
      && (decide (e.2.1 < 6) || (s.taken p e.2.2).dstmod == s.ownMod))) = true ↔ s.Foreign p e := by
  simp [State.Foreign]

/-- The port and class that a frame came by. -/
def viaOf (p : Nat) (e : Nat × Nat × Frame) : Via := { port := p, vc := e.2.1, cls := e.2.2.cls }

section
variable {s : State} {p kind : Nat} {e : Nat × Nat × Frame} (deliver : State → Frame → Option State)

theorem State.ingress_none (he : s.headFrame p (fun f => f.fkind == kind) = none) : s.ingress p kind deliver = s := by
  unfold State.ingress; rw [he]

variable (he : s.headFrame p (fun f => f.fkind == kind) = some e)
include he

theorem State.ingress_foreign (hf : s.Foreign p e) :
    s.ingress p kind deliver = ((s.consume e).drop Reg.RTR_DROP_SKEY).foreignKey p (s.taken p e.2.2) := by
  unfold State.ingress; rw [he]
  exact if_pos ((s.foreign_iff p e).2 hf)

theorem State.ingress_forward (hf : ¬ s.Foreign p e) (hdst : (s.taken p e.2.2).dstmod ≠ s.ownMod) :
    s.ingress p kind deliver = (s.consume e).forward (viaOf p e) (s.taken p e.2.2) := by
  unfold State.ingress; rw [he]
  exact (if_neg fun h => hf ((s.foreign_iff p e).1 h)).trans (if_neg hdst)

end

section
variable {s : State} {via : Via} {f : Frame}

theorem State.forward_hops (hhops : max 1 (s.get Reg.RTR_CTL_MAXHOPS) ≤ f.hops) : s.forward via f = s.drop Reg.RTR_DROP_HOPS := if_pos hhops

variable (hhops : f.hops < max 1 (s.get Reg.RTR_CTL_MAXHOPS))
include hhops

theorem State.forward_noRoute (hvalid : s.flag (Reg.RTR_ENT_LO_VALID f.dstmod) = false) : s.forward via f = s.noRoute (some via) f := by
  unfold State.forward
  rw [if_neg (Nat.not_le.2 hhops), hvalid]
  rfl

theorem State.forward_hop (hvalid : s.flag (Reg.RTR_ENT_LO_VALID f.dstmod) = true) {o k : Nat} (hhop : s.nextHop f.dstmod f.isVc7 = some (o, k)) :
    s.forward via f = s.queueFor o k (some via) f := by
  unfold State.forward
  rw [if_neg (Nat.not_le.2 hhops), hvalid, hhop]
  rfl

theorem State.forward_wait (hvalid : s.flag (Reg.RTR_ENT_LO_VALID f.dstmod) = true) (hhop : s.nextHop f.dstmod f.isVc7 = none) :
    s.forward via f = s.waitTransit (some via) f := by
  unfold State.forward
  rw [if_neg (Nat.not_le.2 hhops), hvalid, hhop]
  rfl

end

/-- The counts of RTR_RMT decide no route. -/
theorem routeSame_satRmt (s : State) (l : Loc) (n : Nat) (h : l.addr = Reg.RTR_RMT) : RouteSame s (s.sat l n) := by
  have hreg (a : Nat) (ha : a ≠ Reg.RTR_RMT) : (s.sat l n).reg a = s.reg a := s.reg_set_ne l _ (by rwa [h])
  have hent (d : Nat) : (s.sat l n).reg (Reg.RTR_ENT_LO d) = s.reg (Reg.RTR_ENT_LO d) :=
    hreg _ (by unfold Reg.RTR_ENT_LO Reg.RTR_RMT; omega)
  exact {
    upd := rfl, now := rfl
    skey := State.get_of_reg (hreg _ (by decide))
    owned := fun p hp => State.flag_of_reg (hreg (Reg.RTR_PEER p) (by unfold Reg.RTR_PEER Reg.RTR_RMT; omega))
    link := fun p hp => State.get_of_reg (hreg (Reg.LNK_STATUS p) (by unfold Reg.LNK_STATUS Reg.RTR_RMT; omega))
    valid := fun d => State.flag_of_reg (hent d)
    hop0 := fun d => State.get_of_reg (hent d)
    hop1 := fun d => State.get_of_reg (hent d)
    hop2 := fun d => State.get_of_reg (hent d) }

/-- The state in which a frame without a valid entry is answered (R281). -/
def State.unrouted (s : State) (e : Nat × Nat × Frame) : State := (s.consume e).sat Reg.RTR_RMT_NOROUTE 1

theorem State.routeSame_consume (s : State) (e : Nat × Nat × Frame) : RouteSame s (s.consume e) :=
  ⟨rfl, rfl, rfl, fun _ _ => rfl, fun _ _ => rfl, fun _ => rfl, fun _ => rfl, fun _ => rfl, fun _ => rfl⟩

theorem State.get_consume (s : State) (e : Nat × Nat × Frame) (l : Loc) : (s.consume e).get l = s.get l := rfl

theorem State.ownMod_consume (s : State) (e : Nat × Nat × Frame) : (s.consume e).ownMod = s.ownMod := rfl
theorem State.ownMod_sat (s : State) (l : Loc) (n : Nat) : (s.sat l n).ownMod = s.ownMod := rfl

theorem State.answering_unrouted (s : State) (e : Nat × Nat × Frame) : Answering s (s.consume e).rtr (s.unrouted e) where
  route := (s.routeSame_consume e).trans (routeSame_satRmt _ Reg.RTR_RMT_NOROUTE 1 rfl)
  rsp c := ((s.consume e).get_set_ne _ ⟨Reg.RTR_RSPVC, 3 * c, 3⟩ _ (show Reg.RTR_RSPVC ≠ Reg.RTR_RMT by decide)).trans (s.get_consume e _)
  own := (State.ownMod_sat _ _ _).trans (s.ownMod_consume e)
  rtr := State.rtr_sat _ _ _

section
variable (p : Nat) {s : State} {f : Frame} (e : Nat × Nat × Frame)

theorem State.noRoute_answer (h : f.isRequest = false) : (s.consume e).noRoute (some (viaOf p e)) f = s.unrouted e := by
  unfold State.noRoute
  rw [h]
  rfl

theorem State.noRoute_request (h : f.isRequest = true) :
    (s.consume e).noRoute (some (viaOf p e)) f = (s.unrouted e).respond { f with cls := e.2.2.cls } 8 [] := by
  unfold State.noRoute
  rw [h]
  rfl

end

/-- A response of the module to itself is delivered (R278). -/
theorem Answering.respond_self {s x v : State} {r : RtrState} (h : Answering s r x) {f : Frame} (hsrc : f.srcmod = s.ownMod) {code : Nat}
    {body : List Byte} (hv : x.deliverResponse (Machine.responseTo s f code body) = some v) : x.respond f code body = v := by
  have hsrc' : f.srcmod = x.ownMod := by rw [h.own]; exact hsrc
  have hdef : x.respond f code body = (x.deliverResponse (Machine.responseTo x f code body)).getD x := if_pos hsrc'
  rw [hdef, h.responseTo, hv, Option.getD_some]

theorem RoutedOnly.get {s t : State} (h : RoutedOnly s t) (l : Loc) (hl : noteReg l.addr = false) : t.get l = s.get l :=
  Noted.get (t := { t with rtr := s.rtr }) h l hl

section
variable {s : State} {p : Fin 10} (hrun : s.running = true) {c : Instr} {kind : Nat} (hc : (c, kind) ∈ dataKinds p)

include hc in
theorem dataKinds_kind : 1 ≤ kind ∧ kind ≤ 6 := by
  simp only [dataKinds, List.mem_cons, Prod.mk.injEq, List.not_mem_nil, or_false] at hc
  omega

include hrun hc

/-- Each command takes in the frames of its kind. -/
theorem exec_ingress_eq : ∃ deliver, exec c s = .next (s.keeping (s.ingress p kind deliver)) := by
  obtain ⟨hlo, hhi⟩ := dataKinds_kind hc
  obtain h | h : (kind = 1 ∨ kind = 3 ∨ kind = 5) ∨ (kind = 2 ∨ kind = 4 ∨ kind = 6) := by omega
  · exact ⟨_, exec_request_eq p hrun hc h⟩
  · exact ⟨_, exec_answer_eq p hrun hc h⟩

theorem exec_noFrame (he : s.headFrame p (fun f => f.fkind == kind) = none) : exec c s = .next s := by
  obtain ⟨deliver, hexec⟩ := exec_ingress_eq hrun hc
  rw [hexec, State.ingress_none deliver he]
  rfl

variable {e : Nat × Nat × Frame} (he : s.headFrame p (fun f => f.fkind == kind) = some e)
include he

omit hrun in
theorem taken_isVc7 : (s.taken p e.2.2).isVc7 = false := by
  have hkind : (s.taken p e.2.2).fkind = kind := beq_iff_eq.1 (State.headFrame_test he)
  obtain ⟨hlo, hhi⟩ := dataKinds_kind hc
  unfold Frame.isVc7
  rw [hkind]
  simp
  omega

theorem exec_foreign (hf : s.Foreign p e) :
    ∃ t, exec c s = .next t ∧ t.rtr = { (s.consume e).rtr with foreignMs := some (s.now / 1000000) } ∧ RegsBut [Reg.RTR_DROP] s t ∧ MemSame s t
      ∧ t.get Reg.RTR_DROP_SKEY = min (s.get Reg.RTR_DROP_SKEY + 1) (2 ^ Reg.RTR_DROP_SKEY.width - 1) := by
  obtain ⟨deliver, hexec⟩ := exec_ingress_eq hrun hc
  obtain ⟨hrtr, hregs, hmem, hget⟩ := (s.consume e).drop_spec (l := Reg.RTR_DROP_SKEY) rfl (by decide)
  obtain ⟨hrtr', honly⟩ := ((s.consume e).drop Reg.RTR_DROP_SKEY).foreignKey_spec p (s.taken p e.2.2)
  have hnow : ((s.consume e).drop Reg.RTR_DROP_SKEY).now = s.now := (noted_count _ 5 0 0x007 1 (by decide)).field State.now fun _ _ _ => rfl
  refine ⟨_, hexec, ?_⟩
  rw [State.ingress_foreign deliver he hf]
  refine ⟨?_, RegsBut.keeping (hregs.trans (honly.regsBut _)), MemSame.keeping (hmem.trans honly.memSame), ?_⟩
  · rw [State.rtr_keeping, hrtr', hrtr, hnow]
  · rw [State.get_keeping, honly.get _ (by decide), hget, s.get_consume]

section
variable (hf : ¬ s.Foreign p e) (hdst : (s.taken p e.2.2).dstmod ≠ s.ownMod)
include hf hdst

theorem exec_forward_eq : exec c s = .next (s.keeping ((s.consume e).forward (viaOf p e) (s.taken p e.2.2))) := by
  obtain ⟨deliver, hexec⟩ := exec_ingress_eq hrun hc
  rw [hexec, State.ingress_forward deliver he hf hdst]

/-- A frame that has made MAXHOPS hops is dropped (R281). -/
theorem exec_hopLimit (hhops : max 1 (s.get Reg.RTR_CTL_MAXHOPS) ≤ (s.taken p e.2.2).hops) :
    ∃ t, exec c s = .next t ∧ t.rtr = (s.consume e).rtr ∧ RegsBut [Reg.RTR_DROP] s t ∧ MemSame s t
      ∧ t.get Reg.RTR_DROP_HOPS = min (s.get Reg.RTR_DROP_HOPS + 1) (2 ^ Reg.RTR_DROP_HOPS.width - 1) := by
  obtain ⟨hrtr, hregs, hmem, hget⟩ := (s.consume e).drop_spec (l := Reg.RTR_DROP_HOPS) rfl (by decide)
  refine ⟨_, exec_forward_eq hrun hc he hf hdst, ?_⟩
  rw [State.forward_hops (s := s.consume e) hhops]
  refine ⟨by rw [State.rtr_keeping, hrtr], RegsBut.keeping hregs, MemSame.keeping hmem, ?_⟩
  rw [State.get_keeping, hget, s.get_consume]

variable (hhops : (s.taken p e.2.2).hops < max 1 (s.get Reg.RTR_CTL_MAXHOPS))
include hhops

section
variable (hvalid : s.flag (Reg.RTR_ENT_LO_VALID (s.taken p e.2.2).dstmod) = false)
include hvalid

/-- Without a valid entry the frame is counted, and a request of another module is answered (R281). -/
theorem exec_noRoute (hsrc : (s.taken p e.2.2).isRequest = false ∨ (s.taken p e.2.2).srcmod ≠ s.ownMod) :
    ∃ t, exec c s = .next t ∧ RegsBut [Reg.RTR_RMT] s t ∧ MemSame s t
      ∧ t.get Reg.RTR_RMT_NOROUTE = min (s.get Reg.RTR_RMT_NOROUTE + 1) (2 ^ Reg.RTR_RMT_NOROUTE.width - 1)
      ∧ ((s.taken p e.2.2).isRequest = false → t.rtr = (s.consume e).rtr)
      ∧ ((s.taken p e.2.2).isRequest = true →
          t.rtr = originated s (responseTo s { s.taken p e.2.2 with cls := e.2.2.cls } 8 []) (s.consume e).rtr) := by
  have hset : RegsOnly [Reg.RTR_RMT] (s.consume e) (s.unrouted e) := RegsOnly.set _ _ (List.mem_singleton.2 rfl)
  have hget : (s.unrouted e).get Reg.RTR_RMT_NOROUTE = min (s.get Reg.RTR_RMT_NOROUTE + 1) (2 ^ Reg.RTR_RMT_NOROUTE.width - 1) := by
    rw [State.unrouted, State.get_sat _ _ _ (by decide), s.get_consume]
  refine ⟨_, exec_forward_eq hrun hc he hf hdst, ?_⟩
  rw [State.forward_noRoute (s := s.consume e) hhops hvalid]
  cases hreq : (s.taken p e.2.2).isRequest with
  | false =>
    rw [State.noRoute_answer p e hreq]
    exact ⟨hset.regsBut, hset.memSame, hget, fun _ => rfl, fun h => by cases h⟩
  | true =>
    obtain ⟨hrtr, honly⟩ := (s.answering_unrouted e).respond (f := { s.taken p e.2.2 with cls := e.2.2.cls })
      (hsrc.resolve_left (by simp [hreq])) 8 []
    rw [State.noRoute_request p e hreq]
    refine ⟨?_, ?_, (honly.get _ (by decide)).trans hget, fun h => (by cases h), fun _ => hrtr⟩
    · exact RegsBut.keeping (RegsBut.trans (t := s.unrouted e) hset.regsBut (honly.regsBut _))
    · exact MemSame.keeping (MemSame.trans (t := s.unrouted e) hset.memSame honly.memSame)

/-- A request of the module itself is answered to itself (R278, R281). -/
theorem exec_noRoute_self (hreq : (s.taken p e.2.2).isRequest = true) (hsrc : (s.taken p e.2.2).srcmod = s.ownMod) {v : State}
    (hv : (s.unrouted e).deliverResponse (responseTo s { s.taken p e.2.2 with cls := e.2.2.cls } 8 []) = some v) :
    exec c s = .next (s.keeping v) := by
  rw [exec_forward_eq hrun hc he hf hdst, State.forward_noRoute (s := s.consume e) hhops hvalid, State.noRoute_request p e hreq,
    (s.answering_unrouted e).respond_self (f := { s.taken p e.2.2 with cls := e.2.2.cls }) hsrc hv]

end

section
variable (hvalid : s.flag (Reg.RTR_ENT_LO_VALID (s.taken p e.2.2).dstmod) = true)
include hvalid

/-- A frame with a usable next hop is queued for it (R279). -/
theorem exec_queued {o k : Nat} (hhop : s.nextHop (s.taken p e.2.2).dstmod false = some (o, k)) :
    ∃ t, exec c s = .next t ∧ RegsBut [] s t ∧ MemSame s t
      ∧ t.rtr = { (s.consume e).rtr with queued := (s.consume e).rtr.queued ++
          [{ port := o, vc := s.outVc o (s.taken p e.2.2), via := some (viaOf p e), frame := (s.taken p e.2.2).transit (s.outVc o (s.taken p e.2.2) == 6) }] } := by
  have hvc7 := taken_isVc7 hc he
  have honly := routedOnly_queueFor (s.consume e) o k (some (viaOf p e)) (s.taken p e.2.2)
  refine ⟨_, exec_forward_eq hrun hc he hf hdst, ?_⟩
  rw [State.forward_hop (s := s.consume e) hhops hvalid (by rw [hvc7]; exact hhop)]
  refine ⟨honly.regsBut [], honly.memSame, ?_⟩
  rw [State.rtr_keeping, State.queueFor_rtr, hvc7]
  rfl

/-- A frame without a usable next hop waits for one (R281). -/
theorem exec_waitTransit (hhop : s.nextHop (s.taken p e.2.2).dstmod false = none) :
    ∃ t, exec c s = .next t ∧ RegsBut [] s t ∧ MemSame s t
      ∧ t.rtr = { (s.consume e).rtr with transit := (s.consume e).rtr.transit ++ [{ via := some (viaOf p e), frame := s.taken p e.2.2, since := s.now }] } := by
  refine ⟨_, exec_forward_eq hrun hc he hf hdst, ?_⟩
  rw [State.forward_wait (s := s.consume e) hhops hvalid (by rw [taken_isVc7 hc he]; exact hhop)]
  exact ⟨fun _ _ _ => rfl, fun _ => rfl, rfl⟩

end

end

end

end Sys2Proof.Machine

/-- Settles O39: what a command takes in goes on as `State.ingress_foreign` and `State.ingress_forward` say, and what is passed on as the four cases of
`State.forward` do; the answer to a request without a route is originated as in `s` (`Answering.respond`). -/
theorem framesInTransit : Obligations.FramesInTransit := by
  unfold Obligations.FramesInTransit
  intro p s hrun c kind hc
  refine ⟨exec_noFrame hrun hc, fun e he => ⟨rfl, exec_foreign hrun hc he, exec_hopLimit hrun hc he, fun hf hdst hhops => ?_⟩⟩
  exact ⟨exec_noRoute hrun hc he hf hdst hhops, fun hvalid hreq hsrc v hv => exec_noRoute_self hrun hc he hf hdst hhops hvalid hreq hsrc hv,
    fun o k hvalid hhop => exec_queued hrun hc he hf hdst hhops hvalid hhop, exec_waitTransit hrun hc he hf hdst hhops⟩
end

section
open Sys2Proof Sys2Proof.Machine

namespace Sys2Proof.Machine

/-! ### What leaves the shadow of the jig alone -/

/-- What the jig holds outside its registers is as it was. -/
def JigSame (s t : State) : Prop := t.jig = s.jig

theorem JigSame.refl (s : State) : JigSame s s := rfl

theorem JigSame.trans {s t u : State} (h : JigSame s t) (k : JigSame t u) : JigSame s u := Eq.trans k h

theorem JigSame.ite {s t u : State} {c : Prop} [Decidable c] (h : JigSame s t) (k : JigSame s u) : JigSame s (if c then t else u) := by
  split <;> assumption

theorem JigSame.forEach {α : Type} (l : List α) {f : State → α → State} (hf : ∀ s x, JigSame s (f s x)) (s : State) :
    JigSame s (s.forEach l f) :=
  List.foldlRecOn l f (b := s) (motive := JigSame s) (JigSame.refl s) fun t ht x _ => ht.trans (hf t x)

theorem JigSame.foldl {α : Type} (l : List α) {f : State → α → State} (hf : ∀ s x, JigSame s (f s x)) (s : State) :
    JigSame s (l.foldl f s) := JigSame.forEach l hf s

theorem Noted.jigSame {s t : State} (h : Noted s t) : JigSame s t := h.field State.jig fun _ _ _ => rfl
theorem MemStep.jigSame {s t : State} (h : MemStep s t) : JigSame s t := h.field State.jig fun _ _ _ _ _ _ _ => rfl
theorem RoutedOnly.jigSame {s t : State} (h : RoutedOnly s t) : JigSame s t := Noted.jigSame (t := { t with rtr := s.rtr }) h

theorem jigSame_set (s : State) (l : Loc) (n : Nat) : JigSame s (s.set l n) := s.jig_set l n
theorem jigSame_inc (s : State) (l : Loc) (n : Nat) : JigSame s (s.inc l n) := s.jig_inc l n
theorem jigSame_sat (s : State) (l : Loc) (n : Nat) : JigSame s (s.sat l n) := s.jig_sat l n
theorem jigSame_setReg (s : State) (a : Nat) (v : Word64) : JigSame s (s.setReg a v) := s.jig_setReg a v
theorem jigSame_clearReg (s : State) (a : Nat) : JigSame s (s.clearReg a) := s.jig_clearReg a
theorem jigSame_clearRange (s : State) (a b : Nat) : JigSame s (s.clearRange a b) := s.jig_clearRange a b
theorem jigSame_putWords (s : State) (a : Nat) (l : List Byte) : JigSame s (s.putWords a l) :=
  JigSame.forEach _ (fun u _ => jigSame_setReg u _ _) s
theorem jigSame_occur (s : State) (code src : Nat) (data : List Byte) : JigSame s (s.occur code src data) := (noted_occur s code src data).jigSame

/-! #### Ports and circuits -/

theorem jigSame_updPort (s : State) (i : Nat) (f : LinkPort → LinkPort) : JigSame s (s.updPort i f) := rfl
theorem jigSame_setCirc (s : State) (p : Nat) (c : Circuit) : JigSame s (s.setCirc p c) := rfl
theorem jigSame_aim (s : State) (v m : Nat) (p0 p1 : Int) : JigSame s (s.aim v m p0 p1) := rfl
theorem jigSame_rtr (s : State) (r : RtrState) : JigSame s { s with rtr := r } := rfl
theorem jigSame_cal (s : State) (x : CalState) : JigSame s { s with cal := x } := rfl
theorem jigSame_host (s : State) (x : HostState) : JigSame s { s with host := x } := rfl
theorem jigSame_waitTransit (s : State) (via : Option Via) (f : Frame) : JigSame s (s.waitTransit via f) := rfl

theorem jigSame_queueFor (s : State) (p nh : Nat) (via : Option Via) (f : Frame) : JigSame s (s.queueFor p nh via f) :=
  (routedOnly_queueFor s p nh via f).jigSame

theorem jigSame_reroute (s : State) (p : Nat) : JigSame s (s.reroute p) := by
  unfold State.reroute
  refine (jigSame_rtr s _).trans (JigSame.foldl _ (fun u q => ?_) _)
  split
  · exact jigSame_queueFor u _ _ _ _
  · exact JigSame.ite (jigSame_rtr u _) (jigSame_waitTransit u _ _)

theorem jigSame_transitGo (s : State) : JigSame s s.transitGo := by
  unfold State.transitGo
  refine (jigSame_rtr s _).trans (JigSame.foldl _ (fun u t => ?_) _)
  split
  · exact jigSame_queueFor u _ _ _ _
  · exact jigSame_rtr u _

theorem jigSame_linkTo (s : State) (i st : Nat) : JigSame s (s.linkTo i st) := by
  unfold State.linkTo
  exact ((jigSame_set s _ _).trans (jigSame_updPort _ i _)).trans (jigSame_reroute _ i)

theorem jigSame_setMap (s : State) (i spare mask : Nat) : JigSame s (s.setMap i spare mask) := by
  unfold State.setMap State.spareSync
  exact ((((jigSame_set s _ _).trans (jigSame_set _ _ _)).trans (jigSame_set _ _ _)).trans (jigSame_set _ _ _)).trans
    (JigSame.foldl _ (fun u n => jigSame_set u _ _) _)

theorem jigSame_bodyIn (s : State) (i vc : Nat) (d : List Byte) (last : Bool) : JigSame s (s.bodyIn i vc d last) := by
  unfold State.bodyIn
  refine (jigSame_rtr s _).trans (JigSame.forEach _ (fun u p => ?_) _)
  split
  · exact JigSame.refl u
  · exact jigSame_updPort u p _

theorem jigSame_cutLost (s : State) (i : Nat) : JigSame s (s.cutLost i) := by
  unfold State.cutLost
  refine JigSame.forEach _ (fun u e => JigSame.ite (JigSame.refl u) ?_) s
  exact ((jigSame_rtr u _).trans (jigSame_bodyIn _ i _ _ _)).trans (State.jig_drawnBy _ _)

theorem jigSame_linkClear (s : State) (i : Nat) : JigSame s (s.linkClear i) := by
  have hlanes (u : State) : JigSame u ((List.range (physLanes i)).foldl (fun s n =>
      (((s.set (Reg.LNK_LANE_STATUS_SIGNAL i n) 0).set (Reg.LNK_LANE_STATUS_BLOCKLOCK i n) 0).set
        (Reg.LNK_LANE_STATUS_FECLOCK i n) 0).set (Reg.LNK_LANE_STATUS_FAILED i n) 0) u) :=
    JigSame.foldl _ (fun s n => (((jigSame_set s _ _).trans (jigSame_set _ _ _)).trans (jigSame_set _ _ _)).trans (jigSame_set _ _ _)) u
  have hclear (u : State) : JigSame s u → JigSame s (if i = 10 then u.hostLost else u) := fun h => JigSame.ite (h.trans (jigSame_host u _)) h
  unfold State.linkClear
  exact hclear _ (((((jigSame_cutLost s i).trans (jigSame_updPort _ i _)).trans (jigSame_setMap _ i _ _)).trans (hlanes _)).trans (jigSame_set _ _ _))

theorem jigSame_calRun (s : State) (e : Nat) (pass inService : Bool) : JigSame s (s.calRun e pass inService) := by
  have hrecord (u : State) (x : CalState) : JigSame u (if u.nvShut then u else { u with cal := x }) := JigSame.ite (JigSame.refl u) (jigSame_cal u x)
  have hbegun (u : State) (x : CalState) (n : Nat) : JigSame u ((State.set { u with cal := x } (calDue e) n).inc Reg.CAL_STATUS_RUNS 1) :=
    ((jigSame_cal u x).trans (jigSame_set _ _ _)).trans (jigSame_inc _ _ _)
  unfold State.calRun
  refine JigSame.ite (((((hbegun s _ _).trans (jigSame_set _ _ _)).trans (jigSame_set _ _ _)).trans (hrecord _ _)).trans (jigSame_occur _ _ _ _)) ?_
  exact (((hbegun s _ _).trans (jigSame_sat _ _ _)).trans (jigSame_set _ _ _)).trans (jigSame_occur _ _ _ _)

theorem jigSame_calPortEnd (s : State) (i : Nat) (pass : Bool) : JigSame s (s.calPortEnd i pass) := by
  unfold State.calPortEnd
  exact JigSame.ite ((jigSame_set s _ _).trans (jigSame_calRun _ i pass true)) (JigSame.refl s)

theorem jigSame_calPortAbort (s : State) (i : Nat) : JigSame s (s.calPortAbort i) := by
  have hended (u : State) (x : CalState) (c : Bool) : JigSame u (if c then State.set { u with cal := x } (calDue i) 1 else { u with cal := x }) :=
    JigSame.ite ((jigSame_cal u x).trans (jigSame_set _ _ _)) (jigSame_cal u x)
  unfold State.calPortAbort
  exact JigSame.ite (JigSame.refl s) ((jigSame_set s _ _).trans (hended _ _ _))

theorem jigSame_linkGone (s : State) (i st : Nat) : JigSame s (s.linkGone i st) := by
  have hlock (u : State) : JigSame u (if u.linkState i = 11 then
      (List.range (physLanes i)).foldl (fun s n => s.set (Reg.LNK_PAT_CTL_LOCK i n) 0) u else u) :=
    JigSame.ite (JigSame.foldl _ (fun s n => jigSame_set s _ _) u) (JigSame.refl u)
  unfold State.linkGone
  dsimp only
  refine (((hlock s).trans (jigSame_linkClear _ i)).trans (jigSame_linkTo _ i st)).trans ?_
  exact JigSame.ite (jigSame_calPortEnd _ i false) (jigSame_calPortAbort _ i)

theorem jigSame_linkEvent (s : State) (i code : Nat) (data : List Byte) : JigSame s (s.linkEvent i code data) :=
  JigSame.ite (JigSame.refl s) (jigSame_occur s _ _ _)

theorem jigSame_linkDown (s : State) (i cause : Nat) : JigSame s (s.linkDown i cause) := by
  have hlogged (u : State) (st : Nat) : JigSame u (if i = 10 then u.occur 0x1203 i (leBytes 1 st ++ leBytes 2 u.host.resend) else u) :=
    JigSame.ite (jigSame_occur u _ _ _) (JigSame.refl u)
  unfold State.linkDown
  exact ((jigSame_linkEvent s i _ _).trans (jigSame_linkGone _ i 1)).trans (hlogged _ _)

theorem jigSame_aimLane (s : State) (v p : Nat) (c : Circuit) (i : Nat) : JigSame s (s.aimLane v p c i) := by
  unfold State.aimLane
  dsimp only
  exact (jigSame_aim s _ _ _ _).trans (JigSame.ite (jigSame_aim _ _ _ _ _) (JigSame.refl _))

theorem jigSame_circEnd (s : State) (p result : Nat) : JigSame s (s.circEnd p result) := by
  unfold State.circEnd
  dsimp only
  split
  · exact JigSame.refl s
  · refine JigSame.trans ?_ ((jigSame_setCirc _ p _).trans (jigSame_occur _ _ _ _))
    split
    · exact JigSame.ite (JigSame.forEach _ (fun u i => jigSame_aimLane u _ p _ i) s) (JigSame.refl s)
    · exact JigSame.refl s

theorem jigSame_circIdent (s : State) (i result : Nat) : JigSame s (s.circIdent i result) := by
  unfold State.circIdent
  split
  · exact JigSame.ite (jigSame_circEnd s i result) (JigSame.refl s)
  · exact JigSame.refl s

theorem jigSame_eqLanes (i : Nat) (l : List Nat) (s : State) (d : List Byte) :
    JigSame s (l.foldl (fun (acc : List Byte × State) n => (acc.1 ++ acc.2.eqLane i n, acc.2.drawnBy 36)) (d, s)).2 := by
  induction l generalizing s d with
  | nil => exact JigSame.refl s
  | cons n l ih => exact JigSame.trans (t := s.drawnBy 36) (s.jig_drawnBy 36) (ih _ _)

theorem jigSame_eqSave (s : State) (i : Nat) : JigSame s (s.eqSave i) := by
  have hwrite (u : State) (a : Nat) (d : List Byte) (f : LinkPort → LinkPort) : JigSame u ((u.memWrite a d false).2.updPort i f) :=
    (memWrite_spec u a d false).1.jigSame.trans (jigSame_updPort _ i f)
  unfold State.eqSave
  dsimp only
  split
  · exact JigSame.refl s
  · exact (jigSame_eqLanes i _ s []).trans (hwrite _ _ _ _)

theorem jigSame_circDone (s : State) (p : Nat) : JigSame s (s.circDone p) := by
  unfold State.circDone
  split
  · exact JigSame.ite ((jigSame_eqSave s p).trans (jigSame_circEnd _ p _)) (JigSame.refl s)
  · exact JigSame.refl s

theorem jigSame_releaseVecs (s : State) : JigSame s s.releaseVecs :=
  JigSame.foldl _ (fun u v => JigSame.ite (noted_sendMsi u v).jigSame (JigSame.refl u)) s

theorem jigSame_activate (s : State) (i : Nat) : JigSame s (s.activate i) := by
  have hhost (u : State) : JigSame u (if i = 10 then u.releaseVecs else u) := JigSame.ite (jigSame_releaseVecs u) (JigSame.refl u)
  unfold State.activate
  exact ((((jigSame_set s _ _).trans (jigSame_linkTo _ i 6)).trans (jigSame_transitGo _)).trans (hhost _)).trans (jigSame_circDone _ i)

/-! #### The peers of a port -/

theorem jigSame_miswire (s : State) (i : Nat) : JigSame s (s.miswire i) := by
  unfold State.miswire
  dsimp only
  exact ((jigSame_linkTo s i 7).trans (jigSame_occur _ _ _ _)).trans (jigSame_circIdent _ i _)

theorem jigSame_judgePeer (s : State) (i : Nat) : JigSame s (s.judgePeer i) := by
  unfold State.judgePeer
  dsimp only
  refine JigSame.ite (jigSame_miswire s i) (JigSame.ite ?_ ?_)
  · exact (jigSame_activate s i).trans (JigSame.ite (jigSame_linkDown _ i 1) (JigSame.refl _))
  · exact ((jigSame_linkTo s i 8).trans (jigSame_occur _ _ _ _)).trans (jigSame_circIdent _ i _)

theorem jigSame_peerSet (s : State) (p modnum port valid : Nat) : JigSame s (s.peerSet p modnum port valid) := by
  have hset := ((jigSame_set s (Reg.RTR_PEER_MODNUM p) modnum).trans (jigSame_set _ (Reg.RTR_PEER_PORT p) port)).trans
    (jigSame_set _ (Reg.RTR_PEER_VALID p) valid)
  have hended (u : State) (st : Nat) : JigSame u (if st = 12 then u.calPortEnd p false else u.calPortAbort p) :=
    JigSame.ite (jigSame_calPortEnd u p false) (jigSame_calPortAbort u p)
  unfold State.peerSet
  refine JigSame.trans hset (JigSame.ite (JigSame.refl _) (JigSame.ite (jigSame_judgePeer _ p) (JigSame.ite ?_ (JigSame.refl _))))
  exact (jigSame_miswire _ p).trans (hended _ _)

end Sys2Proof.Machine
end

section
open Sys2Proof Sys2Proof.Machine

namespace Sys2Proof.Machine

/-! ### The end of a jig load -/

/-- A step of the jig itself: its two registers and notes change, and no byte of memory (R72, R77, R79). -/
structure JigStep (s t : State) : Prop where
  regs : RegsBut [Reg.JIG_STATUS, Reg.JIG_CTL] s t
  mem : MemSame s t

theorem JigStep.trans {s t u : State} (h : JigStep s t) (k : JigStep t u) : JigStep s u := ⟨h.regs.trans k.regs, h.mem.trans k.mem⟩

theorem Noted.jigStep {s t : State} (h : Noted s t) : JigStep s t := ⟨h.regsBut _, h.memSame⟩

theorem jigStep_set (s : State) (l : Loc) (n : Nat) (h : l.addr ∈ [Reg.JIG_STATUS, Reg.JIG_CTL]) : JigStep s (s.set l n) :=
  have hset : RegsOnly [Reg.JIG_STATUS, Reg.JIG_CTL] s (s.set l n) := RegsOnly.set s n h
  ⟨hset.regsBut, hset.memSame⟩

theorem status_mem : Reg.JIG_STATUS ∈ [Reg.JIG_STATUS, Reg.JIG_CTL] := List.mem_cons_self
theorem ctl_mem : Reg.JIG_CTL ∈ [Reg.JIG_STATUS, Reg.JIG_CTL] := List.mem_cons_of_mem _ List.mem_cons_self

/-- A write of a field leaves every field that shares no bit with it alone. -/
theorem State.get_set_beside (s : State) {l m : Loc} (n : Nat)
    (h : m.addr ≠ l.addr ∨ m.lo + m.width ≤ l.lo ∨ l.lo + l.width ≤ m.lo) (hw : l.lo + l.width ≤ 64) : (s.set l n).get m = s.get m := by
  by_cases haddr : m.addr = l.addr
  · rcases h.resolve_left (not_not.2 haddr) with h | h
    · exact s.get_set_below l m n haddr h hw
    · exact s.get_set_above l m n haddr h hw
  · exact s.get_set_ne l m n haddr

/-- What a load that has ended shows (R72, R77). -/
structure Shows (phase code sec off : Nat) (t : State) : Prop where
  phase : t.get Reg.JIG_STATUS_PHASE = phase % 2 ^ 3
  error : t.get Reg.JIG_STATUS_ERROR = code % 2 ^ 8
  sect : t.get Reg.JIG_STATUS_SECTION = sec % 2 ^ 8
  offset : t.get Reg.JIG_STATUS_OFFSET = off % 2 ^ 24
  start : t.get Reg.JIG_CTL_START = 0

theorem Shows.noted {phase code sec off : Nat} {s t : State} (h : Shows phase code sec off s) (k : Noted s t) : Shows phase code sec off t where
  phase := (k.get Reg.JIG_STATUS_PHASE (by decide)).trans h.phase
  error := (k.get Reg.JIG_STATUS_ERROR (by decide)).trans h.error
  sect := (k.get Reg.JIG_STATUS_SECTION (by decide)).trans h.sect
  offset := (k.get Reg.JIG_STATUS_OFFSET (by decide)).trans h.offset
  start := (k.get Reg.JIG_CTL_START (by decide)).trans h.start

/-- The registers as the end of a load leaves them. -/
def State.jigShown (s : State) (phase code sec off : Nat) : State :=
  ((((s.set Reg.JIG_STATUS_PHASE phase).set Reg.JIG_STATUS_ERROR code).set Reg.JIG_STATUS_SECTION sec).set Reg.JIG_STATUS_OFFSET off).set
    Reg.JIG_CTL_START 0

theorem State.jigShown_phase (s : State) (phase code sec off : Nat) : (s.jigShown phase code sec off).get Reg.JIG_STATUS_PHASE = phase % 2 ^ 3 := by
  unfold State.jigShown
  iterate 4 rw [State.get_set_beside _ _ (by decide) (by decide)]
  exact State.get_set _ Reg.JIG_STATUS_PHASE _ (by decide)

theorem State.jigShown_error (s : State) (phase code sec off : Nat) : (s.jigShown phase code sec off).get Reg.JIG_STATUS_ERROR = code % 2 ^ 8 := by
  unfold State.jigShown
  iterate 3 rw [State.get_set_beside _ _ (by decide) (by decide)]
  exact State.get_set _ Reg.JIG_STATUS_ERROR _ (by decide)

theorem State.jigShown_section (s : State) (phase code sec off : Nat) : (s.jigShown phase code sec off).get Reg.JIG_STATUS_SECTION = sec % 2 ^ 8 := by
  unfold State.jigShown
  iterate 2 rw [State.get_set_beside _ _ (by decide) (by decide)]
  exact State.get_set _ Reg.JIG_STATUS_SECTION _ (by decide)

theorem State.jigShown_offset (s : State) (phase code sec off : Nat) : (s.jigShown phase code sec off).get Reg.JIG_STATUS_OFFSET = off % 2 ^ 24 := by
  unfold State.jigShown
  rw [State.get_set_beside _ _ (by decide) (by decide)]
  exact State.get_set _ Reg.JIG_STATUS_OFFSET _ (by decide)

theorem State.jigShown_start (s : State) (phase code sec off : Nat) : (s.jigShown phase code sec off).get Reg.JIG_CTL_START = 0 := by
  unfold State.jigShown
  exact State.get_set _ Reg.JIG_CTL_START _ (by decide)

theorem State.jigShown_shows (s : State) (phase code sec off : Nat) : Shows phase code sec off (s.jigShown phase code sec off) where
  phase := s.jigShown_phase phase code sec off
  error := s.jigShown_error phase code sec off
  sect := s.jigShown_section phase code sec off
  offset := s.jigShown_offset phase code sec off
  start := s.jigShown_start phase code sec off

theorem State.jigShown_step (s : State) (phase code sec off : Nat) : JigStep s (s.jigShown phase code sec off) :=
  ((((jigStep_set s _ _ status_mem).trans (jigStep_set _ _ _ status_mem)).trans (jigStep_set _ _ _ status_mem)).trans
    (jigStep_set _ _ _ status_mem)).trans (jigStep_set _ _ _ ctl_mem)

theorem State.jigShown_jig (s : State) (phase code sec off : Nat) : (s.jigShown phase code sec off).jig = s.jig := by
  unfold State.jigShown
  iterate 5 rw [State.jig_set]

/-- The jig is sealed, and no seal waits any more (R79). -/
theorem State.jigSealNow_jig (s : State) : s.jigSealNow.jig = { s.jig with sealPending := false } := by
  unfold State.jigSealNow
  simp only [State.jig_set]

theorem State.jigSealNow_regs (s : State) (x : JigState) :
    RegsOnly [Reg.JIG_STATUS, Reg.JIG_CTL] { s with jig := x } { s.jigSealNow with jig := x } := by
  have hset : RegsOnly [Reg.JIG_STATUS, Reg.JIG_CTL] s ((s.set Reg.JIG_STATUS_SEALED 1).set Reg.JIG_CTL_SEAL 1) :=
    (RegsOnly.set s 1 status_mem).trans (RegsOnly.set _ 1 ctl_mem)
  obtain ⟨hframe, hregs⟩ := hset
  exact ⟨congrArg (fun u : State => { u with jig := x }) hframe, hregs⟩

theorem State.jigSealNow_mem (s : State) : MemSame s s.jigSealNow := by
  intro a
  unfold State.jigSealNow
  rfl

theorem State.get_jigSealNow (s : State) (l : Loc) :
    s.jigSealNow.get l = ((s.set Reg.JIG_STATUS_SEALED 1).set Reg.JIG_CTL_SEAL 1).get l := by
  unfold State.jigSealNow
  rfl

theorem State.jigSealNow_sealed (s : State) : s.jigSealNow.flag Reg.JIG_STATUS_SEALED = true := by
  rw [State.flag, s.get_jigSealNow, State.get_set_beside _ _ (by decide) (by decide), State.get_set _ _ _ (by decide)]
  rfl

theorem State.get_jigSealNow_beside (s : State) (l : Loc)
    (h : l.addr ≠ Reg.JIG_STATUS_SEALED.addr ∨ l.lo + l.width ≤ Reg.JIG_STATUS_SEALED.lo
      ∨ Reg.JIG_STATUS_SEALED.lo + Reg.JIG_STATUS_SEALED.width ≤ l.lo)
    (h' : l.addr ≠ Reg.JIG_CTL_SEAL.addr ∨ l.lo + l.width ≤ Reg.JIG_CTL_SEAL.lo ∨ Reg.JIG_CTL_SEAL.lo + Reg.JIG_CTL_SEAL.width ≤ l.lo) :
    s.jigSealNow.get l = s.get l := by
  rw [s.get_jigSealNow, State.get_set_beside _ _ h' (by decide), State.get_set_beside _ _ h (by decide)]

theorem Shows.jigSealNow {phase code sec off : Nat} {s : State} (h : Shows phase code sec off s) : Shows phase code sec off s.jigSealNow where
  phase := (s.get_jigSealNow_beside _ (by decide) (by decide)).trans h.phase
  error := (s.get_jigSealNow_beside _ (by decide) (by decide)).trans h.error
  sect := (s.get_jigSealNow_beside _ (by decide) (by decide)).trans h.sect
  offset := (s.get_jigSealNow_beside _ (by decide) (by decide)).trans h.offset
  start := (s.get_jigSealNow_beside _ (by decide) (by decide)).trans h.start

/-- The staging store is emptied. -/
def State.unstaged (s : State) : State := { s with jig := { s.jig with staging := [] } }

theorem Shows.unstaged {phase code sec off : Nat} {s : State} (h : Shows phase code sec off s) : Shows phase code sec off s.unstaged :=
  ⟨h.phase, h.error, h.sect, h.offset, h.start⟩

theorem jigStep_unstaged (s : State) : JigStep s s.unstaged := ⟨fun _ _ _ => rfl, fun _ => rfl⟩

/-- A seal that waits for the load is done (R79). -/
def State.jigSealDue (s : State) : State := if s.jig.sealPending then s.jigSealNow else s

theorem State.jigEnd_eq (s : State) (phase code sec off : Nat) :
    s.jigEnd phase code sec off = (s.jigShown phase code sec off).unstaged.jigSealDue.raiseVec 8 := by
  unfold State.jigEnd State.jigSealDue State.unstaged State.jigShown
  rfl

theorem State.jigSealDue_jig (s : State) : s.jigSealDue.jig = { s.jig with sealPending := false } := by
  unfold State.jigSealDue
  split
  · exact s.jigSealNow_jig
  next h => rw [← Bool.eq_false_iff.2 h]

theorem State.jigSealDue_step (s : State) : JigStep s s.jigSealDue := by
  unfold State.jigSealDue
  split
  · obtain ⟨hframe, hregs⟩ := s.jigSealNow_regs s.jig
    exact ⟨fun a ha _ => hregs a ha, s.jigSealNow_mem⟩
  · exact ⟨fun _ _ _ => rfl, fun _ => rfl⟩

/-- What the end of a load does (R72, R77, R79, R81). -/
theorem State.jigEnd_spec (s : State) (phase code sec off : Nat) :
    Shows phase code sec off (s.jigEnd phase code sec off) ∧ JigStep s (s.jigEnd phase code sec off)
      ∧ (s.jigEnd phase code sec off).jig = { s.jig with staging := [], sealPending := false } := by
  have hnote := noted_raiseVec (s.jigShown phase code sec off).unstaged.jigSealDue 8
  have hshown := (s.jigShown_shows phase code sec off).unstaged
  rw [State.jigEnd_eq]
  refine ⟨Shows.noted ?_ hnote,
    (((s.jigShown_step phase code sec off).trans (jigStep_unstaged _)).trans (State.jigSealDue_step _)).trans hnote.jigStep, ?_⟩
  · unfold State.jigSealDue
    split
    · exact hshown.jigSealNow
    · exact hshown
  · have hjig := hnote.jigSame
    unfold JigSame at hjig
    rw [hjig, State.jigSealDue_jig, State.unstaged, s.jigShown_jig]

end Sys2Proof.Machine
end

section
open Sys2Proof Sys2Proof.Machine

namespace Sys2Proof.Machine

/-! ### The phases of a jig load -/

/-- The remote operations that a job load has held back go in their original order (R75). -/
def State.opsReleased (s : State) : State :=
  if jigKind s.jig.staging = 2 then { s with rtr := { s.rtr with inOrder := s.rtr.nextOrder } } else s

theorem State.opsReleased_step (s : State) : JigStep s s.opsReleased := by
  unfold State.opsReleased
  split <;> exact ⟨fun _ _ _ => rfl, fun _ => rfl⟩

theorem State.opsReleased_jig (s : State) : s.opsReleased.jig = s.jig := by
  unfold State.opsReleased
  split <;> rfl

theorem State.jigFail_eq (s : State) (code sec off : Nat) :
    s.jigFail code sec off = (s.opsReleased.jigEnd 6 code sec off).occur 0x0202 0 (leBytes 1 code ++ leBytes 1 sec ++ leBytes 3 off) := by
  unfold State.jigFail State.opsReleased
  rfl

theorem FailedLoad.keeping {code sec off : Nat} {s t : State} (h : FailedLoad code sec off s t) : FailedLoad code sec off s (s.keeping t) := h

theorem Shows.failed {code sec off : Nat} {s t : State} (h : Shows 6 code sec off t) (hstep : JigStep s t)
    (hjig : t.jig = { s.jig with staging := [], sealPending := false }) : FailedLoad code sec off s t :=
  ⟨h.phase, h.error, h.sect, h.offset, by rw [State.flag, h.start]; rfl, by rw [hjig], hjig, hstep.regs, hstep.mem⟩

/-- A load that fails shows its error, and leaves everything but notes and the two registers of the jig as it was (R77). -/
theorem State.jigFail_failed (s : State) (code sec off : Nat) : FailedLoad code sec off s (s.jigFail code sec off) := by
  obtain ⟨hshows, hstep, hjig⟩ := s.opsReleased.jigEnd_spec 6 code sec off
  have hnote := noted_occur (s.opsReleased.jigEnd 6 code sec off) 0x0202 0 (leBytes 1 code ++ leBytes 1 sec ++ leBytes 3 off)
  have hsame : JigSame _ _ := hnote.jigSame
  unfold JigSame at hsame
  rw [s.jigFail_eq]
  exact (hshows.noted hnote).failed ((s.opsReleased_step.trans hstep).trans hnote.jigStep) (by rw [hsame, hjig, s.opsReleased_jig])

/-! #### START, ABORT and SEAL -/

theorem exec_jigStart_idle {s : State} (hrun : s.running = true) (h : s.flag Reg.JIG_CTL_START = false) :
    exec .jigStart s = .next ((s.set Reg.JIG_CTL_START 1).set Reg.JIG_STATUS_PHASE 1) := by
  have hkeep : s.keeping ((s.set Reg.JIG_CTL_START 1).set Reg.JIG_STATUS_PHASE 1) = (s.set Reg.JIG_CTL_START 1).set Reg.JIG_STATUS_PHASE 1 := by
    have honly : RegsOnly [Reg.JIG_STATUS, Reg.JIG_CTL] s ((s.set Reg.JIG_CTL_START 1).set Reg.JIG_STATUS_PHASE 1) :=
      (RegsOnly.set s 1 ctl_mem).trans (RegsOnly.set _ 1 status_mem)
    exact honly.unreached.keeping
  rw [show exec .jigStart s = execJigStart s from rfl, execJigStart, State.run_running _ _ hrun, State.jigStart,
    if_neg (by rw [h]; exact Bool.false_ne_true), hkeep]

theorem exec_jigStart_busy {s : State} (hrun : s.running = true) (h : s.flag Reg.JIG_CTL_START = true) : exec .jigStart s = .next s := by
  rw [show exec .jigStart s = execJigStart s from rfl, execJigStart, State.run_running _ _ hrun, State.jigStart, if_pos h]
  rfl

theorem State.jigPhase_set (s : State) (n : Nat) : (s.set Reg.JIG_STATUS_PHASE n).jigPhase = n % 2 ^ 3 :=
  s.get_set Reg.JIG_STATUS_PHASE n (by decide)

theorem exec_jigAbort_busy {s : State} (hrun : s.running = true) (h : s.jigBusy = true ∧ s.jigPhase ≠ 4) :
    ∃ t, exec .jigAbort s = .next t ∧ FailedLoad 0x11 0xff 0 s t := by
  obtain ⟨hbusy, hphase⟩ := h
  refine ⟨s.keeping (s.jigFail 0x11 0xff 0), ?_, (s.jigFail_failed 0x11 0xff 0).keeping⟩
  rw [show exec .jigAbort s = execJigAbort s from rfl, execJigAbort, State.run_running _ _ hrun, State.jigAbort,
    if_pos (by rw [hbusy, Bool.true_and, bne_iff_ne]; exact hphase)]

theorem exec_jigAbort_idle {s : State} (hrun : s.running = true) (h : ¬ (s.jigBusy = true ∧ s.jigPhase ≠ 4)) : exec .jigAbort s = .next s := by
  rw [show exec .jigAbort s = execJigAbort s from rfl, execJigAbort, State.run_running _ _ hrun, State.jigAbort,
    if_neg (by rw [Bool.and_eq_true, bne_iff_ne]; exact h)]
  rfl

theorem exec_jigSeal_idle {s : State} (hrun : s.running = true) (h : s.jigBusy = false) :
    exec .jigSeal s = .next (s.keeping s.jigSealNow) := by
  rw [show exec .jigSeal s = execJigSeal s from rfl, execJigSeal, State.run_running _ _ hrun, State.jigSeal,
    if_neg (by rw [h]; exact Bool.false_ne_true)]

theorem exec_jigSeal_busy {s : State} (hrun : s.running = true) (h : s.jigBusy = true) :
    exec .jigSeal s = .next { s with jig := { s.jig with sealPending := true } } := by
  rw [show exec .jigSeal s = execJigSeal s from rfl, execJigSeal, State.run_running _ _ hrun, State.jigSeal, if_pos h]
  rfl

/-- What sealing changes outside the jig, on a state whose queue, clock and test port are kept. -/
theorem RegsOnly.keeping_jig {rs : List Nat} {s t : State} (x : JigState) (h : RegsOnly rs { s with jig := x } { t with jig := x }) :
    RegsOnly rs { s with jig := x } { s.keeping t with jig := x } := by
  have hkeep := h.unreached.keeping
  have heq : { s.keeping t with jig := x } = { t with jig := x } := hkeep
  rw [heq]; exact h

/-! #### The image is copied -/

theorem exec_jigCopyComplete_misplaced {s : State} (hrun : s.running = true) (hphase : s.jigPhase = 1)
    (haddr : s.get Reg.JIG_SRC_ADDR % 4096 ≠ 0 ∨ dramEnd < s.get Reg.JIG_SRC_ADDR + 128) :
    exec .jigCopyComplete s = .next (s.keeping (s.jigFail 0x05 0xff 0)) := by
  rw [show exec .jigCopyComplete s = execJigCopyComplete s from rfl, execJigCopyComplete, State.run_running _ _ hrun]
  dsimp only
  rw [if_neg (not_not.2 hphase), if_pos haddr]

/-- The image is in the staging store, and the load goes on to its checks. -/
def State.jigStaged (s : State) (d : List Byte) : State := State.set { s with jig := { s.jig with staging := d } } Reg.JIG_STATUS_PHASE 2

theorem State.jigStaged_staging (s : State) (d : List Byte) : (s.jigStaged d).jig.staging = d := by
  unfold State.jigStaged
  rw [State.jig_set]

theorem exec_jigCopyComplete_staged {s u w : State} {a n : Nat} {hd d : List Byte} (hrun : s.running = true) (ha : s.get Reg.JIG_SRC_ADDR = a)
    (hphase : s.jigPhase = 1) (haligned : a % 4096 = 0) (hend : a + 128 ≤ dramEnd) (havail : s.memAvail a 128 = true)
    (hread : s.memRead a 128 false = (some hd, u)) (hn : n = min (max 128 (jigLength hd)) 0x200000) (hend' : a + n ≤ dramEnd)
    (havail' : u.memAvail a n = true) (hread' : u.memRead a n false = (some d, w)) :
    exec .jigCopyComplete s = .next (s.keeping (w.jigStaged d)) := by
  have hplace : ¬ (a % 4096 ≠ 0 ∨ dramEnd < a + 128) := by omega
  rw [show exec .jigCopyComplete s = execJigCopyComplete s from rfl, execJigCopyComplete, State.run_running _ _ hrun, State.jigStaged]
  simp only [ha, hphase, hplace, havail, hread, ← hn, hend'.not_gt, havail', hread', ne_eq, not_true_eq_false, if_false, Bool.not_true,
    Bool.false_eq_true]

/-! #### The load is checked, and drains -/

theorem exec_jigValidateComplete_error {s : State} {e : Nat × Nat × Nat} (hrun : s.running = true) (hphase : s.jigPhase = 2)
    (hcheck : s.jigCheck s.jig.staging = some e) : exec .jigValidateComplete s = .next (s.keeping (s.jigFail e.1 e.2.1 e.2.2)) := by
  rw [show exec .jigValidateComplete s = execJigValidateComplete s from rfl, execJigValidateComplete, State.run_running _ _ hrun]
  dsimp only
  rw [if_neg (not_not.2 hphase), hcheck]

theorem exec_jigValidateComplete_full {s : State} (hrun : s.running = true) (hphase : s.jigPhase = 2)
    (hcheck : s.jigCheck s.jig.staging = none) (hkind : jigKind s.jig.staging = 0) :
    exec .jigValidateComplete s = .next (s.keeping s.jigApplyBegin) := by
  rw [show exec .jigValidateComplete s = execJigValidateComplete s from rfl, execJigValidateComplete, State.run_running _ _ hrun]
  dsimp only
  rw [if_neg (not_not.2 hphase), hcheck]
  dsimp only
  rw [if_pos hkind]

/-- The load drains from now on (R72, R75). -/
def State.jigDrains (s : State) : State :=
  let u := s.set Reg.JIG_STATUS_PHASE 3
  { u with jig := { u.jig with drainAt := u.now } }

theorem State.jigDrains_phase (s : State) : s.jigDrains.jigPhase = 3 := s.jigPhase_set 3

theorem State.jigDrains_drainAt (s : State) : s.jigDrains.jig.drainAt = s.now := rfl

theorem State.jigDrains_only (s : State) (x : JigState) : RegsOnly [Reg.JIG_STATUS] { s with jig := x } { s.jigDrains with jig := x } := by
  have hset : RegsOnly [Reg.JIG_STATUS] s (s.set Reg.JIG_STATUS_PHASE 3) := RegsOnly.set s 3 List.mem_cons_self
  obtain ⟨hframe, hregs⟩ := hset
  exact ⟨congrArg (fun u : State => { u with jig := x }) hframe, hregs⟩

theorem exec_jigValidateComplete_job {s : State} (hrun : s.running = true) (hphase : s.jigPhase = 2)
    (hcheck : s.jigCheck s.jig.staging = none) (hkind : jigKind s.jig.staging = 2) :
    exec .jigValidateComplete s = .next (s.keeping s.jigDrains) := by
  rw [show exec .jigValidateComplete s = execJigValidateComplete s from rfl, execJigValidateComplete, State.run_running _ _ hrun, State.jigDrains]
  dsimp only
  rw [if_neg (not_not.2 hphase), hcheck]
  dsimp only
  rw [if_neg (by omega), if_neg (by omega)]

theorem exec_jigDrainComplete_drained {s : State} (hrun : s.running = true) (hphase : s.jigPhase = 3) (hdrained : s.jigDrained = true) :
    exec .jigDrainComplete s = .next (s.keeping s.jigApplyBegin) := by
  rw [show exec .jigDrainComplete s = execJigDrainComplete s from rfl, execJigDrainComplete, State.run_running _ _ hrun]
  rw [if_pos ⟨hphase, hdrained⟩]

theorem exec_jigDrainLimitExpiry_late {s : State} (hrun : s.running = true) (hphase : s.jigPhase = 3)
    (hkind : ¬ (jigKind s.jig.staging = 1 ∧ s.flag Reg.JIG_CTL_DRAIN = true))
    (hlate : s.jig.drainAt + max 1 (s.get Reg.JIG_DRAIN_LIMIT_LIMIT) * 1000 ≤ s.now) :
    exec .jigDrainLimitExpiry s = .next (s.keeping (s.jigFail 0x10 0xff 0)) := by
  rw [show exec .jigDrainLimitExpiry s = execJigDrainLimitExpiry s from rfl, execJigDrainLimitExpiry, State.run_running _ _ hrun]
  dsimp only
  rw [if_neg]
  rintro (h | h | h)
  · exact h hphase
  · exact hkind h
  · omega

/-! #### The apply phase begins -/

theorem smapGet_filter {V : Type} (d : Nat → V) (m : List (Nat × V)) (p : Nat × V → Bool) (k : Nat) (h : ∀ v, p (k, v) = true) :
    smapGet d (m.filter p) k = smapGet d m k := by
  induction m with
  | nil => rfl
  | cons e m ih =>
    obtain ⟨a, v⟩ := e
    by_cases hak : a = k
    · subst hak
      rw [List.filter_cons_of_pos (h v), smapGet, smapGet, if_pos rfl, if_pos rfl]
    · by_cases hp : p (a, v) = true
      · rw [List.filter_cons_of_pos hp, smapGet, smapGet, if_neg hak, if_neg hak, ih]
      · rw [List.filter_cons_of_neg hp, smapGet, if_neg hak, ih]

/-- A range that is cleared leaves every register outside it alone. -/
theorem State.get_clearRange (s : State) (lo hi : Nat) (l : Loc) (h : l.addr < lo ∨ hi ≤ l.addr) : (s.clearRange lo hi).get l = s.get l := by
  unfold State.get State.reg State.clearRange
  rw [smapGet_filter]
  intro v
  simp only [Bool.not_eq_true', Bool.and_eq_false_iff, decide_eq_false_iff_not]
  omega

theorem State.jigPhase_swapCancel (s : State) : s.swapCancel.jigPhase = s.jigPhase := by
  unfold State.swapCancel State.jigPhase
  dsimp only
  rw [State.get_clearRange _ _ _ _ (by decide)]
  split
  · rw [State.get_set_beside _ _ (by decide) (by decide), State.get_set_beside _ _ (by decide) (by decide)]
  · rfl

theorem State.jigPhase_rolDrop (s : State) (p n : Nat) : (s.rolDrop p n).jigPhase = s.jigPhase := rfl

theorem State.jigPhase_rolDrops (l : List Nat) (s : State) : (s.forEach l fun s p => s.rolDrop p 0).jigPhase = s.jigPhase := by
  induction l generalizing s with
  | nil => rfl
  | cons p l ih => exact (ih _).trans (s.jigPhase_rolDrop p 0)

theorem State.jigApplyBegin_phase (s : State) : s.jigApplyBegin.jigPhase = 4 := by
  have hcancel (u : State) (n : Nat) : (if n = 1 then u else u.swapCancel).jigPhase = u.jigPhase := by
    split
    · rfl
    · exact u.jigPhase_swapCancel
  have hdrop (u : State) (n : Nat) : (if n = 2 then u.forEach (List.range 4) fun s p => s.rolDrop p 0 else u).jigPhase = u.jigPhase := by
    split
    · exact State.jigPhase_rolDrops _ u
    · rfl
  unfold State.jigApplyBegin
  dsimp only
  exact (hdrop _ _).trans ((hcancel _ _).trans (s.jigPhase_set 4))

end Sys2Proof.Machine
end

section
open Sys2Proof Sys2Proof.Machine

namespace Sys2Proof.Machine

/-! ### A jig load is applied -/

/-- Entries of section `t` as a load leaves them: those of the image in a full load or when it carries the section, else the old ones. -/
def jigPick {α : Type} (d : List Byte) (t : Nat) (old : List α) (f : List Byte → Nat → α) : List α :=
  if jigKind d = 0 ∨ (jigFind d t).isSome then jigEntries d (jigFind d t) f else old

/-- The shadow of the jig with the sections of the image in force (R51, R53). -/
def State.jigLoaded (s : State) (d : List Byte) : JigState :=
  { s.jig with
    ident := s.jigIdent d, mregs := jigPick d 3 s.jig.mregs mregAt, sets := s.jigSets d, bowls := perSet d 5 s.jig.bowls bowlAt,
    fmts := perSet d 6 s.jig.fmts fmtAt, qmap := jigPick d 7 s.jig.qmap qmapAt, servo := jigPick d 9 s.jig.servo servoAt,
    cgrant := jigPick d 10 s.jig.cgrant cgrantAt }

/-- A full load's shadow is that of the image. -/
theorem jigPick_full {α : Type} {d : List Byte} (h : jigKind d = 0) (t : Nat) (old : List α) (f : List Byte → Nat → α) :
    jigPick d t old f = jigEntries d (jigFind d t) f := if_pos (Or.inl h)

theorem perSet_full {α : Type} {d : List Byte} (h : jigKind d = 0) (t : Nat) (old old' : List (Nat × List α)) (f : List Byte → Nat → α) :
    perSet d t old f = perSet d t old' f := by
  unfold perSet
  rw [if_pos h, if_pos h]

/-! #### The registers that a load sets -/

theorem jigSame_bindSpindle (s : State) (i : Nat) : JigSame s (s.bindSpindle i) := by
  unfold State.bindSpindle
  split
  · exact (jigSame_set s _ _).trans (jigSame_set _ _ _)
  · exact jigSame_clearReg s _

theorem jigSame_bindSets (s : State) (l : List Nat) : JigSame s (s.bindSets l) := by
  unfold State.bindSets
  refine JigSame.forEach _ (fun u i => JigSame.ite (JigSame.refl u) ?_) s
  exact JigSame.ite ((jigSame_bindSpindle u i).trans (jigSame_set _ _ _)) (jigSame_bindSpindle u i)

theorem jigSame_envApply (s : State) : JigSame s s.envApply := by
  unfold State.envApply
  exact ((jigSame_set s _ _).trans (jigSame_set _ _ _)).trans (jigSame_set _ _ _)

theorem jigSame_ceilWrite (s : State) (c : Nat) : JigSame s (s.ceilWrite c) := by
  unfold State.ceilWrite
  exact (jigSame_set s _ _).trans (jigSame_envApply _)

theorem jigSame_rates (s : State) (n : Nat) : JigSame s (s.forEach (List.range 4) fun s p => s.set (Reg.PIER_STATUS_RATE p) n) :=
  JigSame.forEach _ (fun u _ => jigSame_set u _ _) s

theorem jigSame_torusPort (s : State) (i : Ident) (p : Nat) : JigSame s (s.torusPort i p) := by
  -- The function is unfolded as a whole: unfolded where it is applied, the kernel would evaluate the search of the modules.
  obtain ⟨f, hf⟩ : ∃ f, f = State.torusPort := ⟨_, rfl⟩
  rw [← hf]
  delta State.torusPort at hf
  subst hf
  dsimp only
  generalize State.modulesAt _ _ _ = l
  generalize bit _ = n
  generalize hu : s.set _ n = u
  have hset : JigSame s u := hu ▸ jigSame_set s _ n
  split
  · exact JigSame.ite (hset.trans (jigSame_peerSet u p _ _ _)) (hset.trans (jigSame_peerSet u p _ _ _))
  · exact hset.trans (jigSame_peerSet u p _ _ _)

theorem jigSame_torusPorts (s : State) (x : Option Ident) :
    JigSame s (match x with
      | some i => s.forEach (List.range 6) fun s p => s.torusPort i p
      | none => s) := by
  cases x with
  | none => exact JigSame.refl s
  | some i => exact JigSame.forEach (f := fun s p => s.torusPort i p) _ (fun u p => jigSame_torusPort u i p) s

theorem jigSame_applyRoute (s : State) (d : List Byte) (x : JigSect) : JigSame s (s.applyRoute d x) := by
  have hslice (u : State) (a b c e f g h : Nat) : JigSame u (((((((u.set Reg.RTR_SLICE_OX a).set Reg.RTR_SLICE_OY b).set Reg.RTR_SLICE_OZ c).set
      Reg.RTR_SLICE_EX e).set Reg.RTR_SLICE_EY f).set Reg.RTR_SLICE_EZ g).set Reg.RTR_SLICE_WRAP h) :=
    ((((((jigSame_set u _ _).trans (jigSame_set _ _ _)).trans (jigSame_set _ _ _)).trans (jigSame_set _ _ _)).trans (jigSame_set _ _ _)).trans
      (jigSame_set _ _ _)).trans (jigSame_set _ _ _)
  have hentries (u : State) : JigSame u (u.forEach x.entries.zipIdx fun s e => s.setReg (Reg.RTR_ENT_LO e.2) (BitVec.ofNat 64 (leAt d e.1 8))) :=
    JigSame.forEach _ (fun u e => jigSame_setReg u _ _) u
  unfold State.applyRoute
  exact (((((jigSame_set s _ _).trans (hslice _ _ _ _ _ _ _ _)).trans (jigSame_clearRange _ _ _)).trans (hentries _)).trans
    (jigSame_torusPorts _ _)).trans (jigSame_transitGo _)

theorem jigSame_servoFields (s : State) (k : Nat) (x : ServoEntry) : JigSame s (s.servoFields k x) := by
  unfold State.servoFields
  exact (((((((jigSame_set s _ _).trans (jigSame_set _ _ _)).trans (jigSame_set _ _ _)).trans (jigSame_set _ _ _)).trans (jigSame_set _ _ _)).trans
    (jigSame_set _ _ _)).trans (jigSame_set _ _ _)).trans (jigSame_set _ _ _)

theorem jigSame_servos (s : State) : JigSame s (s.forEach [0, 1] fun s k => s.forEach s.jig.servo fun s x => s.servoFields k x) :=
  JigSame.forEach _ (fun u k => JigSame.forEach _ (fun w x => jigSame_servoFields w k x) u) s

theorem jigSame_extend (s : State) (r kind : Nat) (d : List Byte) : JigSame s (s.extend r kind d) := by
  unfold State.extend State.extendWith
  exact (((jigSame_putWords s _ _).trans (jigSame_inc _ _ _)).trans (jigSame_putWords _ _ _)).trans (jigSame_inc _ _ _)

end Sys2Proof.Machine
end

section
open Sys2Proof Sys2Proof.Machine

namespace Sys2Proof.Machine

/-! ### What a load leaves in the shadow of the jig -/

/-- The registers that an applied load writes are no part of the shadow, which is the image's (R51, R53). -/
theorem State.jigApply_jig (s : State) : s.jigApply.jig = s.jigLoaded s.jig.staging := by
  -- Unfolded as a whole, as in `jigSame_torusPort`.
  obtain ⟨f, hf⟩ : ∃ f, f = State.jigApply := ⟨_, rfl⟩
  rw [← hf]
  delta State.jigApply at hf
  subst hf
  beta_reduce
  extract_lets d kind j pick loaded bound env route servo full job touched
  have hbound : JigSame loaded bound := JigSame.ite (jigSame_bindSets loaded _) (JigSame.refl loaded)
  have henv : JigSame bound env := by
    unfold env
    split
    · exact (jigSame_ceilWrite bound _).trans (jigSame_rates _ _)
    · exact JigSame.refl bound
  have hroute : JigSame env route := by
    unfold route
    split
    · exact jigSame_applyRoute env d _
    · exact JigSame.refl env
  have hservo : JigSame route servo := JigSame.ite (jigSame_servos route) (JigSame.refl route)
  have hfull : JigSame servo full :=
    JigSame.ite (((jigSame_set servo _ _).trans (jigSame_setReg _ _ _)).trans (jigSame_putWords _ _ _)) (JigSame.refl servo)
  have hjob : JigSame full job := JigSame.ite (jigSame_setReg full _ _) (JigSame.refl full)
  have hset : JigSame job (job.forEach touched fun s t => s.setReg (Reg.JIG_SET_ID t) (BitVec.ofNat 64 (jigId d))) :=
    JigSame.forEach _ (fun u t => jigSame_setReg u _ _) job
  exact ((((((hbound.trans henv).trans hroute).trans hservo).trans hfull).trans hjob).trans hset)

/-- The writes that a load has held are performed in their order (R74). -/
def State.jigReleased (s : State) : State :=
  State.forEach { s with jig := { s.jig with held := [] } } s.jig.held fun u w => u.ctlWrite w.1 w.2.1 w.2.2

theorem exec_jigApplyComplete {s : State} (hrun : s.running = true) (hphase : s.jigPhase = 4) :
    exec .jigApplyComplete s = .next (s.keeping s.jigDone.jigReleased) := by
  rw [show exec .jigApplyComplete s = execJigApplyComplete s from rfl, execJigApplyComplete, State.run_running _ _ hrun, State.jigReleased]
  dsimp only
  rw [if_neg (not_not.2 hphase)]

/-- What the end of an applied load shows and leaves in the shadow (R72, R77). -/
theorem State.jigDone_spec (s : State) : Shows 5 0 0 0 s.jigDone
    ∧ s.jigDone.jig = { s.jigLoaded s.jig.staging with staging := [], sealPending := false } := by
  unfold State.jigDone
  dsimp only
  have hextend := jigSame_extend s.jigApply 8 5 (slice s.jig.staging 64 64)
  unfold JigSame at hextend
  generalize State.extend _ _ _ _ = u at hextend ⊢
  obtain ⟨hshows, _, hjig⟩ := u.jigEnd_spec 5 0 0 0
  have hnote := noted_occur (u.jigEnd 5 0 0 0) 0x0201 0 (leBytes 8 (jigId s.jig.staging) ++ leBytes 1 (jigKind s.jig.staging))
  have hsame := hnote.jigSame
  unfold JigSame at hsame
  exact ⟨hshows.noted hnote, by rw [hsame, hjig, hextend, s.jigApply_jig]⟩

theorem State.jigReleased_none {s : State} (h : s.jig.held = []) : s.jigReleased = s := by
  have hjig : { s.jig with held := [] } = s.jig := by rw [← h]
  rw [State.jigReleased, h, hjig]
  rfl

end Sys2Proof.Machine

/-- Settles O10: the first failed check ends a load by `jigFail_failed`, and an applied load leaves the image in the shadow by `jigDone_spec`. -/
theorem jigLoads : Obligations.JigLoads := by
  refine ⟨fun s hrun => ⟨fun h => ⟨exec_jigStart_idle hrun h, State.jigPhase_set _ 1⟩, exec_jigStart_busy hrun, exec_jigAbort_busy hrun,
    exec_jigAbort_idle hrun, fun h => ?_, exec_jigSeal_busy hrun, fun hphase haddr => ?_, ?_, fun e hphase hcheck => ?_,
    fun hphase hcheck hkind => ?_, fun hphase hcheck hkind => ?_, fun hphase hdrained => ?_, fun hphase hkind hlate => ?_⟩,
    fun s hrun hphase => ⟨⟨_, exec_jigApplyComplete hrun hphase, rfl⟩, fun hheld => ?_⟩⟩
  · exact ⟨_, exec_jigSeal_idle hrun h, s.jigSealNow_sealed, by rw [State.jig_keeping, s.jigSealNow_jig],
      (s.jigSealNow_regs s.jig).keeping_jig s.jig⟩
  · exact ⟨_, exec_jigCopyComplete_misplaced hrun hphase haddr, (s.jigFail_failed 0x05 0xff 0).keeping⟩
  · intro hd d u w n hphase haligned hend havail hread hn hend' havail' hread'
    exact ⟨_, exec_jigCopyComplete_staged hrun rfl hphase haligned hend havail hread hn hend' havail' hread', State.jigPhase_set _ 2,
      w.jigStaged_staging d⟩
  · exact ⟨_, exec_jigValidateComplete_error hrun hphase hcheck, (s.jigFail_failed _ _ _).keeping⟩
  · exact ⟨exec_jigValidateComplete_full hrun hphase hcheck hkind, s.jigApplyBegin_phase⟩
  · exact ⟨_, exec_jigValidateComplete_job hrun hphase hcheck hkind, s.jigDrains_phase, s.jigDrains_drainAt,
      (s.jigDrains_only s.jig).keeping_jig s.jig⟩
  · exact ⟨exec_jigDrainComplete_drained hrun hphase hdrained, s.jigApplyBegin_phase⟩
  · exact ⟨_, exec_jigDrainLimitExpiry_late hrun hphase hkind hlate, (s.jigFail_failed 0x10 0xff 0).keeping⟩
  · obtain ⟨hshows, hjig⟩ := s.jigDone_spec
    have hnone : s.jigDone.jig.held = [] := by rw [hjig]; exact hheld
    refine ⟨_, exec_jigApplyComplete hrun hphase, ?_⟩
    rw [State.jigReleased_none hnone, State.jig_keeping, hjig]
    exact ⟨hshows.phase, hshows.error, by rw [State.flag_keeping, State.flag, hshows.start]; rfl, rfl, rfl, rfl,
      fun hfull => ⟨jigPick_full hfull _ _ _, jigPick_full hfull _ _ _, perSet_full hfull _ _ _ _, jigPick_full hfull _ _ _⟩⟩
end

section
open Sys2Proof Sys2Proof.Machine

namespace Sys2Proof.Machine

/-! ### Changes of one gang -/

/-- `t` differs from `s` in the spindles alone. -/
def SpnOnly (s t : State) : Prop := t = { s with spn := t.spn }

theorem SpnOnly.trans {s t u : State} (h : SpnOnly s t) (k : SpnOnly t u) : SpnOnly s u := by
  unfold SpnOnly at h k ⊢
  rw [k, h]

theorem spnOnly_updSpindle (s : State) (i : Nat) (f : Spindle → Spindle) : SpnOnly s (s.updSpindle i f) := rfl
theorem spnOnly_updGang (s : State) (i g : Nat) (f : Gang → Gang) : SpnOnly s (s.updGang i g f) := rfl

theorem SpnOnly.byte {s t : State} (h : SpnOnly s t) (a : Nat) : t.byte a = s.byte a := by
  unfold SpnOnly at h
  rw [h]
  rfl

theorem SpnOnly.reg {s t : State} (h : SpnOnly s t) (a : Nat) : t.reg a = s.reg a := by
  unfold SpnOnly at h
  rw [h]
  rfl

theorem spindle_updSpindle (s : State) (i : Nat) (f : Spindle → Spindle) : (s.updSpindle i f).spindle i = f (s.spindle i) := by
  unfold State.updSpindle State.setSpindle State.spindle
  exact smapGet_set _ _ _ _

theorem spindle_updSpindle_ne (s : State) {i j : Nat} (f : Spindle → Spindle) (h : j ≠ i) : (s.updSpindle i f).spindle j = s.spindle j := by
  unfold State.updSpindle State.setSpindle State.spindle
  exact smapGet_set_ne _ _ _ h

/-- What `GangOnly` keeps of a spindle beside its gangs. -/
def EnginesSame (x y : Spindle) : Prop := y.acc = x.acc ∧ y.tensorQ = x.tensorQ ∧ y.copies = x.copies ∧ y.icache = x.icache

theorem enginesSame_updSpindle (s : State) (i : Nat) {f : Spindle → Spindle} (hf : ∀ x, EnginesSame x (f x)) (j : Nat) :
    EnginesSame (s.spindle j) ((s.updSpindle i f).spindle j) := by
  by_cases hj : j = i
  · subst hj
    rw [spindle_updSpindle]
    exact hf _
  · rw [spindle_updSpindle_ne s f hj]
    exact ⟨rfl, rfl, rfl, rfl⟩

theorem GangOnly.refl (i g : Nat) (s : State) : GangOnly i g s s := ⟨fun _ _ _ => rfl, fun _ => ⟨rfl, rfl, rfl, rfl⟩⟩

theorem GangOnly.trans {i g : Nat} {s t u : State} (h : GangOnly i g s t) (k : GangOnly i g t u) : GangOnly i g s u := by
  obtain ⟨hgang, hspindle⟩ := h
  obtain ⟨kgang, kspindle⟩ := k
  refine ⟨fun j h hj => (kgang j h hj).trans (hgang j h hj), fun j => ?_⟩
  obtain ⟨hacc, hq, hcopies, hicache⟩ := hspindle j
  obtain ⟨kacc, kq, kcopies, kicache⟩ := kspindle j
  exact ⟨kacc.trans hacc, kq.trans hq, kcopies.trans hcopies, kicache.trans hicache⟩

theorem SpnSame.gangOnly {s t : State} (h : SpnSame s t) (i g : Nat) : GangOnly i g s t := by
  have hspindle (j : Nat) : t.spindle j = s.spindle j := by
    have hspn : t.spn = s.spn := h
    unfold State.spindle
    rw [hspn]
  exact ⟨fun j k _ => gang_of_spn h j k, fun j => by rw [hspindle j]; exact ⟨rfl, rfl, rfl, rfl⟩⟩

/-- A change of a spindle that leaves its gangs alone leaves every gang alone. -/
theorem gang_updSpindle (s : State) (i : Nat) {f : Spindle → Spindle} (hf : ∀ x, (f x).gangs = x.gangs) (j h : Nat) :
    (s.updSpindle i f).gang j h = s.gang j h := by
  unfold State.gang
  by_cases hj : j = i
  · subst hj
    rw [spindle_updSpindle, hf]
  · rw [spindle_updSpindle_ne s f hj]

theorem gangOnly_updSpindle (s : State) (i g : Nat) {f : Spindle → Spindle} (hgangs : ∀ x, (f x).gangs = x.gangs)
    (hengines : ∀ x, EnginesSame x (f x)) : GangOnly i g s (s.updSpindle i f) :=
  ⟨fun j h _ => gang_updSpindle s i hgangs j h, enginesSame_updSpindle s i hengines⟩

/-- A change of one gang leaves the gangs of other numbers and of other spindles alone. -/
theorem gang_updGang_ne (s : State) {i g j h : Nat} {f : Gang → Gang} (hf : ∀ x, (f x).gang = x.gang) (hne : (j, h) ≠ (i, g)) :
    (s.updGang i g f).gang j h = s.gang j h := by
  unfold State.gang State.updGang
  by_cases hj : j = i
  · subst hj
    have hh : h ≠ g := fun hh => hne (by rw [hh])
    rw [spindle_updSpindle, List.find?_map]
    have hpred : (fun y : Gang => y.gang == h) ∘ (fun y : Gang => if y.gang = g then f y else y) = fun y : Gang => y.gang == h := by
      funext y
      simp only [Function.comp_apply]
      split
      · rw [hf]
      · rfl
    rw [hpred]
    cases hfind : (s.spindle j).gangs.find? (·.gang == h) with
    | none => rfl
    | some y =>
      have hy : y.gang = h := beq_iff_eq.1 (List.find?_some (p := fun y : Gang => y.gang == h) hfind)
      rw [Option.map_some, if_neg (by rw [hy]; exact hh)]
  · rw [spindle_updSpindle_ne s _ hj]

theorem gangOnly_updGang (s : State) (i g : Nat) {f : Gang → Gang} (hf : ∀ x, (f x).gang = x.gang) : GangOnly i g s (s.updGang i g f) :=
  ⟨fun _ _ hne => gang_updGang_ne s hf hne, enginesSame_updSpindle s i fun _ => ⟨rfl, rfl, rfl, rfl⟩⟩

/-! ### Issue of an instruction that is poised -/

theorem gang_number {s : State} {i g : Nat} {x : Gang} (h : s.gang i g = some x) : x.gang = g :=
  beq_iff_eq.1 (List.find?_some (p := fun y : Gang => y.gang == g) h)

/-- A gang whose group is open has nothing to commit (R98). -/
theorem State.tryCommit_open {s : State} {i g : Nat} {x : Gang} (h : s.gang i g = some x) (hopen : x.closed = false) : s.tryCommit i g = s := by
  unfold State.tryCommit
  rw [h]
  dsimp only
  rw [if_neg (by rw [hopen]; exact Bool.false_ne_true)]

theorem State.gangReady_open {s : State} {i : Nat} {x : Gang} (h : s.gangReady i x = true) : x.closed = false := by
  unfold State.gangReady at h
  rw [Bool.and_eq_true, Bool.and_eq_true, Bool.not_eq_true'] at h
  exact h.1.2

theorem Poised.issue {s : State} {i g : Nat} {o : SpnOp} {x : Gang} {word : Nat} {w : IWord} (h : Poised s i g o x word w) :
    s.issue i g o = s.issueBody i g o w word := by
  have hopen := State.tryCommit_open h.resident (State.gangReady_open h.ready)
  have hprogram : ¬ (x.pc < 0 ∨ (x.ninstr : Int) ≤ x.pc) := by
    obtain ⟨hlo, hhi⟩ := h.inProgram
    omega
  have hgroup : ¬ (x.issuedCount ≠ 0 ∧ x.boundaryBefore o w = true) := by
    rintro ⟨hcount, hboundary⟩
    rcases h.inGroup with hzero | hnone
    · exact hcount hzero
    · rw [hnone] at hboundary
      exact Bool.false_ne_true hboundary
  unfold State.issue
  rw [hopen]
  dsimp only
  rw [h.resident]
  dsimp only
  rw [if_neg (by rw [h.ready]; exact Bool.false_ne_true), if_neg hprogram, h.fetched]
  dsimp only
  rw [← h.fields, if_neg (not_not.2 h.legal), if_neg (by rw [h.regs]; exact Bool.false_ne_true),
    if_neg (by rw [h.loaded]; exact Bool.false_ne_true), if_neg hgroup]

theorem Poised.issue_done {s u : State} {i g : Nat} {o : SpnOp} {x : Gang} {word : Nat} {w : IWord} (h : Poised s i g o x word w)
    (hacts : x.skips o w = false) (hbody : bodyOf o s i x w = .done u) : s.issue i g o = u.issued i x o w word 1 := by
  rw [h.issue, State.issueBody, h.resident]
  dsimp only
  rw [if_neg (by rw [h.picked]; exact Bool.false_ne_true), if_neg (by rw [hacts]; exact Bool.false_ne_true), hbody]

theorem Poised.issue_fault {s u : State} {i g : Nat} {o : SpnOp} {x : Gang} {word : Nat} {w : IWord} {code detail addr : Nat}
    (h : Poised s i g o x word w) (hacts : x.skips o w = false) (hbody : bodyOf o s i x w = .fault u code detail addr) :
    s.issue i g o = u.spnFault i g code detail addr x.pc := by
  rw [h.issue, State.issueBody, h.resident]
  dsimp only
  rw [if_neg (by rw [h.picked]; exact Bool.false_ne_true), if_neg (by rw [hacts]; exact Bool.false_ne_true), hbody]

/-! ### After the issue -/

/-- The spindle has counted the issue, for the tag countdown and the vector slots (R90, R434). -/
def State.issueCounted (s : State) (i : Nat) (x : Gang) (w : IWord) (word : Nat) : State :=
  (s.tagIssue i x word (s.slotFor i x w)).updSpindle i fun sp =>
    { sp with
      issueNo := (s.spindle i).issueNo + 1
      vecAt := if s.slotFor i x w = 2 then some (s.now, x.gang) else if s.slotFor i x w = 3 then none else sp.vecAt }

/-- The gang goes on behind an instruction that leaves its group open (R97). -/
def Gang.advanced (y x : Gang) (o : SpnOp) (w : IWord) (off : Int) (slot n : Nat) : Gang :=
  { y.mask o w with
    pc := x.pc + off
    groupIssued := y.groupIssued.modify slot (· + 1)
    closed := w.gb || o.ownGroup
    lastIssue := n
    loads := y.loads.map fun l => l.killedBy x o w }

theorem State.issued_open (s : State) (i : Nat) (x : Gang) {o : SpnOp} {w : IWord} (word : Nat) (off : Int) (h : (w.gb || o.ownGroup) = false) :
    s.issued i x o w word off
      = (s.issueCounted i x w word).updGang i x.gang fun y => y.advanced x o w off (s.slotFor i x w) ((s.spindle i).issueNo + 1) := by
  unfold State.issued
  dsimp only
  rw [if_neg (by rw [h]; exact Bool.false_ne_true)]
  rfl

theorem State.tagIssue_steps (s : State) (i g : Nat) (x : Gang) (word slot : Nat) :
    SpnOnly s (s.tagIssue i x word slot) ∧ GangOnly i g s (s.tagIssue i x word slot)
      ∧ (s.tagIssue i x word slot).gang i g = s.gang i g := by
  unfold State.tagIssue
  split
  · refine ⟨spnOnly_updSpindle s i _, gangOnly_updSpindle s i g (fun sp => ?_) (fun sp => ?_), gang_updSpindle s i (fun sp => ?_) i g⟩
    · split <;> rfl
    · split <;> exact ⟨rfl, rfl, rfl, rfl⟩
    · split <;> rfl
  · exact ⟨rfl, GangOnly.refl i g s, rfl⟩

/-- Counting the issue changes no gang. -/
theorem State.issueCounted_steps (s : State) (i g : Nat) (x : Gang) (w : IWord) (word : Nat) :
    SpnOnly s (s.issueCounted i x w word) ∧ GangOnly i g s (s.issueCounted i x w word)
      ∧ (s.issueCounted i x w word).gang i g = s.gang i g := by
  obtain ⟨honly, hgangs, hgang⟩ := s.tagIssue_steps i g x word (s.slotFor i x w)
  unfold State.issueCounted
  refine ⟨honly.trans (spnOnly_updSpindle _ i _), hgangs.trans (gangOnly_updSpindle _ i g ?_ ?_), (gang_updSpindle _ i ?_ i g).trans hgang⟩
  · exact fun _ => rfl
  · exact fun _ => ⟨rfl, rfl, rfl, rfl⟩
  · exact fun _ => rfl

/-- An issue that leaves the group open moves the gang on and changes neither its threads nor anything but its spindle (R90, R97). -/
theorem State.issued_steps {s : State} {i g : Nat} {x y : Gang} {o : SpnOp} {w : IWord} (word : Nat) (off : Int) (hg : x.gang = g)
    (hy : s.gang i g = some y) (h : (w.gb || o.ownGroup) = false) :
    SpnOnly s (s.issued i x o w word off) ∧ GangOnly i g s (s.issued i x o w word off) ∧ At (s.issued i x o w word off) i g y (x.pc + off) := by
  subst hg
  obtain ⟨honly, hgangs, hgang⟩ := s.issueCounted_steps i x.gang x w word
  rw [s.issued_open i x word off h]
  refine ⟨honly.trans (spnOnly_updGang _ i _ _), hgangs.trans (gangOnly_updGang _ i _ ?_), y.advanced x o w off _ _,
    gang_updGang _ i _ ?_ (hgang.trans hy), rfl, rfl, rfl, rfl, fun _ _ => rfl, fun _ _ => rfl⟩
  · exact fun _ => rfl
  · exact fun _ => rfl

end Sys2Proof.Machine
end

section
open Sys2Proof Sys2Proof.Machine

namespace Sys2Proof.Machine

/-! ### The pack record -/

theorem length_tritBytes (l : List Nat) : (tritBytes l).length = (l.length + 4) / 5 := by
  unfold tritBytes
  rw [List.length_flatMap]
  simp only [length_leBytes, List.map_const', List.sum_replicate, List.length_range, smul_eq_mul, Nat.mul_one]

theorem length_packedElems (wfmt : Nat) {l : List Nat} (h : l.length = 32) : (packedElems wfmt l).length = 32 := by
  unfold packedElems
  dsimp only
  split
  · rw [List.length_append, List.length_replicate, length_tritBytes, h]
  · exact length_leBytes 32 _

theorem length_packBlock (wfmt wscale : Nat) (l : List FVal) : (packBlock wfmt wscale l).2.length = l.length := by
  unfold packBlock
  dsimp only
  split <;> exact List.length_map _

/-- The record of 32 values takes 64 bytes (R133). -/
theorem length_packRecord (wfmt wscale : Nat) {l : List FVal} (h : l.length = 32) : (packRecord wfmt wscale l).length = 64 := by
  have hone : (packBlock wfmt 1 l).2.length = 32 := (length_packBlock wfmt 1 l).trans h
  have htwo : ((packBlock wfmt 2 (l.take 16)).2 ++ (packBlock wfmt 2 (l.drop 16)).2).length = 32 := by
    rw [List.length_append, length_packBlock, length_packBlock, List.length_take, List.length_drop, h]
    rfl
  unfold packRecord
  dsimp only
  split
  · simp only [List.flatMap_cons, List.flatMap_nil, List.append_nil, List.length_append, length_packedElems wfmt hone, length_leBytes,
      List.length_replicate]
  · simp only [List.flatMap_cons, List.flatMap_nil, List.append_nil, List.length_append, length_packedElems wfmt htwo, length_leBytes,
      List.length_replicate]

/-- The values that PACK takes: those of the enabled threads, and 0 for the others (R133). -/
def packVals (x : Gang) (w : IWord) : List FVal :=
  (List.range 32).map fun th => if th ∈ x.enabled w then f32 (x.reg th w.src1) else .fin false 0 1

theorem length_packVals (x : Gang) (w : IWord) : (packVals x w).length = 32 := by
  rw [packVals, List.length_map, List.length_range]

theorem packVals_eq (x : Gang) (w : IWord) :
    packVals x w = (List.range 32).map fun t => if (x.enabled w).contains t then f32 (x.reg t w.src1) else .fin false 0 1 := by
  simp only [packVals, List.contains_iff_mem]

theorem State.bytes_eq {t : State} {a n : Nat} {l : List Byte} (hl : l.length = n) (h : ∀ k (hk : k < l.length), t.byte (a + k) = l[k]) :
    t.bytes a n = l := by
  refine List.ext_getElem (by simp [State.bytes, hl]) fun k _ hk => ?_
  simpa [State.bytes] using h k hk

/-! ### What PACK and UNPACK check -/

section
variable {s : State} {i : Nat} {x : Gang} {w : IWord} {F : FmtSlot → Nat → Issued}

theorem packCheck_empty (h : x.enabled w ≠ []) (hf : s.fmtSlot i w.fslot = none) : packCheck s i x w F = .fault s 0x03 0 0 := by
  have hnonempty : ¬ (x.enabled w).isEmpty = true := by rwa [List.isEmpty_iff]
  unfold packCheck
  rw [if_neg hnonempty, hf]

variable {f : FmtSlot}

theorem packCheck_slot (h : x.enabled w ≠ []) (hf : s.fmtSlot i w.fslot = some f) : packCheck s i x w F =
    if f.wscale = 0 then .fault s 0x04 0 0
    else if !bowlOk (x.reg (x.lead w) w.src2) 64 then .fault s 0x05 0 (bowlAddr i (x.reg (x.lead w) w.src2))
    else if x.reg (x.lead w) w.src2 % 64 ≠ 0 then .fault s 0x06 0 (bowlAddr i (x.reg (x.lead w) w.src2))
    else if s.bowlWait i x.gang (bowlAddr i (x.reg (x.lead w) w.src2)) 64 then .wait
    else F f (x.reg (x.lead w) w.src2) := by
  have hnonempty : ¬ (x.enabled w).isEmpty = true := by rwa [List.isEmpty_iff]
  unfold packCheck
  rw [if_neg hnonempty, hf]

theorem packCheck_unscaled (h : x.enabled w ≠ []) (hf : s.fmtSlot i w.fslot = some f) (hscale : f.wscale = 0) :
    packCheck s i x w F = .fault s 0x04 0 0 := by
  rw [packCheck_slot h hf]
  exact if_pos hscale

variable {off : Nat} (hoff : x.reg (x.lead w) w.src2 = off)
include hoff

theorem packCheck_outside (h : x.enabled w ≠ []) (hf : s.fmtSlot i w.fslot = some f) (hscale : f.wscale ≠ 0) (hend : bowlBytes < off + 64) :
    packCheck s i x w F = .fault s 0x05 0 (bowlAddr i off) := by
  rw [packCheck_slot h hf, hoff, if_neg hscale, if_pos (by rw [bowlOk, decide_eq_false (by omega)]; rfl)]

theorem packCheck_misaligned (h : x.enabled w ≠ []) (hf : s.fmtSlot i w.fslot = some f) (hscale : f.wscale ≠ 0) (hend : off + 64 ≤ bowlBytes)
    (halign : off % 64 ≠ 0) : packCheck s i x w F = .fault s 0x06 0 (bowlAddr i off) := by
  rw [packCheck_slot h hf, hoff, if_neg hscale, if_neg (by rw [bowlOk, decide_eq_true hend]; exact Bool.false_ne_true), if_pos halign]

theorem packCheck_passed (h : x.enabled w ≠ []) (hf : s.fmtSlot i w.fslot = some f) (hscale : f.wscale ≠ 0) (hend : off + 64 ≤ bowlBytes)
    (halign : off % 64 = 0) (hfree : s.bowlWait i x.gang (bowlAddr i off) 64 = false) : packCheck s i x w F = F f off := by
  rw [packCheck_slot h hf, hoff, if_neg hscale, if_neg (by rw [bowlOk, decide_eq_true hend]; exact Bool.false_ne_true), if_neg (not_not.2 halign),
    if_neg (by rw [hfree]; exact Bool.false_ne_true)]

end

/-! ### PACK -/

/-- `t` differs from `s` in the spindles and in memory alone. -/
def SpnMem (s t : State) : Prop := t = { s with spn := t.spn, mem := t.mem }

theorem SpnMem.onward {s t u : State} (h : SpnMem s t) (k : SpnOnly t u) : SpnMem s u := by
  unfold SpnMem SpnOnly at *
  rw [k, h]

theorem SpnMem.keeping {s t : State} (h : SpnMem s t) : SpnMem s (s.keeping t) := by
  unfold SpnMem at h
  rw [h]
  rfl

/-- The record is in the bowl, and the stores that the gang holds leave its bytes (R98, R104, R133). -/
def State.recordPut (s : State) (i g a : Nat) (rcd : List Byte) : State := (s.heldTake i g a rcd).putBytes a rcd

theorem State.recordPut_spnMem (s : State) (i g a : Nat) (rcd : List Byte) : SpnMem s (s.recordPut i g a rcd) := rfl

theorem State.recordPut_gangOnly (s : State) (i g a : Nat) (rcd : List Byte) : GangOnly i g s (s.recordPut i g a rcd) := by
  have hput : SpnSame (s.heldTake i g a rcd) (s.recordPut i g a rcd) := rfl
  refine (gangOnly_updGang s i g ?_).trans (hput.gangOnly i g)
  exact fun _ => rfl

/-- The gang with the stores that it holds changed has the same threads. -/
def Gang.withHeld (x : Gang) (l : List HeldStore) : Gang := { x with held := l }

theorem State.recordPut_gang {s : State} {i g : Nat} {x : Gang} (a : Nat) (rcd : List Byte) (h : s.gang i g = some x) :
    ∃ l, (s.recordPut i g a rcd).gang i g = some (x.withHeld l) := by
  have hput : SpnSame (s.heldTake i g a rcd) (s.recordPut i g a rcd) := rfl
  refine ⟨_, (gang_of_spn hput i g).trans (gang_updGang s i g ?_ h)⟩
  exact fun _ => rfl

theorem At.of_withHeld {t : State} {i g : Nat} {x : Gang} {l : List HeldStore} {pc : Int} (h : At t i g (x.withHeld l) pc) : At t i g x pc := h

/-! ### UNPACK -/

theorem Gang.reg_setReg {x : Gang} {t n m : Nat} (v th : Nat) (hn : n < 128) (hm : m < 128) :
    (x.setReg t m v).reg th n = if th = t ∧ n = m then v % 2 ^ 32 else x.reg th n := by
  unfold Gang.reg Gang.setReg
  split
  next h =>
    obtain ⟨rfl, rfl⟩ := h
    exact smapGet_set _ _ _ _
  next h => exact smapGet_set_ne _ _ _ (by omega)

/-- A result for a list of threads goes to the register of each of them and of no other. -/
theorem Gang.reg_putAll (x : Gang) (ts : List Nat) {n m : Nat} (v : Nat → Nat) (th : Nat) (hn : n < 128) (hm : m < 128) :
    (x.putAll ts m false v).reg th n = if th ∈ ts ∧ n = m then v th % 2 ^ 32 else x.reg th n := by
  unfold Gang.putAll Gang.forThreads
  induction ts generalizing x with
  | nil => rw [if_neg (by simp)]; rfl
  | cons t ts ih =>
    rw [List.foldl_cons, ih, Gang.put, if_neg Bool.false_ne_true, Gang.reg_setReg _ _ hn hm]
    by_cases hnm : n = m
    · by_cases hin : th ∈ ts
      · simp [hin, hnm]
      · by_cases heq : th = t
        · subst heq
          simp [hin, hnm]
        · simp [hin, heq]
    · simp [hnm]

theorem Gang.putAll_gang (x : Gang) (ts : List Nat) (m : Nat) (v : Nat → Nat) : (x.putAll ts m false v).gang = x.gang := by
  unfold Gang.putAll Gang.forThreads
  induction ts generalizing x with
  | nil => rfl
  | cons t ts ih => exact (ih _).trans rfl

/-- Every enabled thread has its element of the record; TR5 codes above 242 are counted (R115, R136). -/
def State.unpacked (s : State) (i : Nat) (x : Gang) (w : IWord) (f : FmtSlot) (rcd : List Byte) : State :=
  let u := s.updGang i x.gang fun y => y.putAll (x.enabled w) w.dst false fun t => unpackElem f.wfmt f.wscale rcd t
  if f.wfmt = 10 then
    u.count 0 i 0x010 (((x.enabled w).map (· / 5)).eraseDups.filter fun j => decide (242 < leAt rcd j 1)).length
  else u

theorem State.unpacked_noted (s : State) {i : Nat} (hi : i < 288) (x : Gang) (w : IWord) (f : FmtSlot) (rcd : List Byte) :
    Noted (s.updGang i x.gang fun y => y.putAll (x.enabled w) w.dst false fun t => unpackElem f.wfmt f.wscale rcd t) (s.unpacked i x w f rcd) := by
  unfold State.unpacked
  exact Noted.ite (noted_count _ 0 i 0x010 _ hi) (Noted.refl _)

theorem Noted.spnSame {s t : State} (h : Noted s t) : SpnSame s t := h.field State.spn fun _ _ _ => rfl

theorem SpnOnly.memSame {s t : State} (h : SpnOnly s t) : MemSame s t := h.byte
theorem SpnOnly.regsBut {s t : State} (h : SpnOnly s t) (rs : List Nat) : RegsBut rs s t := fun a _ _ => h.reg a

/-- What UNPACK leaves, before the gang goes on. -/
theorem State.unpacked_steps {s : State} {i g : Nat} {x : Gang} (hi : i < 288) (hx : s.gang i g = some x) (w : IWord) (f : FmtSlot)
    (rcd : List Byte) :
    (s.unpacked i x w f rcd).gang i g = some (x.putAll (x.enabled w) w.dst false fun t => unpackElem f.wfmt f.wscale rcd t)
      ∧ GangOnly i g s (s.unpacked i x w f rcd) ∧ MemSame s (s.unpacked i x w f rcd) ∧ RegsBut [] s (s.unpacked i x w f rcd) := by
  have hnote := s.unpacked_noted hi x w f rcd
  have hput (y : Gang) : (y.putAll (x.enabled w) w.dst false fun t => unpackElem f.wfmt f.wscale rcd t).gang = y.gang := y.putAll_gang _ _ _
  rw [gang_number hx] at hnote
  have honly := spnOnly_updGang s i g fun y => y.putAll (x.enabled w) w.dst false fun t => unpackElem f.wfmt f.wscale rcd t
  exact ⟨(gang_of_spn hnote.spnSame i g).trans (gang_updGang s i g hput hx), (gangOnly_updGang s i g hput).trans (hnote.spnSame.gangOnly i g),
    honly.memSame.trans hnote.memSame, (honly.regsBut []).trans (hnote.regsBut [])⟩

end Sys2Proof.Machine
end

section
open Sys2Proof Sys2Proof.Machine

namespace Sys2Proof.Machine

/-! ### The two commands -/

theorem iwordOf_dst_lt (word : Nat) : (iwordOf word).dst < 128 := Nat.mod_lt _ (by decide)

theorem exec_pack {i : Fin 288} {g : Fin 256} {s : State} (hrun : s.running = true) :
    exec (.pack i g) s = .next (s.keeping (s.issue i g .pack)) := by
  rw [show exec (.pack i g) s = execPack i g s from rfl, execPack, State.run_running _ _ hrun]

theorem exec_unpack {i : Fin 288} {g : Fin 256} {s : State} (hrun : s.running = true) :
    exec (.unpack i g) s = .next (s.keeping (s.issue i g .unpack)) := by
  rw [show exec (.unpack i g) s = execUnpack i g s from rfl, execUnpack, State.run_running _ _ hrun]

section
variable {i : Fin 288} {g : Fin 256} {s : State} {x : Gang} {word : Nat} {w : IWord} {f : FmtSlot} {off : Nat}

/-- A record is packed (R133): it is in the bowl, and the gang goes on with its threads as they were. -/
theorem exec_pack_record (h : Poised s i g .pack x word w) (hgb : w.gb = false) (hoff : x.reg (x.lead w) w.src2 = off)
    (henabled : x.enabled w ≠ []) (hf : s.fmtSlot i w.fslot = some f) (hscale : f.wscale ≠ 0) (hend : off + 64 ≤ bowlBytes) (halign : off % 64 = 0)
    (hfree : s.bowlWait i x.gang (bowlAddr i off) 64 = false) :
    ∃ t, exec (.pack i g) s = .next t ∧ At t i g x (x.pc + 1) ∧ GangOnly i g s t ∧ t = { s with spn := t.spn, mem := t.mem }
      ∧ t.bytes (bowlAddr i off) 64 = packRecord f.wfmt f.wscale (packVals x w)
      ∧ ∀ a, a < bowlAddr i off ∨ bowlAddr i off + 64 ≤ a → t.byte a = s.byte a := by
  have hg : x.gang = g := gang_number h.resident
  have hlength := length_packRecord f.wfmt f.wscale (length_packVals x w)
  have hbody : bodyOf .pack s i x w = .done (s.recordPut i g (bowlAddr i off) (packRecord f.wfmt f.wscale (packVals x w))) := by
    rw [show bodyOf .pack s i x w = bodyPack s i x w from rfl, bodyPack,
      packCheck_passed hoff henabled hf hscale hend halign hfree, packVals_eq, hg]
    rfl
  have hissue := h.issue_done rfl hbody
  generalize packRecord f.wfmt f.wscale (packVals x w) = rcd at hissue hlength ⊢
  obtain ⟨l, hgang⟩ := State.recordPut_gang (bowlAddr i off) rcd h.resident
  obtain ⟨honly, hgangs, hat⟩ := State.issued_steps (o := .pack) (w := w) word 1 hg hgang (by rw [hgb]; rfl)
  have hbyte (a : Nat) : _ = (s.recordPut i g (bowlAddr i off) rcd).byte a := honly.byte a
  rw [← hissue] at honly hgangs hat hbyte
  refine ⟨_, exec_pack h.runs, hat.of_withHeld, (s.recordPut_gangOnly i g _ rcd).trans hgangs,
    ((s.recordPut_spnMem i g _ rcd).onward honly).keeping, State.bytes_eq hlength fun k hk => ?_, fun a ha => ?_⟩
  · exact (hbyte _).trans (State.byte_putBytes_at _ _ rcd k hk)
  · exact (hbyte a).trans (State.byte_putBytes_ne _ rcd (by rwa [hlength]))

/-- A record is unpacked (R136): each enabled thread has its element, and the gang goes on. -/
theorem exec_unpack_record (h : Poised s i g .unpack x word w) (hgb : w.gb = false) (hoff : x.reg (x.lead w) w.src2 = off)
    (henabled : x.enabled w ≠ []) (hf : s.fmtSlot i w.fslot = some f) (hscale : f.wscale ≠ 0) (hend : off + 64 ≤ bowlBytes) (halign : off % 64 = 0)
    (hfree : s.bowlWait i x.gang (bowlAddr i off) 64 = false) :
    ∃ t z, exec (.unpack i g) s = .next t ∧ t.gang i g = some z ∧ z.pc = x.pc + 1 ∧ GangOnly i g s t ∧ MemSame s t
      ∧ (∀ th n, n < 128 → z.reg th n = if th ∈ x.enabled w ∧ n = w.dst
          then unpackElem f.wfmt f.wscale (s.heldOver x (bowlAddr i off) (s.bytes (bowlAddr i off) 64)) th % 2 ^ 32 else x.reg th n)
      ∧ RegsBut [] s t := by
  have hg : x.gang = g := gang_number h.resident
  have hdst : w.dst < 128 := by rw [h.fields]; exact iwordOf_dst_lt word
  have hbody : bodyOf .unpack s i x w = .done (s.unpacked i x w f (s.heldOver x (bowlAddr i off) (s.bytes (bowlAddr i off) 64))) := by
    rw [show bodyOf .unpack s i x w = bodyUnpack s i x w from rfl, bodyUnpack,
      packCheck_passed hoff henabled hf hscale hend halign hfree]
    rfl
  have hissue := h.issue_done rfl hbody
  generalize s.heldOver x (bowlAddr i off) (s.bytes (bowlAddr i off) 64) = rcd at hissue ⊢
  obtain ⟨hgang, hgangs, hmem, hregs⟩ := State.unpacked_steps i.isLt h.resident w f rcd
  obtain ⟨konly, kgangs, kat⟩ := State.issued_steps (o := .unpack) (w := w) word 1 hg hgang (by rw [hgb]; rfl)
  rw [← hissue] at konly kgangs kat
  obtain ⟨z, hz, hpc, -, -, -, hreg, -⟩ := kat
  refine ⟨_, z, exec_unpack h.runs, hz, hpc, hgangs.trans kgangs, (hmem.trans konly.memSame).keeping, fun th n hn => ?_,
    (hregs.trans (konly.regsBut [])).keeping⟩
  rw [hreg, Gang.reg_putAll _ _ _ _ hn hdst]

theorem bodyPack_checks (s : State) (i : Nat) (x : Gang) (w : IWord) : ∃ F, bodyPack s i x w = packCheck s i x w F := by
  unfold bodyPack
  exact ⟨_, rfl⟩

theorem bodyUnpack_checks (s : State) (i : Nat) (x : Gang) (w : IWord) : ∃ F, bodyUnpack s i x w = packCheck s i x w F := by
  unfold bodyUnpack
  exact ⟨_, rfl⟩

/-- PACK and UNPACK check their slot and their offset first (R95, R96, R133). -/
theorem exec_conversion {e : Instr × SpnOp} (he : e ∈ [(Instr.pack i g, SpnOp.pack), (.unpack i g, .unpack)]) (hrun : s.running = true) :
    exec e.1 s = .next (s.keeping (s.issue i g e.2)) ∧ x.skips e.2 w = false ∧ ∃ F, bodyOf e.2 s i x w = packCheck s i x w F := by
  obtain rfl | rfl : e = (.pack i g, .pack) ∨ e = (.unpack i g, .unpack) := by simpa using he
  · exact ⟨exec_pack hrun, rfl, bodyPack_checks s i x w⟩
  · exact ⟨exec_unpack hrun, rfl, bodyUnpack_checks s i x w⟩

/-- A check that fails stops the gang with its fault (R101). -/
theorem exec_conversion_fault {e : Instr × SpnOp} (he : e ∈ [(Instr.pack i g, SpnOp.pack), (.unpack i g, .unpack)]) (h : Poised s i g e.2 x word w)
    {code addr : Nat} (hcheck : ∀ F, packCheck s i x w F = .fault s code 0 addr) :
    exec e.1 s = .next (s.keeping (s.spnFault i g code 0 addr x.pc)) := by
  obtain ⟨hexec, hacts, F, hbody⟩ := exec_conversion (x := x) (w := w) he h.runs
  rw [hexec, h.issue_fault hacts (hbody.trans (hcheck F))]

end

end Sys2Proof.Machine

/-- Settles O25: past its checks a conversion issues by `issue_done`, a failed check faults by `issue_fault`. -/
theorem spindleConversions : Obligations.SpindleConversions := by
  intro i g s x word w off
  refine ⟨fun f hf hscale halign hend henabled hfree => ⟨fun h hgb => ?_, fun h hgb => ?_⟩,
    fun e he h henabled => ⟨fun hf => ?_, fun f hf hscale => ?_, fun f hf hscale hend => ?_, fun f hf hscale hend halign => ?_⟩⟩
  · exact exec_pack_record h hgb rfl henabled hf hscale hend halign hfree
  · exact exec_unpack_record h hgb rfl henabled hf hscale hend halign hfree
  · exact exec_conversion_fault he h fun F => packCheck_empty henabled hf
  · exact exec_conversion_fault he h fun F => packCheck_unscaled henabled hf hscale
  · exact exec_conversion_fault he h fun F => packCheck_outside rfl henabled hf hscale hend
  · exact exec_conversion_fault he h fun F => packCheck_misaligned rfl henabled hf hscale hend halign
end

section
open Sys2Proof Sys2Proof.Machine

namespace Sys2Proof.Machine

/-! ### What no command touches: the commands that wait and the clock -/

/-- The commands that wait and the model's clock are the same in both states. -/
def QueueSame (s t : State) : Prop := t.pending = s.pending ∧ t.now = s.now

theorem QueueSame.refl (s : State) : QueueSame s s := ⟨rfl, rfl⟩

theorem QueueSame.trans {s t u : State} (h : QueueSame s t) (k : QueueSame t u) : QueueSame s u := ⟨k.1.trans h.1, k.2.trans h.2⟩

theorem QueueSame.ite {s t u : State} {c : Prop} [Decidable c] (h : QueueSame s t) (k : QueueSame s u) : QueueSame s (if c then t else u) := by
  split <;> assumption

theorem QueueSame.forEach {α : Type} (l : List α) {f : State → α → State} (hf : ∀ s x, QueueSame s (f s x)) (s : State) :
    QueueSame s (s.forEach l f) := by
  unfold State.forEach
  induction l generalizing s with
  | nil => exact QueueSame.refl s
  | cons x l ih => exact (hf s x).trans (ih _)

theorem Unreached.queueSame {s t : State} (h : Unreached s t) : QueueSame s t := ⟨h.1, h.2.1⟩

theorem LmStep.queueSame {s t : State} (h : LmStep s t) : QueueSame s t :=
  ⟨h.field State.pending fun _ _ _ _ _ _ _ => rfl, h.field State.now fun _ _ _ _ _ _ _ => rfl⟩

theorem queueSame_keeping (s t : State) : QueueSame s (s.keeping t) := ⟨s.pending_keeping t, s.now_keeping t⟩

theorem queueSame_set (s : State) (l : Loc) (n : Nat) : QueueSame s (s.set l n) := ⟨s.pending_set l n, s.now_set l n⟩
theorem queueSame_inc (s : State) (l : Loc) (n : Nat) : QueueSame s (s.inc l n) := ⟨s.pending_inc l n, s.now_inc l n⟩
theorem queueSame_sat (s : State) (l : Loc) (n : Nat) : QueueSame s (s.sat l n) := ⟨s.pending_sat l n, s.now_sat l n⟩
theorem queueSame_setReg (s : State) (a : Nat) (v : Word64) : QueueSame s (s.setReg a v) := ⟨s.pending_setReg a v, s.now_setReg a v⟩
theorem queueSame_ev (s : State) (x : EventState) : QueueSame s { s with ev := x } := ⟨rfl, rfl⟩
theorem queueSame_sec (s : State) (x : SecState) : QueueSame s { s with sec := x } := ⟨rfl, rfl⟩
theorem queueSame_pwr (s : State) (x : PowerState) : QueueSame s { s with pwr := x } := ⟨rfl, rfl⟩
theorem queueSame_parts (s : State) (x : EventState) (y : List (Nat × LinkPort)) (z : PowerState) :
    QueueSame s { s with ev := x, lnk := y, pwr := z } := ⟨rfl, rfl⟩
theorem queueSame_memory (s : State) (x : List Host.Cell) (y : MemState) : QueueSame s { s with mem := x, lm := y } := ⟨rfl, rfl⟩
theorem queueSame_drawn (s : State) : QueueSame s s.drawn := ⟨rfl, rfl⟩

/-! #### The writer of the event recorder (R406, R410, R413) -/

theorem queueSame_noticeAdd (s : State) (k : Nat) (r : EvRecord) : QueueSame s (s.noticeAdd k r) := by
  unfold State.noticeAdd
  extract_lets min raised w absorbs
  have hraise : QueueSame s raised := QueueSame.ite (noted_raiseVec s 11).unreached.queueSame (QueueSame.refl s)
  refine QueueSame.ite (QueueSame.refl s) (hraise.trans ?_)
  split
  · exact queueSame_ev _ _
  · exact QueueSame.ite (queueSame_ev _ _) (queueSame_ev _ _)

theorem queueSame_recorded (s : State) (k : Nat) (r : EvRecord) : QueueSame s (s.recorded k r) := by
  unfold State.recorded
  exact (QueueSame.ite (queueSame_set s _ _) (QueueSame.refl s)).trans (queueSame_noticeAdd _ k r)

theorem queueSame_writeDirect (s : State) (k : Nat) (o : Occ) : QueueSame s (s.writeDirect k o) := by
  unfold State.writeDirect State.nextSeq
  extract_lets q r put
  have hseq : QueueSame s q.2 := queueSame_inc s _ 1
  have hput : QueueSame q.2 put := QueueSame.ite (queueSame_sat _ _ 1) (queueSame_ev _ _)
  exact (hseq.trans hput).trans (queueSame_recorded put k r)

theorem queueSame_setRing (s : State) (k : Nat) (l : List (Nat × EvRecord)) : QueueSame s (s.setRing k l) := by
  unfold State.setRing
  exact QueueSame.ite (queueSame_ev s _) (queueSame_ev s _)

theorem queueSame_writeRing (s : State) (k : Nat) (o : Occ) : QueueSame s (s.writeRing k o) := by
  unfold State.writeRing State.nextSeq
  extract_lets q place r u lost
  have hseq : QueueSame s u := queueSame_inc s _ 1
  have hlost : QueueSame u lost := by
    unfold lost
    split
    · exact QueueSame.ite (queueSame_sat u _ 1) (QueueSame.refl u)
    · exact QueueSame.refl u
  exact ((hseq.trans hlost).trans (queueSame_setRing lost k _)).trans (queueSame_recorded _ k r)

theorem queueSame_flushRecords (s : State) (k : Nat) : QueueSame s (s.flushRecords k) := by
  have hempty : QueueSame s { s with ev := { s.ev with fifo := [], held := [] } } := ⟨rfl, rfl⟩
  unfold State.flushRecords
  exact hempty.trans (QueueSame.forEach _ (fun u o => QueueSame.ite (queueSame_writeDirect u k o) (queueSame_writeRing u k o)) _)

/-! #### Power and resets (R512 to R516) -/

theorem queueSame_pierDrain (s : State) (p : Nat) : QueueSame s (s.pierDrain p) := by
  unfold State.pierDrain
  have hwrites := QueueSame.forEach (s.lm.wbuf.filter fun l => pierOf l == p) (fun u l => (lmStep_dramWrite u l).queueSame) s
  have hflush (l : List CodeEntry) (u : State) := QueueSame.forEach l (fun u e => (lmStep_codeFlush u e).queueSame) u
  exact (hwrites.trans (hflush _ _)).trans ⟨rfl, rfl⟩

theorem queueSame_initStops (s : State) (p : Nat) : QueueSame s (s.initStops p) := by
  unfold State.initStops
  exact QueueSame.ite ⟨rfl, rfl⟩ (QueueSame.refl s)

theorem queueSame_resvStops (s : State) : QueueSame s s.resvStops := by
  unfold State.resvStops
  split
  · exact QueueSame.refl s
  · exact (queueSame_drawn s).trans (queueSame_sec _ _)

theorem queueSame_resvCompletes (s : State) : QueueSame s s.resvCompletes := by
  unfold State.resvCompletes
  split
  · exact QueueSame.refl s
  · exact (queueSame_sec s _).trans (queueSame_set _ _ _)

theorem queueSame_cleared (s : State) : QueueSame s s.cleared := ⟨rfl, rfl⟩

theorem queueSame_powerUp (s : State) : QueueSame s s.powerUp := (queueSame_resvStops s).trans ⟨rfl, rfl⟩

theorem queueSame_moduleReset (s : State) : QueueSame s s.moduleReset := by
  have hdrain : QueueSame s (if s.pwr.pwrGood then s.forEach (List.range 4) fun s p => (s.initStops p).pierDrain p else s) :=
    QueueSame.ite (QueueSame.forEach _ (fun u p => (queueSame_initStops u p).trans (queueSame_pierDrain _ p)) s) (QueueSame.refl s)
  have hkept (u v : State) (l : List Nat) : QueueSame u (u.forEach l fun t a => t.setReg a (v.reg a)) :=
    QueueSame.forEach l (fun t a => queueSame_setReg t a (v.reg a)) u
  unfold State.moduleReset
  extract_lets on drained stopped kept zero held alerts _ _ _ t
  have hstopped : QueueSame s stopped := hdrain.trans (queueSame_resvStops drained)
  have hheld : QueueSame s held := (hstopped.trans (queueSame_cleared stopped)).trans (hkept zero stopped kept)
  have halerts : QueueSame held alerts := (queueSame_set held _ _).trans (queueSame_set _ _ _)
  have ht : QueueSame s t := (hheld.trans halerts).trans (queueSame_parts alerts _ _ _)
  exact QueueSame.ite (ht.trans (queueSame_memory t _ _)) ht

theorem queueSame_supplyShutdown (s : State) (cause : Nat) : QueueSame s (s.supplyShutdown cause) := ⟨rfl, rfl⟩

/-! #### The answers -/

/-- A command's answer is a next state whose queue and clock are as they were. -/
def Answers (s : State) (o : Out) : Prop := ∃ t, o = .next t ∧ t.pending = s.pending ∧ t.now = s.now

theorem QueueSame.answers {s t : State} (h : QueueSame s t) : Answers s (.next t) := ⟨t, rfl, h⟩

theorem Answers.ite {s : State} {c : Prop} [Decidable c] {o p : Out} (h : Answers s o) (k : Answers s p) : Answers s (if c then o else p) := by
  split <;> assumption

theorem answers_run (s : State) (f : State → State) : Answers s (s.run f) :=
  QueueSame.answers (QueueSame.ite (queueSame_keeping s _) (QueueSame.refl s))

theorem answers_tapOn (s : State) (f : TapState → TapState) : Answers s (s.tapOn f) :=
  QueueSame.answers (QueueSame.ite ⟨rfl, rfl⟩ (QueueSame.refl s))

theorem answers_tapPins (s : State) (ir : Nat) (sel : TapReg) (m : PinMode) : Answers s (s.tapPins ir sel m) := answers_tapOn s _

theorem answers_powerOn (s : State) : Answers s (execPowerOn s) := by
  unfold execPowerOn
  dsimp only
  refine Answers.ite ?_ ((queueSame_powerUp _).answers)
  split <;> exact ⟨_, rfl, rfl, rfl⟩

theorem answers_moduleReset (s : State) : Answers s (execModuleReset s) := by
  have hreset := queueSame_moduleReset s
  unfold execModuleReset
  refine Answers.ite ⟨_, rfl, rfl, rfl⟩ (Answers.ite ?_ (Answers.ite hreset.answers (QueueSame.refl s).answers))
  exact (QueueSame.ite hreset (QueueSame.refl s)).answers

theorem answers_moduleResetRelease (slotId : Fin 64) (pref : Bool) (s : State) : Answers s (execModuleResetRelease slotId pref s) := by
  unfold execModuleResetRelease
  refine Answers.ite (QueueSame.refl s).answers ?_
  dsimp only
  split
  · exact ⟨_, rfl, rfl, rfl⟩
  · exact ⟨_, rfl, rfl, rfl⟩

theorem answers_shutdownNvComplete (s : State) : Answers s (execShutdownNvComplete s) := by
  unfold execShutdownNvComplete
  split
  next => exact (QueueSame.refl s).answers
  next cause n hcause =>
    extract_lets k flushed committed waits power off
    have hflush : QueueSame s flushed := (queueSame_resvCompletes s).trans (queueSame_flushRecords _ k)
    have hoff : QueueSame s off := (hflush.trans (QueueSame.forEach _ (fun u r => queueSame_ev u _) flushed)).trans ⟨rfl, rfl⟩
    refine Answers.ite (QueueSame.refl s).answers (Answers.ite ?_ hoff.answers)
    exact (hoff.trans (QueueSame.ite (queueSame_powerUp off) (QueueSame.ite (queueSame_moduleReset off) (QueueSame.refl off)))).answers

theorem answers_bypass (code : Fin 256) (s : State) : Answers s (execBypass code s) :=
  Answers.ite (answers_tapOn s _) (QueueSame.refl s).answers

theorem answers_supplyLoss (s : State) : Answers s (execSupplyLoss s) := by
  unfold execSupplyLoss
  extract_lets busbar off
  have hoff : QueueSame s off := queueSame_pwr s _
  exact (hoff.trans ((QueueSame.ite (queueSame_set off _ 1) (QueueSame.refl off)).trans (queueSame_supplyShutdown _ 0))).answers

theorem answers_pwrEnLow (s : State) : Answers s (execPwrEnLow s) :=
  ((queueSame_pwr s _).trans (queueSame_supplyShutdown _ 1)).answers

theorem answers_testAccessUnlock (code : Fin 256) (s : State) : Answers s (execTestAccessUnlock code s) := by
  unfold execTestAccessUnlock
  exact Answers.ite ⟨_, rfl, rfl, rfl⟩ (QueueSame.refl s).answers

theorem runs_controlRegisterWrite (r : Requester) (a : Nat) (v : Word64) (s : State) : ∃ f, execControlRegisterWrite r a v s = s.run f := ⟨_, rfl⟩

theorem runs_goTo (s : State) (req : Nat) : ∃ f, s.goTo req = s.run f := ⟨_, rfl⟩

/-- Every command but the events of the supply, of the sideband pins and of the test access port acts in a running module alone. -/
theorem exec_runs {c : Instr} (hc : supplyOrPin c = false) (s : State) : ∃ f, exec c s = s.run f := by
  cases c
  case powerOn | moduleReset | moduleResetRelease | supplyLoss | pwrEnLow | shutdownNvComplete | tapReset | extest | idcode | samplePreload
    | clamp | highz | extestPulse | extestTrain | bypass | testAccessUnlock => exact Bool.noConfusion hc
  case enterM2 | enterM3 | enterM4 | leaveM2M3 => exact runs_goTo s _
  case submissionTailDoorbell => exact runs_controlRegisterWrite _ _ _ s
  case completionHeadDoorbell => exact runs_controlRegisterWrite _ _ _ s
  all_goals delta exec; exact ⟨_, rfl⟩

theorem answers_supplyOrPin {c : Instr} (hc : supplyOrPin c = true) (s : State) : Answers s (exec c s) := by
  cases c
  case powerOn => exact answers_powerOn s
  case moduleReset => exact answers_moduleReset s
  case moduleResetRelease slotId pref => exact answers_moduleResetRelease slotId pref s
  case supplyLoss => exact answers_supplyLoss s
  case pwrEnLow => exact answers_pwrEnLow s
  case shutdownNvComplete => exact answers_shutdownNvComplete s
  case bypass code => exact answers_bypass code s
  case testAccessUnlock code => exact answers_testAccessUnlock code s
  case tapReset | idcode | samplePreload => delta exec; exact answers_tapOn s _
  case extest | clamp | highz | extestPulse | extestTrain => exact answers_tapPins s _ _ _
  all_goals exact Bool.noConfusion hc

theorem answers_exec (c : Instr) (s : State) : Answers s (exec c s) := by
  cases hc : supplyOrPin c with
  | false =>
    obtain ⟨f, hf⟩ := exec_runs hc s
    rw [hf]
    exact answers_run s f
  | true => exact answers_supplyOrPin hc s

theorem step_next (s : State) : ∃ t, step s = .next t := by
  unfold step
  split
  · exact ⟨_, rfl⟩
  next c rest _ =>
    obtain ⟨t, ht, -⟩ := answers_exec c { s with pending := rest }
    exact ⟨t, ht⟩

theorem run_succ_of_next {M : Host.Core} {s t : M.State} (k : Nat) (h : M.step s = .next t) : M.run (k + 1) s = M.run k t := by
  rw [Host.Core.run, h]

theorem safe (s : State) : Safe s := by
  intro k
  induction k generalizing s with
  | zero => exact ⟨s, rfl⟩
  | succ k ih =>
    obtain ⟨t, ht⟩ := step_next s
    obtain ⟨u, hu⟩ := ih t
    exact ⟨u, (run_succ_of_next (M := core) k ht).trans hu⟩

end Sys2Proof.Machine

/-- Settles O4: each command answers a next state (`answers_exec`), so every run goes on (`safe`). -/
theorem commandsNeverStop : Obligations.CommandsNeverStop := ⟨answers_exec, safe⟩
end

section
open Sys2Proof Sys2Proof.Machine

namespace Sys2Proof.Machine

/-- LD r0 ← (r2, r3) (R92, R94). -/
def ldWord : Nat := 4 * 2 ^ 60 + 2 * 2 ^ 30

/-- The gang of one thread with a stray load in flight, on spindle 0, with LD at its next instruction. -/
def loadingState : State :=
  { State.reset with spn := [(0, { Spindle.empty with gangs := [loadedGang], icache := [(0x10000, leBytes 64 ldWord)] })] }

theorem loadingState_poised : Poised loadingState (0 : Fin 288) (0 : Fin 256) .ld loadedGang ldWord (iwordOf ldWord) where
  runs := by decide +kernel
  resident := by decide +kernel
  ready := by decide +kernel
  inProgram := by decide
  fetched := by decide +kernel
  fields := rfl
  legal := by decide +kernel
  regs := by decide +kernel
  loaded := by decide +kernel
  inGroup := .inl rfl
  picked := by decide +kernel

end Sys2Proof.Machine

/-- Refutes O22: the registers that the load writes are entered in the `dead` list of every load already in flight (R90), and
nothing in the statement excludes a load in flight at the beginning of a group; so the loads are not the old ones with one more. -/
theorem not_spindleLoads : ¬ Obligations.SpindleLoads := by
  unfold Obligations.SpindleLoads
  rintro ⟨h, -⟩
  obtain ⟨hload, -⟩ := h 0 0 loadingState loadedGang ldWord (iwordOf ldWord) false loadingState_poised (by decide +kernel)
  obtain ⟨t, z, l, ht, -, -, -, hgang, hloads, -⟩ := hload (by decide +kernel) rfl (by decide +kernel)
  obtain rfl := Host.Outcome.next.inj ht
  have hz : some (z.loads.map (·.dead.length)) = some [1, 0] := by
    rw [← Option.map_some (f := fun z : Gang => z.loads.map (·.dead.length)), ← hgang]
    decide +kernel
  rw [hloads] at hz
  simp [loadedGang, strayLoad] at hz
end

section
open Sys2Proof Sys2Proof.Machine

namespace Sys2Proof.Machine

/-- What a request in latency mode left when it went, with one gang on every spindle. -/
def goneInst (set : Nat) (stopping : Bool) (launched : List (Nat × Nat)) : Inst where
  set := set
  prog := 0
  hdr := { addr := 0, modes := 0, regs := 0, gangs := 1, threads := 0, ninstr := 0, model := 0, layers := 0, kvh := 0, dcode := 0, kvbytes := 0 }
  request := some 0
  first := false
  launched := launched
  stopping := stopping

/-- A block copy into the bowl that gang 0 has begun. -/
def begunCopy : BlockCopy where
  num := 0
  id := 0
  ord := false
  early := false
  gang := 0
  pc := 0
  toBowl := true
  global := false
  nal := false
  bowl := 0
  addr := 0
  size := 64
  waiting := 0
  failed := []
  replayed := []

/-- A gang of set 1 whose group has ended. -/
def closedStray : Gang := { loadedGang with set := 1, closed := true, loads := [] }

/-- The gang of set 0 that waits at the barrier, under the number of the other one. -/
def barGang : Gang := { loadedGang with loads := [], wait := .bar none }

/-- Two gangs with one number on spindle 0: the first is of set 1, whose lathe group is another and whose request stops; the second waits
alone at the barrier of set 0. A copy is under way on spindle 8, which is of set 1. -/
def twoGangs : State :=
  { State.reset with
    spn := [(0, { Spindle.empty with gangs := [closedStray, barGang] }), (8, { Spindle.empty with copies := [begunCopy] })]
    jig := { State.reset.jig with sets := [⟨0, 0, 1⟩, ⟨1, 0, 2⟩] }
    hds := { State.reset.hds with insts := [goneInst 0 false ((List.range 8).map (·, 1)), goneInst 1 true []] } }

end Sys2Proof.Machine

/-- Refutes O27: nothing in the statement excludes two gangs of one number on a spindle. The release of set 0's barrier resumes the first of
them, a gang of set 1 whose request stops: that gang and with it its request's last part end, and what is in flight on the spindles of set 1 is marked
as outliving it. -/
theorem not_collectives : ¬ Obligations.Collectives := by
  unfold Obligations.Collectives
  rintro ⟨-, h⟩
  obtain ⟨-, -, hbar, -⟩ := h 0 twoGangs (goneInst 0 false ((List.range 8).map (·, 1))) (by decide +kernel) (by decide +kernel) rfl
  have hgangs : ∀ p ∈ twoGangs.setGangs (0 : Fin 36), ∃ tm, p.2.wait = .bar tm ∧ ∀ v, tm = some v → v ≤ twoGangs.ft := by
    rw [show twoGangs.setGangs (0 : Fin 36) = [(0, barGang)] by decide +kernel]
    simp [barGang]
  have hfree : ∀ v, twoGangs.barArmed (0 : Fin 36) = some v → twoGangs.swapDue v = false ∧ twoGangs.startDue v = false := by
    rw [show twoGangs.barArmed (0 : Fin 36) = none by decide +kernel]
    simp
  obtain ⟨t, ht, -, -, hothers⟩ := hbar (by decide +kernel) (by decide +kernel) rfl (by decide +kernel) hgangs hfree
  obtain rfl := Host.Outcome.next.inj ht
  have hcopies := congrArg (fun y : Spindle => y.copies.map (·.gang)) (hothers 8 (by decide +kernel))
  exact absurd hcopies (by decide +kernel)
end

section
open Sys2Proof Sys2Proof.Machine

namespace Sys2Proof.Machine

/-! ### The registers of a gang as it is launched (R208) -/

/-- The registers from `k` on of a thread take the values of a list. -/
def Gang.fill (x : Gang) (t k : Nat) (xs : List Nat) : Gang := (xs.zipIdx k).foldl (fun x p => x.setReg t p.2 p.1) x

/-- A change of registers alone. -/
def RegsAlone (x y : Gang) : Prop := y = { x with regs := y.regs }

theorem RegsAlone.trans {x y z : Gang} (h : RegsAlone x y) (k : RegsAlone y z) : RegsAlone x z := by
  unfold RegsAlone at h k ⊢
  rw [k, h]

theorem regsAlone_setReg (x : Gang) (t n v : Nat) : RegsAlone x (x.setReg t n v) := rfl

theorem regsAlone_foldl {α : Type} (l : List α) {f : Gang → α → Gang} (hf : ∀ x a, RegsAlone x (f x a)) (x : Gang) : RegsAlone x (l.foldl f x) := by
  induction l generalizing x with
  | nil => exact rfl
  | cons a l ih => exact (hf x a).trans (ih _)

theorem regsAlone_fill (x : Gang) (t k : Nat) (xs : List Nat) : RegsAlone x (x.fill t k xs) :=
  regsAlone_foldl (xs.zipIdx k) (fun y p => regsAlone_setReg y t p.2 p.1) x

theorem Gang.reg_fill (x : Gang) (t : Nat) {k n : Nat} (xs : List Nat) (th : Nat) (hn : n < 128) (hk : k + xs.length ≤ 128) :
    (x.fill t k xs).reg th n = if th = t ∧ k ≤ n ∧ n < k + xs.length then xs.getD (n - k) 0 % 2 ^ 32 else x.reg th n := by
  induction xs generalizing x k with
  | nil => rw [if_neg (by simp)]; rfl
  | cons v xs ih =>
    rw [List.length_cons] at hk ⊢
    have hstep : x.fill t k (v :: xs) = (x.setReg t k v).fill t (k + 1) xs := rfl
    rw [hstep, ih (x.setReg t k v) (by omega), Gang.reg_setReg v th hn (by omega)]
    by_cases hth : th = t
    · by_cases hlo : n = k
      · subst hlo
        rw [if_neg (by omega), if_pos ⟨hth, rfl⟩, if_pos (by omega), Nat.sub_self, List.getD_cons_zero]
      · by_cases hhi : k + 1 ≤ n ∧ n < k + 1 + xs.length
        · rw [if_pos ⟨hth, hhi⟩, if_pos (by omega), show n - k = n - (k + 1) + 1 by omega, List.getD_cons_succ]
        · rw [if_neg (by omega), if_neg (by omega), if_neg (by omega)]
    · rw [if_neg (by omega), if_neg (by omega), if_neg (by omega)]

theorem Gang.reg_forThreads_fill (x : Gang) (ts : List Nat) {n : Nat} (xs : List Nat) (th : Nat) (hn : n < 128) (hlen : xs.length ≤ 128) :
    (x.forThreads ts fun x t => x.fill t 0 xs).reg th n = if th ∈ ts ∧ n < xs.length then xs.getD n 0 % 2 ^ 32 else x.reg th n := by
  unfold Gang.forThreads
  induction ts generalizing x with
  | nil => simp
  | cons t ts ih =>
    rw [List.foldl_cons, ih, Gang.reg_fill x t xs th hn (by omega)]
    by_cases hlt : n < xs.length <;> by_cases hin : th ∈ ts <;> by_cases heq : th = t <;> simp [hlt, hin, heq]

/-- A gang as it is launched, before its registers are written. -/
def launchBlank (n : Inst) (g : Nat) : Gang := launchGang { n with hdr := { n.hdr with threads := 0 } } g []

theorem launchGang_fields (n : Inst) (g : Nat) (xs : List Nat) :
    (launchGang n g xs).gang = g ∧ (launchGang n g xs).pc = 0 ∧ (launchGang n g xs).active = n.hdr.threads
      ∧ (launchGang n g xs).nregs = n.hdr.regs
      ∧ ∀ th k, th < n.hdr.threads → k < 128 → xs.length ≤ 128 →
          (launchGang n g xs).reg th k = if k < xs.length then xs.getD k 0 % 2 ^ 32 else 0 := by
  let x : Gang := { launchBlank n g with active := n.hdr.threads }
  let y := x.forThreads x.threads fun x t => x.fill t 0 xs
  have hlaunch : launchGang n g xs = { y with savedRegs := y.regs } := rfl
  have hy : RegsAlone x y := regsAlone_foldl _ (fun z t => regsAlone_fill z t 0 xs) x
  unfold RegsAlone at hy
  have hreg (th k : Nat) : (launchGang n g xs).reg th k = y.reg th k := rfl
  refine ⟨?_, ?_, ?_, ?_, fun th k hth hk hlen => ?_⟩
  · rw [hlaunch, hy]; rfl
  · rw [hlaunch, hy]; rfl
  · rw [hlaunch, hy]
  · rw [hlaunch, hy]; rfl
  · have hin : th ∈ x.threads := List.mem_range.2 hth
    rw [hreg, Gang.reg_forThreads_fill x x.threads xs th hk hlen]
    simp only [hin, true_and]
    rfl

theorem lowestFree_unused {n g : Nat} {used : List Nat} (h : lowestFree n used = some g) : g ∉ used := by
  have hfree := List.find?_some h
  simpa using hfree

theorem State.launchRegs_length (s : State) (n : Inst) (i k : Nat) : (s.launchRegs n i k).length = 8 := rfl

/-! ### SPN_CTL and GANG_LAUNCH -/

section
variable {i : Fin 288} {s : State}

theorem exec_spindleQuiesce (v : Bool) (hrun : s.running = true) :
    exec (.spindleQuiesce i v) s = .next (s.keeping (s.writeTo (Reg.SPN_CTL i) fun s => s.set (Reg.SPN_CTL_QUIESCE i) (bit v))) := by
  rw [show exec (.spindleQuiesce i v) s = execSpindleQuiesce i v s from rfl, execSpindleQuiesce, State.run_running _ _ hrun]

theorem exec_testInjection (v : Fin 4) (hrun : s.running = true) :
    exec (.testInjection i v) s = .next (s.keeping (s.writeTo (Reg.SPN_CTL i) fun s => s.injectWrite i v)) := by
  rw [show exec (.testInjection i v) s = execTestInjection i v s from rfl, execTestInjection, State.run_running _ _ hrun]

theorem State.writeTo_reached {a : Nat} (f : State → State) (h : s.reaches a = true) : s.writeTo a f = f s := if_pos h

theorem State.writeTo_dropped {a : Nat} (f : State → State) (h : s.reaches a = false) : s.writeTo a f = s :=
  if_neg (by rw [h]; exact Bool.false_ne_true)

/-- A gang joins those of a spindle. -/
def Spindle.join (sp : Spindle) (x : Gang) : Spindle := { sp with gangs := sp.gangs ++ [x] }

/-- The next gang of a request stands on the spindle. -/
def State.launched (s : State) (i g : Nat) (n : Inst) : State :=
  (s.updSpindle i fun sp => sp.join (launchGang n g (s.launchRegs n i (alGet 0 n.launched i)))).updInst n.set
    fun m => { m with launched := alSet m.launched i (alGet 0 n.launched i + 1) }

theorem exec_gangLaunch {n : Inst} {g : Nat} (hrun : s.running = true) (hinst : s.inst (s.setOf i) = some n) (hstop : n.stopping = false)
    (hmore : alGet 0 n.launched i.val < n.hdr.gangs) (hdie : s.pwr.latheReady.getD (i / 144) false = true)
    (hunits : s.unitsUsed i + n.hdr.regs / 16 ≤ 256) (hfree : lowestFree 256 ((s.spindle i).gangs.map (·.gang)) = some g) :
    exec (.gangLaunch i) s = .next (s.keeping (s.launched i g n)) := by
  rw [show exec (.gangLaunch i) s = execGangLaunch i s from rfl, execGangLaunch, State.run_running _ _ hrun]
  simp only [hinst, hstop, hdie, hfree, Bool.false_or, Bool.not_true, Bool.or_false, Bool.or_eq_true, decide_eq_true_eq,
    if_neg (show ¬ (n.hdr.gangs ≤ alGet 0 n.launched i.val ∨ 256 < s.unitsUsed i + n.hdr.regs / 16) by omega)]
  rfl

theorem State.gang_launched {n : Inst} {g : Nat} (hfree : g ∉ (s.spindle i).gangs.map (·.gang)) :
    (s.launched i g n).gang i g = some (launchGang n g (s.launchRegs n i (alGet 0 n.launched i))) := by
  obtain ⟨hnum, -⟩ := launchGang_fields n g (s.launchRegs n i (alGet 0 n.launched i))
  have hspindle : (s.launched i g n).spindle i = (s.spindle i).join (launchGang n g (s.launchRegs n i (alGet 0 n.launched i))) :=
    spindle_updSpindle s i fun sp => sp.join (launchGang n g (s.launchRegs n i (alGet 0 n.launched i)))
  have hnone : (s.spindle i).gangs.find? (·.gang == g) = none := by
    rw [List.find?_eq_none]
    intro y hy hyg
    exact hfree (List.mem_map.2 ⟨y, hy, beq_iff_eq.1 hyg⟩)
  rw [State.gang, hspindle, Spindle.join, List.find?_append, hnone, Option.none_or, List.find?_singleton, hnum, beq_self_eq_true]
  rfl

end

end Sys2Proof.Machine

/-- Settles O11: each command is its one update, and the launched gang's registers are those that the launch fills. -/
theorem spindleControl : Obligations.SpindleControl := by
  intro i s hrun
  refine ⟨fun v hreach => ?_, fun v hreach => ?_, fun hreach v w => ⟨?_, ?_⟩, fun n g hinst hstop hmore hdie hunits hfree => ?_⟩
  · rw [exec_spindleQuiesce v hrun, State.writeTo_reached _ hreach, State.keeping_set]
  · rw [exec_testInjection v hrun, State.writeTo_reached _ hreach]
    rfl
  · rw [exec_spindleQuiesce v hrun, State.writeTo_dropped _ hreach]
    rfl
  · rw [exec_testInjection w hrun, State.writeTo_dropped _ hreach]
    rfl
  · have hlen := s.launchRegs_length n i (alGet 0 n.launched i.val)
    obtain ⟨-, hpc, hactive, hnregs, hreg⟩ := launchGang_fields n g (s.launchRegs n i (alGet 0 n.launched i.val))
    rw [hlen] at hreg
    refine ⟨_, _, exec_gangLaunch hrun hinst hstop hmore hdie hunits hfree, State.gang_launched (lowestFree_unused hfree), hpc, hactive, hnregs,
      fun th k hth hk => ?_, fun th k hth hlo hhi => ?_, rfl, fun _ => rfl⟩
    · rw [hreg th k (hactive ▸ hth) (by omega) (by decide), if_pos hk]
    · rw [hreg th k (hactive ▸ hth) hhi (by decide), if_neg (by omega)]
end

section
open Sys2Proof Sys2Proof.Machine

namespace Sys2Proof.Machine

/-! ### The commit of a group (R98) -/

/-- A gang's threads, its place and what it waits for are those of another. -/
structure SameThreads (y z : Gang) : Prop where
  pc : z.pc = y.pc
  set : z.set = y.set
  active : z.active = y.active
  nregs : z.nregs = y.nregs
  wait : z.wait = y.wait
  regs : z.regs = y.regs
  preds : z.preds = y.preds

theorem SameThreads.refl (y : Gang) : SameThreads y y := ⟨rfl, rfl, rfl, rfl, rfl, rfl, rfl⟩

theorem SameThreads.trans {x y z : Gang} (h : SameThreads x y) (k : SameThreads y z) : SameThreads x z :=
  ⟨k.pc.trans h.pc, k.set.trans h.set, k.active.trans h.active, k.nregs.trans h.nregs, k.wait.trans h.wait, k.regs.trans h.regs,
    k.preds.trans h.preds⟩

theorem SameThreads.reg {y z : Gang} (h : SameThreads y z) (th n : Nat) : z.reg th n = y.reg th n := by
  unfold Gang.reg
  rw [h.regs]

theorem SameThreads.pred {y z : Gang} (h : SameThreads y z) (th n : Nat) : z.pred th n = y.pred th n := by
  unfold Gang.pred
  rw [h.preds]

/-- Stores leave the commit buffer to memory, to a pier or to the router. -/
def Released (s t : State) : Prop := t = { s with mem := t.mem, lm := t.lm, rtr := t.rtr }

theorem Released.refl (s : State) : Released s s := rfl

theorem Released.trans {s t u : State} (h : Released s t) (k : Released t u) : Released s u := by
  unfold Released at h k ⊢
  rw [k, h]

theorem Released.spnSame {s t : State} (h : Released s t) : SpnSame s t := by
  unfold Released at h
  rw [h]
  rfl

theorem released_remoteIssue (s : State) (owner : RemoteOwner) (fkind g len aop : Nat) (body : List Byte) :
    Released s (s.remoteIssue owner fkind g len aop body) := by
  unfold State.remoteIssue
  split <;> exact rfl

theorem released_releaseStore (s : State) (i g : Nat) (h : HeldStore) : Released s (s.releaseStore i g h) := by
  unfold State.releaseStore
  split
  · exact released_remoteIssue s _ _ _ _ _ _
  · dsimp only
    split <;> exact rfl

theorem released_releaseRun (i g : Nat) (l : List HeldStore) (s : State) : Released s (State.releaseRun i g l s).2 := by
  induction l generalizing s with
  | nil => exact Released.refl s
  | cons h l ih =>
    rw [State.releaseRun]
    split
    · exact Released.refl s
    · exact (released_releaseStore s i g h).trans (ih _)

/-- From `s` to `t` gang `g` of spindle `i` has gone on as `y`, and its group may have committed: stores that it held are released, and
its slots are counted. -/
structure Onward (i g : Nat) (y : Gang) (s t : State) : Prop where
  frame : t = { s with spn := t.spn, regs := t.regs, ev := t.ev, host := t.host, mem := t.mem, lm := t.lm, rtr := t.rtr }
  gangs : GangOnly i g s t
  gang : ∃ z, t.gang i g = some z ∧ SameThreads y z
  quiet : y.held = [] → t.mem = s.mem ∧ t.lm = s.lm ∧ t.rtr = s.rtr
  regs : ∀ a, noteReg a = false → a ≠ Reg.SPN_REPLAY i → t.reg a = s.reg a

section
variable {i g : Nat} {y : Gang} {s t u : State}

theorem Onward.field (h : Onward i g y s t) {α : Type} (f : State → α)
    (hf : ∀ x r e o m l q, f { s with spn := x, regs := r, ev := e, host := o, mem := m, lm := l, rtr := q } = f s) : f t = f s := by
  rw [h.frame]
  exact hf _ _ _ _ _ _ _

theorem State.keeping_eq_of (hpending : t.pending = s.pending) (hnow : t.now = s.now) (htap : t.tap = s.tap) : s.keeping t = t := by
  unfold State.keeping
  rw [← hpending, ← hnow, ← htap]

theorem Onward.keeping_of (h : Onward i g y u t) (hkeep : s.keeping u = u) : s.keeping t = t := by
  have hpending := h.field State.pending fun _ _ _ _ _ _ _ => rfl
  have hnow := h.field State.now fun _ _ _ _ _ _ _ => rfl
  have htap := h.field State.tap fun _ _ _ _ _ _ _ => rfl
  rw [← hkeep] at hpending hnow htap
  exact State.keeping_eq_of hpending hnow htap

theorem Onward.gge (h : Onward i g y s t) : t.gge = s.gge := h.field State.gge fun _ _ _ _ _ _ _ => rfl

theorem Onward.at {pc : Int} (h : Onward i g { y with pc := pc } s t) : At t i g y pc := by
  obtain ⟨z, hz, hsame⟩ := h.gang
  exact ⟨z, hz, hsame.pc, hsame.set, hsame.active, hsame.nregs, hsame.reg, hsame.pred⟩

theorem Onward.memSame (h : Onward i g y s t) (hheld : y.held = []) : MemSame s t := fun a => by
  unfold State.byte
  rw [(h.quiet hheld).1]

/-- A change of the spindles that keeps the other gangs comes before. -/
theorem Onward.after (h : Onward i g y u t) (honly : SpnOnly s u) (hgangs : GangOnly i g s u) : Onward i g y s t where
  frame := by
    have hu : u = { s with spn := u.spn } := honly
    have ht := h.frame
    rw [hu] at ht
    exact ht
  gangs := hgangs.trans h.gangs
  gang := h.gang
  quiet hheld := by
    obtain ⟨hmem, hlm, hrtr⟩ := h.quiet hheld
    have hu : u = { s with spn := u.spn } := honly
    rw [hu] at hmem hlm hrtr
    exact ⟨hmem, hlm, hrtr⟩
  regs a ha hne := (h.regs a ha hne).trans (honly.reg a)

theorem Onward.refl (h : s.gang i g = some y) : Onward i g y s s where
  frame := rfl
  gangs := GangOnly.refl i g s
  gang := ⟨y, h, SameThreads.refl y⟩
  quiet _ := ⟨rfl, rfl, rfl⟩
  regs _ _ _ := rfl

theorem Onward.of_sameThreads {y' : Gang} (h : Onward i g y s t) (hsame : SameThreads y' y) (hheld : y'.held = [] → y.held = []) :
    Onward i g y' s t where
  frame := h.frame
  gangs := h.gangs
  gang := by
    obtain ⟨z, hz, k⟩ := h.gang
    exact ⟨z, hz, hsame.trans k⟩
  quiet hy := h.quiet (hheld hy)
  regs := h.regs

/-- A gang whose request does not stop stays where it is (R101). -/
theorem State.stopHere_goesOn (h : ∀ z, s.gang i g = some z → GoesOn s z) : s.stopHere i g = s := by
  unfold State.stopHere
  split
  · rfl
  next z hz =>
    split
    next n hn => rw [if_neg (by rw [h z hz n hn]; exact Bool.false_ne_true)]
    · rfl

/-- The slots of the group that has ended count as retired, and its replay as a success. -/
def State.retired (s : State) (i : Nat) (y : Gang) : State :=
  if y.replaying then (s.countSlots i 0x001 y.groupIssued).sat (Reg.SPN_REPLAY_REPLAY i) 1 else s.countSlots i 0x001 y.groupIssued

/-- A change of counted events, of logged occurrences and of SPN_REPLAY alone. -/
def Retired (i : Nat) (s t : State) : Prop :=
  t = { s with regs := t.regs, ev := t.ev, host := t.host } ∧ ∀ a, noteReg a = false → a ≠ Reg.SPN_REPLAY i → t.reg a = s.reg a

theorem noted_countSlots (s : State) (code : Nat) (l : List Nat) (hi : i < 288) : Noted s (s.countSlots i code l) :=
  noted_countQ s 0 i code _ hi

theorem State.retired_spec (s : State) (y : Gang) (hi : i < 288) : Retired i s (s.retired i y) := by
  obtain ⟨hframe, hregs⟩ := noted_countSlots s 0x001 y.groupIssued hi
  unfold State.retired
  generalize s.countSlots i 0x001 y.groupIssued = u at hframe hregs
  split
  · refine ⟨?_, fun a ha hne => ?_⟩
    · rw [hframe]
      rfl
    · exact (State.reg_setReg_ne u _ hne).trans (hregs a ha)
  · exact ⟨hframe, fun a ha _ => hregs a ha⟩

theorem Retired.spnSame (h : Retired i s t) : SpnSame s t := by
  obtain ⟨hframe, -⟩ := h
  rw [hframe]
  rfl

theorem Gang.gang_newGroup (x : Gang) : (x.newGroup).gang = x.gang := rfl

theorem sameThreads_newGroup (y : Gang) : SameThreads y y.newGroup := ⟨rfl, rfl, rfl, rfl, rfl, rfl, rfl⟩

/-- Where a change of one gang follows on stores released and slots counted. -/
theorem onward_updGang {v : State} {f : Gang → Gang} (hy : s.gang i g = some y) (hrel : Released s u) (hret : Retired i u v)
    (hquiet : y.held = [] → u = s) (hf : ∀ x, (f x).gang = x.gang) (hsame : SameThreads y (f y)) : Onward i g y s (v.updGang i g f) where
  frame := by
    obtain ⟨hframe, -⟩ := hret
    unfold Released at hrel
    rw [hrel] at hframe
    rw [hframe]
    rfl
  gangs := ((hrel.spnSame.trans hret.spnSame).gangOnly i g).trans (gangOnly_updGang v i g hf)
  gang := ⟨f y, gang_updGang v i g hf ((gang_of_spn (hrel.spnSame.trans hret.spnSame) i g).trans hy), hsame⟩
  quiet hheld := by
    obtain ⟨hframe, -⟩ := hret
    rw [hquiet hheld] at hframe
    rw [hframe]
    exact ⟨rfl, rfl, rfl⟩
  regs a ha hne := by
    obtain ⟨-, hregs⟩ := hret
    have hu : u.reg a = s.reg a := by
      unfold Released at hrel
      rw [hrel]
      rfl
    exact (hregs a ha hne).trans hu

/-- The group of a gang that goes on commits, or it waits: the gang's threads stay as they are. -/
theorem State.tryCommit_onward (hi : i < 288) (hy : s.gang i g = some y) (hgoes : GoesOn s y) : Onward i g y s (s.tryCommit i g) := by
  unfold State.tryCommit
  rw [hy]
  dsimp only
  split
  · have hrel := released_releaseRun i g y.held s
    have hquiet : y.held = [] → (State.releaseRun i g y.held s).2 = s := fun hheld => by rw [hheld]; rfl
    generalize State.releaseRun i g y.held s = r at hrel hquiet ⊢
    split
    · have hret := r.2.retired_spec y hi
      have honward := onward_updGang hy hrel hret hquiet Gang.gang_newGroup (sameThreads_newGroup y)
      unfold State.retired at honward
      rw [State.stopHere_goesOn]
      · exact honward
      · intro z hz n hn
        obtain ⟨z', hz', hsame⟩ := honward.gang
        obtain rfl : z' = z := Option.some.inj (hz'.symm.trans hz)
        rw [hsame.set] at hn
        refine hgoes n (Eq.trans ?_ hn)
        exact (honward.field (fun v : State => v.inst y.set) fun _ _ _ _ _ _ _ => rfl).symm
    · refine onward_updGang hy hrel ⟨rfl, fun _ _ _ => rfl⟩ hquiet ?_ ?_
      · exact fun _ => rfl
      · exact ⟨rfl, rfl, rfl, rfl, rfl, rfl, rfl⟩
  · exact Onward.refl hy

/-- The gang as it goes on behind an instruction. -/
def State.goOn (s : State) (i : Nat) (x : Gang) (o : SpnOp) (w : IWord) (off : Int) (y : Gang) : Gang :=
  y.advanced x o w off (s.slotFor i x w) ((s.spindle i).issueNo + 1)

theorem State.goOn_gang (s : State) (i : Nat) (x : Gang) (o : SpnOp) (w : IWord) (off : Int) (y : Gang) : (s.goOn i x o w off y).gang = y.gang := rfl

theorem State.goOn_sameThreads (s : State) (i : Nat) (x : Gang) (o : SpnOp) (w : IWord) (off : Int) (y : Gang) :
    SameThreads { y with pc := x.pc + off } (s.goOn i x o w off y) := ⟨rfl, rfl, rfl, rfl, rfl, rfl, rfl⟩

/-- The state behind an instruction, before its group commits. -/
def State.issuedHead (s : State) (i : Nat) (x : Gang) (o : SpnOp) (w : IWord) (word : Nat) (off : Int) : State :=
  (s.issueCounted i x w word).updGang i x.gang (s.goOn i x o w off)

theorem State.issued_eq (s : State) (i : Nat) (x : Gang) (o : SpnOp) (w : IWord) (word : Nat) (off : Int) :
    s.issued i x o w word off =
      if w.gb || o.ownGroup then (s.issuedHead i x o w word off).tryCommit i x.gang else s.issuedHead i x o w word off := rfl

variable {x : Gang} {o : SpnOp} {w : IWord} {word : Nat} {off : Int}

theorem State.issuedHead_steps (hg : x.gang = g) (hy : s.gang i g = some y) :
    SpnOnly s (s.issuedHead i x o w word off) ∧ GangOnly i g s (s.issuedHead i x o w word off)
      ∧ (s.issuedHead i x o w word off).gang i g = some (s.goOn i x o w off y) := by
  subst hg
  obtain ⟨honly, hgangs, hgang⟩ := s.issueCounted_steps i x.gang x w word
  exact ⟨honly.trans (spnOnly_updGang _ i _ _), hgangs.trans (gangOnly_updGang _ i _ (s.goOn_gang i x o w off)),
    gang_updGang _ i _ (s.goOn_gang i x o w off) (hgang.trans hy)⟩

theorem SpnOnly.inst (h : SpnOnly s t) (set : Nat) : t.inst set = s.inst set := by
  unfold SpnOnly at h
  rw [h]
  rfl

theorem SpnOnly.keeping (h : SpnOnly s t) : s.keeping t = t := by
  unfold SpnOnly at h
  rw [h]
  rfl

theorem GoesOn.of_inst (h : GoesOn s x) (hinst : ∀ set, t.inst set = s.inst set) (hset : y.set = x.set) : GoesOn t y := by
  intro n hn
  rw [hset, hinst] at hn
  exact h n hn

/-- An instruction issues in a gang that goes on, whether or not its group ends there (R90, R97, R98). -/
theorem State.issued_onward (hi : i < 288) (hg : x.gang = g) (hy : s.gang i g = some y) (hgoes : GoesOn s y) :
    Onward i g { y with pc := x.pc + off } s (s.issued i x o w word off) := by
  obtain ⟨honly, hgangs, hgang⟩ := State.issuedHead_steps (o := o) (w := w) (word := word) (off := off) hg hy
  have hsame := s.goOn_sameThreads i x o w off y
  rw [s.issued_eq, hg]
  split
  · have hcommit := State.tryCommit_onward hi hgang (hgoes.of_inst honly.inst hsame.set)
    exact (hcommit.after honly hgangs).of_sameThreads hsame id
  · exact ((Onward.refl hgang).after honly hgangs).of_sameThreads hsame id

/-! ### Instructions whose body takes effect -/

/-- The issue in a gang that goes on, with the state before the commit. -/
theorem State.issued_done (hi : i < 288) (hg : x.gang = g) (hkeep : s.keeping u = u) (hy : u.gang i g = some y) (hgoes : GoesOn u y) :
    ∃ t, s.keeping (u.issued i x o w word off) = t ∧ Onward i g { y with pc := x.pc + off } u t
      ∧ ((w.gb || o.ownGroup) = false → SpnOnly u t) := by
  have honward := State.issued_onward (o := o) (w := w) (word := word) (off := off) hi hg hy hgoes
  exact ⟨_, honward.keeping_of hkeep, honward, fun hopen => (State.issued_steps word off hg hy hopen).1⟩

/-- An instruction takes effect, and its gang goes on (R98). -/
theorem Poised.exec_done {c : Instr} (h : Poised s i g o x word w) (hc : exec c s = s.run fun s => s.issue i g o) (hi : i < 288)
    (hacts : x.skips o w = false) (hbody : bodyOf o s i x w = .done u) (hkeep : s.keeping u = u) (hy : u.gang i g = some y) (hgoes : GoesOn u y) :
    ∃ t, exec c s = .next t ∧ Onward i g { y with pc := x.pc + 1 } u t ∧ ((w.gb || o.ownGroup) = false → SpnOnly u t) := by
  obtain ⟨t, ht, honward, honly⟩ := State.issued_done (o := o) (w := w) (word := word) (off := 1) hi (gang_number h.resident) hkeep hy hgoes
  refine ⟨t, ?_, honward, honly⟩
  rw [hc, State.run_running _ _ h.runs, h.issue_done hacts hbody, ht]

/-- A check of the instruction fails: its gang stops with the fault (R101). -/
theorem Poised.exec_fault {c : Instr} {code detail addr : Nat} (h : Poised s i g o x word w) (hc : exec c s = s.run fun s => s.issue i g o)
    (hacts : x.skips o w = false) (hbody : bodyOf o s i x w = .fault u code detail addr) :
    exec c s = .next (s.keeping (u.spnFault i g code detail addr x.pc)) := by
  rw [hc, State.run_running _ _ h.runs, h.issue_fault hacts hbody]

/-- The unit does not accept the instruction now: nothing happens (R90). -/
theorem Poised.exec_wait {c : Instr} (h : Poised s i g o x word w) (hc : exec c s = s.run fun s => s.issue i g o)
    (hacts : x.skips o w = false) (hbody : bodyOf o s i x w = .wait) : exec c s = .next s := by
  rw [hc, State.run_running _ _ h.runs, h.issue, State.issueBody, h.resident]
  dsimp only
  rw [if_neg (by rw [h.picked]; exact Bool.false_ne_true), if_neg (by rw [hacts]; exact Bool.false_ne_true), hbody]
  rfl

/-- A branch is taken or not, and its gang goes on. -/
theorem Poised.exec_jump {c : Instr} (h : Poised s i g o x word w) (hc : exec c s = s.run fun s => s.issue i g o) (hi : i < 288)
    (hacts : x.skips o w = false) (hbody : bodyOf o s i x w = .jump u off) (hkeep : s.keeping u = u) (hy : u.gang i g = some y) (hgoes : GoesOn u y) :
    ∃ t, exec c s = .next t ∧ Onward i g { y with pc := x.pc + off } u t ∧ ((w.gb || o.ownGroup) = false → SpnOnly u t) := by
  obtain ⟨t, ht, honward, honly⟩ := State.issued_done (o := o) (w := w) (word := word) (off := off) hi (gang_number h.resident) hkeep hy hgoes
  refine ⟨t, ?_, honward, honly⟩
  rw [hc, State.run_running _ _ h.runs, h.issue, State.issueBody, h.resident]
  dsimp only
  rw [if_neg (by rw [h.picked]; exact Bool.false_ne_true), if_neg (by rw [hacts]; exact Bool.false_ne_true), hbody]
  exact congrArg _ ht

theorem Gang.skips_of_enabled (h : x.enabled w ≠ []) : x.skips o w = false := by
  unfold Gang.skips
  rw [Bool.and_eq_false_iff]
  exact .inr (by rwa [Bool.eq_false_iff, Ne, List.isEmpty_iff])

theorem Gang.skips_of_each (h : o.once = false) : x.skips o w = false := by
  unfold Gang.skips
  rw [h, Bool.false_and]

end

end Sys2Proof.Machine
end

section
open Sys2Proof Sys2Proof.Machine

namespace Sys2Proof.Machine

/-! ### Results in registers (R94, R128 to R132) -/

theorem regsAlone_put (x : Gang) (t n v : Nat) (pair : Bool) : RegsAlone x (x.put t n v pair) := by
  unfold Gang.put
  split
  · exact rfl
  · exact rfl

theorem regsAlone_putAll (x : Gang) (ts : List Nat) (n : Nat) (pair : Bool) (v : Nat → Nat) : RegsAlone x (x.putAll ts n pair v) :=
  regsAlone_foldl ts (fun y t => regsAlone_put y t n (v t) pair) x

/-- A pair written in a list of threads: the low half goes to its first register, the high half to the second. -/
theorem Gang.reg_putAll_pair (x : Gang) (ts : List Nat) {n m : Nat} (v : Nat → Nat) (th : Nat) (hn : n < 128) (hm : m + 1 < 128) :
    (x.putAll ts m true v).reg th n = if th ∈ ts ∧ n = m then v th % 2 ^ 32
      else if th ∈ ts ∧ n = m + 1 then v th / 2 ^ 32 % 2 ^ 32 else x.reg th n := by
  unfold Gang.putAll Gang.forThreads
  induction ts generalizing x with
  | nil => simp
  | cons t ts ih =>
    rw [List.foldl_cons, ih, Gang.put, if_pos rfl, Gang.setPair, Gang.reg_setReg _ _ hn hm, Gang.reg_setReg _ _ hn (by omega)]
    have hne : m + 1 ≠ m := by omega
    by_cases hin : th ∈ ts
    · by_cases hlo : n = m
      · simp [hin, hlo]
      · by_cases hhi : n = m + 1 <;> simp [hin, hlo, hhi]
    · by_cases heq : th = t
      · subst heq
        by_cases hlo : n = m
        · simp [hin, hlo]
        · simp [hin, hlo]
      · simp [hin, heq]

/-- An operation whose command issues it, that acts in each thread, and that writes the value `F` to DST of each enabled thread. -/
structure WritesReg (c : Fin 288 → Fin 256 → Instr) (o : SpnOp) (F : Gang → IWord → Nat → Nat) : Prop where
  issues : ∀ i g s, exec (c i g) s = s.run fun s => s.issue i g o
  open_ : o.ownGroup = false
  each : o.once = false
  body : ∀ s i x w, ∃ f : Nat → Nat, bodyOf o s i x w = .done (s.updGang i x.gang fun y => y.putAll (x.enabled w) w.dst false f)
    ∧ ∀ th, f th % 2 ^ 32 = F x w th % 2 ^ 32

theorem writesReg_of_toReg {c : Fin 288 → Fin 256 → Instr} {o : SpnOp} {F : Gang → IWord → Nat → Nat} {f : State → Gang → IWord → Nat → Nat}
    (hissues : ∀ i g s, exec (c i g) s = s.run fun s => s.issue i g o) (hopen : o.ownGroup = false) (heach : o.once = false)
    (hbody : bodyOf o = toReg f) (hvalue : ∀ s x w th, f s x w th % 2 ^ 32 = F x w th % 2 ^ 32) : WritesReg c o F :=
  ⟨hissues, hopen, heach, fun s i x w => ⟨f s x w, by rw [hbody]; rfl, hvalue s x w⟩⟩

theorem regOps_write : ∀ e ∈ regOps, WritesReg e.1 e.2.1 e.2.2 := by
  simp only [regOps, List.forall_mem_cons]
  refine ⟨?_, ?_, ?_, ?_, ?_, ?_, ?_, ?_, ?_, ?_, ?_, ?_, ?_, ?_, ?_, ?_, ?_, by simp⟩
  case refine_9 => exact writesReg_of_toReg (fun _ _ _ => rfl) rfl rfl rfl fun _ _ _ _ => Nat.mod_mod _ _
  case refine_10 => exact writesReg_of_toReg (fun _ _ _ => rfl) rfl rfl rfl fun _ _ _ _ => Nat.mod_mod _ _
  case refine_14 => exact writesReg_of_toReg (fun _ _ _ => rfl) rfl rfl rfl fun _ _ _ _ => Nat.mod_mod _ _
  all_goals exact writesReg_of_toReg (fun _ _ _ => rfl) rfl rfl rfl fun _ _ _ _ => rfl

theorem approxOps_issue : ∀ e ∈ approxOps, (∀ i g s, exec (e.1 i g) s = s.run fun s => s.issue i g e.2.1) ∧ e.2.1.ownGroup = false
    ∧ e.2.1.once = false ∧ bodyOf e.2.1 = approx e.2.2 := by
  simp only [approxOps, List.forall_mem_cons]
  exact ⟨⟨fun _ _ _ => rfl, rfl, rfl, rfl⟩, ⟨fun _ _ _ => rfl, rfl, rfl, rfl⟩, ⟨fun _ _ _ => rfl, rfl, rfl, rfl⟩,
    ⟨fun _ _ _ => rfl, rfl, rfl, rfl⟩, by simp⟩

/-- FTRD is legal with an even DST alone (R93). -/
theorem ftrd_dst_lt {word : Nat} {latency : Bool} (h : legalOp (iwordOf word) latency = some .ftrd) : (iwordOf word).dst + 1 < 128 := by
  have hlt := iwordOf_dst_lt word
  unfold legalOp at h
  split at h
  · cases h
  next o ho =>
    split at h
    · cases h
    next heven =>
      have hop : o = .ftrd := by
        split at h
        · cases h
        · split at h
          · cases h
          · exact Option.some.inj h
      subst hop
      have : (iwordOf word).dst % 2 ≠ 1 := by
        intro hodd
        exact heven (by simp [SpnOp.writes, hodd])
      omega

section
variable {i : Fin 288} {g : Fin 256} {s u : State} {x : Gang} {o : SpnOp} {word : Nat} {w : IWord}

/-- A change of its own gang is all that the instruction does, beside taking free values; the gang goes on behind it. -/
theorem Poised.exec_gang {c : Instr} {f : Gang → Gang} (h : Poised s i g o x word w) (hc : exec c s = s.run fun s => s.issue i g o)
    (hacts : x.skips o w = false) (hbody : bodyOf o s i x w = .done u) (hu : ∃ n, u = { s.updGang i x.gang f with free := n })
    (hnum : ∀ y, (f y).gang = y.gang) (hset : (f x).set = x.set) (hgoes : GoesOn s x) :
    ∃ t z, exec c s = .next t ∧ t.gang i g = some z ∧ SameThreads { f x with pc := x.pc + 1 } z ∧ GangOnly i g s t
      ∧ ((w.gb || o.ownGroup) = false → SpnOnly u t) := by
  obtain ⟨n, hu⟩ := hu
  have hg : x.gang = g := gang_number h.resident
  have hspn : SpnSame (s.updGang i g f) u := by rw [hu, hg]; rfl
  have hgang : u.gang i g = some (f x) := (gang_of_spn hspn i g).trans (gang_updGang s i g hnum h.resident)
  have hgoesU : GoesOn u (f x) := hgoes.of_inst (fun set => by rw [hu]; rfl) hset
  obtain ⟨t, ht, honward, honly⟩ := h.exec_done hc i.isLt hacts hbody (by rw [hu]; rfl) hgang hgoesU
  obtain ⟨z, hz, hsame⟩ := honward.gang
  exact ⟨t, z, ht, hz, hsame, ((gangOnly_updGang s i g hnum).trans (hspn.gangOnly i g)).trans honward.gangs, honly⟩

/-- The gang has its results, and goes on behind the instruction. -/
theorem Poised.exec_registers {c : Instr} {pair : Bool} {f : Nat → Nat} (h : Poised s i g o x word w)
    (hc : exec c s = s.run fun s => s.issue i g o) (hacts : x.skips o w = false) (hbody : bodyOf o s i x w = .done u)
    (hu : ∃ n, u = { s.updGang i x.gang (fun y => y.putAll (x.enabled w) w.dst pair f) with free := n }) (hgoes : GoesOn s x) :
    ∃ t z, exec c s = .next t ∧ t.gang i g = some z ∧ z.pc = x.pc + 1 ∧ GangOnly i g s t
      ∧ (∀ th n, z.reg th n = (x.putAll (x.enabled w) w.dst pair f).reg th n) ∧ (∀ th n, z.pred th n = x.pred th n)
      ∧ ((w.gb || o.ownGroup) = false → SpnOnly u t) := by
  have halone (y : Gang) : RegsAlone y (y.putAll (x.enabled w) w.dst pair f) := regsAlone_putAll y _ _ _ _
  unfold RegsAlone at halone
  obtain ⟨t, z, ht, hz, hsame, hgangs, honly⟩ := h.exec_gang hc hacts hbody hu (fun y => by rw [halone y]) (by rw [halone x]) hgoes
  refine ⟨t, z, ht, hz, hsame.pc, hgangs, hsame.reg, fun th n => (hsame.pred th n).trans ?_, honly⟩
  rw [halone x]
  rfl

end

end Sys2Proof.Machine

/-- Settles O19: each operation's body is one `putAll`, and the issue in a gang that goes on keeps the threads. -/
theorem spindleResults : Obligations.SpindleResults := by
  refine ⟨fun e he i g s x word w h hgoes => ?_, fun e he i g s x word w h hgoes => ?_, fun i g s x word w h hgoes => ?_⟩
  · obtain ⟨hissues, hopen, heach, hbody⟩ := regOps_write e he
    obtain ⟨f, hbody, hvalue⟩ := hbody s i x w
    have hdst : w.dst < 128 := by rw [h.fields]; exact iwordOf_dst_lt word
    obtain ⟨t, z, ht, hz, hpc, hgangs, hreg, hpred, honly⟩ := h.exec_registers (hissues i g s) (Gang.skips_of_each heach) hbody ⟨s.free, rfl⟩ hgoes
    refine ⟨t, z, ht, hz, hpc, hgangs, fun th n hn => ?_, hpred, fun hgb => ?_⟩
    · rw [hreg, Gang.reg_putAll x (x.enabled w) f th hn hdst, hvalue]
    · exact (spnOnly_updGang s i x.gang _).trans (honly (by rw [hgb, hopen]; rfl))
  · obtain ⟨hissues, hopen, heach, hbody⟩ := approxOps_issue e he
    have hdst : w.dst < 128 := by rw [h.fields]; exact iwordOf_dst_lt word
    obtain ⟨t, z, ht, hz, hpc, hgangs, hreg, hpred, honly⟩ := h.exec_registers (pair := false)
      (f := fun th => e.2.2 (Config.freeNat (s.free + th)) (x.reg th w.src1)) (hissues i g s) (Gang.skips_of_each heach)
      (by rw [hbody]; rfl) ⟨s.free + 32, rfl⟩ hgoes
    refine ⟨t, z, ht, hz, hpc, hgangs, fun th n hn => ?_, hpred, fun hgb => ?_⟩
    · rw [hreg, Gang.reg_putAll x (x.enabled w) _ th hn hdst]
    · have ht : t = _ := honly (by rw [hgb, hopen]; rfl)
      rw [ht]
      rfl
  · have hdst : w.dst + 1 < 128 := by rw [h.fields]; exact ftrd_dst_lt (h.fields ▸ h.legal)
    obtain ⟨t, z, ht, hz, hpc, hgangs, hreg, hpred, honly⟩ := h.exec_registers (c := .ftrd i g) (pair := true) (f := fun _ => s.ft) rfl
      (Gang.skips_of_each rfl) rfl ⟨s.free, rfl⟩ hgoes
    refine ⟨t, z, ht, hz, hpc, hgangs, fun th n hn => ?_, hpred, fun hgb => ?_⟩
    · rw [hreg, Gang.reg_putAll_pair x (x.enabled w) _ th hn hdst]
    · exact (spnOnly_updGang s i x.gang _).trans (honly (by rw [hgb]; rfl))
end

section
open Sys2Proof Sys2Proof.Machine

namespace Sys2Proof.Machine

/-! ### Gangs that end -/

/-- Every gang is as it was. -/
def GangsSame (s t : State) : Prop := ∀ j h, t.gang j h = s.gang j h

theorem GangsSame.refl (s : State) : GangsSame s s := fun _ _ => rfl
theorem GangsSame.trans {s t u : State} (h : GangsSame s t) (k : GangsSame t u) : GangsSame s u := fun i g => (k i g).trans (h i g)
theorem SpnSame.gangsSame {s t : State} (h : SpnSame s t) : GangsSame s t := gang_of_spn h

/-- No gang is new. -/
def GangsFewer (s t : State) : Prop := ∀ j h, s.gang j h = none → t.gang j h = none

theorem GangsFewer.refl (s : State) : GangsFewer s s := fun _ _ h => h
theorem GangsFewer.trans {s t u : State} (h : GangsFewer s t) (k : GangsFewer t u) : GangsFewer s u := fun i g hn => k i g (h i g hn)
theorem GangsSame.fewer {s t : State} (h : GangsSame s t) : GangsFewer s t := fun i g hn => (h i g).trans hn

theorem GangsFewer.foldl {α : Type} (l : List α) {f : State → α → State} (hf : ∀ s x, GangsFewer s (f s x)) (s : State) : GangsFewer s (l.foldl f s) :=
  List.foldlRecOn l f (b := s) (motive := GangsFewer s) (GangsFewer.refl s) fun t ht x _ => ht.trans (hf t x)

theorem gang_dropGang (s : State) (i g : Nat) : (s.dropGang i g).gang i g = none := by
  unfold State.gang State.dropGang
  rw [spindle_updSpindle, List.find?_filter, List.find?_eq_none]
  intro y _
  simp

theorem gang_dropGang_ne (s : State) {i g j h : Nat} (hne : (j, h) ≠ (i, g)) : (s.dropGang i g).gang j h = s.gang j h := by
  unfold State.gang State.dropGang
  by_cases hj : j = i
  · subst hj
    have hh : h ≠ g := fun hh => hne (by rw [hh])
    rw [spindle_updSpindle, List.find?_filter]
    congr 1
    funext y
    by_cases hy : y.gang = h <;> simp [hy, hh]
  · rw [spindle_updSpindle_ne s _ hj]

theorem gangsFewer_dropGang (s : State) (i g : Nat) : GangsFewer s (s.dropGang i g) := by
  intro j h hn
  by_cases heq : (j, h) = (i, g)
  · obtain ⟨rfl, rfl⟩ := Prod.mk.injEq _ _ _ _ ▸ heq
    exact gang_dropGang s j h
  · rw [gang_dropGang_ne s heq, hn]

theorem gang_updGang_none (s : State) {i g : Nat} {f : Gang → Gang} (hf : ∀ x, (f x).gang = x.gang) (h : s.gang i g = none) :
    (s.updGang i g f).gang i g = none := by
  unfold State.gang State.updGang at *
  rw [List.find?_eq_none] at h
  rw [spindle_updSpindle, List.find?_map, Option.map_eq_none_iff, List.find?_eq_none]
  intro y hy
  have hne := h y hy
  simp only [Function.comp_apply]
  split
  · rwa [hf]
  · exact hne

theorem spnSame_set (s : State) (l : Loc) (n : Nat) : SpnSame s (s.set l n) := s.spn_set l n

theorem spnSame_pmcOverflow (s : State) (b n : Nat) : SpnSame s (s.pmcOverflow b n) := by
  unfold State.pmcOverflow
  extract_lets marked frozen
  have hfrozen : SpnSame s frozen := (spnSame_set s _ 1).trans (SpnSame.ite (spnSame_set marked _ 0) (SpnSame.refl marked))
  exact hfrozen.trans (SpnSame.ite (noted_raiseVec frozen 12).spnSame (SpnSame.refl frozen))

theorem spnSame_pmcAdd (s : State) (b n v : Nat) : SpnSame s (s.pmcAdd b n v) := by
  unfold State.pmcAdd
  extract_lets t counted t1 carried
  have hcounted : SpnSame s counted := spnSame_set s _ t
  have hcarried : SpnSame counted carried := spnSame_set counted _ t1
  have hnext : SpnSame counted (if t1 < 2 ^ 48 then carried else carried.pmcOverflow b (n + 1)) :=
    hcarried.trans (SpnSame.ite (SpnSame.refl carried) (spnSame_pmcOverflow carried b (n + 1)))
  exact hcounted.trans (SpnSame.ite (SpnSame.refl counted)
    (SpnSame.ite (SpnSame.ite hnext (SpnSame.refl counted)) (spnSame_pmcOverflow counted b n)))

theorem spnSame_countQ (s : State) (kind inst code : Nat) (v : Nat → Nat) : SpnSame s (s.countQ kind inst code v) := by
  unfold State.countQ
  exact SpnSame.foldl _ (fun u n => SpnSame.ite (spnSame_pmcAdd u _ n _) (SpnSame.refl u)) s

theorem spnSame_countSlots (s : State) (i code : Nat) (l : List Nat) : SpnSame s (s.countSlots i code l) := spnSame_countQ s 0 i code _

/-! ### What an ended request leaves changes no gang (R217, R218) -/

theorem gangsSame_orphan (s : State) (set : Nat) : GangsSame s (s.orphan set) := by
  unfold State.orphan
  extract_lets ks moved txns ops
  have hmoved : GangsSame s moved := by
    refine List.foldlRecOn ks _ (b := s) (motive := GangsSame s) (GangsSame.refl s) fun t ht k _ => ht.trans ?_
    have hupd : GangsSame t (t.updSpindle k fun x => { x with tensorQ := x.tensorQ.map fun q => { q with gang := orphanGang q.gang },
                                                               copies := x.copies.map fun c => { c with gang := orphanGang c.gang } }) :=
      gang_updSpindle t k fun _ => rfl
    exact hupd
  have hlast : SpnSame moved { moved with lm := { moved.lm with txns := txns }, rtr := { moved.rtr with ops := ops } } := rfl
  exact hmoved.trans hlast.gangsSame

theorem spnSame_pubStart (s : State) (h : Nat) : SpnSame s (s.pubStart h) := by
  unfold State.pubStart
  split
  · exact SpnSame.refl s
  next r _ =>
    have hkeys : SpnSame s (s.requestKeys r (r.entry.plen / 64)).2 := spnSame_memRead s _ _ _
    dsimp only
    split
    · exact (hkeys.trans (spnSame_updReq _ h _)).trans (spnSame_pubGo _ h)
    · exact hkeys.trans (spnSame_requestGone _ h)

theorem spnSame_endRequest (s : State) (h : Nat) : SpnSame s (s.endRequest h) := by
  unfold State.endRequest
  split
  · exact SpnSame.refl s
  next r _ =>
    extract_lets r' dropped pushed code publish ended
    have hended : SpnSame s ended := rfl
    exact SpnSame.ite (hended.trans (spnSame_pubStart ended h)) (hended.trans (spnSame_requestGone ended h))

theorem spnSame_attachAll (s : State) (set : Nat) (ready : Request → Bool) : SpnSame s (s.attachAll set ready).2 := by
  unfold State.attachAll
  refine List.foldlRecOn _ _ (b := (([] : List Nat), s)) (motive := fun acc => SpnSame s acc.2) (SpnSame.refl s) fun acc hacc r _ => ?_
  dsimp only
  split
  · exact hacc.trans (spnSame_updReq _ _ _)
  · exact hacc

theorem spnSame_writeBatch (s : State) (set : Nat) (newly : List Nat) : SpnSame s (s.writeBatch set newly) := spnSame_memWrite s _ _ _

theorem gangsSame_instCheck (s : State) (set : Nat) : GangsSame s (s.instCheck set) := by
  unfold State.instCheck
  split
  · exact GangsSame.refl s
  next n _ =>
    split
    · extract_lets hs orphaned h' removed ended a
      have hended : SpnSame orphaned ended :=
        (spnSame_hds orphaned _).trans (SpnSame.foldl hs (fun u h => spnSame_endRequest u h) removed)
      have hattached : SpnSame ended ((a.2.launch set n.prog n.hdr none).writeBatch set a.1) :=
        ((spnSame_attachAll ended set _).trans (spnSame_hds a.2 _)).trans (spnSame_writeBatch _ set a.1)
      exact (gangsSame_orphan s n.set).trans (SpnSame.ite (hended.trans hattached) hended).gangsSame
    · exact GangsSame.refl s

/-! ### The fault of an instruction (R101, R102) -/

theorem gangsFewer_stopAtBoundary (s : State) (set : Nat) (abandon : Bool) : GangsFewer s (s.stopAtBoundary set abandon) := by
  unfold State.stopAtBoundary
  refine GangsFewer.foldl _ (fun u k => GangsFewer.foldl _ (fun v x => ?_) u) s
  split
  · exact gangsFewer_dropGang v k x.gang
  · split
    · exact (spnSame_countSlots v k 0x002 x.groupIssued).gangsSame.fewer.trans (gangsFewer_dropGang _ k x.gang)
    · exact GangsFewer.refl v

theorem gangsFewer_stopInst (s : State) (set : Nat) (abandon : Bool) : GangsFewer s (s.stopInst set abandon) := by
  unfold State.stopInst
  exact ((spnSame_hds s _).gangsSame.fewer.trans (gangsFewer_stopAtBoundary _ set abandon)).trans (gangsSame_instCheck _ set).fewer

theorem spnSame_requestFault (s : State) (set code detail : Nat) : SpnSame s (s.requestFault set code detail) := by
  unfold State.requestFault
  split
  · exact SpnSame.refl s
  · exact (SpnSame.foldl _ (fun u h => spnSame_endCause u h _ _ _) s).trans (spnSame_hds _ _)

/-- A gang that faults has gone. -/
theorem gang_spnFault (s : State) (i g code detail addr : Nat) (pc : Int) : (s.spnFault i g code detail addr pc).gang i g = none := by
  unfold State.spnFault
  dsimp only
  split
  next hnone => exact hnone
  next x _ =>
    exact ((spnSame_requestFault _ x.set code detail).gangsSame.fewer.trans (gangsFewer_stopInst _ x.set true)) i g (gang_dropGang _ i g)

/-! ### The record of a fault (R102, R108) -/

/-- Two places are in different registers, or share no bit. -/
def Loc.Beside (l m : Loc) : Prop := m.addr ≠ l.addr ∨ m.lo + m.width ≤ l.lo ∨ l.lo + l.width ≤ m.lo

/-- Fields set in order. -/
def State.setAll (s : State) (l : List (Loc × Nat)) : State := l.foldl (fun s p => s.set p.1 p.2) s

theorem State.get_setAll_beside (s : State) {l : List (Loc × Nat)} {m : Loc} (h : ∀ p ∈ l, p.1.Beside m ∧ p.1.lo + p.1.width ≤ 64) :
    (s.setAll l).get m = s.get m := by
  unfold State.setAll
  induction l generalizing s with
  | nil => rfl
  | cons p l ih =>
    obtain ⟨hbeside, hwidth⟩ := h p List.mem_cons_self
    exact (ih (s.set p.1 p.2) fun q hq => h q (List.mem_cons_of_mem _ hq)).trans (s.get_set_beside p.2 hbeside hwidth)

theorem State.get_setAll (s : State) {l : List (Loc × Nat)} (hfit : ∀ p ∈ l, p.1.lo + p.1.width ≤ 64)
    (hapart : l.Pairwise fun p q => q.1.Beside p.1) {p : Loc × Nat} (hp : p ∈ l) : (s.setAll l).get p.1 = p.2 % 2 ^ p.1.width := by
  induction l generalizing s with
  | nil => cases hp
  | cons q l ih =>
    obtain ⟨hq, hl⟩ := List.pairwise_cons.1 hapart
    have hfitL : ∀ r ∈ l, r.1.lo + r.1.width ≤ 64 := fun r hr => hfit r (List.mem_cons_of_mem _ hr)
    have hstep : s.setAll (q :: l) = (s.set q.1 q.2).setAll l := rfl
    rw [hstep]
    rcases List.mem_cons.1 hp with rfl | hp
    · rw [State.get_setAll_beside _ fun r hr => ⟨hq r hr, hfitL r hr⟩, s.get_set _ _ (hfit _ List.mem_cons_self)]
    · exact ih _ hfitL hl hp

theorem RegsOnly.setAll {rs : List Nat} (s : State) {l : List (Loc × Nat)} (h : ∀ p ∈ l, p.1.addr ∈ rs) : RegsOnly rs s (s.setAll l) := by
  unfold State.setAll
  induction l generalizing s with
  | nil => exact RegsOnly.refl rs s
  | cons p l ih => exact (RegsOnly.set s p.2 (h p List.mem_cons_self)).trans (ih _ fun q hq => h q (List.mem_cons_of_mem _ hq))

/-- The fields of a first fault. -/
def faultFields (i g code detail addr : Nat) (pc : Int) : List (Loc × Nat) :=
  [(Reg.SPN_FAULT_CODE i, code), (Reg.SPN_FAULT_GANG i, g), (Reg.SPN_FAULT_DETAIL i, detail), (Reg.SPN_FAULT_PC i, unsigned 32 pc),
   (Reg.SPN_FAULT_ADDR_ADDR i, addr), (Reg.SPN_FAULT_VALID i, 1)]

theorem faultFields_fit (i g code detail addr : Nat) (pc : Int) : ∀ p ∈ faultFields i g code detail addr pc, p.1.lo + p.1.width ≤ 64 := by
  simp [faultFields, Reg.SPN_FAULT_CODE, Reg.SPN_FAULT_GANG, Reg.SPN_FAULT_DETAIL, Reg.SPN_FAULT_PC, Reg.SPN_FAULT_ADDR_ADDR, Reg.SPN_FAULT_VALID]

theorem faultFields_addr (i g code detail addr : Nat) (pc : Int) :
    ∀ p ∈ faultFields i g code detail addr pc, p.1.addr ∈ [Reg.SPN_FAULT i, Reg.SPN_FAULT_ADDR i] := by
  simp [faultFields, Reg.SPN_FAULT_CODE, Reg.SPN_FAULT_GANG, Reg.SPN_FAULT_DETAIL, Reg.SPN_FAULT_PC, Reg.SPN_FAULT_ADDR_ADDR, Reg.SPN_FAULT_VALID]

theorem faultFields_apart (i g code detail addr : Nat) (pc : Int) :
    (faultFields i g code detail addr pc).Pairwise fun p q => q.1.Beside p.1 := by
  have hne : Reg.SPN_FAULT_ADDR i ≠ Reg.SPN_FAULT i := by unfold Reg.SPN_FAULT_ADDR Reg.SPN_FAULT; omega
  simp [faultFields, Loc.Beside, Reg.SPN_FAULT_CODE, Reg.SPN_FAULT_GANG, Reg.SPN_FAULT_DETAIL, Reg.SPN_FAULT_PC, Reg.SPN_FAULT_ADDR_ADDR,
    Reg.SPN_FAULT_VALID, hne, hne.symm]

theorem State.recordFault_first {s : State} {i : Nat} (g code detail addr : Nat) (pc : Int) (h : s.flag (Reg.SPN_FAULT_VALID i) = false) :
    s.recordFault i g code detail addr pc = s.setAll (faultFields i g code detail addr pc) := by
  unfold State.recordFault
  rw [if_neg (by rw [h]; exact Bool.false_ne_true)]
  rfl

theorem State.recordFault_more {s : State} {i : Nat} (g code detail addr : Nat) (pc : Int) (h : s.flag (Reg.SPN_FAULT_VALID i) = true) :
    s.recordFault i g code detail addr pc = s.set (Reg.SPN_FAULT_MORE i) 1 := if_pos h

theorem State.recordFault_only (s : State) (i g code detail addr : Nat) (pc : Int) :
    RegsOnly [Reg.SPN_FAULT i, Reg.SPN_FAULT_ADDR i] s (s.recordFault i g code detail addr pc) := by
  cases h : s.flag (Reg.SPN_FAULT_VALID i) with
  | false =>
    rw [State.recordFault_first g code detail addr pc h]
    exact RegsOnly.setAll s (faultFields_addr i g code detail addr pc)
  | true =>
    rw [State.recordFault_more g code detail addr pc h]
    exact RegsOnly.set s 1 List.mem_cons_self

theorem State.recordFault_fields {s : State} {i : Nat} (g code detail addr : Nat) (pc : Int) (h : s.flag (Reg.SPN_FAULT_VALID i) = false)
    {p : Loc × Nat} (hp : p ∈ faultFields i g code detail addr pc) : (s.recordFault i g code detail addr pc).get p.1 = p.2 % 2 ^ p.1.width := by
  rw [State.recordFault_first g code detail addr pc h]
  exact s.get_setAll (faultFields_fit i g code detail addr pc) (faultFields_apart i g code detail addr pc) hp

/-! ### Predicates (R94, R129) -/

theorem Gang.pred_setPred {x : Gang} {t n m : Nat} (v : Bool) (th : Nat) (hn : n < 8) (hm : m < 8) :
    (x.setPred t m v).pred th n = if th = t ∧ n = m ∧ n ≠ 0 then v else x.pred th n := by
  unfold Gang.setPred
  by_cases hm0 : m = 0
  · rw [if_pos hm0, if_neg (by omega)]
  · rw [if_neg hm0]
    unfold Gang.pred
    by_cases heq : th = t ∧ n = m
    · obtain ⟨rfl, rfl⟩ := heq
      rw [smapGet_set, if_pos ⟨rfl, rfl, hm0⟩, beq_false_of_ne hm0, Bool.false_or]
    · rw [smapGet_set_ne _ _ _ (by omega), if_neg (by omega)]

/-- The predicate `m` of each thread of a list takes its value. -/
def Gang.predAll (x : Gang) (ts : List Nat) (m : Nat) (v : Nat → Bool) : Gang := x.forThreads ts fun y t => y.setPred t m (v t)

theorem Gang.pred_predAll (x : Gang) (ts : List Nat) {n m : Nat} (v : Nat → Bool) (th : Nat) (hn : n < 8) (hm : m < 8) :
    (x.predAll ts m v).pred th n = if th ∈ ts ∧ n = m ∧ n ≠ 0 then v th else x.pred th n := by
  unfold Gang.predAll Gang.forThreads
  induction ts generalizing x with
  | nil => simp
  | cons t ts ih =>
    rw [List.foldl_cons, ih, Gang.pred_setPred _ _ hn hm]
    by_cases hnm : n = m ∧ n ≠ 0
    · by_cases hin : th ∈ ts
      · rw [if_pos ⟨hin, hnm⟩, if_pos ⟨List.mem_cons_of_mem _ hin, hnm⟩]
      · by_cases heq : th = t
        · subst heq
          rw [if_neg (fun h => hin h.1), if_pos ⟨rfl, hnm⟩, if_pos ⟨List.mem_cons_self, hnm⟩]
        · simp [hin, heq]
    · rw [if_neg (fun h => hnm h.2), if_neg (fun h => hnm h.2), if_neg (fun h => hnm h.2)]

theorem Gang.predAll_same (x : Gang) (ts : List Nat) (m : Nat) (v : Nat → Bool) : x.predAll ts m v = { x with preds := (x.predAll ts m v).preds } := by
  unfold Gang.predAll Gang.forThreads
  refine List.foldlRecOn ts _ (b := x) (motive := fun y => y = { x with preds := y.preds }) rfl fun y hy t _ => ?_
  unfold Gang.setPred
  split
  · exact hy
  · rw [hy]

theorem predOps_issue : ∀ e ∈ predOps, (∀ i g s, exec (e.1 i g) s = s.run fun s => s.issue i g e.2.1) ∧ e.2.1.ownGroup = false
    ∧ e.2.1.once = false ∧ bodyOf e.2.1 = toPred fun x w t => e.2.2 x w t := by
  simp only [predOps, List.forall_mem_cons]
  exact ⟨⟨fun _ _ _ => rfl, rfl, rfl, rfl⟩, ⟨fun _ _ _ => rfl, rfl, rfl, rfl⟩, ⟨fun _ _ _ => rfl, rfl, rfl, rfl⟩, by simp⟩

/-! ### What an instruction meets before it issues (R88, R93) -/

section
variable {i : Fin 288} {g : Fin 256} {s : State} {x : Gang} {o : SpnOp}

theorem State.issue_outside (hx : s.gang i g = some x) (hready : s.gangReady i x = true) (hout : x.pc < 0 ∨ (x.ninstr : Int) ≤ x.pc) :
    s.issue i g o = s.spnFault i g 0x05 0 (fetchAddr x x.pc) x.pc := by
  unfold State.issue
  rw [State.tryCommit_open hx (State.gangReady_open hready)]
  dsimp only
  rw [hx]
  dsimp only
  rw [if_neg (by rw [hready]; exact Bool.false_ne_true), if_pos hout]

theorem State.issue_badRegs {word : Nat} (hx : s.gang i g = some x) (hready : s.gangReady i x = true) (hin : ¬ (x.pc < 0 ∨ (x.ninstr : Int) ≤ x.pc))
    (hword : s.fetchWord i x = some word) (hlegal : legalOp (iwordOf word) (s.latencySet x.set) = some o) (hregs : regsOk x o (iwordOf word) = false) :
    s.issue i g o = s.spnFault i g 0x02 0 0 x.pc := by
  unfold State.issue
  rw [State.tryCommit_open hx (State.gangReady_open hready)]
  dsimp only
  rw [hx]
  dsimp only
  rw [if_neg (by rw [hready]; exact Bool.false_ne_true), if_neg hin, hword]
  dsimp only
  rw [if_neg (not_not.2 hlegal), if_pos (by rw [hregs]; rfl)]

theorem exec_reservedOperation {word : Nat} (hrun : s.running = true) (hx : s.gang i g = some x) (hready : s.gangReady i x = true)
    (hin : 0 ≤ x.pc ∧ x.pc < (x.ninstr : Int)) (hword : s.fetchWord i x = some word) (hbad : legalOp (iwordOf word) (s.latencySet x.set) = none) :
    exec (.reservedOperation i g) s = .next (s.keeping (s.spnFault i g 0x01 0 0 x.pc)) := by
  rw [show exec (.reservedOperation i g) s = execReservedOperation i g s from rfl, execReservedOperation, State.run_running _ _ hrun,
    State.tryCommit_open hx (State.gangReady_open hready)]
  dsimp only
  rw [hx]
  dsimp only
  have hgo : (!s.gangReady i x || decide (x.pc < 0) || decide ((x.ninstr : Int) ≤ x.pc)) = false := by
    rw [hready, decide_eq_false (by omega), decide_eq_false (by omega)]
    rfl
  rw [if_neg (by rw [hgo]; exact Bool.false_ne_true), hword]
  dsimp only
  rw [if_neg (by rw [hbad]; exact Bool.false_ne_true)]

/-! ### END -/

/-- An instruction whose gang has gone leaves it gone, and the other gangs as they are. -/
theorem State.issued_gone {u : State} {j k : Nat} {y : Gang} {w : IWord} {off : Int} (word : Nat) (hnone : u.gang j y.gang = none) (hown : o.ownGroup = true)
    (hk : k = y.gang) : (u.issued j y o w word off).gang j k = none ∧ ∀ a b, (a, b) ≠ (j, k) → (u.issued j y o w word off).gang a b = u.gang a b := by
  subst hk
  obtain ⟨-, ⟨hgangs, -⟩, hgang⟩ := u.issueCounted_steps j y.gang y w word
  have hgone : (u.issuedHead j y o w word off).gang j y.gang = none := gang_updGang_none _ (u.goOn_gang j y o w off) (hgang.trans hnone)
  have hcommit : (u.issuedHead j y o w word off).tryCommit j y.gang = u.issuedHead j y o w word off := by
    unfold State.tryCommit
    rw [hgone]
  rw [u.issued_eq, if_pos (by rw [hown, Bool.or_true]), hcommit]
  exact ⟨hgone, fun a b hab => (gang_updGang_ne _ (u.goOn_gang j y o w off) hab).trans (hgangs a b hab)⟩

theorem exec_endG {word : Nat} {w : IWord} (h : Poised s i g .endG x word w) (hen : x.enabled w ≠ []) :
    ∃ t, exec (.endG i g) s = .next t ∧ t.gang i g = none ∧ ∀ j k, (j, k) ≠ (i.val, g.val) → t.gang j k = s.gang j k := by
  have hg : x.gang = g := gang_number h.resident
  have hissue := h.issue_done (Gang.skips_of_enabled hen) (show bodyOf .endG s i x w = .done _ from rfl)
  have hcount := spnSame_countSlots s i 0x001 [1, 0, 0, 0, 0]
  have hcheck := gangsSame_instCheck ((s.countSlots i 0x001 [1, 0, 0, 0, 0]).dropGang i x.gang) x.set
  obtain ⟨hgone, hothers⟩ := State.issued_gone (w := w) (o := .endG) (off := 1) word ((hcheck i x.gang).trans (gang_dropGang _ i x.gang)) rfl hg.symm
  refine ⟨_, (show exec (.endG i g) s = s.run fun s => s.issue i g .endG from rfl).trans (State.run_running _ _ h.runs), ?_, fun j k hjk => ?_⟩
  · rw [hissue]
    exact hgone
  · rw [hissue]
    refine (hothers j k hjk).trans ((hcheck j k).trans ?_)
    rw [hg, gang_dropGang_ne _ hjk]
    exact gang_of_spn hcount j k

/-- A predicate is written in every enabled thread, and the gang goes on. -/
theorem exec_predicate {e : (Fin 288 → Fin 256 → Instr) × SpnOp × (Gang → IWord → Nat → Bool)} (he : e ∈ predOps) {word : Nat} {w : IWord}
    (h : Poised s i g e.2.1 x word w) (hgoes : GoesOn s x) :
    ∃ t z, exec (e.1 i g) s = .next t ∧ t.gang i g = some z ∧ z.pc = x.pc + 1 ∧ GangOnly i g s t
      ∧ (∀ th n, z.reg th n = x.reg th n)
      ∧ (∀ th n, n < 8 → z.pred th n = if th ∈ x.enabled w ∧ n = w.imm % 8 ∧ n ≠ 0 then e.2.2 x w th else x.pred th n)
      ∧ (w.gb = false → t = { s with spn := t.spn }) := by
  obtain ⟨hissues, hopen, heach, hbody⟩ := predOps_issue e he
  have hm : w.imm % 8 < 8 := Nat.mod_lt _ (by decide)
  have hsame (y : Gang) := y.predAll_same (x.enabled w) (w.imm % 8) (e.2.2 x w)
  obtain ⟨t, z, ht, hz, hthreads, hgangs, honly⟩ := h.exec_gang (f := fun y => y.predAll (x.enabled w) (w.imm % 8) (e.2.2 x w)) (hissues i g s)
    (Gang.skips_of_each heach) (by rw [hbody]; rfl) ⟨s.free, rfl⟩ (fun y => by rw [hsame y]) (by rw [hsame x]) hgoes
  refine ⟨t, z, ht, hz, hthreads.pc, hgangs, fun th n => (hthreads.reg th n).trans ?_, fun th n hn => (hthreads.pred th n).trans ?_, fun hgb => ?_⟩
  · rw [hsame x]
    rfl
  · exact x.pred_predAll (x.enabled w) (e.2.2 x w) th hn hm
  · exact (spnOnly_updGang s i x.gang _).trans (honly (by rw [hgb, hopen]; rfl))

theorem Poised.exec_nop {word : Nat} {w : IWord} (h : Poised s i g .nop x word w) (hgoes : GoesOn s x) :
    ∃ t, exec (.nopI i g) s = .next t ∧ At t i g x (x.pc + 1) ∧ GangOnly i g s t ∧ (w.gb = false → t = { s with spn := t.spn }) := by
  obtain ⟨t, ht, honward, honly⟩ := h.exec_done (c := .nopI i g) rfl i.isLt (Gang.skips_of_each rfl) rfl rfl h.resident hgoes
  exact ⟨t, ht, honward.at, honward.gangs, fun hgb => honly (by rw [hgb]; rfl)⟩

/-- A branch changes nothing but where its gang goes on. -/
theorem Poised.exec_branch {c : Instr} {word : Nat} {w : IWord} {off : Int} (h : Poised s i g o x word w) (hgoes : GoesOn s x)
    (hc : exec c s = s.run fun s => s.issue i g o) (heach : o.once = false) (hopen : o.ownGroup = false) (hbody : bodyOf o s i x w = .jump s off) :
    ∃ t, exec c s = .next t ∧ At t i g x (x.pc + off) ∧ GangOnly i g s t ∧ (w.gb = false → t = { s with spn := t.spn }) := by
  obtain ⟨t, ht, honward, honly⟩ := h.exec_jump hc i.isLt (Gang.skips_of_each heach) hbody rfl h.resident hgoes
  exact ⟨t, ht, honward.at, honward.gangs, fun hgb => honly (by rw [hgb, hopen]; rfl)⟩

end

end Sys2Proof.Machine

/-- Settles O20: an issue in a gang that goes on, the end of a gang through `instCheck`, which changes no gang, and the fields of a fault, which lie
apart. -/
theorem spindleControlFlow : Obligations.SpindleControlFlow := by
  refine ⟨fun e he i g s x word w h hgoes => ?_, ?_, fun i g s x word w h hen => exec_endG h hen,
    fun i g s x word hrun hx hready hin hword hbad => ?_, fun e he i g s x hrun hx hready => ⟨fun hout => ?_, fun word w hlo hhi hword hw hlegal hregs => ?_⟩,
    fun i g code detail addr pc s => ⟨s.recordFault_only i g code detail addr pc, fun hvalid => ?_, fun hvalid => State.recordFault_more g code detail addr pc hvalid⟩⟩
  · exact exec_predicate he h hgoes
  · simp only [List.forall_mem_cons]
    refine ⟨fun i g s x word w h hgoes => ?_, fun i g s x word w h hgoes => h.exec_branch hgoes rfl rfl rfl rfl,
      fun i g s x word w h hgoes => h.exec_branch hgoes rfl rfl rfl ?_, fun i g s x word w h hgoes => h.exec_branch hgoes rfl rfl rfl ?_, by simp⟩
    · exact h.exec_nop hgoes
    · rw [show bodyOf .brall s i x w = bodyBrall s i x w from rfl, bodyBrall]
      congr 1
      simp only [Gang.threads, List.all_eq_true, List.mem_range]
      rfl
    · rw [show bodyOf .brany s i x w = bodyBrany s i x w from rfl, bodyBrany]
      congr 1
      simp only [Gang.threads, List.any_eq_true, List.mem_range]
      rfl
  · have hexec := exec_reservedOperation hrun hx hready hin hword hbad
    refine ⟨_, hexec, rfl, ?_⟩
    exact gang_spnFault s i g 0x01 0 0 x.pc
  · rw [(regOps_write e he).issues, State.run_running _ _ hrun, State.issue_outside hx hready hout]
  · subst hw
    rw [(regOps_write e he).issues, State.run_running _ _ hrun, State.issue_badRegs hx hready (by omega) hword hlegal hregs]
  · have hget {p : Loc × Nat} := State.recordFault_fields g code detail addr pc hvalid (p := p)
    refine ⟨?_, hget (p := (Reg.SPN_FAULT_CODE i, code)) ?_, hget (p := (Reg.SPN_FAULT_GANG i, g)) ?_,
      hget (p := (Reg.SPN_FAULT_DETAIL i, detail)) ?_, hget (p := (Reg.SPN_FAULT_PC i, unsigned 32 pc)) ?_,
      hget (p := (Reg.SPN_FAULT_ADDR_ADDR i, addr)) ?_⟩
    · have hflag := hget (p := (Reg.SPN_FAULT_VALID i, 1)) (by simp [faultFields])
      rw [State.flag, hflag]
      rfl
    all_goals simp [faultFields]
end

section
open Sys2Proof Sys2Proof.Machine

namespace Sys2Proof.Machine

/-! ### Counting an issue leaves the room for transactions (R103, R186) -/

/-- The sum of a number over the keys of a map, as they are listed. -/
def keySum {V : Type} (f : Nat → Nat) (m : List (Nat × V)) : Nat := (m.map fun e => f e.1).sum

section
variable {V : Type} (f : Nat → Nat)

theorem keySum_cons (e : Nat × V) (m : List (Nat × V)) : keySum f (e :: m) = f e.1 + keySum f m := rfl

theorem keySum_insert (m : List (Nat × V)) (k : Nat) (v : V) : keySum f (smapInsert m k v) = f k + keySum f m := by
  induction m with
  | nil => rfl
  | cons e m ih =>
    obtain ⟨a, w⟩ := e
    unfold smapInsert
    split
    · rw [keySum_cons, keySum_cons, ih]
      omega
    · rfl

theorem keySum_drop_le (m : List (Nat × V)) (k : Nat) : keySum f (smapDrop m k) ≤ keySum f m := by
  induction m with
  | nil => exact Nat.le_refl _
  | cons e m ih =>
    obtain ⟨a, w⟩ := e
    unfold smapDrop
    rw [keySum_cons]
    split
    · exact Nat.le_add_left_of_le ih
    · rw [keySum_cons]
      exact Nat.add_le_add_left ih _

theorem keySum_drop_of_mem {m : List (Nat × V)} {k : Nat} (h : k ∈ m.map (·.1)) : f k + keySum f (smapDrop m k) ≤ keySum f m := by
  induction m with
  | nil => cases h
  | cons e m ih =>
    obtain ⟨a, w⟩ := e
    unfold smapDrop
    rw [keySum_cons]
    by_cases ha : a = k
    · rw [if_pos ha, ha]
      exact Nat.add_le_add_left (keySum_drop_le f m k) _
    · have hrest := ih (by simpa [Ne.symm ha] using h)
      rw [if_neg ha, keySum_cons]
      omega

/-- A write of a key that is listed lists no key more often. -/
theorem keySum_set_le [DecidableEq V] (d : Nat → V) {m : List (Nat × V)} {k : Nat} (v : V) (h : k ∈ m.map (·.1)) :
    keySum f (smapSet d m k v) ≤ keySum f m := by
  have hdrop := keySum_drop_of_mem f h
  unfold smapSet
  split
  · omega
  · rw [keySum_insert]
    exact hdrop

theorem smapGet_default (d : Nat → V) {m : List (Nat × V)} {k : Nat} (h : k ∉ m.map (·.1)) : smapGet d m k = d k := by
  induction m with
  | nil => rfl
  | cons e m ih =>
    obtain ⟨a, w⟩ := e
    rw [List.map_cons, List.mem_cons, not_or] at h
    rw [smapGet, if_neg (Ne.symm h.1), ih h.2]

end

section
variable {s : State} {i g : Nat} {x : Gang} {f : Spindle → Spindle}

/-- The spindle of a resident gang is listed. -/
theorem State.spindle_listed (h : s.gang i g = some x) : i ∈ s.spn.map (·.1) := by
  by_contra hnot
  have hempty : s.spindle i = Spindle.empty := smapGet_default _ hnot
  rw [State.gang, hempty] at h
  cases h

theorem State.engineRanges_updSpindle (hf : ∀ y, EnginesSame y (f y)) (j : Nat) : (s.updSpindle i f).engineRanges j = s.engineRanges j := by
  obtain ⟨-, hq, hcopies, -⟩ := enginesSame_updSpindle s i hf j
  unfold State.engineRanges
  dsimp only
  rw [hq, hcopies]

theorem State.pierTxns_eq (s : State) (p : Nat) : s.pierTxns p
    = min 65536 ((s.lm.txns.countP fun t => pierOf (lineOf t.addr) == p)
        + keySum (fun j => ((s.engineRanges j).map (pierLines p)).sum) s.spn) := by
  unfold State.pierTxns keySum
  dsimp only
  rw [List.map_flatMap]
  congr 2
  induction s.spn with
  | nil => rfl
  | cons e m ih => rw [List.flatMap_cons, List.sum_append, ih, List.map_cons, List.sum_cons]

theorem State.pierTxns_updSpindle (hx : s.gang i g = some x) (hf : ∀ y, EnginesSame y (f y)) (p : Nat) :
    (s.updSpindle i f).pierTxns p ≤ s.pierTxns p := by
  have hranges : (fun j => (((s.updSpindle i f).engineRanges j).map (pierLines p)).sum) = fun j => ((s.engineRanges j).map (pierLines p)).sum := by
    funext j
    rw [State.engineRanges_updSpindle hf]
  have hsum := keySum_set_le (fun j => ((s.engineRanges j).map (pierLines p)).sum) (fun _ => Spindle.empty) (f (s.spindle i)) (State.spindle_listed hx)
  rw [State.pierTxns_eq, State.pierTxns_eq, hranges]
  exact min_le_min (Nat.le_refl _) (Nat.add_le_add_left hsum _)

theorem State.spnTxns_updSpindle (hf : ∀ y, EnginesSame y (f y)) (j : Nat) : (s.updSpindle i f).spnTxns j = s.spnTxns j := by
  unfold State.spnTxns
  rw [State.engineRanges_updSpindle hf]
  rfl

theorem State.txnRoom_updSpindle (hx : s.gang i g = some x) (hf : ∀ y, EnginesSame y (f y)) {j : Nat} {l : List Nat} {far : Nat}
    (h : s.txnRoom j l far = true) : (s.updSpindle i f).txnRoom j l far = true := by
  have hpier := State.pierTxns_updSpindle hx hf
  have hall : ((List.range 4).map (s.updSpindle i f).pierTxns).sum ≤ ((List.range 4).map s.pierTxns).sum :=
    List.sum_le_sum fun p _ => hpier p
  unfold State.txnRoom at h ⊢
  simp only [Bool.and_eq_true, decide_eq_true_eq, List.all_eq_true, Bool.or_eq_true, beq_iff_eq] at h ⊢
  obtain ⟨⟨⟨hpace, hspn⟩, htotal⟩, heach⟩ := h
  refine ⟨⟨⟨hpace, by rwa [State.spnTxns_updSpindle hf]⟩, by omega⟩, fun p hp => (heach p hp).imp_right fun hroom => ?_⟩
  have := hpier p
  omega

theorem State.accessRoom_updSpindle (hx : s.gang i g = some x) (hf : ∀ y, EnginesSame y (f y)) {j : Nat} {l : List (Bool × Nat)}
    (h : s.accessRoom j l = true) : (s.updSpindle i f).accessRoom j l = true := by
  unfold State.accessRoom at h ⊢
  rw [Bool.and_eq_true] at h ⊢
  exact ⟨State.txnRoom_updSpindle hx hf h.1, h.2⟩

theorem State.accessRoom_issueCounted {w : IWord} {word : Nat} {y : Gang} (hx : s.gang i g = some x) {j : Nat} {l : List (Bool × Nat)}
    (h : s.accessRoom j l = true) : (s.issueCounted i y w word).accessRoom j l = true := by
  obtain ⟨-, -, hgang⟩ := s.tagIssue_steps i g y word (s.slotFor i y w)
  have htag : (s.tagIssue i y word (s.slotFor i y w)).accessRoom j l = true := by
    unfold State.tagIssue
    split
    · refine State.accessRoom_updSpindle hx (fun sp => ?_) h
      split <;> exact ⟨rfl, rfl, rfl, rfl⟩
    · exact h
  unfold State.issueCounted
  generalize s.tagIssue i y word (s.slotFor i y w) = u at hgang htag ⊢
  refine State.accessRoom_updSpindle (hgang.trans hx) (fun sp => ?_) htag
  exact ⟨rfl, rfl, rfl, rfl⟩

end

/-! ### The release of held stores (R98) -/

theorem Released.inst {s t : State} (h : Released s t) (set : Nat) : t.inst set = s.inst set := by
  unfold Released at h
  rw [h]
  rfl

theorem Retired.inst {i : Nat} {s t : State} (h : Retired i s t) (set : Nat) : t.inst set = s.inst set := by
  obtain ⟨hframe, -⟩ := h
  rw [hframe]
  rfl

theorem Retired.stores {i : Nat} {s t : State} (h : Retired i s t) : t.mem = s.mem ∧ t.lm = s.lm ∧ t.rtr = s.rtr := by
  obtain ⟨hframe, -⟩ := h
  rw [hframe]
  exact ⟨rfl, rfl, rfl⟩

theorem SpnOnly.stores {s t : State} (h : SpnOnly s t) : t.mem = s.mem ∧ t.lm = s.lm ∧ t.rtr = s.rtr := by
  unfold SpnOnly at h
  rw [h]
  exact ⟨rfl, rfl, rfl⟩

/-- What stores to this module leave: bytes of bowls, and transactions for DRAM. -/
structure StoresDone (i g : Nat) (l : List HeldStore) (s t : State) : Prop where
  frame : t = { s with mem := t.mem, lm := { s.lm with txns := t.lm.txns, nextTxn := t.lm.nextTxn } }
  txns : t.lm.txns.map (fun y => (y.owner, y.addr, y.op)) = s.lm.txns.map (fun y => (y.owner, y.addr, y.op))
    ++ (l.filter fun h => placeOf (gLocal h.addr) == .dram).map fun h => (TxnOwner.store i g h.pc, gLocal h.addr, TxnOp.write h.data)
  bytes : ∀ a, (∀ h ∈ l, (∃ k o, placeOf (gLocal h.addr) = .bowl k o) → a < gLocal h.addr ∨ gLocal h.addr + h.data.length ≤ a) → t.byte a = s.byte a

theorem StoresDone.nil (i g : Nat) (s : State) : StoresDone i g [] s s where
  frame := rfl
  txns := by simp
  bytes _ _ := rfl

theorem StoresDone.cons {i g : Nat} {h : HeldStore} {l : List HeldStore} {s t u : State} (hd : StoresDone i g [h] s t) (k : StoresDone i g l t u) :
    StoresDone i g (h :: l) s u where
  frame := by
    have ht := hd.frame
    have hu := k.frame
    rw [ht] at hu
    exact hu
  txns := by
    rw [k.txns, hd.txns, List.append_assoc, ← List.map_append, ← List.filter_append]
    rfl
  bytes a ha := (k.bytes a fun y hy => ha y (List.mem_cons_of_mem _ hy)).trans
    (hd.bytes a fun y hy => ha y (by rw [List.mem_singleton.1 hy]; exact List.mem_cons_self))

theorem storesDone_releaseStore (i g : Nat) {h : HeldStore} (s : State) (hlocal : h.global = false) : StoresDone i g [h] s (s.releaseStore i g h) := by
  unfold State.releaseStore
  rw [if_neg (by rw [hlocal]; exact Bool.false_ne_true)]
  dsimp only
  split
  next hplace =>
    refine ⟨rfl, ?_, fun _ _ => rfl⟩
    simp [State.addTxn, hplace]
  next k o hplace =>
    refine ⟨rfl, by simp [hplace], fun a ha => s.byte_putBytes_ne h.data (ha h List.mem_cons_self ⟨k, o, hplace⟩)⟩
  next hdram hbowl =>
    refine ⟨rfl, ?_, fun _ _ => rfl⟩
    have hne : ¬ placeOf (gLocal h.addr) = .dram := hdram
    simp [hne]

/-- A store to a local address does not wait for its place in the order of R31. -/
theorem State.releaseRun_cons (i g : Nat) {h : HeldStore} (hlocal : h.global = false) (l : List HeldStore) (s : State) :
    State.releaseRun i g (h :: l) s = State.releaseRun i g l (s.releaseStore i g h) := by
  have hord : s.ordBowl h.global h.addr = false := by
    unfold State.ordBowl
    rw [hlocal]
    rfl
  rw [State.releaseRun, hord, Bool.false_and, if_neg Bool.false_ne_true]

theorem State.releaseRun_local (i g : Nat) {l : List HeldStore} (hlocal : ∀ h ∈ l, h.global = false) (s : State) :
    (State.releaseRun i g l s).1 = [] ∧ StoresDone i g l s (State.releaseRun i g l s).2 := by
  induction l generalizing s with
  | nil => exact ⟨rfl, StoresDone.nil i g s⟩
  | cons h l ih =>
    have hh := hlocal h List.mem_cons_self
    obtain ⟨hnil, hdone⟩ := ih (fun y hy => hlocal y (List.mem_cons_of_mem _ hy)) (s.releaseStore i g h)
    rw [State.releaseRun_cons i g hh]
    exact ⟨hnil, (storesDone_releaseStore i g s hh).cons hdone⟩

theorem State.byte_releaseStore (i g : Nat) {h : HeldStore} (s : State) (hlocal : h.global = false) (hbowl : ∃ k o, placeOf (gLocal h.addr) = .bowl k o)
    {k : Nat} (hk : k < h.data.length) : (s.releaseStore i g h).byte (gLocal h.addr + k) = h.data[k] := by
  obtain ⟨j, o, hplace⟩ := hbowl
  unfold State.releaseStore
  rw [if_neg (by rw [hlocal]; exact Bool.false_ne_true)]
  simp only [hplace]
  exact s.byte_putBytes_at _ h.data k hk

section
variable {i g : Nat} {y : Gang} {s t u : State}

/-- A group that has ended, with no load in flight and with room for its stores, commits when none of them has to wait (R98). -/
theorem State.tryCommit_all (hi : i < 288) (hy : s.gang i g = some y) (hclosed : y.closed = true) (hloads : y.loads = []) (hwait : y.wait = .running)
    (hroom : s.accessRoom i (y.held.map fun h => (h.global, h.addr)) = true) (hall : (State.releaseRun i g y.held s).1 = []) (hgoes : GoesOn s y) :
    s.tryCommit i g = ((State.releaseRun i g y.held s).2.retired i y).updGang i g Gang.newGroup := by
  have hrel := released_releaseRun i g y.held s
  have hready : (y.closed && y.loads.isEmpty && y.wait == .running
      && (y.held.isEmpty || s.accessRoom i (y.held.map fun h => (h.global, h.addr)))) = true := by
    rw [hclosed, hloads, hwait, hroom, Bool.or_true]
    rfl
  unfold State.tryCommit
  rw [hy]
  dsimp only
  rw [if_pos hready, hall]
  generalize (State.releaseRun i g y.held s).2 = r at hrel ⊢
  have hret := r.retired_spec y hi
  have hspn := hrel.spnSame.trans hret.spnSame
  refine State.stopHere_goesOn fun z hz n hn => ?_
  have hz' : ((r.retired i y).updGang i g Gang.newGroup).gang i g = some y.newGroup :=
    gang_updGang _ i g Gang.gang_newGroup ((gang_of_spn hspn i g).trans hy)
  obtain rfl : y.newGroup = z := Option.some.inj (hz'.symm.trans hz)
  refine hgoes n (Eq.trans ?_ hn)
  exact ((hret.inst y.set).trans (hrel.inst y.set)).symm

end

/-! ### ST and GST -/

/-- The threads of a store with their addresses. -/
def storeList (x : Gang) (w : IWord) : List (Nat × Nat) := (x.enabled w).map fun t => (t, addImm (x.pair t w.src1) w)

theorem bodySt_eq (s : State) (i : Nat) (x : Gang) (w : IWord) : bodySt s i x w =
    match (x.enabled w).findSome? fun th => localFault 4 (addImm (x.pair th w.src1) w) with
    | some f => f.issue s i
    | none => if (x.enabled w).any (fun th => s.bowlWait i x.gang (addImm (x.pair th w.src1) w) 4) then .wait
      else .done (s.holdStores i x w false (storeList x w)) := by
  unfold bodySt
  dsimp only
  rw [List.findSome?_map, List.any_map]
  rfl

theorem bodyGst_eq (s : State) (i : Nat) (x : Gang) (w : IWord) : bodyGst s i x w =
    match (x.enabled w).findSome? fun th => s.globalFault 4 (addImm (x.pair th w.src1) w) true with
    | some f => f.issue s i
    | none =>
      if (x.enabled w).any (fun th => s.isOwn (addImm (x.pair th w.src1) w) && s.bowlWait i x.gang (gLocal (addImm (x.pair th w.src1) w)) 4) then .wait
      else .done (s.holdStores i x w true (storeList x w)) := by
  unfold bodyGst
  dsimp only
  rw [List.findSome?_map, List.any_map]
  rfl

/-- An address that a local access may name has no attributes. -/
theorem gLocal_of_localFault {width a : Nat} (h : localFault width a = none) : gLocal a = a := by
  unfold localFault at h
  split at h
  · cases h
  next hlt => exact (Nat.mod_eq_of_lt (by omega : a / 2 ^ 0 < 2 ^ 43)).trans (by omega)

theorem killedBy_of_no_write {o : SpnOp} {w : IWord} (l : PendingLoad) (x : Gang) (h : usedRegs (o.writes w) = []) : l.killedBy x o w = l := by
  have hnil : (x.enabled w).flatMap (fun _ => ([] : List Nat)) = [] := by simp
  unfold PendingLoad.killedBy
  split
  · simp only [h, List.map_nil, hnil, List.append_nil]
  · rfl

section
variable {i : Fin 288} {g : Fin 256} {s : State} {x : Gang} {o : SpnOp} {word : Nat} {w : IWord}

/-- The stores of a list of threads join those that the gang holds. -/
def Gang.holding (x : Gang) (w : IWord) (glob : Bool) (y : Gang) : Gang :=
  { y with held := y.held ++ (x.enabled w).map fun th =>
      { pc := x.pc, global := glob, addr := addImm (x.pair th w.src1) w, data := leBytes 4 (x.reg th w.src2) } }

theorem State.holdStores_eq (s : State) (i : Nat) (x : Gang) (w : IWord) (glob : Bool) :
    s.holdStores i x w glob (storeList x w) = s.updGang i x.gang (x.holding w glob) := by
  unfold State.holdStores storeList Gang.holding
  simp only [List.map_map]
  rfl

/-- The stores of the enabled threads are held, and the group stays open. -/
theorem Poised.exec_held {c : Instr} {glob : Bool} (h : Poised s i g o x word w) (hc : exec c s = s.run fun s => s.issue i g o)
    (hacts : x.skips o w = false) (hbody : bodyOf o s i x w = .done (s.holdStores i x w glob (storeList x w)))
    (hopen : (w.gb || o.ownGroup) = false) (hwrites : usedRegs (o.writes w) = []) :
    ∃ t z, exec c s = .next t ∧ t = { s with spn := t.spn } ∧ GangOnly i g s t ∧ At t i g x (x.pc + 1) ∧ t.gang i g = some z ∧ z.loads = x.loads
      ∧ z.held = x.held ++ (x.enabled w).map fun th =>
          { pc := x.pc, global := glob, addr := addImm (x.pair th w.src1) w, data := leBytes 4 (x.reg th w.src2) } := by
  have hg : x.gang = g := gang_number h.resident
  have hnum (y : Gang) : (x.holding w glob y).gang = y.gang := rfl
  have hgang : (s.updGang i x.gang (x.holding w glob)).gang i g = some (x.holding w glob x) := by
    rw [hg]
    exact gang_updGang s i g hnum h.resident
  have hhold : GangOnly i g s (s.updGang i x.gang (x.holding w glob)) := by
    rw [hg]
    exact gangOnly_updGang s i g hnum
  rw [s.holdStores_eq] at hbody
  obtain ⟨honly, hgangs, hz⟩ := State.issuedHead_steps (o := o) (w := w) (word := word) (off := 1) hg hgang
  have hsame := (s.updGang i x.gang (x.holding w glob)).goOn_sameThreads i x o w 1 (x.holding w glob x)
  have honlyS := (spnOnly_updGang s i x.gang _).trans honly
  refine ⟨_, _, ?_, honlyS, hhold.trans hgangs,
    ⟨_, hz, hsame.pc, hsame.set, hsame.active, hsame.nregs, hsame.reg, hsame.pred⟩, hz, ?_, rfl⟩
  · rw [hc, State.run_running _ _ h.runs, h.issue_done hacts hbody, State.issued_eq, if_neg (by rw [hopen]; exact Bool.false_ne_true),
      honlyS.keeping]
  · exact (List.map_congr_left fun l _ => killedBy_of_no_write l x hwrites).trans (List.map_id _)

/-! ### The end of a group with its stores -/

theorem State.accessRoom_issuedHead {off : Int} {j : Nat} {l : List (Bool × Nat)} (hx : s.gang i x.gang = some x) (h : s.accessRoom j l = true) :
    (s.issuedHead i x o w word off).accessRoom j l = true := by
  obtain ⟨-, -, hgang⟩ := s.issueCounted_steps i x.gang x w word
  refine State.accessRoom_updSpindle (hgang.trans hx) (fun sp => ?_) (State.accessRoom_issueCounted hx h)
  exact ⟨rfl, rfl, rfl, rfl⟩

/-- A group that its GB bit ends releases its stores to this module (R98). -/
theorem exec_nop_commit (h : Poised s i g .nop x word w) (hgoes : GoesOn s x) (hgb : w.gb = true) (hloads : x.loads = [])
    (hlocal : ∀ y ∈ x.held, y.global = false) (hroom : s.accessRoom i (x.held.map fun y => (y.global, y.addr)) = true) :
    ∃ t z u, exec (.nopI i g) s = .next t ∧ t.gang i g = some z ∧ z.held = [] ∧ z.loads = [] ∧ z.closed = false ∧ z.groupStart = x.pc + 1
      ∧ SpnOnly s u ∧ StoresDone i g x.held u (State.releaseRun i g x.held u).2 ∧ t.mem = (State.releaseRun i g x.held u).2.mem
      ∧ t.lm = (State.releaseRun i g x.held u).2.lm ∧ t.rtr = (State.releaseRun i g x.held u).2.rtr := by
  have hg : x.gang = g := gang_number h.resident
  obtain ⟨honly, -, hgang⟩ := State.issuedHead_steps (o := .nop) (w := w) (word := word) (off := 1) hg h.resident
  have hroomU := State.accessRoom_issuedHead (o := .nop) (w := w) (word := word) (off := 1) (hg ▸ h.resident) hroom
  have hissue : s.issue i g .nop = (s.issuedHead i x .nop w word 1).tryCommit i g := by
    rw [h.issue_done (u := s) rfl rfl, s.issued_eq, if_pos (by rw [hgb]; rfl), hg]
  have hsame := s.goOn_sameThreads i x .nop w 1 x
  have hwait : (s.goOn i x .nop w 1 x).wait = .running := by
    have hready := h.ready
    unfold State.gangReady at hready
    rw [Bool.and_eq_true, Bool.and_eq_true] at hready
    exact hsame.wait.trans (eq_of_beq hready.1.1)
  have hclosed : (s.goOn i x .nop w 1 x).closed = true := by
    change (w.gb || SpnOp.ownGroup .nop) = true
    rw [hgb]
    rfl
  have hnoloads : (s.goOn i x .nop w 1 x).loads = [] := by
    change x.loads.map _ = []
    rw [hloads]
    rfl
  generalize s.issuedHead i x .nop w word 1 = u at honly hgang hroomU hissue
  obtain ⟨hnil, hdone⟩ := State.releaseRun_local i g hlocal u
  have hcommit := State.tryCommit_all i.isLt hgang hclosed hnoloads hwait hroomU hnil (hgoes.of_inst honly.inst hsame.set)
  have hret := (State.releaseRun i g x.held u).2.retired_spec (s.goOn i x .nop w 1 x) i.isLt
  have hspn := (released_releaseRun i g x.held u).spnSame.trans hret.spnSame
  have hstores := hret.stores
  have hz := gang_updGang _ i g Gang.gang_newGroup ((gang_of_spn hspn i g).trans hgang)
  refine ⟨s.keeping (u.tryCommit i g), (s.goOn i x .nop w 1 x).newGroup, u, ?_, ?_, rfl, rfl, rfl, rfl, honly, hdone, ?_⟩
  · rw [show exec (.nopI i g) s = s.run fun s => s.issue i g .nop from rfl, State.run_running _ _ h.runs, hissue]
  · rw [hcommit]
    exact hz
  · rw [hcommit]
    exact hstores

/-! ### The two kinds of store -/

/-- A store whose addresses may be written, and that waits for no engine, is held. -/
theorem exec_store (glob : Bool) (h : Poised s i g (if glob then .gst else .st) x word w) (hgb : w.gb = false)
    (hok : ∀ th ∈ x.enabled w,
      (if glob then s.globalFault 4 (addImm (x.pair th w.src1) w) true else localFault 4 (addImm (x.pair th w.src1) w)) = none
        ∧ (glob = false ∨ s.isOwn (addImm (x.pair th w.src1) w) = true → s.bowlWait i x.gang (gLocal (addImm (x.pair th w.src1) w)) 4 = false)) :
    ∃ t z, exec (if glob then .gst i g else .st i g) s = .next t ∧ t = { s with spn := t.spn } ∧ GangOnly i g s t ∧ At t i g x (x.pc + 1)
      ∧ t.gang i g = some z ∧ z.loads = x.loads
      ∧ z.held = x.held ++ (x.enabled w).map fun th =>
          { pc := x.pc, global := glob, addr := addImm (x.pair th w.src1) w, data := leBytes 4 (x.reg th w.src2) } := by
  cases glob with
  | false =>
    have hbody : bodyOf .st s i x w = .done (s.holdStores i x w false (storeList x w)) := by
      have hnone : ((x.enabled w).findSome? fun th => localFault 4 (addImm (x.pair th w.src1) w)) = none :=
        List.findSome?_eq_none_iff.2 fun th hth => (hok th hth).1
      have hfree : (x.enabled w).any (fun th => s.bowlWait i x.gang (addImm (x.pair th w.src1) w) 4) = false := by
        rw [List.any_eq_false]
        intro th hth
        obtain ⟨hfault, hwait⟩ := hok th hth
        have hwait := hwait (.inl rfl)
        rw [gLocal_of_localFault hfault] at hwait
        rw [hwait]
        exact Bool.false_ne_true
      rw [show bodyOf .st s i x w = bodySt s i x w from rfl, bodySt_eq, hnone]
      exact if_neg (by rw [hfree]; exact Bool.false_ne_true)
    exact Poised.exec_held h rfl rfl hbody (by rw [hgb]; rfl) rfl
  | true =>
    have hbody : bodyOf .gst s i x w = .done (s.holdStores i x w true (storeList x w)) := by
      have hnone : ((x.enabled w).findSome? fun th => s.globalFault 4 (addImm (x.pair th w.src1) w) true) = none :=
        List.findSome?_eq_none_iff.2 fun th hth => (hok th hth).1
      have hfree : (x.enabled w).any (fun th => s.isOwn (addImm (x.pair th w.src1) w)
          && s.bowlWait i x.gang (gLocal (addImm (x.pair th w.src1) w)) 4) = false := by
        rw [List.any_eq_false]
        intro th hth hboth
        obtain ⟨hown, hbusy⟩ := Bool.and_eq_true_iff.1 hboth
        rw [(hok th hth).2 (.inr hown)] at hbusy
        cases hbusy
      rw [show bodyOf .gst s i x w = bodyGst s i x w from rfl, bodyGst_eq, hnone]
      exact if_neg (by rw [hfree]; exact Bool.false_ne_true)
    exact Poised.exec_held h rfl rfl hbody (by rw [hgb]; rfl) rfl

/-- The first address that the spindle may not write faults (R29, R95). -/
theorem exec_store_fault (glob : Bool) (h : Poised s i g (if glob then .gst else .st) x word w) {f : AddrFault}
    (hf : ((x.enabled w).findSome? fun th =>
      if glob then s.globalFault 4 (addImm (x.pair th w.src1) w) true else localFault 4 (addImm (x.pair th w.src1) w)) = some f) :
    exec (if glob then .gst i g else .st i g) s
      = .next (s.keeping ((if f.log then s.unmapped (gLocal f.addr) 0 i else s).spnFault i g f.code 0 f.addr x.pc)) := by
  cases glob with
  | false =>
    have hf : ((x.enabled w).findSome? fun th => localFault 4 (addImm (x.pair th w.src1) w)) = some f := hf
    refine Poised.exec_fault h rfl rfl ?_
    change bodySt s i x w = _
    rw [bodySt_eq, hf]
    rfl
  | true =>
    have hf : ((x.enabled w).findSome? fun th => s.globalFault 4 (addImm (x.pair th w.src1) w) true) = some f := hf
    refine Poised.exec_fault h rfl rfl ?_
    change bodyGst s i x w = _
    rw [bodyGst_eq, hf]
    rfl

end

end Sys2Proof.Machine

/-- Settles O21: the stores join those held, and the commit of a group releases them one by one, each with its own effect on memory. -/
theorem spindleStores : Obligations.SpindleStores := by
  refine ⟨fun i g s x word w glob => ?_, fun i g s x word w h hgoes hgb hloads hlocal hroom => ?_⟩
  · intro addr bad c h
    exact ⟨fun hok hgb => exec_store glob h hgb hok, fun f hf => exec_store_fault glob h hf⟩
  · obtain ⟨t, z, u, ht, hz, hheld, hnone, hclosed, hstart, honly, hdone, hmem, hlm, hrtr⟩ := exec_nop_commit h hgoes hgb hloads hlocal hroom
    obtain ⟨-, hlmU, hrtrU⟩ := honly.stores
    have hbyte (a : Nat) : t.byte a = (State.releaseRun i g x.held u).2.byte a := by
      unfold State.byte
      rw [hmem]
    have hframe : (State.releaseRun i g x.held u).2.lm = { u.lm with txns := (State.releaseRun i g x.held u).2.lm.txns,
                                                                     nextTxn := (State.releaseRun i g x.held u).2.lm.nextTxn } :=
      congrArg State.lm hdone.frame
    refine ⟨t, z, ht, hz, hheld, hnone, hclosed, hstart, ?_, ?_, fun a ha => ?_, fun y hy hbowl k hk => ?_, ?_⟩
    · rw [hlm, ← hlmU]
      exact hframe
    · rw [hlm, hdone.txns, hlmU]
    · exact (hbyte a).trans ((hdone.bytes a ha).trans (honly.byte a))
    · have hylocal := hlocal y (by rw [hy]; exact List.mem_cons_self)
      rw [hbyte, hy, State.releaseRun_cons i g hylocal]
      exact u.byte_releaseStore i g hylocal hbowl hk
    · exact hrtr.trans ((congrArg State.rtr hdone.frame).trans hrtrU)
end

section
open Sys2Proof Sys2Proof.Machine

namespace Sys2Proof.Machine

/-! ### Lines read by the engines leave the spindles alone (R99, R169) -/

theorem LmStep.spnSame {s t : State} (h : LmStep s t) : SpnSame s t := h.toMemStep.spnSame

theorem spnSame_count (s : State) (kind inst code v : Nat) : SpnSame s (s.count kind inst code v) := spnSame_countQ s kind inst code _

theorem spnSame_lineTake (s : State) (l : Nat) (d : List Byte) : SpnSame s (s.lineTake l d) := (memStep_lineTake s l d).spnSame

theorem spnSame_taken (s : State) (l : Nat) (d : List Byte) : SpnSame s ((s.lineTake l d).installLocal l) :=
  (spnSame_lineTake s l d).trans (lmStep_installLocal _ l).spnSame

theorem spnSame_rereadSpn (s : State) (i : Nat) : SpnSame s (s.rereadSpn i) := (spnSame_sat s _ 1).trans (spnSame_count _ _ _ _ _)

theorem spnSame_sliceRead (s : State) (l : Nat) (nal : Bool) : SpnSame s (s.sliceRead l nal).2.2 := by
  rw [← State.lineRead_snd]
  exact (lineStep_lineRead s l nal).toMemStep.spnSame

theorem spnSame_engineLine (s : State) (i l : Nat) (nal takes : Bool) (force : Option Nat) : SpnSame s (s.engineLine i l nal takes force).2.2 := by
  unfold State.engineLine
  extract_lets inj cleared fetched r good read reread
  have hfetched : SpnSame s fetched :=
    ((SpnSame.ite (SpnSame.refl s) (spnSame_set s _ 0)).trans (spnSame_count cleared _ _ _ _)).trans (lmStep_dramFetch _ l 0).spnSame
  have hr : SpnSame fetched r.2.2 := by
    unfold r
    split
    · exact ((lmStep_drawn fetched).trans (lmStep_dramReads l _ 1 1 fetched.drawn)).spnSame
    · exact (lmStep_dramAgain fetched l 0).spnSame
  have hreread : SpnSame s reread := by
    unfold reread
    exact SpnSame.ite ((spnSame_sliceRead s l nal).trans (spnSame_rereadSpn _ i)) (spnSame_sliceRead s l nal)
  split
  · split
    next d _ =>
      have hgood : SpnSame r.2.2 good :=
        ((lmStep_rereadOk r.2.2 l).spnSame.trans (spnSame_rereadSpn _ i)).trans (spnSame_count _ _ _ _ _)
      exact (hfetched.trans hr).trans (hgood.trans (SpnSame.ite (SpnSame.refl good) (spnSame_taken good l d)))
    · exact (hfetched.trans hr).trans (lmStep_detectionFailure _ l).spnSame
  · exact hreread.trans (SpnSame.ite (spnSame_count reread _ _ _ _) (SpnSame.refl reread))

theorem spnSame_replayBegun (s : State) (i : Nat) : SpnSame s (s.replayBegun i) := spnSame_count s _ _ _ _

theorem spnSame_replayEnd (s : State) (i : Nat) (ok : Bool) : SpnSame s (s.replayEnd i ok) :=
  SpnSame.ite (spnSame_sat s _ 1) (spnSame_sat s _ 1)

theorem spnSame_lineReplay (s : State) (i l : Nat) (nal takes again : Bool) : SpnSame s (s.lineReplay i l nal takes again).2 := by
  unfold State.lineReplay
  extract_lets r q
  have hr : SpnSame s r.2.2 := spnSame_engineLine s i l nal takes none
  split
  · exact hr
  · exact ((hr.trans (spnSame_replayBegun _ i)).trans (spnSame_engineLine _ i l nal again _)).trans (spnSame_replayEnd _ i _)

theorem spnSame_copyIn (s : State) (i : Nat) (c : BlockCopy) : SpnSame s (s.copyIn i c).2 := by
  unfold State.copyIn
  refine List.foldlRecOn _ _ (b := ((none : Option Nat), s)) (motive := fun acc => SpnSame s acc.2) (SpnSame.refl s) fun acc hacc k _ => ?_
  dsimp only
  split
  · exact hacc
  · have hline : SpnSame s (if dramLine (lineOf c.addr + k) = true then acc.2.lineReplay i (lineOf c.addr + k) c.nal (!c.early) true
        else (some (acc.2.lineBytes (lineOf c.addr + k)), acc.2)).2 := by
      split
      · exact hacc.trans (spnSame_lineReplay acc.2 i _ _ _ _)
      · exact hacc
    split
    · exact hline
    · exact hline

/-! ### Requests to other modules (R288) -/

/-- A list shorter than `n` leaves one of the first `n` numbers free. -/
theorem lowestFree_isSome {n : Nat} {used : List Nat} (h : used.length < n) : (lowestFree n used).isSome = true := by
  by_contra hnone
  have hall : ∀ k ∈ List.range (min n (used.length + 1)), k ∈ used := by
    have hfind := Option.not_isSome_iff_eq_none.1 hnone
    unfold lowestFree at hfind
    rw [List.find?_eq_none] at hfind
    intro k hk
    simpa using hfind k hk
  have hlen := (List.subperm_of_subset List.nodup_range hall).length_le
  rw [List.length_range] at hlen
  omega

/-- The remote operations alone change. -/
def RtrOnly (s t : State) : Prop := t = { s with rtr := t.rtr }

theorem RtrOnly.trans {s t u : State} (h : RtrOnly s t) (k : RtrOnly t u) : RtrOnly s u := by
  unfold RtrOnly at h k ⊢
  rw [k, h]

theorem rtrOnly_remoteIssue (s : State) (owner : RemoteOwner) (fkind g len aop : Nat) (body : List Byte) :
    RtrOnly s (s.remoteIssue owner fkind g len aop body) := by
  unfold State.remoteIssue
  split <;> exact rfl

theorem State.length_remoteIssue {s : State} (owner : RemoteOwner) (fkind g len aop : Nat) (body : List Byte) (h : s.rtr.ops.length < 16384) :
    (s.remoteIssue owner fkind g len aop body).rtr.ops.length = s.rtr.ops.length + 1 := by
  obtain ⟨k, hk⟩ := Option.isSome_iff_exists.1 (lowestFree_isSome (used := s.rtr.ops.map (·.index)) (by rwa [List.length_map]))
  unfold State.remoteIssue
  rw [hk]
  exact List.length_append

/-- The requests of a copy, one after the other. -/
def State.copyRequests (s : State) (i : Nat) (c : BlockCopy) (l : List (Nat × Nat)) : State := l.foldl (fun s p => s.copyRequest i c p.1 p.2) s

theorem State.copyRequests_spec (i : Nat) (c : BlockCopy) (l : List (Nat × Nat)) (s : State) (h : s.rtr.ops.length + l.length ≤ 16384) :
    RtrOnly s (s.copyRequests i c l) ∧ (s.copyRequests i c l).rtr.ops.length = s.rtr.ops.length + l.length := by
  induction l generalizing s with
  | nil => exact ⟨rfl, rfl⟩
  | cons p l ih =>
    rw [List.length_cons] at h ⊢
    have hone := State.length_remoteIssue (s := s) (.copy i c.num p.1) (if c.toBowl then 1 else 3) (c.addr + p.1) p.2 0
      (if c.toBowl then [] else s.bytes (bowlAddr i (c.bowl + p.1)) p.2) (by omega)
    have hlen : (s.copyRequest i c p.1 p.2).rtr.ops.length = s.rtr.ops.length + 1 := hone
    obtain ⟨honly, hrest⟩ := ih (s.copyRequest i c p.1 p.2) (by omega)
    exact ⟨(rtrOnly_remoteIssue s _ _ _ _ _ _).trans honly, hrest.trans (by omega)⟩

/-! ### What a copy checks -/

theorem copyFault_none {a off size : Nat} (h : copyFault a off size = none) :
    a % 64 = 0 ∧ off % 64 = 0 ∧ size % 64 = 0 ∧ 64 ≤ size ∧ size ≤ 65536 ∧ off + size ≤ bowlBytes := by
  simp only [copyFault, bowlOk, ite_eq_right_iff, reduceCtorEq, imp_false, ite_eq_iff, and_false, false_or,
    Bool.not_eq_true', decide_eq_false_iff_not, not_not] at h
  omega

theorem copyFault_passed {a off size : Nat} (ha : a % 64 = 0) (hoff : off % 64 = 0) (hsize : size % 64 = 0) (hlo : 64 ≤ size) (hhi : size ≤ 65536) :
    copyFault a off size = if off + size ≤ bowlBytes then none else some ⟨0x05, off, false⟩ := by
  unfold copyFault bowlOk
  rw [if_neg (not_not.2 ha), if_neg (not_not.2 hoff), if_neg (not_not.2 hsize), if_neg (by omega)]
  by_cases h : off + size ≤ bowlBytes <;> simp [h]

theorem dramRange_none {a size : Nat} (h : a + size ≤ dramEnd) (hlo : 64 ≤ size) : dramRange a size = none := by
  unfold dramRange
  rw [dramEnd] at h ⊢
  rw [if_neg (by omega), if_pos ⟨by omega, h⟩]

section
variable {s : State} {i : Nat} {x : Gang} {w : IWord} {toBowl : Bool} {a off size : Nat}
  (ha : x.pair (x.lead w) w.src1 = a) (hoff : x.reg (x.lead w) w.src2 = off) (hsize : x.reg (x.lead w) w.src3 = size)
include ha hoff hsize

theorem bodyCopy_fault {f : AddrFault} (h : ((if 2 ^ 43 ≤ a then some ⟨0x05, a, false⟩ else copyFault a off size).or (dramRange a size)) = some f) :
    bodyCopy toBowl s i x w = f.issue s i := by
  subst ha hoff hsize
  unfold bodyCopy
  dsimp only
  rw [h]

theorem bodyCopy_passed (hend : a + size ≤ dramEnd) (hok : copyFault a off size = none) :
    bodyCopy toBowl s i x w = if s.copyRoom i x [a] off size then .done (s.localCopy i x toBowl false false a off size) else .wait := by
  obtain ⟨-, -, -, hlo, -, -⟩ := copyFault_none hok
  have hrange := dramRange_none hend hlo
  subst ha hoff hsize
  unfold bodyCopy
  dsimp only
  rw [hok, hrange, if_neg (by rw [dramEnd] at hend; omega)]
  rfl

end

theorem foldl_copyRequests (i : Nat) (c : BlockCopy) (l : List (Nat × Nat)) (s : State) (n : Nat) :
    l.foldl (fun (acc : State × Nat) p => (acc.1.copyRequest i c p.1 p.2, acc.2 + 1)) (s, n) = (s.copyRequests i c l, n + l.length) := by
  induction l generalizing s n with
  | nil => rfl
  | cons p l ih =>
    rw [List.foldl_cons, ih, List.length_cons, Nat.add_assoc, Nat.add_comm 1]
    rfl

theorem length_pieces (c : BlockCopy) : c.pieces.length = (copyPieces c.addr c.size).length := List.length_map _

section
variable {s : State} {i : Nat} {x : Gang} {w : IWord} {toBowl : Bool} {a off size : Nat}
  (ha : x.pair (x.lead w) w.src1 = a) (hoff : x.reg (x.lead w) w.src2 = off) (hsize : x.reg (x.lead w) w.src3 = size)
  (hallowed : gRefused a (!toBowl && !s.isOwn a) = false) (hok : copyFault a off size = none)
include ha hoff hsize hallowed hok

/-- A copy of a range of this module is taken as a local one, with the attributes of its address (R31). -/
theorem bodyGcopy_own (hown : s.isOwn a = true) (hhole : rangeHole (gLocal a) size = none)
    (hroom : s.copyRoom i x (if dramLine (lineOf (gLocal a)) then [gLocal a] else []) off size = true)
    (hbusy : (ownBowl i (gLocal a) size).any (s.bowlBusy i x.gang true) = false) :
    bodyGcopy toBowl s i x w = .done (s.localCopy i x toBowl (gNal a) (gOrd a) (gLocal a) off size) := by
  subst ha hoff hsize
  rw [hown, Bool.not_true] at hallowed
  unfold bodyGcopy ownRange
  simp only [hallowed, hok, hown, hhole, hbusy, Bool.true_and, Bool.false_eq_true, if_false, if_true, Option.map_none, Option.or_none, hroom,
    Bool.not_true]

/-- A copy of a range of another module begins with its requests (R288). -/
theorem bodyGcopy_remote (hown : s.isOwn a = false) (hrol : gRol a = false) (hroom : s.copyRoom i x [] off size = true)
    (htable : s.remoteRoom (copyPieces a size).length = true) :
    ∃ c : BlockCopy, c.global = true ∧ c.addr = a ∧ c.waiting = (copyPieces a size).length ∧ ∃ b : BlockCopy, ∃ l : List (Nat × Nat),
      l.length = (copyPieces a size).length ∧ bodyGcopy toBowl s i x w = .done ((s.copyRequests i b l).addCopy i c) := by
  subst ha hoff hsize
  rw [hown] at hallowed
  unfold bodyGcopy
  simp only [hallowed, hok, hown, hroom, Bool.false_eq_true, if_false, Bool.false_and, Option.or_none, Bool.not_true, hrol, Bool.and_false,
    length_pieces, htable, foldl_copyRequests, Nat.zero_add]
  exact ⟨_, rfl, rfl, rfl, _, _, length_pieces _, rfl⟩

end

/-! ### A copy is taken -/

theorem addCopy_steps (s : State) (i : Nat) (c : BlockCopy) : (∀ j h, (s.addCopy i c).gang j h = s.gang j h)
    ∧ ((s.addCopy i c).spindle i).copies = (s.spindle i).copies ++ [c] := by
  let u := s.updSpindle i fun x => { x with copies := x.copies ++ [c], nextNum := x.nextNum + 1 }
  have hspn : SpnSame u (s.addCopy i c) := rfl
  refine ⟨fun j h => (gang_of_spn hspn j h).trans (gang_updSpindle s i (fun _ => ?_) j h), ?_⟩
  · exact rfl
  · change (u.spindle i).copies = _
    rw [spindle_updSpindle]

section
variable {i : Fin 288} {g : Fin 256} {s v : State} {x : Gang} {o : SpnOp} {word : Nat} {w : IWord}

theorem RtrOnly.spnSame (h : RtrOnly s v) : SpnSame s v := by
  unfold RtrOnly at h
  rw [h]
  rfl

/-- The copy engine takes a copy, whose requests to other modules have been made, and the gang goes on (R103). -/
theorem Poised.exec_copy {c : Instr} {b : BlockCopy} (h : Poised s i g o x word w) (hc : exec c s = s.run fun s => s.issue i g o)
    (henabled : x.enabled w ≠ []) (hheld : x.held = []) (hgoes : GoesOn s x) (hbody : bodyOf o s i x w = .done (v.addCopy i b)) (hv : RtrOnly s v) :
    ∃ t, exec c s = .next t ∧ At t i g x (x.pc + 1) ∧ (t.spindle i).copies = (s.spindle i).copies ++ [b] ∧ MemSame s t
      ∧ t.lm = { s.lm with nextTxn := s.lm.nextTxn + 1 } ∧ t.rtr = v.rtr := by
  obtain ⟨hgangs, hcopies⟩ := addCopy_steps v i b
  have hx : (v.addCopy i b).gang i g = some x := (hgangs i g).trans ((gang_of_spn hv.spnSame i g).trans h.resident)
  have hspindle : v.spindle i = s.spindle i := congrArg (fun m => smapGet (fun _ => Spindle.empty) m (i : Nat)) hv.spnSame
  have hkeep : s.keeping (v.addCopy i b) = v.addCopy i b := by
    unfold RtrOnly at hv
    rw [hv]
    rfl
  have hgoesU : GoesOn (v.addCopy i b) x := hgoes.of_inst (fun set => by unfold RtrOnly at hv; rw [hv]; rfl) rfl
  obtain ⟨t, ht, honward, -⟩ := h.exec_done hc i.isLt (Gang.skips_of_enabled henabled) hbody hkeep hx hgoesU
  obtain ⟨hmem, hlm, hrtr⟩ := honward.quiet hheld
  obtain ⟨-, -, hcopiesT, -⟩ := honward.gangs.2 i
  refine ⟨t, ht, honward.at, ?_, fun a => ?_, ?_, hrtr.trans ?_⟩
  · rw [hcopiesT, hcopies, hspindle]
  · unfold State.byte
    rw [hmem]
    unfold RtrOnly at hv
    rw [hv]
    rfl
  · unfold RtrOnly at hv
    rw [hlm, hv]
    rfl
  · rfl

end

/-! ### A copy is complete -/

theorem dropCopy_spindle (s : State) (i num : Nat) :
    (s.dropCopy i num).spindle i = { s.spindle i with copies := (s.spindle i).copies.filter (·.num != num) } := spindle_updSpindle s i _

/-- A copy whose bytes are in place leaves its spindle. -/
theorem exec_copy_leaves {i : Fin 288} {num : Nat} {s u : State} (hspn : SpnSame s u) (hu : exec (.blockCopyComplete i num) s = .next (s.keeping (u.dropCopy i num))) :
    ∃ t, exec (.blockCopyComplete i num) s = .next t ∧ t.mem = u.mem ∧ (t.spindle i).copies = (s.spindle i).copies.filter (·.num != num) := by
  have hspindle : u.spindle i = s.spindle i := congrArg (fun m => smapGet (fun _ => Spindle.empty) m (i : Nat)) hspn
  refine ⟨_, hu, rfl, ?_⟩
  change ((u.dropCopy i num).spindle i).copies = _
  rw [dropCopy_spindle, hspindle]

section
variable {i : Fin 288} {num : Nat} {s : State} {c : BlockCopy} (hrun : s.running = true)
  (hc : (s.spindle i).copies.find? (·.num == num) = some c) (hord : s.ordHeld i c.id c.ord = false)
include hrun hc hord

/-- The completion of a copy that no earlier access holds back. -/
theorem exec_blockCopyComplete : exec (.blockCopyComplete i num) s = .next (s.keeping (
    if c.global then (if c.waiting = 0 then s.dropCopy i num else s)
    else if s.memAvail c.addr c.size = false then s
    else if c.toBowl then
      (if (s.copyIn i c).1 = none then (s.copyIn i c).2.dropCopy i num
        else ((s.copyIn i c).2.dropCopy i num).engineFault i c.gang 0x0a 2 ((s.copyIn i c).1.getD 0) c.pc)
    else (s.memWrite c.addr (s.bytes (bowlAddr i c.bowl) c.size) c.nal).2.dropCopy i num)) := by
  rw [show exec (.blockCopyComplete i num) s = execBlockCopyComplete i num s from rfl, execBlockCopyComplete, State.run_running _ _ hrun]
  simp only [hc, hord, Bool.or_false, Bool.not_eq_true']
  cases (s.copyIn i c).1 with
  | none => rfl
  | some a => rfl

end

/-! ### The instructions -/

section
variable {i : Fin 288} {g : Fin 256} {s : State} {x : Gang} {word : Nat} {w : IWord}

/-- LDBLK and STBLK: the command, the operation, and what the operation does. -/
theorem copyOps_issue {e : Instr × SpnOp × Bool} (he : e ∈ [(Instr.ldblk i g, SpnOp.ldblk, true), (.stblk i g, .stblk, false)]) :
    (exec e.1 s = s.run fun s => s.issue i g e.2.1) ∧ bodyOf e.2.1 = bodyCopy e.2.2 := by
  obtain rfl | rfl : e = (.ldblk i g, .ldblk, true) ∨ e = (.stblk i g, .stblk, false) := by simpa using he
  · exact ⟨rfl, rfl⟩
  · exact ⟨rfl, rfl⟩

/-- GLDBLK and GSTBLK likewise. -/
theorem gcopyOps_issue {e : Instr × SpnOp × Bool} (he : e ∈ [(Instr.gldblk i g, SpnOp.gldblk, true), (.gstblk i g, .gstblk, false)]) :
    (exec e.1 s = s.run fun s => s.issue i g e.2.1) ∧ bodyOf e.2.1 = bodyGcopy e.2.2 := by
  obtain rfl | rfl : e = (.gldblk i g, .gldblk, true) ∨ e = (.gstblk i g, .gstblk, false) := by simpa using he
  · exact ⟨rfl, rfl⟩
  · exact ⟨rfl, rfl⟩

theorem State.copyRoom_full {l : List Nat} {off size : Nat} (h : 16 ≤ (s.spindle i).copies.length) : s.copyRoom i x l off size = false := by
  unfold State.copyRoom
  rw [decide_eq_false (by omega), Bool.false_and, Bool.false_and]

end

end Sys2Proof.Machine

/-- Settles O23: a copy that passes its checks joins the spindle's copies in a gang that goes on, one request joining the table for each piece;
on completion the memory accesses leave the spindles alone. -/
theorem spindleCopies : Obligations.SpindleCopies := by
  refine ⟨fun i g s x word w => ?_, fun i num s c hrun hc hord => ?_⟩
  · intro a off size
    refine ⟨fun e he h henabled hheld hloads hgoes => ?_, fun e he h henabled hheld hloads hgoes hallowed hok => ?_,
      fun h henabled hheld hloads hgoes => ?_⟩
    · obtain ⟨hissue, hbody⟩ := copyOps_issue (s := s) he
      have hacts : x.skips e.2.1 w = false := Gang.skips_of_enabled henabled
      refine ⟨fun ha hoff hsize hlo hhi hbowl hend hroom => ?_, fun hfull hend hok => ?_, fun hlt ha hoff hsize hlo hhi hbowl => ?_, fun hlt ha => ?_⟩
      · have hok : copyFault a off size = none := by rw [copyFault_passed ha hoff hsize hlo hhi, if_pos hbowl]
        obtain ⟨t, ht, hat, hcopies, hmem, hlm, hrtr⟩ := h.exec_copy (v := s) hissue henabled hheld hgoes
          (by rw [hbody, bodyCopy_passed rfl rfl rfl hend hok, if_pos hroom]; rfl) rfl
        exact ⟨t, _, ht, hat, hcopies, rfl, rfl, rfl, rfl, rfl, rfl, rfl, rfl, hmem, hlm, hrtr⟩
      · refine h.exec_wait hissue hacts ?_
        rw [hbody, bodyCopy_passed rfl rfl rfl hend hok, State.copyRoom_full hfull]
        rfl
      · refine h.exec_fault (u := s) hissue hacts ?_
        rw [hbody, bodyCopy_fault rfl rfl rfl (f := ⟨0x05, off, false⟩)]
        · rfl
        · rw [if_neg (by omega), copyFault_passed ha hoff hsize hlo hhi, if_neg (by omega)]
          rfl
      · refine h.exec_fault (u := s) hissue hacts ?_
        rw [hbody, bodyCopy_fault rfl rfl rfl (f := ⟨0x06, a, false⟩)]
        · rfl
        · rw [if_neg (by omega), copyFault, if_pos ha]
          rfl
    · obtain ⟨hissue, hbody⟩ := gcopyOps_issue (s := s) he
      refine ⟨fun hown hhole hroom hbusy => ?_, fun hown hrol hroom htable => ?_⟩
      · obtain ⟨t, ht, hat, hcopies, hmem, -, -⟩ := h.exec_copy (v := s) hissue henabled hheld hgoes
          (by rw [hbody, bodyGcopy_own rfl rfl rfl hallowed hok hown hhole hroom hbusy]; rfl) rfl
        exact ⟨t, _, ht, hat, hcopies, rfl, rfl, rfl, rfl, rfl, rfl, rfl, hmem⟩
      · obtain ⟨c, hglobal, haddr, hwaiting, b, l, hlen, hdone⟩ := bodyGcopy_remote (i := i) rfl rfl rfl hallowed hok hown hrol hroom htable
        have htable : s.rtr.ops.length + l.length ≤ 16384 := by
          rw [hlen]
          exact of_decide_eq_true htable
        obtain ⟨honly, hops⟩ := State.copyRequests_spec i b l s htable
        obtain ⟨t, ht, hat, hcopies, hmem, -, hrtr⟩ := h.exec_copy hissue henabled hheld hgoes (by rw [hbody, hdone]) honly
        exact ⟨t, c, ht, hat, hcopies, hglobal, haddr, hwaiting, hmem, by rw [hrtr, hops, hlen]⟩
    · have hbody : bodyOf .waitI s i x w = if s.gangCopies i x.gang ≤ w.imm % 32 then .done s else .wait := rfl
      refine ⟨fun hle => ?_, fun hlt => ?_⟩
      · obtain ⟨t, ht, honward, -⟩ := h.exec_done (c := .waitI i g) rfl i.isLt (Gang.skips_of_enabled henabled) (hbody.trans (if_pos hle)) rfl
          h.resident hgoes
        exact ⟨t, ht, honward.at, honward.gangs, honward.memSame hheld⟩
      · exact h.exec_wait (c := .waitI i g) rfl (Gang.skips_of_enabled henabled) (hbody.trans (if_neg (Nat.not_le.2 hlt)))
  · have hexec := exec_blockCopyComplete hrun hc hord
    refine ⟨fun hglobal hwaiting => ?_, fun hglobal hwaiting => ?_, fun hlocal hbusy => ?_, fun u hlocal havail hbowl hcopy => ?_,
      fun ok u hlocal havail hbowl hwrite => ?_⟩
    · rw [if_pos hglobal, if_pos hwaiting] at hexec
      exact ⟨_, hexec, rfl, dropCopy_spindle s i num⟩
    · rw [hexec, if_pos hglobal, if_neg hwaiting]
      rfl
    · rw [hexec, if_neg (by rw [hlocal]; exact Bool.false_ne_true), if_pos hbusy]
      rfl
    · have hspn := spnSame_copyIn s i c
      rw [if_neg (by rw [hlocal]; exact Bool.false_ne_true), if_neg (by rw [havail]; exact Bool.noConfusion), if_pos hbowl, hcopy] at hexec
      rw [hcopy] at hspn
      exact exec_copy_leaves hspn hexec
    · have hspn := spnSame_memWrite s c.addr (s.bytes (bowlAddr i c.bowl) c.size) c.nal
      rw [if_neg (by rw [hlocal]; exact Bool.false_ne_true), if_neg (by rw [havail]; exact Bool.noConfusion),
        if_neg (by rw [hbowl]; exact Bool.false_ne_true), hwrite] at hexec
      rw [hwrite] at hspn
      exact exec_copy_leaves hspn hexec
end

section
open Sys2Proof Sys2Proof.Machine

namespace Sys2Proof.Machine

/-! ### What the gouge changes (R147 to R157) -/

/-- An engine of the module reads and writes memory, counts, and draws free values: it changes no more than these parts of the state. -/
def EngineOnly (s t : State) : Prop :=
  t = { s with regs := t.regs, ev := t.ev, host := t.host, mem := t.mem, lm := t.lm, free := t.free, pwr := t.pwr }

theorem EngineOnly.refl (s : State) : EngineOnly s s := rfl

theorem EngineOnly.trans {s t u : State} (h : EngineOnly s t) (k : EngineOnly t u) : EngineOnly s u := by
  unfold EngineOnly at h k ⊢
  rw [k, h]

theorem MemStep.engineOnly {s t : State} (h : MemStep s t) : EngineOnly s t := h.frame

theorem Noted.engineOnly {s t : State} (h : Noted s t) : EngineOnly s t := by
  obtain ⟨hframe, -⟩ := h
  unfold EngineOnly
  rw [hframe]

theorem EngineOnly.field {s t : State} (h : EngineOnly s t) {α : Type} (f : State → α)
    (hf : ∀ r e o m l n w, f { s with regs := r, ev := e, host := o, mem := m, lm := l, free := n, pwr := w } = f s) : f t = f s := by
  unfold EngineOnly at h
  rw [h]
  exact hf _ _ _ _ _ _ _

theorem EngineOnly.spnSame {s t : State} (h : EngineOnly s t) : SpnSame s t := h.field State.spn fun _ _ _ _ _ _ _ => rfl
theorem EngineOnly.inst {s t : State} (h : EngineOnly s t) (set : Nat) : t.inst set = s.inst set := h.field (·.inst set) fun _ _ _ _ _ _ _ => rfl

theorem engineOnly_inc (s : State) (l : Loc) (n : Nat) : EngineOnly s (s.inc l n) := rfl
theorem engineOnly_drawnBy (s : State) (n : Nat) : EngineOnly s (s.drawnBy n) := rfl
theorem engineOnly_putBytes (s : State) (a : Nat) (d : List Byte) : EngineOnly s (s.putBytes a d) := rfl

theorem engineOnly_memWrite (s : State) (a : Nat) (d : List Byte) (nal : Bool) : EngineOnly s (s.memWrite a d nal).2 :=
  (memWrite_spec s a d nal).1.engineOnly

theorem engineOnly_countGge {lathe : Nat} (s : State) (code v : Nat) (h : lathe < 36) : EngineOnly s (s.count 1 lathe code v) :=
  (noted_count s 1 lathe code v h).engineOnly

theorem engineOnly_gougeRead (s : State) (a n : Nat) : EngineOnly s (s.gougeRead a n).2 := by
  have hread : EngineOnly s (s.rangeRead a n false).2.2 := (memStep_memRead s a n false).engineOnly
  unfold State.gougeRead
  dsimp only
  split <;> exact hread

theorem engineOnly_gsumRun (s : State) (o : GougeOp) (f : FmtSlot) : EngineOnly s (s.gsumRun o f).2 := by
  unfold State.gsumRun
  extract_lets d err bt entry n w sa
  split
  · exact EngineOnly.refl s
  split
  · exact EngineOnly.refl s
  split
  · exact EngineOnly.refl s
  have hentry : EngineOnly s entry.2 := engineOnly_gougeRead s bt 8
  split
  · exact hentry
  next ent _ =>
    extract_lets g ka keys keyed
    split
    · exact hentry
    split
    · exact hentry
    have hkeys : EngineOnly s keyed := hentry.trans (engineOnly_gougeRead _ ka (n * d.dim * w))
    split
    · exact hkeys
    · extract_lets col ps rcd
      exact (hkeys.trans (engineOnly_memWrite keyed sa rcd false)).trans (engineOnly_drawnBy _ _)

theorem engineOnly_selEntries (s : State) (d : SelDesc) (l : List (Nat × Nat × Nat)) : EngineOnly s (s.selEntries d l).2 := by
  unfold State.selEntries
  refine List.foldlRecOn l _ (b := ((.ok [] : Except GougeEnd (List SelEntry)), s)) (motive := fun acc => EngineOnly s acc.2) (EngineOnly.refl s)
    fun acc hacc b _ => ?_
  dsimp only
  split
  · exact hacc
  · split
    · exact hacc
    · have hread := hacc.trans (engineOnly_gougeRead acc.2 (d.btaddr + 8 * b.1) 8)
      split <;> exact hread

theorem engineOnly_gselSelect {o : GougeOp} (s : State) (f : FmtSlot) (d : SelDesc) (part kp : Nat) (h : o.spindle < 288) :
    EngineOnly s (s.gselSelect o f d part kp).2 := by
  have hlathe : o.spindle / 8 < 36 := by omega
  unfold State.gselSelect
  extract_lets lathe n mand cands w qs r
  have hr : EngineOnly s r.2 := by
    refine List.foldlRecOn cands _ (b := ((.ok [] : Except GougeEnd (List (FVal × Nat))), s)) (motive := fun acc => EngineOnly s acc.2)
      (EngineOnly.refl s) fun acc hacc b _ => ?_
    dsimp only
    split
    · exact hacc
    · split
      · exact hacc
      · have hread := hacc.trans (engineOnly_gougeRead acc.2 (d.sumaddr + b * 2 * d.dim) (2 * d.dim))
        split
        · exact hread
        · exact (hread.trans (engineOnly_drawnBy _ _)).trans (engineOnly_countGge _ _ _ hlathe)
  split
  · exact hr
  next scored _ =>
    extract_lets ranked sel nans tie e
    have he : EngineOnly s e.2 := hr.trans (engineOnly_selEntries _ d _)
    split
    · exact he
    next es _ =>
      extract_lets es' stored scoredNow nansNow tied
      have hscored : EngineOnly s scoredNow :=
        ((he.trans (engineOnly_putBytes _ _ _)).trans (engineOnly_inc _ _ _)).trans (engineOnly_countGge _ _ _ hlathe)
      have hnans : EngineOnly s nansNow := hscored.trans (engineOnly_inc scoredNow _ _)
      unfold tied State.when
      split
      · exact (hnans.trans (engineOnly_inc _ _ 1)).trans (engineOnly_countGge _ _ _ hlathe)
      · exact hnans

theorem engineOnly_gselRun {o : GougeOp} (s : State) (f : FmtSlot) (h : o.spindle < 288) : EngineOnly s (s.gselRun o f).2 := by
  unfold State.gselRun
  extract_lets d err kp
  split
  · exact EngineOnly.refl s
  split
  · exact EngineOnly.refl s
  split
  · exact EngineOnly.refl s
  split
  · exact EngineOnly.refl s
  · exact engineOnly_gselSelect s f d _ kp h

theorem engineOnly_gougeRun {o : GougeOp} (s : State) (f : FmtSlot) (h : o.spindle < 288) : EngineOnly s (s.gougeRun o f).2 := by
  unfold State.gougeRun
  split
  · exact engineOnly_gselRun s f h
  · exact engineOnly_gsumRun s o f

theorem State.gougeRun_error {s : State} {o : GougeOp} {f : FmtSlot} (h : (selDescOf o.descBytes).error f.afmt ≠ 0) :
    s.gougeRun o f = (.status 0 o.select ((selDescOf o.descBytes).error f.afmt), s) := by
  unfold State.gougeRun
  split
  next hselect => rw [hselect, State.gselRun, if_pos h]
  next hsum => rw [Bool.not_eq_true] at hsum; rw [hsum, State.gsumRun, if_pos h]

theorem State.gougeRun_dense {s : State} {o : GougeOp} {f : FmtSlot} (hselect : o.select = true)
    (h : (selDescOf o.descBytes).error f.afmt = 0) (hdense : o.dense (selDescOf o.descBytes) = true) :
    s.gougeRun o f = (.status (((selDescOf o.descBytes).ntok + 63) / 64) true 0, s) := by
  unfold State.gougeRun
  rw [if_pos hselect, State.gselRun, if_neg (not_not.2 h), if_pos hdense]
  rfl

/-! ### The queue of a gouge (R155, R159) -/

/-- A gouge's queue as its first instruction begins. -/
def State.begun (s : State) (lathe : Nat) : List GougeOp → List GougeOp
  | [] => []
  | o :: rest =>
    (if o.begun.isSome then o else { o with begun := some (s.get (Reg.GGE_CTL_KCAP lathe), s.flag (Reg.GGE_CTL_FORCE_DENSE lathe)) }) :: rest

theorem State.gougeBegin_frame (s : State) (lathe : Nat) : s.gougeBegin lathe = { s with gge := (s.gougeBegin lathe).gge } := by
  unfold State.gougeBegin
  split
  · rfl
  · split <;> rfl

theorem State.gougeBegin_queue (s : State) (lathe : Nat) : alGet [] (s.gougeBegin lathe).gge lathe = s.begun lathe (alGet [] s.gge lathe) := by
  unfold State.gougeBegin
  split
  next hq => rw [hq]; rfl
  next o rest hq =>
    rw [hq, State.begun]
    split
    · exact hq
    · exact alGet_set _ _ _ _

theorem State.length_begun (s : State) (lathe : Nat) (q : List GougeOp) : (s.begun lathe q).length = q.length := by
  cases q with
  | nil => rfl
  | cons o rest => rfl

/-- The queue of a gouge is changed, and its first instruction begins if it has not. -/
def State.gougeQueue (s : State) (lathe : Nat) (q : List GougeOp) : State := ({ s with gge := alSet s.gge lathe q } : State).gougeBegin lathe

theorem State.gougeQueue_frame (s : State) (lathe : Nat) (q : List GougeOp) : s.gougeQueue lathe q = { s with gge := (s.gougeQueue lathe q).gge } := by
  unfold State.gougeQueue
  rw [State.gougeBegin_frame]

theorem State.spnSame_gougeQueue (s : State) (lathe : Nat) (q : List GougeOp) : SpnSame s (s.gougeQueue lathe q) := by
  rw [s.gougeQueue_frame lathe q]
  rfl

theorem State.gougeQueue_queue (s : State) (lathe : Nat) (q : List GougeOp) : alGet [] (s.gougeQueue lathe q).gge lathe = s.begun lathe q := by
  unfold State.gougeQueue
  rw [State.gougeBegin_queue, alGet_set]
  cases q with
  | nil => rfl
  | cons o rest => rfl

/-- An instruction that joins the queue is its last, and has begun only if it is its first as well. -/
theorem State.begun_append {s : State} {lathe : Nat} (q : List GougeOp) {o : GougeOp} (ho : o.begun = none) :
    ∃ b, (s.begun lathe (q ++ [o])).getLast? = some { o with begun := b }
      ∧ (q = [] → b = some (s.get (Reg.GGE_CTL_KCAP lathe), s.flag (Reg.GGE_CTL_FORCE_DENSE lathe))) := by
  cases q with
  | nil =>
    refine ⟨_, ?_, fun _ => rfl⟩
    rw [List.nil_append, State.begun, if_neg (by rw [ho]; exact Bool.false_ne_true)]
    rfl
  | cons p rest =>
    refine ⟨none, ?_, fun h => by cases h⟩
    rw [List.cons_append, State.begun, ← List.cons_append, List.getLast?_append]
    rw [← ho]
    rfl

/-! ### GSUM and GSEL at issue (R153, R155) -/

/-- A gang that waits for something else. -/
def Gang.withWait (x : Gang) (a : GangWait) : Gang := { x with wait := a }

theorem Gang.gang_withWait (a : GangWait) (x : Gang) : (x.withWait a).gang = x.gang := rfl

/-- The instruction that the gouge takes, with its descriptor as it stands. -/
def gougeOp (select : Bool) (s : State) (i : Nat) (x : Gang) (w : IWord) : GougeOp :=
  { spindle := i, gang := x.gang, pc := x.pc, select, desc := x.reg (x.lead w) w.src1,
    block := if select then 0 else x.reg (x.lead w) w.src2, fslot := w.fslot, dst := w.dst, enabled := x.enabled w,
    descBytes := s.bytes (bowlAddr i (x.reg (x.lead w) w.src1)) 64, begun := none }

section
variable {select : Bool} {s : State} {i : Nat} {x : Gang} {w : IWord} {f : FmtSlot} {off : Nat} (hf : s.fmtSlot i w.fslot = some f)
  (hoff : x.reg (x.lead w) w.src1 = off)
include hf hoff

theorem bodyGouge_taken (halign : off % 64 = 0) (hend : off + 64 ≤ bowlBytes) (hroom : (alGet [] s.gge (i / 8)).length < 3)
    (htensor : s.tensorFull i = false) (hbusy : s.bowlBusy i x.gang true (off, 64) = false) :
    bodyGouge select s i x w
      = .done ((s.gougeQueue (i / 8) (alGet [] s.gge (i / 8) ++ [gougeOp select s i x w])).updGang i x.gang fun y => y.withWait .unit) := by
  subst hoff
  unfold bodyGouge bowlOk
  simp only [htensor, hf, decide_eq_true hend, hbusy, Bool.false_eq_true, if_false, Bool.not_true, halign, ne_eq, not_true_eq_false, Bool.or_false,
    decide_eq_false (show ¬ 3 ≤ (alGet [] s.gge (i / 8)).length by omega)]
  rfl

theorem bodyGouge_wait (halign : off % 64 = 0) (hend : off + 64 ≤ bowlBytes)
    (hfull : 3 ≤ (alGet [] s.gge (i / 8)).length ∨ s.tensorFull i = true) : bodyGouge select s i x w = .wait := by
  subst hoff
  unfold bodyGouge bowlOk
  dsimp only
  by_cases htensor : s.tensorFull i = true
  · rw [if_pos htensor]
  · have hqueue := hfull.resolve_right htensor
    rw [if_neg htensor, hf]
    simp only [decide_eq_true hend, Bool.not_true, Bool.false_eq_true, if_false, halign, ne_eq, not_true_eq_false, decide_eq_true hqueue,
      Bool.true_or, if_true]

theorem bodyGouge_misaligned (htensor : s.tensorFull i = false) (hend : off + 64 ≤ bowlBytes) (halign : off % 64 ≠ 0) :
    bodyGouge select s i x w = .fault s 0x06 0 (bowlAddr i off) := by
  subst hoff
  unfold bodyGouge bowlOk
  simp only [htensor, hf, decide_eq_true hend, Bool.false_eq_true, if_false, Bool.not_true, ne_eq, halign, not_false_eq_true, if_true]

end

theorem State.tryCommit_waiting {s : State} {i g : Nat} {y : Gang} (hy : s.gang i g = some y) (hwait : y.wait ≠ .running) : s.tryCommit i g = s := by
  unfold State.tryCommit
  rw [hy]
  refine if_neg fun hready => ?_
  rw [Bool.and_eq_true, Bool.and_eq_true] at hready
  exact hwait (eq_of_beq hready.1.2)

section
variable {i : Fin 288} {g : Fin 256} {s : State} {x : Gang} {o : SpnOp} {word : Nat} {w : IWord}

/-- The gouge takes the instruction, and the gang waits behind it. -/
theorem Poised.exec_gouge {c : Instr} {lathe : Nat} {q : List GougeOp} (h : Poised s i g o x word w) (hc : exec c s = s.run fun s => s.issue i g o)
    (hacts : x.skips o w = false)
    (hbody : bodyOf o s i x w = .done ((s.gougeQueue lathe q).updGang i x.gang fun y => y.withWait .unit)) :
    ∃ t z, exec c s = .next t ∧ At t i g x (x.pc + 1) ∧ t.gang i g = some z ∧ z.wait = .unit ∧ t = { s with spn := t.spn, gge := t.gge }
      ∧ alGet [] t.gge lathe = s.begun lathe q := by
  have hg : x.gang = g := gang_number h.resident
  have hqueue := s.gougeQueue_queue lathe q
  have hspn := s.spnSame_gougeQueue lathe q
  have hframe := s.gougeQueue_frame lathe q
  generalize s.gougeQueue lathe q = v at hbody hqueue hspn hframe
  have hgang : (v.updGang i x.gang fun y => y.withWait .unit).gang i g = some (x.withWait .unit) := by
    rw [hg]
    exact gang_updGang v i g (Gang.gang_withWait .unit) ((gang_of_spn hspn i g).trans h.resident)
  obtain ⟨honly, -, hz⟩ := State.issuedHead_steps (o := o) (w := w) (word := word) (off := 1) hg hgang
  have hsame := (v.updGang i x.gang fun y => y.withWait .unit).goOn_sameThreads i x o w 1 (x.withWait .unit)
  have hcommit := State.tryCommit_waiting hz (by rw [hsame.wait]; exact GangWait.noConfusion)
  have hissue : s.issue i g o = (v.updGang i x.gang fun y => y.withWait .unit).issuedHead i x o w word 1 := by
    rw [h.issue_done hacts hbody, State.issued_eq, hg]
    rw [hg] at hcommit
    rw [hcommit, ite_self]
  generalize (v.updGang i x.gang fun y => y.withWait .unit).issuedHead i x o w word 1 = t at honly hz hissue
  have ht : t = { s with spn := t.spn, gge := v.gge } := by
    unfold SpnOnly at honly
    rw [hframe] at honly
    exact honly
  have hkeep : s.keeping t = t := by
    rw [ht]
    rfl
  have hgge : t.gge = v.gge := by rw [ht]
  refine ⟨t, _, ?_, ⟨_, hz, hsame.pc, hsame.set, hsame.active, hsame.nregs, hsame.reg, hsame.pred⟩, hz, hsame.wait, ?_, ?_⟩
  · rw [hc, State.run_running _ _ h.runs, hissue, hkeep]
  · rw [hgge]
    exact ht
  · rw [hgge]
    exact hqueue

/-- GSUM and GSEL: the command, the operation, and what the operation does. -/
theorem gougeOps_issue {e : Instr × SpnOp × Bool} (he : e ∈ [(Instr.gsum i g, SpnOp.gsum, false), (.gsel i g, .gsel, true)]) :
    (exec e.1 s = s.run fun s => s.issue i g e.2.1) ∧ bodyOf e.2.1 = bodyGouge e.2.2 := by
  obtain rfl | rfl : e = (.gsum i g, .gsum, false) ∨ e = (.gsel i g, .gsel, true) := by simpa using he
  · exact ⟨rfl, rfl⟩
  · exact ⟨rfl, rfl⟩

end

/-! ### The end of a gouge instruction (R152, R153, R157) -/

/-- Registers, the event recorder and the host's interrupts alone change. -/
def Counted (s t : State) : Prop := t = { s with regs := t.regs, ev := t.ev, host := t.host }

theorem Counted.refl (s : State) : Counted s s := rfl

theorem Counted.trans {s t u : State} (h : Counted s t) (k : Counted t u) : Counted s u := by
  unfold Counted at h k ⊢
  rw [k, h]

theorem Noted.counted {s t : State} (h : Noted s t) : Counted s t := h.1

theorem Counted.field {s t : State} (h : Counted s t) {α : Type} (f : State → α)
    (hf : ∀ r e o, f { s with regs := r, ev := e, host := o } = f s) : f t = f s := by
  unfold Counted at h
  rw [h]
  exact hf _ _ _

theorem counted_set (s : State) (l : Loc) (n : Nat) : Counted s (s.set l n) := rfl
theorem counted_inc (s : State) (l : Loc) (n : Nat) : Counted s (s.inc l n) := rfl

/-- What an ended instruction leaves in the gouge's registers. -/
def State.gougeCounted (s : State) (lathe : Nat) (o : GougeOp) (count : Nat) : State :=
  if o.select then ((s.set (Reg.GGE_STATUS_LASTCOUNT lathe) count).inc (Reg.GGE_SELECTS_SEL lathe) 1).count 1 lathe 0x001 1
  else (s.inc (Reg.GGE_SELECTS_SUMS lathe) 1).count 1 lathe 0x002 1

/-- An error stands in LASTERR. -/
def State.gougeErr (s : State) (lathe err : Nat) : State := if err ≠ 0 then s.set (Reg.GGE_STATUS_LASTERR lathe) err else s

/-- The gang of an ended instruction: it goes on, with the status in its threads. -/
def Gang.gouged (x : Gang) (o : GougeOp) (v : Nat) : Gang := (x.withWait .running).putAll o.enabled o.dst false fun _ => v

/-- The state behind an ended instruction, before its gang's group commits. -/
def State.gougeDone (u : State) (lathe : Nat) (o : GougeOp) (rest : List GougeOp) (count : Nat) (dense : Bool) (err : Nat) : State :=
  (((((u.gougeQueue lathe rest).updGang o.spindle o.gang fun y => y.withWait .running).updGang o.spindle o.gang fun y =>
    y.putAll o.enabled o.dst false fun _ => gougeStatus count dense err).gougeErr lathe err).gougeCounted lathe o count)

theorem Fin36.noteReg_status : ∀ lathe : Fin 36, noteReg (Reg.GGE_STATUS lathe) = false := by decide +kernel

section
variable {lathe : Fin 36} {s u : State} {o : GougeOp} {rest : List GougeOp} {x : Gang} {f : FmtSlot} {count : Nat} {dense : Bool} {err : Nat}

theorem counted_gougeErr (s : State) (lathe err : Nat) : Counted s (s.gougeErr lathe err) := by
  unfold State.gougeErr
  split
  · exact counted_set s _ err
  · exact Counted.refl s

theorem counted_gougeCounted (s : State) (lathe : Fin 36) (o : GougeOp) (count : Nat) : Counted s (s.gougeCounted lathe o count) := by
  have hnote (v : State) (code : Nat) : Counted v (v.count 1 lathe code 1) := (noted_count v 1 lathe code 1 lathe.isLt).counted
  unfold State.gougeCounted
  split
  · exact ((counted_set s _ count).trans (counted_inc _ _ 1)).trans (hnote _ 1)
  · exact (counted_inc s _ 1).trans (hnote _ 2)

theorem State.lasterr_gougeCounted (s : State) (lathe : Fin 36) (o : GougeOp) (count : Nat) :
    (s.gougeCounted lathe o count).get (Reg.GGE_STATUS_LASTERR lathe) = s.get (Reg.GGE_STATUS_LASTERR lathe) := by
  have hne : Reg.GGE_STATUS lathe ≠ Reg.GGE_SELECTS lathe := by unfold Reg.GGE_STATUS Reg.GGE_SELECTS; omega
  have hnote (v : State) (code : Nat) :
      (v.count 1 lathe code 1).get (Reg.GGE_STATUS_LASTERR lathe) = v.get (Reg.GGE_STATUS_LASTERR lathe) :=
    (noted_count v 1 lathe code 1 lathe.isLt).get _ (Fin36.noteReg_status lathe)
  unfold State.gougeCounted
  split
  · rw [hnote, State.inc, State.get_set_ne _ _ _ _ hne]
    exact s.get_set_beside count (.inr (.inl (show 8 + 7 ≤ 16 by decide))) (show 16 + 20 ≤ 64 by decide)
  · rw [hnote, State.inc, State.get_set_ne _ _ _ _ hne]

theorem State.lasterr_gougeErr (s : State) (lathe : Nat) (h : err ≠ 0) :
    (s.gougeErr lathe err).get (Reg.GGE_STATUS_LASTERR lathe) = err % 2 ^ (Reg.GGE_STATUS_LASTERR lathe).width := by
  unfold State.gougeErr
  rw [if_pos h]
  exact s.get_set _ err (show 8 + 7 ≤ 64 by decide)

theorem exec_gougeInstructionComplete (hrun : s.running = true) (hq : alGet [] s.gge lathe.val = o :: rest) (hx : s.gang o.spindle o.gang = some x)
    (hf : s.fmtSlot o.spindle o.fslot = some f) (hpc : x.pc = o.pc + 1) (hwait : x.wait = .unit)
    (hstatus : s.gougeRun o f = (.status count dense err, u))
    (hready : (selDescOf o.descBytes).error f.afmt ≠ 0 ∨ (o.select = true ∧ o.dense (selDescOf o.descBytes) = true)
      ∨ ((List.range 4).all s.pierUp = true ∧ ∀ y ∈ s.lm.txns, y.stage ≠ .reread)) :
    exec (.gougeInstructionComplete lathe) s = .next (s.keeping ((u.gougeDone lathe o rest count dense err).tryCommit o.spindle o.gang)) := by
  have hgo : ((selDescOf o.descBytes).error f.afmt == 0 && !(o.select && o.dense (selDescOf o.descBytes)) &&
      (!(List.range 4).all s.pierUp || s.lm.txns.any fun t => t.stage == .reread)) = false := by
    rcases hready with herr | ⟨hselect, hdense⟩ | ⟨hup, htxns⟩
    · rw [beq_false_of_ne herr]
      rfl
    · rw [hselect, hdense, Bool.and_true, Bool.not_true, Bool.and_false, Bool.false_and]
    · have hnone : (s.lm.txns.any fun t => t.stage == .reread) = false := by
        rw [List.any_eq_false]
        intro t ht hreread
        exact htxns t ht (eq_of_beq hreread)
      rw [hup, hnone, Bool.not_true, Bool.or_false, Bool.and_false]
  rw [show exec (.gougeInstructionComplete lathe) s = execGougeInstructionComplete lathe s from rfl, execGougeInstructionComplete,
    State.run_running _ _ hrun]
  dsimp only
  rw [hq]
  dsimp only
  rw [hx, hf]
  dsimp only
  rw [if_neg (by rw [not_or, not_not, not_not]; exact ⟨hpc, hwait⟩), if_neg (by rw [hgo]; exact Bool.false_ne_true), hstatus]
  rfl

/-- What an ended instruction leaves, before its gang's group commits. -/
theorem State.gougeDone_spec (hu : EngineOnly s u) (hx : s.gang o.spindle o.gang = some x) :
    (u.gougeDone lathe o rest count dense err).gang o.spindle o.gang = some (x.gouged o (gougeStatus count dense err))
      ∧ (∀ set, (u.gougeDone lathe o rest count dense err).inst set = s.inst set)
      ∧ (u.gougeDone lathe o rest count dense err).mem = u.mem
      ∧ (alGet [] (u.gougeDone lathe o rest count dense err).gge lathe.val).length = rest.length
      ∧ (err ≠ 0 → (u.gougeDone lathe o rest count dense err).get (Reg.GGE_STATUS_LASTERR lathe)
          = err % 2 ^ (Reg.GGE_STATUS_LASTERR lathe).width) := by
  have hqueue := u.gougeQueue_queue lathe rest
  have hframe := u.gougeQueue_frame lathe rest
  have hspn := hu.spnSame.trans (u.spnSame_gougeQueue lathe rest)
  unfold State.gougeDone
  generalize u.gougeQueue lathe rest = p at hqueue hframe hspn
  have hrun := gang_updGang p o.spindle o.gang (Gang.gang_withWait .running) ((gang_of_spn hspn _ _).trans hx)
  have hput (y : Gang) : (y.putAll o.enabled o.dst false fun _ => gougeStatus count dense err).gang = y.gang := y.putAll_gang _ _ _
  have hgang := gang_updGang _ o.spindle o.gang hput hrun
  generalize hb : ((p.updGang o.spindle o.gang fun y => y.withWait .running).updGang o.spindle o.gang fun y =>
    y.putAll o.enabled o.dst false fun _ => gougeStatus count dense err) = b at hgang
  have hcount := (counted_gougeErr b lathe err).trans (counted_gougeCounted (b.gougeErr lathe err) lathe o count)
  have honly : SpnOnly p b := by rw [← hb]; rfl
  refine ⟨?_, fun set => ?_, ?_, ?_, fun herr => ?_⟩
  · exact (hcount.field (·.gang o.spindle o.gang) fun _ _ _ => rfl).trans hgang
  · refine (hcount.field (·.inst set) fun _ _ _ => rfl).trans ((honly.inst set).trans (Eq.trans ?_ (hu.inst set)))
    rw [hframe]
    rfl
  · refine (hcount.field State.mem fun _ _ _ => rfl).trans (honly.stores.1.trans ?_)
    rw [hframe]
  · have hgge : b.gge = p.gge := by
      unfold SpnOnly at honly
      rw [honly]
    rw [hcount.field State.gge fun _ _ _ => rfl, hgge, hqueue, State.length_begun]
  · rw [State.lasterr_gougeCounted, State.lasterr_gougeErr b lathe herr]

theorem Gang.gouged_same (x : Gang) (o : GougeOp) (v : Nat) : x.gouged o v = { x.withWait .running with regs := (x.gouged o v).regs } :=
  regsAlone_putAll (x.withWait .running) o.enabled o.dst false fun _ => v

/-- The end of an instruction gives the status to the gang, which goes on (R152). -/
theorem exec_gouge_status (hrun : s.running = true) (hq : alGet [] s.gge lathe.val = o :: rest) (hx : s.gang o.spindle o.gang = some x)
    (hf : s.fmtSlot o.spindle o.fslot = some f) (hpc : x.pc = o.pc + 1) (hwait : x.wait = .unit) (hspindle : o.spindle < 288) (hdst : o.dst < 128)
    (hgoes : GoesOn s x) (hstatus : s.gougeRun o f = (.status count dense err, u))
    (hready : (selDescOf o.descBytes).error f.afmt ≠ 0 ∨ (o.select = true ∧ o.dense (selDescOf o.descBytes) = true)
      ∨ ((List.range 4).all s.pierUp = true ∧ ∀ y ∈ s.lm.txns, y.stage ≠ .reread)) :
    ∃ t z, exec (.gougeInstructionComplete lathe) s = .next t ∧ t.gang o.spindle o.gang = some z ∧ z.wait = .running ∧ z.pc = x.pc
      ∧ (x.held = [] → t.mem = u.mem)
      ∧ (∀ th n, n < 128 → z.reg th n = if th ∈ o.enabled ∧ n = o.dst then gougeStatus count dense err % 2 ^ 32 else x.reg th n)
      ∧ (alGet [] t.gge lathe.val).length = rest.length
      ∧ (err ≠ 0 → t.get (Reg.GGE_STATUS_LASTERR lathe) = err % 2 ^ (Reg.GGE_STATUS_LASTERR lathe).width) := by
  have hu : EngineOnly s u := by
    have hengine := engineOnly_gougeRun s f hspindle
    rwa [hstatus] at hengine
  have hexec := exec_gougeInstructionComplete hrun hq hx hf hpc hwait hstatus hready
  obtain ⟨hgang, hinst, hmem, hlen, hlast⟩ := State.gougeDone_spec (rest := rest) (count := count) (dense := dense) (err := err) (lathe := lathe) hu hx
  have hsame := x.gouged_same o (gougeStatus count dense err)
  have hset : (x.gouged o (gougeStatus count dense err)).set = x.set := by rw [hsame]; rfl
  have honward := State.tryCommit_onward hspindle hgang (hgoes.of_inst hinst hset)
  obtain ⟨z, hz, hthreads⟩ := honward.gang
  refine ⟨_, z, hexec, hz, ?_, ?_, fun hheld => ?_, fun th n hn => ?_, ?_, fun herr => ?_⟩
  · rw [hthreads.wait, hsame]
    rfl
  · rw [hthreads.pc, hsame]
    rfl
  · obtain ⟨hmemT, -, -⟩ := honward.quiet (by rw [hsame]; exact hheld)
    exact hmemT.trans hmem
  · rw [hthreads.reg]
    exact Gang.reg_putAll (x.withWait .running) o.enabled (fun _ => gougeStatus count dense err) th hn hdst
  · exact (congrArg (fun m => (alGet [] m lathe.val).length) honward.gge).trans hlen
  · have hreg := honward.regs (Reg.GGE_STATUS lathe) (Fin36.noteReg_status lathe)
      (by unfold Reg.GGE_STATUS Reg.SPN_REPLAY; have := lathe.isLt; omega)
    exact (congrArg (fun v : Word64 => bits v.toNat 8 7) hreg).trans (hlast herr)

/-- An instruction whose gang has gone only leaves the queue. -/
theorem exec_gouge_gone (hrun : s.running = true) (hq : alGet [] s.gge lathe.val = o :: rest) (hx : s.gang o.spindle o.gang = none) :
    exec (.gougeInstructionComplete lathe) s = .next (s.keeping (s.gougeQueue lathe rest)) := by
  rw [show exec (.gougeInstructionComplete lathe) s = execGougeInstructionComplete lathe s from rfl, execGougeInstructionComplete,
    State.run_running _ _ hrun]
  dsimp only
  rw [hq]
  dsimp only
  rw [hx]
  rfl

end

end Sys2Proof.Machine

/-- Settles O28: the queue that takes the instruction, and the end of an instruction, whose run changes memory and counts alone. -/
theorem gouge : Obligations.Gouge := by
  refine ⟨fun i g s x word w f => ?_, fun lathe s o rest x f hrun hq => ⟨fun hx => ?_, fun hx hf hpc hwait hspindle hdst hgoes => ?_⟩⟩
  · intro off q e he h henabled hf
    obtain ⟨hissue, hbody⟩ := gougeOps_issue (s := s) he
    have hacts : x.skips e.2.1 w = false := Gang.skips_of_enabled henabled
    refine ⟨fun halign hend hroom htensor hbusy => ?_, fun halign hend hfull => ?_, fun htensor hend halign => ?_⟩
    · obtain ⟨t, z, ht, hat, hz, hwait, hframe, hqueue⟩ := h.exec_gouge hissue hacts
        (by rw [hbody]; exact bodyGouge_taken hf rfl halign hend hroom htensor hbusy)
      obtain ⟨b, hlast, hbegun⟩ := State.begun_append (s := s) (lathe := i.val / 8) q (o := gougeOp e.2.2 s i x w) rfl
      refine ⟨t, z, { gougeOp e.2.2 s i x w with begun := b }, ht, hat, hz, hwait, hframe, ?_, ?_, rfl, rfl, rfl, rfl, rfl, rfl, rfl, rfl, hbegun⟩
      · rw [hqueue, State.length_begun, List.length_append]
        rfl
      · rw [hqueue]
        exact hlast
    · exact h.exec_wait hissue hacts (by rw [hbody]; exact bodyGouge_wait hf rfl halign hend hfull)
    · exact h.exec_fault hissue hacts (by rw [hbody]; exact bodyGouge_misaligned hf rfl htensor hend halign)
  · have hframe := s.gougeQueue_frame lathe rest
    have hkeep : s.keeping (s.gougeQueue lathe rest) = s.gougeQueue lathe rest := by
      rw [hframe]
      rfl
    refine ⟨_, exec_gouge_gone hrun hq hx, ?_, ?_⟩
    · rw [hkeep]
      exact hframe
    · rw [hkeep, State.gougeQueue_queue, State.length_begun]
  · intro d
    exact ⟨fun count dense err u hstatus hready => exec_gouge_status hrun hq hx hf hpc hwait hspindle hdst hgoes hstatus hready,
      State.gougeRun_error, State.gougeRun_dense⟩
end

section
open Sys2Proof Sys2Proof.Machine

namespace Sys2Proof.Machine

/-- The state right after reset, with the check of line 0 written into the code buffer (R167), 1 µs later. -/
def dirtyBuffer : State := { State.reset.codeWrite 0 with now := 1000 }

end Sys2Proof.Machine

/-- Refutes O32: writing an entry of the code buffer puts its dirty checks into the code line in the devices (R167), which lies in `lm`
too; the statement lets nothing of `lm` change but the code buffer. -/
theorem not_pierUpkeep : ¬ Obligations.PierUpkeep := by
  unfold Obligations.PierUpkeep
  rintro ⟨-, hcode, -⟩
  obtain ⟨-, hdue⟩ := hcode 0 dirtyBuffer (by decide +kernel)
  obtain ⟨e, he, hwritten, hage⟩ : ∃ e, dirtyBuffer.codeEntry (31 * 0) = some e ∧ e.written ≠ 0 ∧ e.dirtyAt + 1000 ≤ dirtyBuffer.now :=
    ⟨_, rfl, by decide +kernel, by decide +kernel⟩
  obtain ⟨t, ht, -, hlm, -⟩ := hdue e he hwritten hage
  obtain rfl := Host.Outcome.next.inj ht
  exact absurd (congrArg (fun lm : MemState => lm.checks.length) hlm) (by decide +kernel)
end

section
open Sys2Proof Sys2Proof.Machine

namespace Sys2Proof.Machine

/-! ### What the code buffer and the devices leave of the piers' state (R167, R185) -/

/-- Nothing of the piers' state changes but the code buffer, the checks in the devices and the open rows. -/
def DevicesOnly (s t : State) : Prop := t.lm = { s.lm with code := t.lm.code, checks := t.lm.checks, rows := t.lm.rows }

theorem DevicesOnly.trans {s t u : State} (h : DevicesOnly s t) (k : DevicesOnly t u) : DevicesOnly s u := by
  unfold DevicesOnly at h k ⊢
  rw [k, h]

theorem devicesOnly_of_lm {s t : State} (h : t.lm = s.lm) : DevicesOnly s t := by
  unfold DevicesOnly
  rw [h]

theorem Noted.devicesOnly {s t : State} (h : Noted s t) : DevicesOnly s t := devicesOnly_of_lm (h.field State.lm fun _ _ _ => rfl)

theorem devicesOnly_countQ (s : State) (l code : Nat) (v : Nat → Nat) : DevicesOnly s (s.countQ 2 (pierOf l) code v) :=
  (noted_countQ s 2 (pierOf l) code v (pierOf_lt l)).devicesOnly

theorem devicesOnly_parts (s : State) (code : List (Nat × List CodeEntry)) (checks rows : List (Nat × Nat)) :
    DevicesOnly s { s with lm := { s.lm with code := code, checks := checks, rows := rows } } := rfl

theorem devicesOnly_codeStore (s : State) (e : CodeEntry) : DevicesOnly s (s.codeStore e) := by
  unfold State.codeStore
  dsimp only
  exact devicesOnly_parts s s.lm.code _ s.lm.rows

theorem devicesOnly_count (s : State) (l code v : Nat) : DevicesOnly s (s.count 2 (pierOf l) code v) := devicesOnly_countQ s l code _

theorem devicesOnly_codeFlush (s : State) (e : CodeEntry) : DevicesOnly s (s.codeFlush e) := by
  unfold State.codeFlush
  exact (devicesOnly_codeStore s e).trans (devicesOnly_count _ _ _ _)

theorem devicesOnly_codePut (s : State) (e : CodeEntry) : DevicesOnly s (s.codePut e) := by
  have hentered (es : List (Nat × List CodeEntry)) : DevicesOnly s { s with lm := { s.lm with code := es } } :=
    devicesOnly_parts s es s.lm.checks s.lm.rows
  unfold State.codePut
  dsimp only
  split
  · exact (hentered _).trans (devicesOnly_codeFlush _ _)
  · exact hentered _

theorem devicesOnly_codeWrite (s : State) (l : Nat) : DevicesOnly s (s.codeWrite l) := by
  unfold State.codeWrite
  dsimp only
  split
  · exact (devicesOnly_codeStore s _).trans (devicesOnly_codePut _ _)
  · exact devicesOnly_codePut s _

theorem lm_pierWake (s : State) (p : Nat) : (s.pierWake p).lm = s.lm := (alike_pierWake s p).lm

theorem devicesOnly_openRow (s : State) (l : Nat) : DevicesOnly s (s.openRow l) := by
  unfold State.openRow
  exact (devicesOnly_parts s s.lm.code s.lm.checks _).trans (devicesOnly_countQ _ l _ _)

theorem devicesOnly_dramFetch (s : State) (l cmask : Nat) : DevicesOnly s (s.dramFetch l cmask) := by
  unfold State.dramFetch State.codeRead
  exact (((devicesOnly_of_lm (lm_pierWake s _)).trans (devicesOnly_openRow _ l)).trans (devicesOnly_countQ _ l _ _)).trans (devicesOnly_codePut _ _)

/-- The line that goes to DRAM leaves the write buffer (R176). -/
theorem wbuf_dramWrite (s : State) (l : Nat) : (s.dramWrite l).lm.wbuf = s.lm.wbuf.filter (· != l) := by
  have honly (u : State) : DevicesOnly u ((((u.pierWake (pierOf l)).openRow l).countQ 2 (pierOf l) 0x002 (pkgQual l 1)).codeWrite l) :=
    (((devicesOnly_of_lm (lm_pierWake u _)).trans (devicesOnly_openRow _ l)).trans (devicesOnly_countQ _ l _ _)).trans (devicesOnly_codeWrite _ l)
  unfold State.dramWrite
  exact congrArg MemState.wbuf (honly _)

theorem writePending_of_wbuf {s t : State} (h : t.lm.wbuf = s.lm.wbuf) (l : Nat) : t.writePending l = s.writePending l := by
  unfold State.writePending
  rw [h]

theorem cached_of_lc {s t : State} (h : t.lm.lc = s.lm.lc) (l : Nat) : t.cached l = s.cached l := by
  unfold State.cached State.lcSet
  rw [h]

theorem writePending_dramWrite_ne {s : State} {l k : Nat} (h : s.writePending l = true) (hne : l ≠ k) : (s.dramWrite k).writePending l = true := by
  unfold State.writePending at h ⊢
  rw [wbuf_dramWrite, List.contains_eq_mem, decide_eq_true_eq, List.mem_filter]
  exact ⟨by simpa using h, by simpa using hne⟩

/-! ### Fills leave the line's own DRAM write pending (R176, R577) -/

/-- The ways of the set of a line that the slice does not hold hold other lines. -/
theorem way_ne_of_not_cached {s : State} {l k w : Nat} (h : s.cached l = false) (hw : (s.lcSet (lcPlace l)).ways.getD w .empty = .localLine k) :
    l ≠ k := by
  rintro rfl
  unfold State.cached LcSet.find at h
  rw [Option.isSome_eq_false_iff, Option.isNone_iff_eq_none, List.findIdx?_eq_none_iff] at h
  rw [List.getD_eq_getElem?_getD] at hw
  cases hget : (s.lcSet (lcPlace l)).ways[w]? with
  | none =>
    rw [hget] at hw
    cases hw
  | some x =>
    rw [hget, Option.getD_some] at hw
    have hlocal := h x (List.mem_of_getElem? hget)
    rw [hw] at hlocal
    simp [Way.isLocal] at hlocal

theorem writePending_installLocal {s : State} {l : Nat} (h : s.writePending l = true) : (s.installLocal l).writePending l = true := by
  unfold State.installLocal
  split
  · exact h
  next hcached =>
    have hplace : ((s.fillPlace (lcPlace l) false).2).writePending l = true := by
      unfold State.fillPlace
      split
      · exact h
      · dsimp only
        split
        next k hk => exact writePending_dramWrite_ne h (way_ne_of_not_cached (Bool.eq_false_iff.2 hcached) hk)
        · exact h
    exact hplace

theorem writePending_writeAlloc {s : State} {l : Nat} (nal : Bool) (h : s.writePending l = true) : (s.writeAlloc l nal).writePending l = true := by
  unfold State.writeAlloc
  split
  · exact h
  · split
    · exact h
    · exact writePending_installLocal h

theorem writePending_lineStore (s : State) (l off : Nat) (d : List Byte) : (s.lineStore l off d).writePending l = true := by
  unfold State.lineStore State.writePending
  dsimp only
  split
  next h => exact h
  · simp

/-! ### Bytes of a line -/

theorem line_base (a : Nat) : 64 * lineOf a + a % 64 = a := by unfold lineOf; omega

/-- A piece of a line as the bytes at its address. -/
theorem State.slice_lineBytes (s : State) {a n : Nat} (h : a % 64 + n ≤ 64) : slice (s.lineBytes (lineOf a)) (a % 64) n = s.bytes a n := by
  have hbase := line_base a
  unfold slice State.lineBytes State.bytes
  refine List.ext_getElem (by simp; omega) fun k _ _ => ?_
  rw [List.getElem_take, List.getElem_drop, List.getElem_map, List.getElem_map, List.getElem_range, List.getElem_range, ← Nat.add_assoc, hbase]

theorem LmStep.bytes {s t : State} (h : LmStep s t) (a n : Nat) : t.bytes a n = s.bytes a n :=
  List.map_congr_left fun _ _ => h.byte _

theorem LmStep.lineBytes {s t : State} (h : LmStep s t) (l : Nat) : t.lineBytes l = s.lineBytes l := h.bytes _ _

theorem LmStep.memSame {s t : State} (h : LmStep s t) : MemSame s t := h.byte

/-! ### Transactions -/

/-- A list in which the elements that a key names are changed: the first of them is found changed. -/
theorem find?_map_if {α : Type} {key : α → Nat} {id : Nat} {f : α → α} (hf : ∀ x, key (f x) = key x) (l : List α) :
    (l.map fun x => if key x = id then f x else x).find? (fun x => key x == id) = (l.find? fun x => key x == id).map f := by
  induction l with
  | nil => rfl
  | cons x l ih =>
    rw [List.map_cons, List.find?_cons, List.find?_cons]
    by_cases hx : key x = id
    · rw [if_pos hx, hf, hx, beq_self_eq_true]
      rfl
    · rw [if_neg hx, beq_false_of_ne hx]
      exact ih

theorem State.txn_stageTxn (s : State) (id : Nat) (st : TxnStage) : (s.stageTxn id st).txn id = (s.txn id).map fun y => { y with stage := st } :=
  find?_map_if (key := Txn.id) (f := fun y => { y with stage := st }) (fun _ => rfl) s.lm.txns

theorem State.txn_txnRefill (s : State) (id : Nat) : (s.txnRefill id).txn id = (s.txn id).map fun y => { y with nal := false } :=
  find?_map_if (key := Txn.id) (f := fun y => { y with nal := false }) (fun _ => rfl) s.lm.txns

theorem State.txn_id {s : State} {id : Nat} {y : Txn} (h : s.txn id = some y) : y.id = id :=
  beq_iff_eq.1 (List.find?_some (p := fun y : Txn => y.id == id) h)

theorem counted_sat (s : State) (l : Loc) (n : Nat) : Counted s (s.sat l n) := counted_set s l _

theorem Counted.ite {s t u : State} {c : Prop} [Decidable c] (h : Counted s t) (k : Counted s u) : Counted s (if c then t else u) := by
  split <;> assumption

theorem counted_histEnter (s : State) (h v : Nat) : Counted s (s.histEnter h v) := by
  unfold State.histEnter
  split
  · exact (counted_sat s _ 1).trans (counted_sat _ _ 1)
  · exact Counted.refl s

/-- A transaction that has had its answer: it has left the pier, and what is counted and the spindles alone may have changed beside. -/
def TxnGone (y : Txn) (s t : State) : Prop :=
  t = { s with regs := t.regs, ev := t.ev, host := t.host, spn := t.spn, lm := { s.lm with txns := s.lm.txns.filter (·.id != y.id) } }

theorem State.dropTxn_gone (s : State) (y : Txn) : TxnGone y s (s.dropTxn y) ∧ SpnSame s (s.dropTxn y) := by
  have hgone {u v : State} (hu : u = { s with lm := { s.lm with txns := s.lm.txns.filter (·.id != y.id) } }) (h : Counted u v) :
      TxnGone y s v ∧ SpnSame s v := by
    subst hu
    unfold Counted at h
    rw [h]
    exact ⟨rfl, rfl⟩
  unfold State.dropTxn
  exact hgone rfl (Counted.ite (Counted.refl _) (counted_histEnter _ _ _))

section
variable {y : Txn} {s t : State}

theorem TxnGone.onward {u : State} (h : TxnGone y s t) (k : SpnOnly t u) : TxnGone y s u := by
  unfold TxnGone SpnOnly at *
  rw [k, h]

theorem TxnGone.memSame (h : TxnGone y s t) : MemSame s t := fun a => by rw [h]; rfl
theorem TxnGone.hds (h : TxnGone y s t) : t.hds = s.hds := by rw [h]
theorem TxnGone.rtr (h : TxnGone y s t) : t.rtr = s.rtr := by rw [h]
theorem TxnGone.writePending (h : TxnGone y s t) (l : Nat) : t.writePending l = s.writePending l := writePending_of_wbuf (by rw [h]) l

theorem TxnGone.txn (h : TxnGone y s t) : t.txn y.id = none := by
  have htxns : t.lm.txns = s.lm.txns.filter (·.id != y.id) := by rw [h]
  unfold State.txn
  rw [htxns, List.find?_filter, List.find?_eq_none]
  simp

end

/-- A load's answer without an error gives its thread the value (R99). -/
theorem State.txnAnswer_load (s : State) {y : Txn} {i g num th : Nat} (howner : y.owner = .load i g num th) (data : List Byte) :
    TxnGone y s (s.txnAnswer y 0 data) ∧ LoadHas i g num th (.value (leNat data)) s (s.txnAnswer y 0 data) := by
  obtain ⟨hgone, hspn⟩ := s.dropTxn_gone y
  have heq : s.txnAnswer y 0 data = (s.dropTxn y).loadResult i g num th (.value (leNat data)) := by
    unfold State.txnAnswer
    rw [howner]
    rfl
  rw [heq]
  exact ⟨hgone.onward (spnOnly_updGang _ i g _), (loadHas_loadResult _ i g num th _).of_spn hspn rfl⟩

/-- A store's answer without an error changes no spindle. -/
theorem State.txnAnswer_store (s : State) {y : Txn} {i g : Nat} {pc : Int} (howner : y.owner = .store i g pc) (data : List Byte) :
    TxnGone y s (s.txnAnswer y 0 data) ∧ SpnSame s (s.txnAnswer y 0 data) := by
  have heq : s.txnAnswer y 0 data = s.dropTxn y := by
    unfold State.txnAnswer
    rw [howner]
    rfl
  rw [heq]
  exact s.dropTxn_gone y

end Sys2Proof.Machine
end

section
open Sys2Proof Sys2Proof.Machine

namespace Sys2Proof.Machine

/-! ### A transaction at its home slice (R175 to R180) -/

/-- The transaction as it goes on: one whose line an array error dropped fills it again whatever its NAL (R180). -/
def Txn.met (y : Txn) (refill : Bool) : Txn := if refill then { y with nal := false } else y

theorem Txn.met_eq (y : Txn) (refill : Bool) : y.met refill = { y with nal := y.nal && !refill } := by
  cases refill <;> simp [Txn.met]

/-- The state as the transaction meets it: an array error acts on the line (R180). -/
def State.sliceMet (s : State) (id l ecc : Nat) : State := (s.lcError l ecc).when (s.cached l && ecc == 2) fun s => s.txnRefill id

/-- What the slice does with the transaction that it takes. -/
def State.sliceTakes (s : State) (id : Nat) (t : Txn) : State :=
  if s.cached (lineOf t.addr) then
    match t.op with
    | .write _ => s.txnServe t []
    | .read _ => (s.lineHit (lineOf t.addr) (!t.nal)).txnServe t (s.lineBytes (lineOf t.addr))
    | .atomic _ _ _ => (s.lineHit (lineOf t.addr) true).txnServe t (s.lineBytes (lineOf t.addr))
  else
    let s := s.count 2 (pierOf (lineOf t.addr)) 0x004 1
    if s.writePending (lineOf t.addr) then
      match t.op with
      | .write _ => s.txnServe t []
      | _ => (if t.allocates then s.installLocal (lineOf t.addr) else s).txnServe t (s.lineBytes (lineOf t.addr))
    else match t.op with
      | .write _ => s.stageTxn id .merge
      | _ => s.stageTxn id .dram

section
variable {s : State} {id : Nat} {ecc : Fin 3} {y : Txn}

theorem exec_homeSliceAccess_waits (hrun : s.running = true) (hy : s.txn id = some y)
    (h : y.stage ≠ .atSlice ∨ s.txnHeld y = true ∨ s.lineUp (lineOf y.addr) = false ∨ s.txnFits y = false) :
    exec (.homeSliceAccess id ecc) s = .next s := by
  rw [show exec (.homeSliceAccess id ecc) s = execHomeSliceAccess id ecc s from rfl, execHomeSliceAccess, State.run_running _ _ hrun, hy]
  dsimp only
  rw [if_pos (by simpa using h)]
  rfl

theorem exec_homeSliceAccess_takes (hrun : s.running = true) (hy : s.txn id = some y) (hstage : y.stage = .atSlice)
    (hheld : s.txnHeld y = false) (hup : s.lineUp (lineOf y.addr) = true) (hfits : s.txnFits y = true) :
    exec (.homeSliceAccess id ecc) s =
      .next (s.keeping ((s.sliceMet id (lineOf y.addr) ecc).sliceTakes id (y.met (s.cached (lineOf y.addr) && ecc.val == 2)))) := by
  rw [show exec (.homeSliceAccess id ecc) s = execHomeSliceAccess id ecc s from rfl, execHomeSliceAccess, State.run_running _ _ hrun, hy]
  dsimp only
  rw [if_neg (by simp [hstage, hheld, hup, hfits])]
  unfold State.sliceMet
  cases s.cached (lineOf y.addr) && ecc.val == 2 <;> rfl

end

end Sys2Proof.Machine
end

section
open Sys2Proof Sys2Proof.Machine

namespace Sys2Proof.Machine

/-! ### The array error that the transaction meets -/

theorem State.lm_wayError_single (s : State) (p w : Nat) {ecc : Nat} (h : ecc < 2) : (s.wayError p w ecc).lm = s.lm := by
  match ecc, h with
  | 0, _ => rfl
  | 1, _ => exact s.lm_sat _ 1

theorem State.lm_wayError_double (s : State) (p w : Nat) :
    (s.wayError p w 2).lm = (s.setLcSet p { s.lcSet p with ways := (s.lcSet p).ways.set w .empty }).lm := State.lm_sat _ _ 1

/-- An array error changes nothing of the piers' state but the landing cache. -/
theorem lm_lcError (s : State) (l : Nat) (ecc : Fin 3) : (s.lcError l ecc).lm = { s.lm with lc := (s.lcError l ecc).lm.lc } := by
  unfold State.lcError
  split
  next w _ =>
    match ecc with
    | 0 | 1 => rw [s.lm_wayError_single _ w (by decide)]
    | 2 => rw [show (s.wayError (lcPlace l) w ((2 : Fin 3) : Nat)).lm = _ from s.lm_wayError_double (lcPlace l) w]; rfl
  · rfl

theorem cached_lcError_single {s : State} {l ecc : Nat} (h : ecc < 2) : (s.lcError l ecc).cached l = s.cached l := by
  refine cached_of_lc ?_ l
  unfold State.lcError
  split
  · rw [s.lm_wayError_single _ _ h]
  · rfl

/-- A double-bit error drops a line that the slice holds in one way. -/
theorem cached_lcError_double {s : State} {l : Nat} (hone : ((s.lcSet (lcPlace l)).ways.filter (Way.isLocal l)).length ≤ 1) :
    (s.lcError l 2).cached l = false := by
  unfold State.lcError
  split
  next w hw =>
    obtain ⟨hlt, hlocal, -⟩ := List.findIdx?_eq_some_iff_getElem.1 hw
    have hset : (s.wayError (lcPlace l) w 2).lcSet (lcPlace l)
        = { s.lcSet (lcPlace l) with ways := (s.lcSet (lcPlace l)).ways.set w .empty } := by
      unfold State.lcSet
      rw [s.lm_wayError_double]
      exact smapGet_set _ _ _ _
    have hcount : ((s.lcSet (lcPlace l)).ways.set w .empty).countP (Way.isLocal l) = 0 := by
      rw [List.countP_set hlt, if_pos hlocal, List.countP_eq_length_filter, if_neg (by simp [Way.isLocal])]
      omega
    unfold State.cached LcSet.find
    rw [hset, Option.isSome_eq_false_iff, Option.isNone_iff_eq_none, List.findIdx?_eq_none_iff]
    exact fun x hx => Bool.eq_false_iff.2 (List.countP_eq_zero.1 hcount x hx)
  next hnone =>
    unfold State.cached
    rw [hnone]
    rfl

theorem lmStep_sliceMet (s : State) (id l ecc : Nat) : LmStep s (s.sliceMet id l ecc) :=
  (lmStep_lcError s l ecc).when _ _ (lmStep_lm _ _)

theorem lm_when_txnRefill (s : State) (c : Bool) (id : Nat) :
    (s.when c fun s => s.txnRefill id).lm.wbuf = s.lm.wbuf ∧ (s.when c fun s => s.txnRefill id).lm.lc = s.lm.lc := by
  cases c <;> exact ⟨rfl, rfl⟩

theorem writePending_sliceMet (s : State) (id l k : Nat) (ecc : Fin 3) : (s.sliceMet id l ecc).writePending k = s.writePending k :=
  writePending_of_wbuf ((lm_when_txnRefill _ _ id).1.trans (by rw [lm_lcError])) k

theorem cached_sliceMet (s : State) (id l ecc k : Nat) : (s.sliceMet id l ecc).cached k = (s.lcError l ecc).cached k :=
  cached_of_lc (lm_when_txnRefill _ _ id).2 k

/-! ### A transaction that is served at once (R175, R178, R179) -/

section
variable {s : State} {y : Txn} {data : List Byte}

theorem State.txnServe_read {n : Nat} (h : y.op = .read n) : s.txnServe y data = s.txnAnswer y 0 (slice data (y.addr % 64) n) := by
  unfold State.txnServe
  rw [h]

theorem State.txnServe_write {d : List Byte} (h : y.op = .write d) :
    s.txnServe y data = ((s.lineStore (lineOf y.addr) (y.addr % 64) d).writeAlloc (lineOf y.addr) y.nal).txnAnswer y 0 [] := by
  unfold State.txnServe
  rw [h]

theorem State.txnServe_atomic {op : AtomicOp} {p q : Nat} (h : y.op = .atomic op p q) :
    s.txnServe y data = (s.lineStore (lineOf y.addr) (y.addr % 64) (leBytes (atomicWidth op)
        (atomicNew op (leAt data (y.addr % 64) (atomicWidth op)) p q))).txnAnswer y 0
      (leBytes (atomicWidth op) (leAt data (y.addr % 64) (atomicWidth op))) := by
  unfold State.txnServe
  rw [h]

/-- What a store at a transaction's address leaves. -/
theorem State.lineStore_at (s : State) (a : Nat) (d : List Byte) :
    Stored a d (s.lineStore (lineOf a) (a % 64) d)
      ∧ ∀ b, b < a ∨ a + d.length ≤ b → (s.lineStore (lineOf a) (a % 64) d).byte b = s.byte b := by
  have hstored := stored_lineStore s (lineOf a) (a % 64) d
  have hbyte := (s.lineStore_step (lineOf a) (a % 64) d).2
  rw [line_base] at hstored hbyte
  exact ⟨hstored, fun b hb => (hbyte b).trans (s.byte_putBytes_ne d hb)⟩

/-- The write of a transaction stores its bytes and no others, and waits for the line's DRAM write (R176). -/
theorem State.txnServe_write_spec {d : List Byte} {i g : Nat} {pc : Int} (hop : y.op = .write d) (howner : y.owner = .store i g pc) :
    (s.txnServe y data).txn y.id = none ∧ Stored y.addr d (s.txnServe y data)
      ∧ (∀ a, a < y.addr ∨ y.addr + d.length ≤ a → (s.txnServe y data).byte a = s.byte a)
      ∧ (s.txnServe y data).writePending (lineOf y.addr) = true ∧ SpnSame s (s.txnServe y data) := by
  obtain ⟨hstored, hbyte⟩ := s.lineStore_at y.addr d
  have hstep := (s.lineStore_step (lineOf y.addr) (y.addr % 64) d).1
  have hpending := writePending_lineStore s (lineOf y.addr) (y.addr % 64) d
  rw [State.txnServe_write hop]
  generalize s.lineStore (lineOf y.addr) (y.addr % 64) d = u at hstored hbyte hstep hpending
  have halloc := lmStep_writeAlloc u (lineOf y.addr) y.nal
  obtain ⟨hgone, hspn⟩ := (u.writeAlloc (lineOf y.addr) y.nal).txnAnswer_store howner []
  exact ⟨hgone.txn, fun k hk => (hgone.memSame _).trans ((hstored.lmStep halloc) k hk),
    fun a ha => (hgone.memSame a).trans ((halloc.byte a).trans (hbyte a ha)),
    (hgone.writePending _).trans (writePending_writeAlloc y.nal hpending), (hstep.spnSame.trans halloc.spnSame).trans hspn⟩

/-- The atomic of a transaction gives the old value, and stores the new one (R178). -/
theorem State.txnServe_atomic_spec {op : AtomicOp} {p q i g num th : Nat} (hop : y.op = .atomic op p q) (howner : y.owner = .load i g num th)
    (hdata : leAt data (y.addr % 64) (atomicWidth op) = s.num y.addr (atomicWidth op)) :
    (s.txnServe y data).txn y.id = none ∧ LoadHas i g num th (.value (s.num y.addr (atomicWidth op))) s (s.txnServe y data)
      ∧ (s.txnServe y data).num y.addr (atomicWidth op) = atomicNew op (s.num y.addr (atomicWidth op)) p q
      ∧ (∀ a, a < y.addr ∨ y.addr + atomicWidth op ≤ a → (s.txnServe y data).byte a = s.byte a)
      ∧ (s.txnServe y data).writePending (lineOf y.addr) = true := by
  have hold := s.num_lt y.addr (atomicWidth op)
  rw [State.txnServe_atomic hop, hdata]
  generalize hnew : leBytes (atomicWidth op) (atomicNew op (s.num y.addr (atomicWidth op)) p q) = d
  have hlen : d.length = atomicWidth op := by rw [← hnew, length_leBytes]
  obtain ⟨hstored, hbyte⟩ := s.lineStore_at y.addr d
  have hstep := (s.lineStore_step (lineOf y.addr) (y.addr % 64) d).1
  have hpending := writePending_lineStore s (lineOf y.addr) (y.addr % 64) d
  generalize s.lineStore (lineOf y.addr) (y.addr % 64) d = u at hstored hbyte hstep hpending
  obtain ⟨hgone, hload⟩ := u.txnAnswer_load howner (leBytes (atomicWidth op) (s.num y.addr (atomicWidth op)))
  rw [leNat_leBytes, Nat.mod_eq_of_lt hold] at hload
  refine ⟨hgone.txn, hload.of_spn hstep.spnSame rfl, ?_, fun a ha => (hgone.memSame a).trans (hbyte a (by rwa [hlen])), (hgone.writePending _).trans hpending⟩
  subst hnew
  exact Stored.num (fun k hk => (hgone.memSame _).trans (hstored k hk)) (atomicNew_lt op p q hold)

/-- The read of a transaction gives the bytes at its address. -/
theorem State.txnServe_read_spec {n i g num th : Nat} (hop : y.op = .read n) (howner : y.owner = .load i g num th) :
    TxnGone y s (s.txnServe y data) ∧ LoadHas i g num th (.value (leNat (slice data (y.addr % 64) n))) s (s.txnServe y data) := by
  rw [State.txnServe_read hop]
  exact s.txnAnswer_load howner _

end

/-- A line that the slice holds, or whose DRAM write is pending, is served as it stands (R175, R176). -/
theorem State.sliceTakes_served {s : State} {y : Txn} (id : Nat)
    (h : s.cached (lineOf y.addr) = true ∨ s.writePending (lineOf y.addr) = true) :
    ∃ u data, LmStep s u ∧ s.sliceTakes id y = u.txnServe y data ∧ ((∀ d, y.op ≠ .write d) → data = s.lineBytes (lineOf y.addr)) := by
  have hmiss := lmStep_count s (lineOf y.addr) 0x004 1
  unfold State.sliceTakes
  split
  · split
    next d hop => exact ⟨s, [], LmStep.refl s, rfl, fun hw => absurd hop (hw d)⟩
    · exact ⟨_, _, lmStep_lineHit s _ _, rfl, fun _ => rfl⟩
    · exact ⟨_, _, lmStep_lineHit s _ _, rfl, fun _ => rfl⟩
  next hcached =>
    have hpending : (s.count 2 (pierOf (lineOf y.addr)) 0x004 1).writePending (lineOf y.addr) = true :=
      ((alike_count s _ _ _).writePending _).trans (h.resolve_left hcached)
    dsimp only
    rw [if_pos hpending]
    split
    next d hop => exact ⟨_, [], hmiss, rfl, fun hw => absurd hop (hw d)⟩
    · exact ⟨_, _, hmiss.trans (LmStep.ite (lmStep_installLocal _ _) (LmStep.refl _)), rfl, fun _ => hmiss.lineBytes _⟩

/-- A line that the slice does not hold, and whose DRAM write is not pending, comes from DRAM: the transaction moves on (R172, R175). -/
theorem State.sliceTakes_missed {s : State} {y : Txn} (id : Nat)
    (hcached : s.cached (lineOf y.addr) = false) (hpending : s.writePending (lineOf y.addr) = false) :
    s.sliceTakes id y = (s.count 2 (pierOf (lineOf y.addr)) 0x004 1).stageTxn id (match y.op with | .write _ => .merge | _ => .dram) := by
  have hmiss : (s.count 2 (pierOf (lineOf y.addr)) 0x004 1).writePending (lineOf y.addr) = false :=
    ((alike_count s _ _ _).writePending _).trans hpending
  unfold State.sliceTakes
  rw [if_neg (by rw [hcached]; exact Bool.false_ne_true)]
  dsimp only
  rw [if_neg (by rw [hmiss]; exact Bool.false_ne_true)]
  cases y.op <;> rfl

end Sys2Proof.Machine
end

section
open Sys2Proof Sys2Proof.Machine

namespace Sys2Proof.Machine

/-! ### The array error's count (R180) -/

/-- The registers of a pier below its counter bank are none that counting or logging changes. -/
theorem noteReg_pier {p off : Nat} (hp : p < 4) (hoff : off < 0x800000) : noteReg (0x7f080000000 + p * 0x1000000 + off) = false := by
  rw [Bool.eq_false_iff]
  unfold noteReg Reg.AON_EVINTAKE
  simp only [ne_eq, Bool.or_eq_true, decide_eq_true_eq]
  omega

theorem noteReg_lcErr (l : Nat) : noteReg (Reg.PIER_LC_ERR (pierOf l)) = false := by
  have h := noteReg_pier (off := 0x38) (pierOf_lt l) (by decide)
  rwa [show 0x7f080000000 + pierOf l * 0x1000000 + 0x38 = Reg.PIER_LC_ERR (pierOf l) by unfold Reg.PIER_LC_ERR; omega] at h

theorem uncorr_lcError_double {s : State} {l : Nat} (h : s.cached l = true) :
    (s.lcError l 2).get (Reg.PIER_LC_ERR_UNCORR (pierOf l))
      = min (s.get (Reg.PIER_LC_ERR_UNCORR (pierOf l)) + 1) (2 ^ (Reg.PIER_LC_ERR_UNCORR (pierOf l)).width - 1) := by
  obtain ⟨w, hw⟩ := Option.isSome_iff_exists.1 h
  unfold State.lcError
  rw [hw]
  unfold State.wayError
  rw [lcPlace_pier]
  exact State.get_sat _ _ 1 (Nat.le_of_ble_eq_true rfl)

theorem State.get_when_txnRefill (s : State) (c : Bool) (id : Nat) (l : Loc) : (s.when c fun s => s.txnRefill id).get l = s.get l := by
  cases c <;> rfl

theorem txn_sliceMet {s : State} {id : Nat} {y : Txn} (hy : s.txn id = some y) (l : Nat) (ecc : Fin 3) :
    (s.sliceMet id l ecc).txn id = some (y.met (s.cached l && ecc.val == 2)) := by
  have herror : (s.lcError l ecc).txn id = some y := by
    unfold State.txn at hy ⊢
    rw [lm_lcError]
    exact hy
  unfold State.sliceMet
  cases s.cached l && ecc.val == 2
  · exact herror
  · exact (State.txn_txnRefill _ id).trans (by rw [herror]; rfl)

section
variable (y : Txn) (c : Bool)

@[simp] theorem Txn.id_met : (y.met c).id = y.id := by rw [y.met_eq]
@[simp] theorem Txn.owner_met : (y.met c).owner = y.owner := by rw [y.met_eq]
@[simp] theorem Txn.addr_met : (y.met c).addr = y.addr := by rw [y.met_eq]
@[simp] theorem Txn.op_met : (y.met c).op = y.op := by rw [y.met_eq]

end

/-- A transaction whose line the slice does not hold goes on to its next stage (R172, R175). -/
theorem State.sliceTakes_next {s : State} {y : Txn} {id : Nat} (hy : s.txn id = some y)
    (hcached : s.cached (lineOf y.addr) = false) (hpending : s.writePending (lineOf y.addr) = false) :
    LmStep s (s.sliceTakes id y) ∧ (s.sliceTakes id y).cached (lineOf y.addr) = false
      ∧ (s.sliceTakes id y).txn id = some { y with stage := (match y.op with | .write _ => .merge | _ => .dram) }
      ∧ (s.sliceTakes id y).get (Reg.PIER_LC_ERR_UNCORR (pierOf (lineOf y.addr))) = s.get (Reg.PIER_LC_ERR_UNCORR (pierOf (lineOf y.addr))) := by
  have hnoted := noted_count s 2 (pierOf (lineOf y.addr)) 0x004 1 (pierOf_lt _)
  have hcount := lmStep_count s (lineOf y.addr) 0x004 1
  have halike := alike_count s (lineOf y.addr) 0x004 1
  rw [State.sliceTakes_missed id hcached hpending]
  generalize s.count 2 (pierOf (lineOf y.addr)) 0x004 1 = u at hnoted hcount halike
  refine ⟨hcount.trans (lmStep_lm u _), (halike.cached _).trans hcached, ?_, hnoted.get (Reg.PIER_LC_ERR_UNCORR _) (noteReg_lcErr _)⟩
  have htxn : u.txn id = some y := by
    unfold State.txn at hy ⊢
    rw [halike.lm, hy]
  rw [State.txn_stageTxn, htxn]
  rfl

section
variable {s : State} {ecc : Fin 3} {y : Txn} (hrun : s.running = true) (hy : s.txn y.id = some y) (hstage : y.stage = .atSlice)
  (hheld : s.txnHeld y = false) (hup : s.lineUp (lineOf y.addr) = true) (hfits : s.txnFits y = true)
include hrun hy hstage hheld hup hfits

/-- The transaction is served at once, with the bytes that the line holds. -/
theorem exec_homeSliceAccess_serves (h : (ecc.val < 2 ∧ s.cached (lineOf y.addr) = true) ∨ s.writePending (lineOf y.addr) = true) :
    ∃ u refill data, LmStep s u ∧ exec (.homeSliceAccess y.id ecc) s = .next (s.keeping (u.txnServe (y.met refill) data))
      ∧ ((∀ d, y.op ≠ .write d) → ∀ n, y.addr % 64 + n ≤ 64 → slice data (y.addr % 64) n = s.bytes y.addr n) := by
  have hexec := exec_homeSliceAccess_takes (ecc := ecc) hrun hy hstage hheld hup hfits
  have hmet := lmStep_sliceMet s y.id (lineOf y.addr) ecc
  generalize (s.cached (lineOf y.addr) && ecc.val == 2) = refill at hexec
  obtain ⟨u, data, hstep, hserve, hdata⟩ :=
    State.sliceTakes_served (s := s.sliceMet y.id (lineOf y.addr) ecc) (y := y.met refill) y.id (by
      rw [Txn.addr_met, writePending_sliceMet, cached_sliceMet]
      exact h.imp_left fun h => (cached_lcError_single h.1).trans h.2)
  rw [hserve] at hexec
  refine ⟨u, refill, data, hmet.trans hstep, hexec, fun hop n hn => ?_⟩
  rw [hdata (by rwa [Txn.op_met]), Txn.addr_met, hmet.lineBytes, s.slice_lineBytes hn]

/-- The transaction goes on to the stage that DRAM serves. -/
theorem exec_homeSliceAccess_misses (hdrop : ecc.val = 2 ∨ s.cached (lineOf y.addr) = false) (hpending : s.writePending (lineOf y.addr) = false)
    (hone : ((s.lcSet (lcPlace (lineOf y.addr))).ways.filter (Way.isLocal (lineOf y.addr))).length ≤ 1) :
    ∃ u, exec (.homeSliceAccess y.id ecc) s = .next (s.keeping u) ∧ LmStep s u ∧ u.cached (lineOf y.addr) = false
      ∧ u.txn y.id = some { y with stage := (match y.op with | .write _ => .merge | _ => .dram), nal := y.nal && !s.cached (lineOf y.addr) }
      ∧ (s.cached (lineOf y.addr) = true → u.get (Reg.PIER_LC_ERR_UNCORR (pierOf (lineOf y.addr)))
          = min (s.get (Reg.PIER_LC_ERR_UNCORR (pierOf (lineOf y.addr))) + 1) (2 ^ (Reg.PIER_LC_ERR_UNCORR (pierOf (lineOf y.addr))).width - 1)) := by
  have hexec := exec_homeSliceAccess_takes (ecc := ecc) hrun hy hstage hheld hup hfits
  have htxn := txn_sliceMet hy (lineOf y.addr) ecc
  have hrefill : (s.cached (lineOf y.addr) && ecc.val == 2) = s.cached (lineOf y.addr) := by rcases hdrop with h | h <;> simp [h]
  have hgone : (s.lcError (lineOf y.addr) ecc).cached (lineOf y.addr) = false := by
    rcases Nat.lt_or_ge ecc 2 with h | h
    · exact (cached_lcError_single h).trans (hdrop.resolve_left (by omega))
    · rw [show ecc.val = 2 by omega]
      exact cached_lcError_double hone
  rw [hrefill] at hexec htxn
  have hnext := State.sliceTakes_next (s := s.sliceMet y.id (lineOf y.addr) ecc) htxn
    (by rw [Txn.addr_met, cached_sliceMet, hgone]) (by rw [Txn.addr_met, writePending_sliceMet, hpending])
  rw [Txn.addr_met, Txn.op_met, y.met_eq] at hnext
  rw [y.met_eq] at hexec
  obtain ⟨hstep, hnot, hstaged, hcounted⟩ := hnext
  refine ⟨_, hexec, (lmStep_sliceMet s y.id (lineOf y.addr) ecc).trans hstep, hnot, hstaged, fun hhit => hcounted.trans ?_⟩
  have hdouble : ecc.val = 2 := hdrop.resolve_right (by simp [hhit])
  unfold State.sliceMet
  rw [State.get_when_txnRefill, hdouble]
  exact uncorr_lcError_double hhit

end

end Sys2Proof.Machine

/-- Settles O30: the array error acts, then the slice serves the transaction or sends it on. -/
theorem homeSlice : Obligations.HomeSlice := by
  intro id ecc s y hrun hy l
  obtain rfl := State.txn_id hy
  refine ⟨exec_homeSliceAccess_waits hrun hy, fun hstage hheld hup hfits => ⟨fun hholds => ?_, fun hdrop hpending hone => ?_⟩⟩
  · obtain ⟨u, refill, data, hu, hexec, hdata⟩ := exec_homeSliceAccess_serves hrun hy hstage hheld hup hfits hholds
    refine ⟨fun n hop hfit i g num th howner => ?_, fun op p q hop hfit i g num th howner => ?_, fun d hop i g pc howner => ?_⟩
    · obtain ⟨hgone, hload⟩ := u.txnServe_read_spec (y := y.met refill) (data := data) (by rwa [Txn.op_met]) (by rwa [Txn.owner_met])
      have hnone := hgone.txn
      rw [Txn.id_met] at hnone
      rw [Txn.addr_met, hdata (by simp [hop]) n hfit] at hload
      exact ⟨_, hexec, hu.memSame.trans hgone.memSame, hnone, hload.of_spn hu.spnSame rfl,
        hgone.hds.trans (hu.field State.hds fun _ _ _ _ _ _ _ => rfl), hgone.rtr.trans (hu.field State.rtr fun _ _ _ _ _ _ _ => rfl)⟩
    · have hold : u.num y.addr (atomicWidth op) = s.num y.addr (atomicWidth op) := congrArg leNat (hu.bytes _ _)
      have hserved := u.txnServe_atomic_spec (y := y.met refill) (data := data) (op := op) (by rwa [Txn.op_met]) (by rwa [Txn.owner_met])
        (by rw [Txn.addr_met, hold, leAt, hdata (by simp [hop]) _ hfit]; rfl)
      rw [Txn.addr_met, Txn.id_met, hold] at hserved
      obtain ⟨hnone, hload, hnew, hbyte, hwait⟩ := hserved
      exact ⟨_, hexec, hnone, hload.of_spn hu.spnSame rfl, hnew, fun a ha => (hbyte a ha).trans (hu.byte a), hwait⟩
    · have hserved := u.txnServe_write_spec (y := y.met refill) (data := data) (d := d) (by rwa [Txn.op_met]) (by rwa [Txn.owner_met])
      rw [Txn.addr_met, Txn.id_met] at hserved
      obtain ⟨hnone, hstored, hbyte, hwait, hspn⟩ := hserved
      exact ⟨_, hexec, hnone, hstored, fun a ha => (hbyte a ha).trans (hu.byte a), hwait, hu.spnSame.trans hspn⟩
  · obtain ⟨u, hexec, hu, hnot, hstaged, hcounted⟩ := exec_homeSliceAccess_misses hrun hy hstage hheld hup hfits hdrop hpending hone
    exact ⟨_, hexec, hu.memSame, hu.spnSame, hnot, hstaged, hcounted⟩
end

section
open Sys2Proof Sys2Proof.Machine

namespace Sys2Proof.Machine

/-! ### Reads of DRAM leave the registers of the piers alone, but for self refresh (R427, R508) -/

theorem RegsBut.of_regs {rs : List Nat} {s t : State} (h : t.regs = s.regs) : RegsBut rs s t := fun _ _ _ => by
  unfold State.reg
  rw [h]

theorem regsBut_set {rs : List Nat} (s : State) {l : Loc} (n : Nat) (h : l.addr ∈ rs) : RegsBut rs s (s.set l n) :=
  (RegsOnly.set s n h).regsBut

theorem regsBut_when {rs : List Nat} (s : State) (c : Bool) {f : State → State} (hf : RegsBut rs s (f s)) : RegsBut rs s (s.when c f) := by
  unfold State.when
  split
  · exact hf
  · exact RegsBut.of_regs rfl

theorem regsBut_countQ (rs : List Nat) (s : State) (l code : Nat) (v : Nat → Nat) : RegsBut rs s (s.countQ 2 (pierOf l) code v) :=
  (noted_countQ s 2 (pierOf l) code v (pierOf_lt l)).regsBut rs

theorem regsBut_count (rs : List Nat) (s : State) (l code v : Nat) : RegsBut rs s (s.count 2 (pierOf l) code v) := regsBut_countQ rs s l code _

theorem regsBut_codePut (rs : List Nat) (s : State) (e : CodeEntry) : RegsBut rs s (s.codePut e) := by
  have hentered (c : List (Nat × List CodeEntry)) : RegsBut rs s { s with lm := { s.lm with code := c } } := RegsBut.of_regs rfl
  have hstored (u : State) (x : CodeEntry) : RegsBut rs u (u.codeStore x) := RegsBut.of_regs rfl
  unfold State.codePut
  dsimp only
  split
  · unfold State.codeFlush
    exact (hentered _).trans ((hstored _ _).trans (regsBut_count rs _ _ _ _))
  · exact hentered _

theorem regsBut_pierWake (s : State) (p : Nat) : RegsBut [Reg.PIER_STATUS p] s (s.pierWake p) := by
  have hpwr (u : State) (x : PowerState) : RegsBut [Reg.PIER_STATUS p] u { u with pwr := x } := RegsBut.of_regs rfl
  unfold State.pierWake
  exact (regsBut_when s _ (regsBut_set (l := Reg.PIER_STATUS_SREF p) s 0 List.mem_cons_self)).trans (regsBut_when _ _ (hpwr _ _))

theorem regsBut_openRow (rs : List Nat) (s : State) (l : Nat) : RegsBut rs s (s.openRow l) := by
  have hopened (m : List (Nat × Nat)) : RegsBut rs s { s with lm := { s.lm with rows := m } } := RegsBut.of_regs rfl
  unfold State.openRow
  exact (hopened _).trans (regsBut_countQ rs _ l _ _)

theorem regsBut_dramFetch (s : State) (l cmask : Nat) : RegsBut [Reg.PIER_STATUS (pierOf l)] s (s.dramFetch l cmask) := by
  unfold State.dramFetch State.codeRead
  exact (((regsBut_pierWake s _).trans (regsBut_openRow _ _ l)).trans (regsBut_countQ _ _ l _ _)).trans (regsBut_codePut _ _ _)

theorem regsBut_dramTry (s : State) (l : Nat) (m : Nat → Nat × Nat) (k : Nat) : RegsBut [Reg.PIER_STATUS (pierOf l)] s (s.dramTry l m k) := by
  have hdropped : RegsBut [Reg.PIER_STATUS (pierOf l)] s (s.codeDropClean l) := RegsBut.of_regs rfl
  unfold State.dramTry
  split
  · exact regsBut_dramFetch s l _
  · unfold State.dramAgain
    exact (hdropped.trans (regsBut_count _ _ l _ _)).trans (regsBut_dramFetch _ l _)

theorem regsBut_dramReads (l : Nat) (m : Nat → Nat × Nat) (n k : Nat) (s : State) :
    RegsBut [Reg.PIER_STATUS (pierOf l)] s (State.dramReads l m n k s).2.2 := by
  induction n generalizing k s with
  | zero => exact RegsBut.of_regs rfl
  | succ n ih =>
    rw [State.dramReads_succ]
    split
    · exact regsBut_dramTry s l m k
    · exact (regsBut_dramTry s l m k).trans (ih _ _)

/-! ### A line that no read makes good (R166, R167) -/

theorem crc16_lt (l : List Byte) : crc16 l < 2 ^ 16 := (l.foldl crc16Byte 0xffff#16).isLt

/-- The slice does not hold the line, and its check, dirty in the code buffer, is one that no 64 bytes have. -/
structure NeverGood (l : Nat) (s : State) : Prop where
  uncached : s.cached l = false
  settled : s.writePending l = false
  check : ∃ e, s.codeEntry l = some e ∧ e.written ≠ 0 ∧ 2 ^ 16 ≤ e.checks.getD (l % 31) 0

theorem NeverGood.of_entry {l : Nat} {s t : State} (h : NeverGood l s) (honly : DevicesOnly s t) (hentry : t.codeEntry l = s.codeEntry l) :
    NeverGood l t where
  uncached := (cached_of_lc (by rw [honly]) l).trans h.uncached
  settled := (writePending_of_wbuf (by rw [honly]) l).trans h.settled
  check := by
    rw [hentry]
    exact h.check

theorem NeverGood.of_lm {l : Nat} {s t : State} (h : NeverGood l s) (hlm : t.lm = s.lm) : NeverGood l t :=
  h.of_entry (devicesOnly_of_lm hlm) (by unfold State.codeEntry; rw [hlm])

theorem NeverGood.dramRead {l : Nat} {s : State} (h : NeverGood l s) (mask : Nat) : (s.dramRead l mask).2 = false := by
  obtain ⟨e, he, -, hcheck⟩ := h.check
  have hlt := crc16_lt (leBytes 64 (leNat (s.lineBytes l) ^^^ mask) ++ leBytes 8 (64 * l))
  unfold State.dramRead State.storedCheck lineCheck
  rw [he]
  exact beq_false_of_ne (by dsimp only; omega)

theorem channelOf_group (l : Nat) : channelOf (31 * groupOf l) = channelOf l := by
  have h : groupOf (31 * groupOf l) = groupOf l := by unfold groupOf; omega
  unfold channelOf pierOf slotOf
  rw [h]

theorem code_codeFlush (s : State) (e : CodeEntry) : (s.codeFlush e).lm.code = s.lm.code := by
  unfold State.codeFlush
  exact (congrArg MemState.code (alike_count (s.codeStore e) (31 * e.group) _ _).lm).trans rfl

/-- An entry that the buffer takes is found there. -/
theorem codeEntry_codePut (s : State) {e : CodeEntry} {l : Nat} (h : e.group = groupOf l) : (s.codePut e).codeEntry l = some e := by
  have hfound (es : List CodeEntry) : (((e :: es).take 32).find? fun x => x.group == groupOf l) = some e := by
    rw [List.take_succ_cons, List.find?_cons, h, beq_self_eq_true]
  unfold State.codeEntry State.codePut
  dsimp only
  rw [h, channelOf_group]
  split
  · rw [code_codeFlush, alGet_set]
    exact hfound _
  · rw [alGet_set]
    exact hfound _

theorem NeverGood.codeRead {l : Nat} {s : State} (h : NeverGood l s) (cmask : Nat) : NeverGood l (s.codeRead l cmask) := by
  obtain ⟨e, he, -, -⟩ := h.check
  have hload : s.codeLoad l cmask = e := by
    unfold State.codeLoad
    rw [he]
    rfl
  have hgroup : e.group = groupOf l := beq_iff_eq.1 (List.find?_some (p := fun x : CodeEntry => x.group == groupOf l) he)
  unfold State.codeRead
  rw [hload]
  exact h.of_entry (devicesOnly_codePut s e) ((codeEntry_codePut s hgroup).trans he.symm)

theorem NeverGood.dramFetch {l : Nat} {s : State} (h : NeverGood l s) (cmask : Nat) : NeverGood l (s.dramFetch l cmask) := by
  have hwoken := h.of_lm (lm_pierWake s (pierOf l))
  have hopened : NeverGood l ((s.pierWake (pierOf l)).openRow l) := by
    refine hwoken.of_entry (devicesOnly_openRow _ l) ?_
    unfold State.openRow State.codeEntry
    rw [(alike_countQ _ _ _ _).lm]
  unfold State.dramFetch
  exact (hopened.of_lm (alike_countQ _ l _ _).lm).codeRead cmask

theorem NeverGood.codeDropClean {l : Nat} {s : State} (h : NeverGood l s) : NeverGood l (s.codeDropClean l) := by
  obtain ⟨e, he, hdirty, -⟩ := h.check
  refine h.of_entry (devicesOnly_parts s _ s.lm.checks s.lm.rows) (Eq.trans ?_ he.symm)
  unfold State.codeDropClean State.codeEntry
  dsimp only
  rw [alGet_set, List.find?_filter]
  refine find?_of_imp ?_ ?_ he
  · simp
  · simp [beq_iff_eq.1 (List.find?_some (p := fun x : CodeEntry => x.group == groupOf l) he), hdirty]

theorem NeverGood.dramTry {l : Nat} {s : State} (h : NeverGood l s) (m : Nat → Nat × Nat) (k : Nat) : NeverGood l (s.dramTry l m k) := by
  unfold State.dramTry
  split
  · exact h.dramFetch _
  · unfold State.dramAgain
    exact (h.codeDropClean.of_lm (alike_count _ l _ _).lm).dramFetch _

/-- A read of the line fails its check, and the next one follows. -/
theorem NeverGood.dramReads_next {l : Nat} {s : State} (h : NeverGood l s) (m : Nat → Nat × Nat) (n k : Nat) :
    State.dramReads l m (n + 1) k s = State.dramReads l m n (k + 1) (s.dramTry l m k) := by
  rw [State.dramReads_succ, if_neg (by rw [(h.dramTry m k).dramRead]; exact Bool.false_ne_true)]

theorem NeverGood.dramReads {l : Nat} {s : State} (h : NeverGood l s) (m : Nat → Nat × Nat) (n k : Nat) :
    (State.dramReads l m n k s).1 = none ∧ NeverGood l (State.dramReads l m n k s).2.2 := by
  induction n generalizing k s with
  | zero => exact ⟨rfl, h⟩
  | succ n ih =>
    rw [h.dramReads_next]
    exact ih (h.dramTry m k) (k + 1)

end Sys2Proof.Machine
end

section
open Sys2Proof Sys2Proof.Machine

namespace Sys2Proof.Machine

/-! ### A part of such a line is never written (R172) -/

theorem mergeFail_sat (s : State) (l : Nat) :
    RegsBut [Reg.PIER_STATUS (pierOf l), Reg.PIER_DET (pierOf l)] s (s.sat (Reg.PIER_DET_MERGEFAIL (pierOf l)) 1) :=
  regsBut_set (l := Reg.PIER_DET_MERGEFAIL (pierOf l)) s _ (List.mem_cons_of_mem _ List.mem_cons_self)

theorem noteReg_det (l : Nat) : noteReg (Reg.PIER_DET (pierOf l)) = false := by
  have h := noteReg_pier (off := 0x28) (pierOf_lt l) (by decide)
  rwa [show 0x7f080000000 + pierOf l * 0x1000000 + 0x28 = Reg.PIER_DET (pierOf l) by unfold Reg.PIER_DET; omega] at h

/-- One more write has failed to merge into the line, which still no read makes good. -/
structure MergeFailed (l : Nat) (s t : State) : Prop where
  line : NeverGood l t
  regs : RegsBut [Reg.PIER_STATUS (pierOf l), Reg.PIER_DET (pierOf l)] s t
  count : t.get (Reg.PIER_DET_MERGEFAIL (pierOf l))
    = min (s.get (Reg.PIER_DET_MERGEFAIL (pierOf l)) + 1) (2 ^ (Reg.PIER_DET_MERGEFAIL (pierOf l)).width - 1)

/-- The three reads of a merge, and the count of their failure. -/
theorem NeverGood.mergeFailed {l : Nat} {s : State} (h : NeverGood l s) (m : Nat → Nat × Nat) :
    MergeFailed l s ((State.dramReads l m 3 0 s).2.2.sat (Reg.PIER_DET_MERGEFAIL (pierOf l)) 1) := by
  obtain ⟨-, hline⟩ := h.dramReads m 3 0
  have hregs := regsBut_dramReads l m 3 0 s
  generalize (State.dramReads l m 3 0 s).2.2 = u at hline hregs
  have hdet : u.get (Reg.PIER_DET_MERGEFAIL (pierOf l)) = s.get (Reg.PIER_DET_MERGEFAIL (pierOf l)) := by
    refine State.get_of_reg (hregs _ ?_ (noteReg_det l))
    rw [List.mem_singleton]
    exact show Reg.PIER_DET (pierOf l) ≠ Reg.PIER_STATUS (pierOf l) by unfold Reg.PIER_DET Reg.PIER_STATUS; omega
  refine ⟨hline.of_lm (State.lm_sat _ _ _), (hregs.mono (by simp)).trans (mergeFail_sat u l), ?_⟩
  rw [u.get_sat _ _ (Nat.le_of_ble_eq_true rfl), hdet]

/-- An array error meets no line that the slice does not hold. -/
theorem State.lcError_of_uncached {s : State} {l : Nat} (h : s.cached l = false) (ecc : Nat) : s.lcError l ecc = s := by
  unfold State.cached at h
  unfold State.lcError
  rw [Option.isNone_iff_eq_none.1 (Option.isSome_eq_false_iff.1 h)]

theorem NeverGood.met {l : Nat} {s : State} (h : NeverGood l s) : s.met l = s.drawn :=
  State.lcError_of_uncached (h.of_lm (t := s.drawn) rfl).uncached _

theorem mergeDone_failed (l off : Nat) (data : List Byte) (nal : Bool) {r : Option (List Byte) × Nat × State} (h : r.1 = none) :
    (mergeDone l off data nal r).2 = r.2.2.sat (Reg.PIER_DET_MERGEFAIL (pierOf l)) 1 := by
  obtain ⟨d, k, u⟩ := r
  subst h
  rfl

theorem NeverGood.lineWrite {l : Nat} {s : State} (h : NeverGood l s) (off : Nat) {data : List Byte} (nal : Bool) (hpart : data.length ≠ 64) :
    MergeFailed l s (s.lineWrite l off data nal).2 := by
  have hsame : NeverGood l s.drawn := h.of_lm rfl
  have hdrawn : NeverGood l (s.drawn.count 2 (pierOf l) 0x004 1) := hsame.of_lm (alike_count _ l _ _).lm
  have hregs (rs : List Nat) : RegsBut rs s (s.drawn.count 2 (pierOf l) 0x004 1) :=
    RegsBut.trans (t := s.drawn) (RegsBut.of_regs rfl) (regsBut_count rs _ l _ _)
  have hcount : (s.drawn.count 2 (pierOf l) 0x004 1).get (Reg.PIER_DET_MERGEFAIL (pierOf l)) = s.get (Reg.PIER_DET_MERGEFAIL (pierOf l)) :=
    State.get_of_reg (hregs [] _ List.not_mem_nil (noteReg_det l))
  have hwhole : ¬ (s.drawn.cached l || s.drawn.writePending l || data.length == 64) = true := by
    rw [hsame.uncached, hsame.settled, beq_false_of_ne hpart]
    exact Bool.false_ne_true
  rw [State.lineWrite_eq, h.met, if_neg hwhole]
  obtain ⟨hnone, -⟩ := hdrawn.dramReads (Config.upsetRead s.free) 3 0
  obtain ⟨hline, hafter, hfailed⟩ := hdrawn.mergeFailed (Config.upsetRead s.free)
  rw [hcount] at hfailed
  rw [mergeDone_failed l off data _ hnone]
  exact ⟨hline, (hregs _).trans hafter, hfailed⟩

/-- A write of bytes within one line of DRAM. -/
theorem State.memWrite_piece {s : State} {a l off : Nat} {data : List Byte} (nal : Bool) (hhole : rangeHole a data.length = none)
    (hpiece : piecesOf a data.length = [(l, off, data.length)]) (hdram : dramLine l = true) :
    s.memWrite a data nal = s.lineWrite l off data nal := by
  rw [State.memWrite_of_mapped nal hhole, hpiece, List.foldl_cons, List.foldl_nil, writePiece, if_pos hdram]
  dsimp only
  rw [List.take_length, Bool.true_and]

/-! ### The end of a request whose slot lies in such a line (R101, R213) -/

theorem State.get_requestGone_held {s : State} {h : Nat} {r : Request} (hr : s.req h = some r) (hheld : r.entry.flags.testBit 0 = true) (l : Loc) :
    (s.requestGone h).get l = ((s.slotNtok r.slot r.ntok).slotState r.slot 2).get l := by
  unfold State.requestGone
  rw [hr]
  dsimp only
  rw [if_pos hheld]
  exact State.get_of_reg rfl

/-- With the slot table at address 0, NTOK and STATE of slot 0 lie in line 0. -/
theorem NeverGood.slotZero {s : State} (h : NeverGood 0 s) (htab : s.get Reg.HDS_SEQTAB_ADDR = 0) (ntok state : Nat) :
    ((s.slotNtok 0 ntok).slotState 0 state).get (Reg.PIER_DET_MERGEFAIL 0) = min (min (s.get (Reg.PIER_DET_MERGEFAIL 0) + 1) 65535 + 1) 65535 := by
  have hntok : s.slotNtok 0 ntok = (s.lineWrite 0 24 (leBytes 4 ntok) false).2 := by
    unfold State.slotNtok State.slotAddr
    rw [htab, State.memWrite_piece (l := 0) (off := 24) false rfl rfl rfl]
  obtain ⟨hline, hregs, hcount⟩ := h.lineWrite 24 (data := leBytes 4 ntok) false (by rw [length_leBytes]; decide)
  rw [← hntok] at hline hregs hcount
  have htab' : (s.slotNtok 0 ntok).get Reg.HDS_SEQTAB_ADDR = 0 := (State.get_of_reg (hregs _ (by decide) (by decide))).trans htab
  have hstate : (s.slotNtok 0 ntok).slotState 0 state = ((s.slotNtok 0 ntok).lineWrite 0 20 (leBytes 1 state) false).2 := by
    unfold State.slotState State.slotAddr
    rw [htab', State.memWrite_piece (l := 0) (off := 20) false rfl rfl rfl]
  obtain ⟨-, -, hcount'⟩ := hline.lineWrite 20 (data := leBytes 1 state) false (by rw [length_leBytes]; decide)
  rw [hstate]
  exact hcount'.trans (by rw [show pierOf 0 = 0 from rfl] at *; rw [hcount]; rfl)

end Sys2Proof.Machine
end

section
open Sys2Proof Sys2Proof.Machine

namespace Sys2Proof.Machine

/-! ### A failed merge that ends the request of its gang (R75, R101, R172) -/

theorem State.txnAnswer_eq_storeDone (s : State) {y : Txn} {i g : Nat} {pc : Int} (howner : y.owner = .store i g pc) (code : Nat) (data : List Byte) :
    s.txnAnswer y code data = (s.dropTxn y).storeDone i g code y.addr pc := by
  unfold State.txnAnswer
  rw [howner]

/-- A store that fails after its gang has retired. -/
theorem State.storeDone_failed {s : State} {i g addr : Nat} {pc : Int} (hg : g < 256) (hgone : s.gang i g = none) :
    s.storeDone i g 7 addr pc = ((s.recordFault i g 0x0a 3 addr pc).requestFault (s.setOf i) 0x0a 3).stopInst (s.setOf i) true := by
  unfold State.storeDone
  rw [if_neg (by decide), if_pos rfl]
  unfold State.engineFault
  rw [if_pos hg, hgone]

/-- The program run of the set is over. -/
def State.instDone (s : State) (set : Nat) : State :=
  let s := s.orphan set
  { s with hds := { s.hds with insts := s.hds.insts.filter (·.set != set) } }

theorem State.instCheck_over {s : State} {set h : Nat} {i : Inst} (hinst : s.inst set = some i) (hset : i.set = set) (hrequest : i.request = some h)
    (hover : s.instOver i = true) : s.instCheck set = (s.instDone set).endRequest h := by
  unfold State.instCheck State.served
  rw [hinst]
  dsimp only
  rw [if_pos hover, hrequest, hset]
  rfl

/-- The request's final entry is due, and what remains is to give up its slot. -/
def State.finalDue (s : State) (h : Nat) (r : Request) : State :=
  (({ s with hds := { s.hds with due := s.hds.due.filter fun d => d.handle != some h } }).pushDue (finalEntry r)).updReq h fun r =>
    { r with ended := true, reserved := 0, pending := [], cause := some (r.cause.getD (0x02, 0, 0)), phase := .done }

theorem State.endRequest_unpublished {s : State} {h : Nat} {r : Request} (hr : s.req h = some r) (hopc : r.entry.opc ≠ 1) :
    s.endRequest h = (s.finalDue h r).requestGone h := by
  unfold State.endRequest
  rw [hr]
  exact if_neg fun hpublish => hopc hpublish.1

theorem NeverGood.dramReads_three {l : Nat} {s : State} (h : NeverGood l s) (m : Nat → Nat × Nat) :
    (State.dramReads l m 3 0 s).2.2 = ((s.dramTry l m 0).dramTry l m 1).dramTry l m 2 := by
  have hfirst := h.dramTry m 0
  rw [h.dramReads_next, hfirst.dramReads_next, (hfirst.dramTry m 1).dramReads_next]
  rfl

/-! ### The counterexample to O31 -/

/-- A one-byte store of spindle 0 to address 0, whose gang has retired, waiting for its merge. -/
def lostWrite : Txn where
  id := 1
  owner := .store 0 0 0
  addr := 0
  nal := false
  ord := false
  op := .write [0]
  stage := .merge
  inject := 0
  since := 0
  window := 200
  early := false

/-- Group 0 of the code lines, dirty in the code buffer, with checks that no line has. -/
def spoiltGroup : CodeEntry where
  group := 0
  checks := List.replicate 31 (2 ^ 16)
  written := 1
  dirtyAt := 0

def lostHeader : ProgHeader where
  addr := 0
  modes := 0
  regs := 16
  gangs := 1
  threads := 1
  ninstr := 1
  model := 0
  layers := 0
  kvh := 0
  dcode := 0
  kvbytes := 0

/-- A request that keeps sequence slot 0. -/
def lostRequest : Request where
  handle := 0
  qp := 0
  order := 0
  entry := { opc := 0, flags := 1, tag := 0, seq := 0, prompt := 0, plen := 0, maxnew := 1, temp := 0, topp := 0, topk := 0, nstop := 0, stop := [],
             deadline := 0, raw := [] }
  set := 0
  prog := 0
  hdr := lostHeader
  slot := 0
  prior := 0
  ntok := 0
  gen := 0
  matched := 0
  reserved := 0
  btaddr := 0
  sumbase := 0
  btmax := 0
  pending := []
  cause := none
  reported := false
  cancel := false
  ended := false
  batch := none
  attached := false
  phase := .done
  pdir := 0
  keys := []
  answers := []
  asked := 0
  found := []
  imported := 0
  publishing := none

def lostInst : Inst where
  set := 0
  prog := 0
  hdr := lostHeader
  request := some 0
  first := false
  launched := [(0, 1)]
  stopping := false

/-- Line 0, with the slot table at its start, has a check that no read meets; a store waits to merge into it, of the program run on set 0. -/
def mergeWait : State :=
  let s := (State.reset.set Reg.CAL_STATUS_STARTUP 0).set (Reg.SPN_SET_SET 0) 0
  { s with
    jig := { s.jig with sets := [{ set := 0, mode := 0, groups := 1 }] }
    lm := { s.lm with txns := [lostWrite], code := [(0, [spoiltGroup])] }
    hds := { s.hds with requests := [lostRequest], insts := [lostInst] } }

/-- What `partialWriteMerge` without masks says of each read. -/
def noMask (k : Nat) : Nat × Nat := [].getD k (0, 0)

/-- The line has been read three times. -/
def mergeRead : State := ((mergeWait.dramTry 0 noMask 0).dramTry 0 noMask 1).dramTry 0 noMask 2

/-- The merge's failure is counted, and the transaction is gone. -/
def mergeLost : State := (mergeRead.sat (Reg.PIER_DET_MERGEFAIL 0) 1).dropTxn lostWrite

/-- The fault is recorded, it ends the request, and the program run stops. -/
def mergeStopped : State :=
  (((mergeLost.recordFault 0 0 0x0a 3 0 0).requestFault 0 0x0a 3).updInst 0 fun i => { i with stopping := true }).stopAtBoundary 0 true

def lostEnding : Request := { lostRequest with cause := some (0x08, 3, 7) }

def mergeOver : State := (mergeStopped.instDone 0).finalDue 0 lostEnding

theorem neverGood_mergeWait : NeverGood 0 mergeWait where
  uncached := by decide +kernel
  settled := by decide +kernel
  check := ⟨spoiltGroup, by decide +kernel, by decide, by decide⟩

theorem neverGood_mergeOver : NeverGood 0 mergeOver where
  uncached := by decide +kernel
  settled := by decide +kernel
  check := ⟨spoiltGroup, by decide +kernel, by decide, by decide⟩

theorem mergeLost_store : mergeLost.storeDone 0 0 7 0 0 = mergeOver.requestGone 0 := by
  have hset : mergeLost.setOf 0 = 0 := by decide +kernel
  have hinst : mergeStopped.inst 0 = some { lostInst with stopping := true } := by decide +kernel
  have hover : mergeStopped.instOver { lostInst with stopping := true } = true := by decide +kernel
  have hreq : (mergeStopped.instDone 0).req 0 = some lostEnding := by decide +kernel
  rw [State.storeDone_failed (by decide) (by decide +kernel), hset]
  exact (State.instCheck_over hinst rfl rfl hover).trans (State.endRequest_unpublished hreq (by decide))

/-- The count of the merge is 1, and those of the two writes that end the request come on top. -/
theorem mergeFail_mergeOver : (mergeOver.requestGone 0).get (Reg.PIER_DET_MERGEFAIL 0) = 3 := by
  have hreq : mergeOver.req 0 = some { lostEnding with ended := true } := by decide +kernel
  have hcount : mergeOver.get (Reg.PIER_DET_MERGEFAIL 0) = 1 := by decide +kernel
  have hgone := State.get_requestGone_held hreq rfl (Reg.PIER_DET_MERGEFAIL 0)
  have hslot := neverGood_mergeOver.slotZero (by decide +kernel) 0 2
  rw [hcount] at hslot
  exact hgone.trans hslot

end Sys2Proof.Machine

/-- Refutes O31: a store whose merge fails after its gang has retired ends the gang's request, whose end writes NTOK and STATE of its
sequence slot; where the slot lies in the same line those two writes fail to merge as well, and MERGEFAIL goes up by three, not by one.
The line's check in the code buffer, 2^16, is one that no bytes have, so the merges fail whatever the device returns. -/
theorem not_dramAccesses : ¬ Obligations.DramAccesses := by
  unfold Obligations.DramAccesses
  intro h
  obtain ⟨-, -, -, -, hmerge⟩ := h 1 mergeWait lostWrite (by decide +kernel) (by decide +kernel)
  obtain ⟨-, -, hfailed⟩ := hmerge [] [0] (by decide +kernel) (by decide +kernel) rfl (by decide +kernel) rfl (by decide) 0 0 0 rfl (by decide)
  obtain ⟨t, -, ht, -, hcount⟩ :=
    hfailed neverGood_mergeWait.uncached neverGood_mergeWait.settled (neverGood_mergeWait.dramReads _ 3 0).1
  have hpier : pierOf (lineOf lostWrite.addr) = 0 := by decide +kernel
  have hline : lineOf lostWrite.addr = 0 := by decide +kernel
  rw [hpier, hline, neverGood_mergeWait.dramReads_three] at ht
  rw [hpier] at hcount
  have hthree : t.get (Reg.PIER_DET_MERGEFAIL 0) = 3 := by
    rw [ht, State.get_keeping, State.txnAnswer_eq_storeDone (i := 0) (g := 0) (pc := 0) _ rfl]
    exact (congrArg (State.get · (Reg.PIER_DET_MERGEFAIL 0)) mergeLost_store).trans mergeFail_mergeOver
  have hone : min (mergeWait.get (Reg.PIER_DET_MERGEFAIL 0) + 1) (2 ^ (Reg.PIER_DET_MERGEFAIL 0).width - 1) = 1 := by decide +kernel
  exact absurd (hthree.symm.trans (hcount.trans hone)) (by decide)

end

section
open Sys2Proof Sys2Proof.Machine

namespace Sys2Proof.Machine

/-! ### The fields of a queue pair (R192 to R196, R574) -/

theorem bits_bit (v : Word64) (k : Nat) : (bits v.toNat k 1 != 0) = v.getLsbD k := by
  have hlt : bits v.toNat k 1 < 2 := Nat.mod_lt _ (by decide)
  rw [← BitVec.testBit_toNat, Nat.testBit_eq_decide_div_mod_eq, Bool.eq_iff_iff, bne_iff_ne, decide_eq_true_eq]
  unfold bits at *
  omega

theorem bits_lt (w lo n : Nat) : bits w lo n < 2 ^ n := Nat.mod_lt _ (Nat.two_pow_pos n)

theorem State.flag_eq_false_iff (s : State) (l : Loc) : s.flag l = false ↔ s.get l = 0 := by simp [State.flag]

/-- The settings of a completion ring as a write of HDS_QP_CTL gives them. -/
def ringFields (q w : Nat) : List (Loc × Nat) := [(Reg.HDS_QP_CTL_CQHOST q, bits w 1 1), (Reg.HDS_QP_CTL_CQLOG q, bits w 8 4)]

/-- The fields of HDS_QP_CTL that a write takes whatever the queue pair does. -/
def modeFields (q w : Nat) : List (Loc × Nat) := [(Reg.HDS_QP_CTL_IRQMODE q, bits w 2 2), (Reg.HDS_QP_CTL_FLUSH q, bits w 16 16)]

/-- The fields of a queue pair that starts. -/
def startFields (q : Nat) : List (Loc × Nat) :=
  [(Reg.HDS_QP_CTL_EN q, 1), (Reg.HDS_QP_STATUS_SQHEAD q, 0), (Reg.HDS_QP_STATUS_SQTAIL q, 0), (Reg.HDS_QP_STATUS_CQTAIL q, 0),
   (Reg.HDS_QP_STATUS2_CQHEAD q, 0)]

theorem qpSq_ne (q p : Nat) : Reg.HDS_QP_SQ q ≠ Reg.HDS_QP_CTL p ∧ Reg.HDS_QP_SQ q ≠ Reg.HDS_QP_STATUS p ∧ Reg.HDS_QP_SQ q ≠ Reg.HDS_QP_STATUS2 p := by
  unfold Reg.HDS_QP_SQ Reg.HDS_QP_CTL Reg.HDS_QP_STATUS Reg.HDS_QP_STATUS2; omega

theorem qpCq_ne (q p : Nat) : Reg.HDS_QP_CQ q ≠ Reg.HDS_QP_CTL p ∧ Reg.HDS_QP_CQ q ≠ Reg.HDS_QP_STATUS p ∧ Reg.HDS_QP_CQ q ≠ Reg.HDS_QP_STATUS2 p := by
  unfold Reg.HDS_QP_CQ Reg.HDS_QP_CTL Reg.HDS_QP_STATUS Reg.HDS_QP_STATUS2; omega

theorem qpCtl_ne (q p : Nat) : Reg.HDS_QP_CTL q ≠ Reg.HDS_QP_STATUS p ∧ Reg.HDS_QP_CTL q ≠ Reg.HDS_QP_STATUS2 p := by
  unfold Reg.HDS_QP_CTL Reg.HDS_QP_STATUS Reg.HDS_QP_STATUS2; omega

theorem qpLastErr_ne (q : Nat) : Reg.HDS_QP_SQ q ≠ Reg.HDS_LASTERR ∧ Reg.HDS_QP_CQ q ≠ Reg.HDS_LASTERR ∧ Reg.HDS_QP_CTL q ≠ Reg.HDS_LASTERR := by
  unfold Reg.HDS_QP_SQ Reg.HDS_QP_CQ Reg.HDS_QP_CTL Reg.HDS_LASTERR; omega

theorem noteReg_qpCtl (q : Fin 4096) : noteReg (Reg.HDS_QP_CTL q) = false := by
  unfold Reg.HDS_QP_CTL
  exact noteReg_hds (by omega) (by omega)

section
variable (s : State) (q w : Nat)

/-- The fields of HDS_QP_CTL after a write that takes all of them. -/
theorem State.get_ctlFields {p : Loc × Nat} (hp : p ∈ ringFields q w ++ modeFields q w) :
    (s.setAll (ringFields q w ++ modeFields q w)).get p.1 = p.2 := by
  rw [s.get_setAll (by simp [ringFields, modeFields, Reg.HDS_QP_CTL_CQHOST, Reg.HDS_QP_CTL_CQLOG, Reg.HDS_QP_CTL_IRQMODE, Reg.HDS_QP_CTL_FLUSH])
    (by simp [ringFields, modeFields, Loc.Beside, Reg.HDS_QP_CTL_CQHOST, Reg.HDS_QP_CTL_CQLOG, Reg.HDS_QP_CTL_IRQMODE, Reg.HDS_QP_CTL_FLUSH]) hp]
  simp only [ringFields, modeFields, List.cons_append, List.nil_append, List.mem_cons, List.not_mem_nil, or_false] at hp
  rcases hp with rfl | rfl | rfl | rfl <;> exact Nat.mod_eq_of_lt (bits_lt w _ _)

/-- A place beside the fields of HDS_QP_CTL keeps its value. -/
theorem State.get_ctlFields_beside {l : Loc} (hl : l.addr ≠ Reg.HDS_QP_CTL q ∨ l = Reg.HDS_QP_CTL_EN q) :
    (s.setAll (ringFields q w ++ modeFields q w)).get l = s.get l := by
  refine s.get_setAll_beside fun p hp => ?_
  simp only [ringFields, modeFields, List.cons_append, List.nil_append, List.mem_cons, List.not_mem_nil, or_false] at hp
  rcases hl with hl | rfl
  · rcases hp with rfl | rfl | rfl | rfl <;>
      simp [Loc.Beside, Reg.HDS_QP_CTL_CQHOST, Reg.HDS_QP_CTL_CQLOG, Reg.HDS_QP_CTL_IRQMODE, Reg.HDS_QP_CTL_FLUSH, hl]
  · rcases hp with rfl | rfl | rfl | rfl <;>
      simp [Loc.Beside, Reg.HDS_QP_CTL_EN, Reg.HDS_QP_CTL_CQHOST, Reg.HDS_QP_CTL_CQLOG, Reg.HDS_QP_CTL_IRQMODE, Reg.HDS_QP_CTL_FLUSH]

theorem State.modeFields_only : RegsOnly [Reg.HDS_QP_CTL q] s (s.setAll (modeFields q w)) :=
  RegsOnly.setAll s (by simp [modeFields, Reg.HDS_QP_CTL_IRQMODE, Reg.HDS_QP_CTL_FLUSH])

theorem State.ctlFields_only : RegsOnly [Reg.HDS_QP_CTL q] s (s.setAll (ringFields q w ++ modeFields q w)) :=
  RegsOnly.setAll s (by simp [ringFields, modeFields, Reg.HDS_QP_CTL_CQHOST, Reg.HDS_QP_CTL_CQLOG, Reg.HDS_QP_CTL_IRQMODE, Reg.HDS_QP_CTL_FLUSH])

theorem State.startFields_only : RegsOnly [Reg.HDS_QP_CTL q, Reg.HDS_QP_STATUS q, Reg.HDS_QP_STATUS2 q] s (s.setAll (startFields q)) :=
  RegsOnly.setAll s (by simp [startFields, Reg.HDS_QP_CTL_EN, Reg.HDS_QP_STATUS_SQHEAD, Reg.HDS_QP_STATUS_SQTAIL, Reg.HDS_QP_STATUS_CQTAIL,
    Reg.HDS_QP_STATUS2_CQHEAD])

theorem State.get_startFields {p : Loc × Nat} (hp : p ∈ startFields q) : (s.setAll (startFields q)).get p.1 = p.2 % 2 ^ p.1.width := by
  obtain ⟨hst, hst2⟩ := qpCtl_ne q q
  exact s.get_setAll (by simp [startFields, Reg.HDS_QP_CTL_EN, Reg.HDS_QP_STATUS_SQHEAD, Reg.HDS_QP_STATUS_SQTAIL, Reg.HDS_QP_STATUS_CQTAIL,
      Reg.HDS_QP_STATUS2_CQHEAD])
    (by simp [startFields, Loc.Beside, Reg.HDS_QP_CTL_EN, Reg.HDS_QP_STATUS_SQHEAD, Reg.HDS_QP_STATUS_SQTAIL, Reg.HDS_QP_STATUS_CQTAIL,
      Reg.HDS_QP_STATUS2_CQHEAD, hst, hst2, (qpStatus2_ne_qpStatus q q).symm]) hp

/-- A field of HDS_QP_CTL but EN keeps its value when the queue pair starts. -/
theorem State.get_startFields_ctl (lo n : Nat) (hlo : 1 ≤ lo) :
    (s.setAll (startFields q)).get ⟨Reg.HDS_QP_CTL q, lo, n⟩ = s.get ⟨Reg.HDS_QP_CTL q, lo, n⟩ := by
  obtain ⟨hst, hst2⟩ := qpCtl_ne q q
  refine s.get_setAll_beside ?_
  simp [startFields, Loc.Beside, Reg.HDS_QP_CTL_EN, Reg.HDS_QP_STATUS_SQHEAD, Reg.HDS_QP_STATUS_SQTAIL, Reg.HDS_QP_STATUS_CQTAIL,
    Reg.HDS_QP_STATUS2_CQHEAD, hst, hst2, hlo]

end

/-! ### Writes of HDS_QP_CTL -/

/-- A queue pair's completion entries have the phase of a new ring. -/
def State.firstPhase (s : State) (q : Nat) : State := { s with hds := { s.hds with phase := s.hds.phase.filter (·.1 != q) } }

theorem alGet_filter_ne {V : Type} (d : V) (m : List (Nat × V)) (k : Nat) : alGet d (m.filter (·.1 != k)) k = d := by
  induction m with
  | nil => rfl
  | cons e m ih =>
    by_cases hk : e.1 = k
    · rw [List.filter_cons_of_neg (by simp [hk]), ih]
    · rw [List.filter_cons_of_pos (by simp [hk])]
      exact (if_neg hk).trans ih

theorem State.phase_firstPhase (s : State) (q : Nat) : alGet 1 (s.firstPhase q).hds.phase q = 1 := alGet_filter_ne 1 _ q

theorem State.cqRestart_eq (s : State) (q : Nat) :
    s.cqRestart q = (s.setAll [(Reg.HDS_QP_STATUS_CQTAIL q, 0), (Reg.HDS_QP_STATUS2_CQHEAD q, 0)]).firstPhase q := rfl

section
variable {s : State} {q : Nat} {v : Word64}

theorem State.qpCtlWrite_free (hheld : s.abtHeld = false) (hlocked : s.qpLocked q = false) :
    s.qpCtlWrite q v = (s.setAll (ringFields q v.toNat ++ modeFields q v.toNat)).qpEnWrite q (bits v.toNat 0 1) := by
  unfold State.qpCtlWrite State.cqReplace
  simp only [hheld, hlocked]
  rfl

theorem State.qpCtlWrite_locked (hheld : s.abtHeld = false) (hlocked : s.qpLocked q = true) :
    s.qpCtlWrite q v = (s.setAll (modeFields q v.toNat)).qpEnWrite q (bits v.toNat 0 1) := by
  unfold State.qpCtlWrite State.cqReplace
  simp only [hheld, hlocked]
  rfl

theorem State.qpEnWrite_start (hen : s.flag (Reg.HDS_QP_CTL_EN q) = false) (hrings : (s.sqRingOk q && s.cqRingOk q) = true) :
    s.qpEnWrite q 1 = (s.setAll (startFields q)).firstPhase q := by
  unfold State.qpEnWrite
  rw [if_pos ⟨rfl, by rw [hen]; rfl⟩, if_pos hrings]
  rfl

theorem State.qpEnWrite_refuse (hen : s.flag (Reg.HDS_QP_CTL_EN q) = false) (hrings : ¬ (s.sqRingOk q && s.cqRingOk q) = true) :
    s.qpEnWrite q 1 = s.lastErr q 4 0 := by
  unfold State.qpEnWrite
  rw [if_pos ⟨rfl, by rw [hen]; rfl⟩, if_neg hrings]

theorem State.qpEnWrite_enabled (hen : s.flag (Reg.HDS_QP_CTL_EN q) = true) (en : Nat) : s.qpEnWrite q en = s.set (Reg.HDS_QP_CTL_EN q) en := by
  unfold State.qpEnWrite
  rw [if_neg (by rw [hen]; simp)]

theorem ringOk_iff (a n : Nat) : ringOk a n = true ↔ a % 4096 = 0 ∧ a + n ≤ dramEnd := by simp [ringOk]

/-- Both rings may lie where they do, as HDS_QP_CTL is written. -/
theorem State.rings_iff : (((s.setAll (ringFields q v.toNat ++ modeFields q v.toNat)).sqRingOk q
      && (s.setAll (ringFields q v.toNat ++ modeFields q v.toNat)).cqRingOk q) = true) ↔
    (s.get (Reg.HDS_QP_SQ_ADDR q) % 4096 = 0 ∧ s.get (Reg.HDS_QP_SQ_ADDR q) + 128 * s.sqSize q ≤ dramEnd)
      ∧ (v.getLsbD 1 = true ∨ (s.get (Reg.HDS_QP_CQ_ADDR q) % 4096 = 0
        ∧ s.get (Reg.HDS_QP_CQ_ADDR q) + 64 * 2 ^ (min (bits v.toNat 8 4) 12 + 4) ≤ dramEnd)) := by
  have hhost := s.get_ctlFields q v.toNat (p := (Reg.HDS_QP_CTL_CQHOST q, bits v.toNat 1 1)) (by simp [ringFields])
  have hlog := s.get_ctlFields q v.toNat (p := (Reg.HDS_QP_CTL_CQLOG q, bits v.toNat 8 4)) (by simp [ringFields])
  have hsq := s.get_ctlFields_beside q v.toNat (l := Reg.HDS_QP_SQ_ADDR q) (.inl (qpSq_ne q q).1)
  have hsize := s.get_ctlFields_beside q v.toNat (l := Reg.HDS_QP_SQ_SQLOG q) (.inl (qpSq_ne q q).1)
  have hcq := s.get_ctlFields_beside q v.toNat (l := Reg.HDS_QP_CQ_ADDR q) (.inl (qpCq_ne q q).1)
  unfold State.sqRingOk State.cqRingOk State.sqSize State.cqSize State.flag
  rw [hsq, hsize, hcq, hlog, hhost, bits_bit, Bool.and_eq_true, Bool.or_eq_true, ringOk_iff, ringOk_iff]

end

/-! ### The rings of a queue pair change -/

theorem State.get_firstPhase (s : State) (q : Nat) (l : Loc) : (s.firstPhase q).get l = s.get l := rfl

theorem State.unreached_firstPhase (s : State) (q : Nat) : Unreached s (s.firstPhase q) := ⟨rfl, rfl, rfl⟩

theorem State.firstPhase_hds (s : State) (q : Nat) (x : HdsState) : { s.firstPhase q with hds := x } = ({ s with hds := x } : State) := rfl

theorem RegsOnly.hds_eq {rs : List Nat} {s t : State} (h : RegsOnly rs s t) : { t with hds := s.hds } = t := by
  have hframe := h.1
  rw [hframe]

theorem RegsOnly.firstPhase {rs : List Nat} {s t : State} (h : RegsOnly rs s t) (q : Nat) : RegsOnly rs s { t.firstPhase q with hds := s.hds } := by
  rw [State.firstPhase_hds, h.hds_eq]
  exact h

section
variable {s : State} {q : Nat} {v : Word64}

/-- A write of HDS_QP_CTL that enables a queue pair. -/
theorem State.qpCtlWrite_starts (hheld : s.abtHeld = false) (hen : s.flag (Reg.HDS_QP_CTL_EN q) = false)
    (hidle : s.qpRunning q = 0) (hv : v.getLsbD 0 = true) :
    s.qpCtlWrite q v = (s.setAll (ringFields q v.toNat ++ modeFields q v.toNat)).qpEnWrite q 1
      ∧ (s.setAll (ringFields q v.toNat ++ modeFields q v.toNat)).flag (Reg.HDS_QP_CTL_EN q) = false := by
  have hone : bits v.toNat 0 1 = 1 := by
    have hlt := bits_lt v.toNat 0 1
    have hne := (bits_bit v 0).trans hv
    rw [bne_iff_ne] at hne
    omega
  rw [State.qpCtlWrite_free hheld (by simp [State.qpLocked, hen, hidle]), hone]
  exact ⟨rfl, by rw [State.flag, s.get_ctlFields_beside q _ (.inr rfl)]; exact hen⟩

/-- The state once a write of HDS_QP_CTL has enabled the queue pair. -/
def State.qpStarted (s : State) (q : Nat) (v : Word64) : State :=
  ((s.setAll (ringFields q v.toNat ++ modeFields q v.toNat)).setAll (startFields q)).firstPhase q

theorem State.qpStarted_only (s : State) (q : Nat) (v : Word64) :
    RegsOnly [Reg.HDS_QP_CTL q, Reg.HDS_QP_STATUS q, Reg.HDS_QP_STATUS2 q] s { s.qpStarted q v with hds := s.hds } :=
  (((s.ctlFields_only q v.toNat).mono (by simp)).trans (State.startFields_only _ q)).firstPhase q

theorem State.unreached_qpStarted (s : State) (q : Nat) (v : Word64) : Unreached s (s.qpStarted q v) :=
  ((s.ctlFields_only q v.toNat).unreached.trans (State.startFields_only _ q).unreached).trans (State.unreached_firstPhase _ q)

theorem State.qpCtlWrite_qpStarted (hheld : s.abtHeld = false) (hen : s.flag (Reg.HDS_QP_CTL_EN q) = false) (hidle : s.qpRunning q = 0)
    (hv : v.getLsbD 0 = true) (hrings : ((s.setAll (ringFields q v.toNat ++ modeFields q v.toNat)).sqRingOk q
      && (s.setAll (ringFields q v.toNat ++ modeFields q v.toNat)).cqRingOk q) = true) : s.qpCtlWrite q v = s.qpStarted q v := by
  obtain ⟨hwrite, hen'⟩ := State.qpCtlWrite_starts hheld hen hidle hv
  rw [hwrite, State.qpEnWrite_start hen' hrings]
  rfl

/-- The positions of a queue pair that has started, and EN. -/
theorem State.get_qpStarted (s : State) (q : Nat) (v : Word64) {p : Loc × Nat} (hp : p ∈ startFields q) :
    (s.qpStarted q v).get p.1 = p.2 % 2 ^ p.1.width :=
  (State.get_firstPhase _ q p.1).trans (State.get_startFields _ q hp)

theorem State.phase_qpStarted (s : State) (q : Nat) (v : Word64) : alGet 1 (s.qpStarted q v).hds.phase q = 1 := by
  unfold State.qpStarted
  rw [State.phase_firstPhase]

/-- The settings of a queue pair that has started. -/
theorem State.get_qpStarted_ctl (s : State) (q : Nat) (v : Word64) {p : Loc × Nat} (hp : p ∈ ringFields q v.toNat ++ modeFields q v.toNat) :
    (s.qpStarted q v).get p.1 = p.2 := by
  have hctl : p.1 = ⟨Reg.HDS_QP_CTL q, p.1.lo, p.1.width⟩ ∧ 1 ≤ p.1.lo := by
    simp only [ringFields, modeFields, List.cons_append, List.nil_append, List.mem_cons, List.not_mem_nil, or_false] at hp
    rcases hp with rfl | rfl | rfl | rfl <;> exact ⟨rfl, Nat.le_of_ble_eq_true rfl⟩
  refine ((State.get_firstPhase _ q p.1).trans ?_).trans (s.get_ctlFields q v.toNat hp)
  rw [hctl.1]
  exact State.get_startFields_ctl _ q _ _ hctl.2

end

theorem State.abtHeld_of {s t : State} (hhost : t.host = s.host) (hstate : t.get (Reg.LNK_STATUS_STATE 10) = s.get (Reg.LNK_STATUS_STATE 10)) :
    t.abtHeld = s.abtHeld := by
  unfold State.abtHeld
  rw [hhost, hstate]

/-- The fields of a ring that takes the place of another. -/
def replaceFields (q a : Nat) : List (Loc × Nat) := [(Reg.HDS_QP_CQ_ADDR q, a), (Reg.HDS_QP_STATUS_CQTAIL q, 0), (Reg.HDS_QP_STATUS2_CQHEAD q, 0)]

section
variable (s : State) (q a : Nat)

theorem State.replaceFields_only : RegsOnly [Reg.HDS_QP_CQ q, Reg.HDS_QP_STATUS q, Reg.HDS_QP_STATUS2 q] s (s.setAll (replaceFields q a)) :=
  RegsOnly.setAll s (by simp [replaceFields, Reg.HDS_QP_CQ_ADDR, Reg.HDS_QP_STATUS_CQTAIL, Reg.HDS_QP_STATUS2_CQHEAD])

theorem State.get_replaceFields {p : Loc × Nat} (hp : p ∈ replaceFields q a) :
    (s.setAll (replaceFields q a)).get p.1 = p.2 % 2 ^ p.1.width := by
  obtain ⟨-, hst, hst2⟩ := qpCq_ne q q
  exact s.get_setAll (by simp [replaceFields, Reg.HDS_QP_CQ_ADDR, Reg.HDS_QP_STATUS_CQTAIL, Reg.HDS_QP_STATUS2_CQHEAD])
    (by simp [replaceFields, Loc.Beside, Reg.HDS_QP_CQ_ADDR, Reg.HDS_QP_STATUS_CQTAIL, Reg.HDS_QP_STATUS2_CQHEAD, hst, hst2,
      (qpStatus2_ne_qpStatus q q).symm]) hp

/-- The ring of a queue pair has taken the place of another while the host link is held (R196). -/
def State.markReplaced (s : State) (q : Nat) : State := { s with hds := { s.hds with replaced := s.hds.replaced.filter (· != q) ++ [q] } }

/-- The state once a ring has taken the place of another. -/
def State.cqReplaced (s : State) (q a : Nat) : State := ((s.setAll (replaceFields q a)).firstPhase q).markReplaced q

theorem State.markReplaced_hds (x : HdsState) : { s.markReplaced q with hds := x } = ({ s with hds := x } : State) := rfl

theorem State.get_markReplaced (l : Loc) : (s.markReplaced q).get l = s.get l := rfl

theorem State.cqReplaced_only : RegsOnly [Reg.HDS_QP_CQ q, Reg.HDS_QP_STATUS q, Reg.HDS_QP_STATUS2 q] s { s.cqReplaced q a with hds := s.hds } := by
  unfold State.cqReplaced
  rw [State.markReplaced_hds]
  exact (s.replaceFields_only q a).firstPhase q

theorem State.unreached_markReplaced : Unreached s (s.markReplaced q) := ⟨rfl, rfl, rfl⟩

theorem State.unreached_cqReplaced : Unreached s (s.cqReplaced q a) := by
  unfold State.cqReplaced
  exact (s.replaceFields_only q a).unreached.trans ((State.unreached_firstPhase _ q).trans (State.unreached_markReplaced _ q))

theorem State.get_cqReplaced {p : Loc × Nat} (hp : p ∈ replaceFields q a) : (s.cqReplaced q a).get p.1 = p.2 % 2 ^ p.1.width := by
  unfold State.cqReplaced
  rw [State.get_markReplaced, State.get_firstPhase, s.get_replaceFields q a hp]

theorem State.replaced_markReplaced : (s.markReplaced q).hds.replaced.contains q = true := by
  simp [State.markReplaced]

theorem State.phase_markReplaced : (s.markReplaced q).hds.phase = s.hds.phase := rfl

theorem State.phase_cqReplaced : alGet 1 (s.cqReplaced q a).hds.phase q = 1 := by
  unfold State.cqReplaced
  rw [State.phase_markReplaced, State.phase_firstPhase]

end

section
variable {s : State} {q : Nat} {v : Word64}

/-- While the host link is held, a ring that may lie where it does takes the place of the old one (R196). -/
theorem State.qpCqWrite_replaces (hheld : s.abtHeld = true) (hring : (s.set (Reg.HDS_QP_CQ_ADDR q) v.toNat).cqRingOk q = true) :
    s.qpCqWrite q v = s.cqReplaced q v.toNat := by
  unfold State.qpCqWrite State.cqReplace
  rw [if_pos hheld, if_pos hring]
  rfl

/-- While the host link is held, a ring that may not lie where it does is refused (R196, R574). -/
theorem State.qpCqWrite_refuses (hheld : s.abtHeld = true) (hring : ¬ (s.set (Reg.HDS_QP_CQ_ADDR q) v.toNat).cqRingOk q = true) :
    s.qpCqWrite q v = s.lastErr q 4 0 := by
  unfold State.qpCqWrite State.cqReplace
  rw [if_pos hheld, if_neg hring]

theorem State.cqRingOk_set (s : State) (q : Nat) (a : Nat) : (s.set (Reg.HDS_QP_CQ_ADDR q) a).cqRingOk q = true ↔
    s.flag (Reg.HDS_QP_CTL_CQHOST q) = true
      ∨ (a % 2 ^ (Reg.HDS_QP_CQ_ADDR q).width % 4096 = 0 ∧ a % 2 ^ (Reg.HDS_QP_CQ_ADDR q).width + 64 * s.cqSize q ≤ dramEnd) := by
  have haddr : (s.set (Reg.HDS_QP_CQ_ADDR q) a).get (Reg.HDS_QP_CQ_ADDR q) = a % 2 ^ (Reg.HDS_QP_CQ_ADDR q).width :=
    s.get_set (Reg.HDS_QP_CQ_ADDR q) a (Nat.le_refl 64)
  have hctl (lo n : Nat) : (s.set (Reg.HDS_QP_CQ_ADDR q) a).get ⟨Reg.HDS_QP_CTL q, lo, n⟩ = s.get ⟨Reg.HDS_QP_CTL q, lo, n⟩ :=
    s.get_set_ne _ _ _ (qpCq_ne q q).1.symm
  unfold State.cqRingOk State.flag State.cqSize
  rw [haddr, Reg.HDS_QP_CTL_CQHOST, Reg.HDS_QP_CTL_CQLOG, hctl, hctl, Bool.or_eq_true, ringOk_iff]

end

/-! ### The commands of a queue pair -/

section
variable {s : State} (q : Fin 4096) (v : Word64)

theorem exec_qpEnable (hrun : s.running = true) : exec (.qpEnable q v) s = .next (s.keeping (s.qpCtlWrite q v)) := by
  have hc : exec (.qpEnable q v) s = execQpEnable q v s := rfl
  rw [hc, execQpEnable, State.run_running _ _ hrun]

theorem exec_qpRingWriteHeld (hrun : s.running = true) (ctl : Bool) : exec (.qpRingWriteHeld q ctl v) s
    = .next (s.keeping (if !s.abtHeld then s else if ctl then s.qpCtlWrite q v else s.qpCqWrite q v)) := by
  have hc : exec (.qpRingWriteHeld q ctl v) s = execQpRingWriteHeld q ctl v s := rfl
  rw [hc, execQpRingWriteHeld, State.run_running _ _ hrun]

theorem exec_qpRingWriteHeld_cq (hrun : s.running = true) (hheld : s.abtHeld = true) :
    exec (.qpRingWriteHeld q false v) s = .next (s.keeping (s.qpCqWrite q v)) := by
  rw [exec_qpRingWriteHeld q v hrun, hheld]
  rfl

theorem exec_qpErrClear (hrun : s.running = true) : exec (.qpErrClear q) s = .next (s.set (Reg.HDS_QP_STATUS_ERR q) 0) := by
  have hc : exec (.qpErrClear q) s = execQpErrClear q s := rfl
  rw [hc, execQpErrClear, State.run_running _ _ hrun, s.keeping_set]

end

/-- What a refused enable leaves (R193, R574). -/
theorem State.refused_spec (s : State) (q : Fin 4096) (v : Word64)
    (hen : (s.setAll (ringFields q v.toNat ++ modeFields q v.toNat)).flag (Reg.HDS_QP_CTL_EN q) = false) :
    let t := (s.setAll (ringFields q v.toNat ++ modeFields q v.toNat)).lastErr q 4 0
    t.flag (Reg.HDS_QP_CTL_EN q) = false ∧ t.get Reg.HDS_LASTERR_CODE = 4 ∧ t.get Reg.HDS_LASTERR_QP = q ∧ t.flag Reg.HDS_LASTERR_VALID = true
      ∧ RegsBut [Reg.HDS_QP_CTL q, Reg.HDS_LASTERR] s t ∧ MemSame s t ∧ Unreached s t := by
  intro t
  have honly := s.ctlFields_only q v.toNat
  obtain ⟨hbut, hmem, hqp, hcode, -, hvalid⟩ :=
    (s.setAll (ringFields q v.toNat ++ modeFields q v.toNat)).lastErr_spec q.isLt (code := 4) (pos := 0) (by decide) (by decide)
  have hctl : t.reg (Reg.HDS_QP_CTL q) = (s.setAll (ringFields q v.toNat ++ modeFields q v.toNat)).reg (Reg.HDS_QP_CTL q) :=
    hbut _ (by simp [(qpLastErr_ne q).2.2]) (noteReg_qpCtl q)
  refine ⟨?_, hcode, hqp, hvalid, (honly.regsBut.mono (by simp)).trans (hbut.mono (by simp)), honly.memSame.trans hmem,
    honly.unreached.trans (State.unreached_lastErr _ _ _ _)⟩
  rw [State.flag, State.get_of_reg (l := Reg.HDS_QP_CTL_EN q) hctl]
  exact hen

/-- What a write of HDS_QP_CTL leaves while the queue pair is enabled (R195). -/
theorem State.enabled_spec (s : State) (q w : Nat) :
    let t := (s.setAll (modeFields q w)).set (Reg.HDS_QP_CTL_EN q) (bits w 0 1)
    RegsOnly [Reg.HDS_QP_CTL q] s t ∧ t.get (Reg.HDS_QP_CTL_EN q) = bits w 0 1
      ∧ t.get (Reg.HDS_QP_CTL_CQLOG q) = s.get (Reg.HDS_QP_CTL_CQLOG q) ∧ t.get (Reg.HDS_QP_CTL_CQHOST q) = s.get (Reg.HDS_QP_CTL_CQHOST q) := by
  intro t
  have ht : t = s.setAll (modeFields q w ++ [(Reg.HDS_QP_CTL_EN q, bits w 0 1)]) := rfl
  refine ⟨(s.modeFields_only q w).trans (RegsOnly.set _ _ List.mem_cons_self),
    (State.get_set _ (Reg.HDS_QP_CTL_EN q) _ (Nat.le_of_ble_eq_true rfl)).trans (Nat.mod_eq_of_lt (bits_lt w 0 1)), ?_, ?_⟩ <;>
  · rw [ht]
    refine s.get_setAll_beside ?_
    simp [modeFields, Loc.Beside, Reg.HDS_QP_CTL_IRQMODE, Reg.HDS_QP_CTL_FLUSH, Reg.HDS_QP_CTL_EN, Reg.HDS_QP_CTL_CQLOG, Reg.HDS_QP_CTL_CQHOST]

theorem State.abtHeld_hds (s : State) (x : HdsState) : ({ s with hds := x } : State).abtHeld = s.abtHeld := rfl

/-- A ring that took the place of another while the host link is held is full (R196). -/
theorem State.cqFull_cqReplaced {s : State} (q a : Nat) (hheld : s.abtHeld = true) : (s.cqReplaced q a).cqFull q = true := by
  have hframe := s.replaceFields_only q a
  have hstate : (s.setAll (replaceFields q a)).get (Reg.LNK_STATUS_STATE 10) = s.get (Reg.LNK_STATUS_STATE 10) := by
    refine State.get_of_reg (hframe.2 _ ?_)
    simp only [Reg.LNK_STATUS_STATE, Reg.LNK_STATUS, Reg.HDS_QP_CQ, Reg.HDS_QP_STATUS, Reg.HDS_QP_STATUS2, List.mem_cons, List.not_mem_nil, or_false]
    omega
  have hhost : (s.setAll (replaceFields q a)).host = s.host := by rw [hframe.1]
  have hheld' : (s.setAll (replaceFields q a)).abtHeld = true := (State.abtHeld_of hhost hstate).trans hheld
  have hmark : (s.cqReplaced q a).abtHeld = true := by
    unfold State.cqReplaced State.markReplaced State.firstPhase
    rw [State.abtHeld_hds, State.abtHeld_hds]
    exact hheld'
  have hnew : (s.cqReplaced q a).hds.replaced.contains q = true := State.replaced_markReplaced _ q
  unfold State.cqFull
  rw [hmark, hnew, Bool.or_true, Bool.and_true, Bool.or_true]

end Sys2Proof.Machine

/-- Settles O33: a queue pair that starts takes the fields of `ringFields`, `modeFields` and `startFields`, a refusal is as `State.lastErr_spec`
says, and a ring replaced while the host link is held is full whatever its positions. -/
theorem queuePairs : Obligations.QueuePairs := by
  unfold Obligations.QueuePairs
  intro q v s hrun
  refine ⟨fun hheld hen hidle hv => ?_, fun hheld hen => ?_, exec_qpErrClear q hrun, fun hheld ctl => ?_, fun hheld => ?_,
    fun hheld => ⟨fun halign hend => ?_, fun hhost halign => ?_⟩⟩
  · rw [exec_qpEnable q v hrun]
    constructor
    · intro hrings
      rw [State.qpCtlWrite_qpStarted hheld hen hidle hv (State.rings_iff.2 hrings), (s.unreached_qpStarted q v).keeping]
      have hstart {p : Loc × Nat} (hp : p ∈ startFields q) := s.get_qpStarted q v hp
      have hset {p : Loc × Nat} (hp : p ∈ ringFields q v.toNat ++ modeFields q v.toNat) := s.get_qpStarted_ctl q v hp
      refine ⟨_, rfl, ?_, hstart (p := (Reg.HDS_QP_STATUS_SQHEAD q, 0)) (.tail _ (.head _)),
        hstart (p := (Reg.HDS_QP_STATUS_SQTAIL q, 0)) (.tail _ (.tail _ (.head _))),
        hstart (p := (Reg.HDS_QP_STATUS_CQTAIL q, 0)) (.tail _ (.tail _ (.tail _ (.head _)))),
        hstart (p := (Reg.HDS_QP_STATUS2_CQHEAD q, 0)) (.tail _ (.tail _ (.tail _ (.tail _ (.head _))))),
        hset (p := (Reg.HDS_QP_CTL_CQLOG q, bits v.toNat 8 4)) (.tail _ (.head _)),
        hset (p := (Reg.HDS_QP_CTL_IRQMODE q, bits v.toNat 2 2)) (.tail _ (.tail _ (.head _))),
        hset (p := (Reg.HDS_QP_CTL_FLUSH q, bits v.toNat 16 16)) (.tail _ (.tail _ (.tail _ (.head _)))), s.phase_qpStarted q v, s.qpStarted_only q v⟩
      rw [State.flag, hstart (p := (Reg.HDS_QP_CTL_EN q, 1)) (.head _)]
      rfl
    · intro hrings
      obtain ⟨hwrite, hen'⟩ := State.qpCtlWrite_starts hheld hen hidle hv
      rw [hwrite, State.qpEnWrite_refuse hen' (mt State.rings_iff.1 hrings)]
      obtain ⟨hoff, hcode, hqp, hvalid, hbut, hmem, hunreached⟩ := s.refused_spec q v hen'
      rw [hunreached.keeping]
      exact ⟨_, rfl, hoff, hcode, hqp, hvalid, hbut, hmem⟩
  · obtain ⟨honly, henw, hlog, hhost⟩ := s.enabled_spec q v.toNat
    have hmode : (s.setAll (modeFields q v.toNat)).flag (Reg.HDS_QP_CTL_EN q) = true := by
      rw [State.flag, s.get_setAll_beside (by simp [modeFields, Loc.Beside, Reg.HDS_QP_CTL_IRQMODE, Reg.HDS_QP_CTL_FLUSH, Reg.HDS_QP_CTL_EN])]
      exact hen
    rw [exec_qpEnable q v hrun, State.qpCtlWrite_locked hheld (by simp [State.qpLocked, hen]), State.qpEnWrite_enabled hmode]
    rw [honly.unreached.keeping]
    exact ⟨_, rfl, honly, by rw [State.flag, henw, bits_bit], hlog, hhost⟩
  · rw [exec_qpRingWriteHeld q v hrun, hheld]; rfl
  · rw [exec_qpRingWriteHeld q v hrun, exec_qpEnable q v hrun, hheld]; rfl
  · have hring : (s.set (Reg.HDS_QP_CQ_ADDR q) v.toNat).cqRingOk q = true := (s.cqRingOk_set q v.toNat).2 (.inr ⟨halign, hend⟩)
    have hfield {p : Loc × Nat} (hp : p ∈ replaceFields q v.toNat) := s.get_cqReplaced q v.toNat hp
    rw [exec_qpRingWriteHeld_cq q v hrun hheld, State.qpCqWrite_replaces hheld hring, (s.unreached_cqReplaced q v.toNat).keeping]
    exact ⟨_, rfl, hfield (p := (Reg.HDS_QP_CQ_ADDR q, v.toNat)) (.head _), hfield (p := (Reg.HDS_QP_STATUS_CQTAIL q, 0)) (.tail _ (.head _)),
      hfield (p := (Reg.HDS_QP_STATUS2_CQHEAD q, 0)) (.tail _ (.tail _ (.head _))), s.phase_cqReplaced q _,
      State.cqFull_cqReplaced q _ hheld, s.cqReplaced_only q _⟩
  · have hring : ¬ (s.set (Reg.HDS_QP_CQ_ADDR q) v.toNat).cqRingOk q = true := by
      rw [State.cqRingOk_set, hhost]
      exact fun h => halign (h.resolve_left Bool.false_ne_true).1
    rw [exec_qpRingWriteHeld_cq q v hrun hheld, State.qpCqWrite_refuses hheld hring, (s.unreached_lastErr q 4 0).keeping]
    obtain ⟨hbut, -, -, hcode, -⟩ := s.lastErr_spec q.isLt (code := 4) (pos := 0) (by decide) (by decide)
    exact ⟨_, rfl, hbut, hcode⟩
end

section
open Sys2Proof Sys2Proof.Machine

namespace Sys2Proof.Machine

/-! ### What any step of an access to memory keeps (R163 to R180) -/

/-- A relation of registers, event recorder and host link that the single steps of an access to memory keep: it holds where none of these
changes, where a register of a pier does, and where an event of a pier is counted. -/
structure AccessRel (R : State → State → Prop) : Prop where
  trans : ∀ {s t u}, R s t → R t u → R s u
  quiet : ∀ {s t : State}, t.regs = s.regs → t.ev = s.ev → t.host = s.host → R s t
  pier : ∀ s (l : Loc) n, 0x7f080000000 ≤ l.addr → l.addr < 0x7f100000000 → R s (s.set l n)
  countQ : ∀ s l code v, R s (s.countQ 2 (pierOf l) code v)

/-- A relation that an occurrence keeps. -/
def OccurRel (R : State → State → Prop) : Prop := ∀ s code src data, R s (s.occur code src data)

namespace AccessRel

variable {R : State → State → Prop} (h : AccessRel R)
include h

theorem refl (s : State) : R s s := h.quiet rfl rfl rfl

theorem lm (s : State) (x : MemState) : R s { s with lm := x } := h.quiet rfl rfl rfl

theorem pwr (s : State) (x : PowerState) : R s { s with pwr := x } := h.quiet rfl rfl rfl

theorem mem (s : State) (a : Nat) (d : List Byte) : R s (s.putBytes a d) := h.quiet rfl rfl rfl

theorem drawn (s : State) : R s s.drawn := h.quiet rfl rfl rfl

omit h in
theorem ite {s t u : State} {c : Prop} [Decidable c] (ht : R s t) (hu : R s u) : R s (if c then t else u) := by
  split <;> assumption

theorem when {s t : State} (hst : R s t) (c : Bool) (f : State → State) (hf : R t (f t)) : R s (t.when c f) := ite (h.trans hst hf) hst

theorem count (s : State) (l code v : Nat) : R s (s.count 2 (pierOf l) code v) := h.countQ s l code _

theorem satPier (s : State) (l : Nat) (m : Loc) (n off : Nat) (hoff : off < 0x800000) (hm : m.addr = 0x7f080000000 + pierOf l * 0x1000000 + off) :
    R s (s.sat m n) := by
  have hp := pierOf_lt l
  exact h.pier s m _ (by omega) (by omega)

theorem codeStore (s : State) (e : CodeEntry) : R s (s.codeStore e) := h.lm s _

theorem codeFlush (s : State) (e : CodeEntry) : R s (s.codeFlush e) := h.trans (h.codeStore s e) (h.count _ _ _ _)

theorem codePut (s : State) (e : CodeEntry) : R s (s.codePut e) := by
  unfold State.codePut
  dsimp only
  split
  · exact h.trans (h.lm s _) (h.codeFlush _ _)
  · exact h.lm s _

theorem codeWrite (s : State) (l : Nat) : R s (s.codeWrite l) := by
  unfold State.codeWrite
  dsimp only
  exact ite (h.trans (h.codeStore s _) (h.codePut _ _)) (h.codePut s _)

theorem pierWake (s : State) (l : Nat) : R s (s.pierWake (pierOf l)) := by
  have hp := pierOf_lt l
  unfold State.pierWake
  refine h.when (h.when (h.refl s) _ _ (h.pier s _ _ ?_ ?_)) _ _ (h.pwr _ _)
  · simp only [Reg.PIER_STATUS_SREF, Reg.PIER_STATUS]; omega
  · simp only [Reg.PIER_STATUS_SREF, Reg.PIER_STATUS]; omega

theorem openRow (s : State) (l : Nat) : R s (s.openRow l) := by
  unfold State.openRow
  exact h.trans (h.lm s _) (h.countQ _ l _ _)

theorem dramFetch (s : State) (l cmask : Nat) : R s (s.dramFetch l cmask) := by
  unfold State.dramFetch State.codeRead
  exact h.trans (h.trans (h.trans (h.pierWake s l) (h.openRow _ l)) (h.countQ _ l _ _)) (h.codePut _ _)

theorem dramWrite (s : State) (l : Nat) : R s (s.dramWrite l) := by
  unfold State.dramWrite
  refine h.trans (h.trans (h.trans (h.trans (h.lm s _) (h.pierWake _ l)) (h.openRow _ l)) (h.countQ _ l _ _)) (h.codeWrite _ l)

theorem dramTry (s : State) (l : Nat) (m : Nat → Nat × Nat) (k : Nat) : R s (s.dramTry l m k) := by
  unfold State.dramTry State.dramAgain
  exact ite (h.dramFetch s l _) (h.trans (h.trans (h.lm s _) (h.count _ l _ _)) (h.dramFetch _ l _))

theorem dramReads (l : Nat) (m : Nat → Nat × Nat) (n k : Nat) (s : State) : R s (State.dramReads l m n k s).2.2 := by
  induction n generalizing k s with
  | zero => exact h.refl s
  | succ n ih =>
    rw [State.dramReads_succ]
    split
    · exact h.dramTry s l m k
    · exact h.trans (h.dramTry s l m k) (ih _ _)

theorem installLocal (s : State) (l : Nat) : R s (s.installLocal l) := by
  have hplace : R s (s.fillPlace (lcPlace l) false).2 := by
    unfold State.fillPlace
    split
    · exact h.refl s
    · dsimp only
      split
      · exact h.dramWrite s _
      · exact h.refl s
  unfold State.installLocal
  exact ite (h.refl s) (h.trans hplace (h.lm _ _))

theorem lineHit (s : State) (l : Nat) (touch : Bool) : R s (s.lineHit l touch) := by
  unfold State.lineHit
  dsimp only
  split
  · exact h.trans (h.count s l _ _) (ite (h.lm _ _) (h.refl _))
  · exact h.count s l _ _

theorem lineTake (s : State) (l : Nat) (d : List Byte) : R s (s.lineTake l d) := by
  unfold State.lineTake
  exact ite (h.refl s) (h.mem s _ d)

theorem lineStore (s : State) (l off : Nat) (d : List Byte) : R s (s.lineStore l off d) :=
  h.trans (h.trans (h.pierWake s l) (h.mem _ _ d)) (h.lm _ _)

theorem writeAlloc (s : State) (l : Nat) (nal : Bool) : R s (s.writeAlloc l nal) := by
  unfold State.writeAlloc
  split
  · exact h.lm s _
  · exact ite (h.refl s) (h.installLocal s l)

theorem met (s : State) (l : Nat) : R s (s.met l) := by
  refine h.trans (h.drawn s) ?_
  unfold State.met State.lcError
  split
  · unfold State.wayError
    rw [lcPlace_pier]
    split
    · exact h.satPier _ l _ _ 0x38 (by decide) (by simp only [Reg.PIER_LC_ERR_CORR, Reg.PIER_LC_ERR]; omega)
    · exact h.trans (h.lm _ _)
        (h.satPier _ l _ _ 0x38 (by decide) (by simp only [Reg.PIER_LC_ERR_UNCORR, Reg.PIER_LC_ERR]; omega))
    · exact h.refl _
  · exact h.refl _

theorem goodRead (l : Nat) (r : Option (List Byte) × Nat × State) : R r.2.2 (goodRead l r) := by
  unfold Machine.goodRead State.rereadOk
  exact ite (h.refl _) (h.satPier _ l _ _ 0x28 (by decide) (by simp only [Reg.PIER_DET_REREAD_OK, Reg.PIER_DET]; omega))

/-! #### Reads -/

theorem detectionFailure (hocc : OccurRel R) (s : State) (l : Nat) : R s (s.detectionFailure l) := by
  have hset (u : State) (m : Loc) (n : Nat) (hm : m.addr = Reg.PIER_DET_LAST (pierOf l)) : R u (u.set m n) :=
    h.pier u m n (by rw [hm]; unfold Reg.PIER_DET_LAST; omega) (by have := pierOf_lt l; rw [hm]; unfold Reg.PIER_DET_LAST; omega)
  unfold State.detectionFailure
  have hcount := h.satPier s l (Reg.PIER_DET_FAILED (pierOf l)) 1 0x28 (by decide) (by simp only [Reg.PIER_DET_FAILED, Reg.PIER_DET]; omega)
  exact h.trans (h.trans (h.trans (h.trans hcount (hset _ _ _ rfl)) (hset _ _ _ rfl)) (hset _ _ _ rfl)) (hocc _ _ _ _)

theorem unmappedOther (hocc : OccurRel R) (s : State) (a : Nat) : R s (s.unmappedOther a) := by
  unfold State.unmappedOther State.unmapped
  exact h.trans (h.drawn s) (hocc _ _ _ _)

theorem readDone_some (l : Nat) (nal : Bool) {r : Option (List Byte) × Nat × State} {d : List Byte} (hd : (Machine.readDone l nal r).1 = some d) :
    R r.2.2 (Machine.readDone l nal r).2.2 := by
  unfold Machine.readDone at hd ⊢
  split at hd
  · exact ite (h.goodRead l r) (h.trans (h.trans (h.goodRead l r) (h.lineTake _ l _)) (h.installLocal _ l))
  · cases hd

theorem readDone (hocc : OccurRel R) (l : Nat) (nal : Bool) (r : Option (List Byte) × Nat × State) : R r.2.2 (Machine.readDone l nal r).2.2 := by
  cases hd : (Machine.readDone l nal r).1 with
  | some d => exact h.readDone_some l nal hd
  | none =>
    unfold Machine.readDone at hd ⊢
    split at hd
    · cases hd
    · exact h.detectionFailure hocc _ l

theorem missRead_some (s : State) (l n : Nat) (nal : Bool) {d : List Byte} (hd : (State.missRead State.dramReads s l n nal).1 = some d) :
    R s (State.missRead State.dramReads s l n nal).2.2 := by
  unfold State.missRead at hd ⊢
  split at hd
  next hc => rw [if_pos hc]; exact ite (h.refl s) (h.installLocal s l)
  next hc => rw [if_neg hc]; exact h.trans (h.dramReads l _ 2 0 s) (h.readDone_some l nal hd)

theorem missRead (hocc : OccurRel R) (s : State) (l n : Nat) (nal : Bool) : R s (State.missRead State.dramReads s l n nal).2.2 := by
  unfold State.missRead
  split
  · exact ite (h.refl s) (h.installLocal s l)
  · exact h.trans (h.dramReads l _ 2 0 s) (h.readDone hocc l nal _)

/-- A read of a line that gives its bytes notes no occurrence. -/
theorem lineRead_some (s : State) (l : Nat) (nal : Bool) {d : List Byte} (hd : (s.sliceRead l nal).1 = some d) : R s (s.lineRead l nal).2 := by
  rw [State.lineRead_snd]
  rw [State.sliceRead_eq] at hd ⊢
  split at hd
  next hc => rw [if_pos hc]; exact h.trans (h.met s l) (h.lineHit _ l _)
  next hc => rw [if_neg hc]; exact h.trans (h.trans (h.met s l) (h.count _ l _ _)) (h.missRead_some _ l _ _ hd)

theorem lineRead (hocc : OccurRel R) (s : State) (l : Nat) (nal : Bool) : R s (s.lineRead l nal).2 := by
  rw [State.lineRead_snd, State.sliceRead_eq]
  split
  · exact h.trans (h.met s l) (h.lineHit _ l _)
  · exact h.trans (h.trans (h.met s l) (h.count _ l _ _)) (h.missRead hocc _ l _ _)

theorem readPiece (hocc : OccurRel R) (nal : Bool) (acc : Option (List Byte) × Option Nat × State) (x : Nat × Nat × Nat) :
    R acc.2.2 (readPiece nal acc x).2.2 := by
  have hread : R acc.2.2 (if dramLine x.1 then acc.2.2.lineRead x.1 nal else (some (acc.2.2.lineBytes x.1), acc.2.2)).2 := by
    split
    · exact h.lineRead hocc acc.2.2 x.1 nal
    · exact h.refl _
  unfold Machine.readPiece
  dsimp only
  split <;> exact hread

theorem memRead (hocc : OccurRel R) (s : State) (a n : Nat) (nal : Bool) : R s (s.memRead a n nal).2 := by
  unfold State.memRead
  cases hhole : rangeHole a n with
  | some e =>
    rw [State.rangeRead_of_hole nal hhole]
    exact h.unmappedOther hocc s e
  | none =>
    rw [State.rangeRead_of_mapped nal hhole]
    exact List.foldlRecOn (piecesOf a n) (Machine.readPiece nal) (b := (some [], none, s)) (motive := fun acc => R s acc.2.2) (h.refl s)
      fun acc hacc x _ => h.trans hacc (h.readPiece hocc nal acc x)

theorem readPiece_some (nal : Bool) {acc : Option (List Byte) × Option Nat × State} {x : Nat × Nat × Nat} {d : List Byte}
    (hd : (Machine.readPiece nal acc x).1 = some d) : (∃ c, acc.1 = some c) ∧ R acc.2.2 (Machine.readPiece nal acc x).2.2 := by
  have hread (c : List Byte)
      (hc : (if dramLine x.1 then acc.2.2.lineRead x.1 nal else (some (acc.2.2.lineBytes x.1), acc.2.2)).1 = some c) :
      R acc.2.2 (if dramLine x.1 then acc.2.2.lineRead x.1 nal else (some (acc.2.2.lineBytes x.1), acc.2.2)).2 := by
    split at hc
    next hdram => rw [if_pos hdram]; exact h.lineRead_some _ _ _ hc
    next hdram => rw [if_neg hdram]; exact h.refl _
  unfold Machine.readPiece at hd ⊢
  dsimp only at hd ⊢
  split
  next c c' hacc hc => exact ⟨⟨c, hacc⟩, hread c' hc⟩
  next hno =>
    split at hd
    next c c' hacc hc => exact absurd hc (hno c c' hacc)
    · cases hd

/-- A read of a range that gives its bytes notes no occurrence. -/
theorem memRead_some (s : State) (a n : Nat) (nal : Bool) {d : List Byte} (hd : (s.memRead a n nal).1 = some d) : R s (s.memRead a n nal).2 := by
  have hpieces (l : List (Nat × Nat × Nat)) (acc : Option (List Byte) × Option Nat × State) {d : List Byte}
      (hd : (l.foldl (Machine.readPiece nal) acc).1 = some d) : (∃ c, acc.1 = some c) ∧ R acc.2.2 (l.foldl (Machine.readPiece nal) acc).2.2 := by
    induction l generalizing acc with
    | nil => exact ⟨⟨d, hd⟩, h.refl _⟩
    | cons x l ih =>
      obtain ⟨⟨c, hc⟩, hrest⟩ := ih _ hd
      obtain ⟨hacc, hstep⟩ := h.readPiece_some nal hc
      exact ⟨hacc, h.trans hstep hrest⟩
  unfold State.memRead at hd ⊢
  cases hhole : rangeHole a n with
  | some e =>
    rw [State.rangeRead_of_hole nal hhole] at hd
    cases hd
  | none =>
    rw [State.rangeRead_of_mapped nal hhole] at hd ⊢
    exact (hpieces _ _ hd).2

/-! #### Writes and atomics -/

theorem mergeDone (l off : Nat) (data : List Byte) (nal : Bool) (r : Option (List Byte) × Nat × State) :
    R r.2.2 (Machine.mergeDone l off data nal r).2 := by
  unfold Machine.mergeDone
  split
  · exact h.trans (h.trans (h.trans (h.goodRead l r) (h.lineTake _ l _)) (h.lineStore _ l off data)) (h.writeAlloc _ l _)
  · exact h.satPier _ l _ _ 0x28 (by decide) (by simp only [Reg.PIER_DET_MERGEFAIL, Reg.PIER_DET]; omega)

theorem lineWrite (s : State) (l off : Nat) (data : List Byte) (nal : Bool) : R s (s.lineWrite l off data nal).2 := by
  rw [State.lineWrite_eq]
  split
  · exact h.trans (h.trans (h.met s l) (h.lineStore _ l off data)) (h.writeAlloc _ l _)
  · exact h.trans (h.trans (h.met s l) (h.trans (h.count _ l _ _) (h.dramReads l _ 3 0 _))) (h.mergeDone l off data _ _)

theorem memWrite (hocc : OccurRel R) (s : State) (a : Nat) (data : List Byte) (nal : Bool) : R s (s.memWrite a data nal).2 := by
  cases hhole : rangeHole a data.length with
  | some e =>
    rw [State.memWrite_of_hole nal hhole]
    exact h.unmappedOther hocc s e
  | none =>
    rw [State.memWrite_of_mapped nal hhole]
    refine List.foldlRecOn (piecesOf a data.length) (writePiece nal) (b := (true, s, data)) (motive := fun acc => R s acc.2.1) (h.refl s)
      fun acc hacc x _ => h.trans hacc ?_
    unfold writePiece
    dsimp only
    split
    · exact h.lineWrite _ _ _ _ _
    · exact h.mem _ _ _

theorem lineAtomic (hocc : OccurRel R) (s : State) (a : Nat) (op : AtomicOp) (x y : Nat) : R s (s.lineAtomic a op x y).2 := by
  have hread := h.lineRead hocc s (lineOf a) false
  cases hd : (s.lineRead (lineOf a) false).1 with
  | none =>
    rw [State.lineAtomic_of_none _ _ _ hd]
    exact hread
  | some d =>
    rw [State.lineAtomic_of_isSome _ _ _ (by rw [hd]; rfl)]
    exact h.trans hread (h.lineStore _ _ _ _)

end AccessRel

end Sys2Proof.Machine
end

section
open Sys2Proof Sys2Proof.Machine

namespace Sys2Proof.Machine

/-! ### Fields that accesses, counts and notes keep -/

/-- A field of the headstock, the router or the ports that no access to memory, no count and no occurrence changes: its register is not one that
takes notes, or it is a position or ERR of a queue pair, which shares no bit with the overflow count of the event front end. -/
def KeptLoc (m : Loc) : Prop :=
  0x7f100000000 ≤ m.addr ∧ noteReg m.addr = false ∨ ∃ q, m.addr = Reg.HDS_QP_STATUS q ∧ Reg.AON_EVINTAKE_OVERFLOW.Beside m

/-- Every such field has its value. -/
def Kept (s t : State) : Prop := ∀ m, KeptLoc m → t.get m = s.get m

/-- Every register above those of the piers has its value. -/
def AboveKept (s t : State) : Prop := ∀ m : Loc, 0x7f100000000 ≤ m.addr → t.get m = s.get m

/-- The host link's reset is as it was, and frames that wait for the host stay before later ones. -/
def HostGrows (s t : State) : Prop := t.host.heldByReset = s.host.heldByReset ∧ s.host.vc1 <+: t.host.vc1

theorem KeptLoc.ge {m : Loc} (h : KeptLoc m) : 0x7f100000000 ≤ m.addr := by
  obtain ⟨h, -⟩ | ⟨q, h, -⟩ := h
  · exact h
  · rw [h]; unfold Reg.HDS_QP_STATUS; omega

theorem Kept.trans {s t u : State} (h : Kept s t) (k : Kept t u) : Kept s u := fun m hm => (k m hm).trans (h m hm)
theorem AboveKept.trans {s t u : State} (h : AboveKept s t) (k : AboveKept t u) : AboveKept s u := fun m hm => (k m hm).trans (h m hm)
theorem HostGrows.trans {s t u : State} (h : HostGrows s t) (k : HostGrows t u) : HostGrows s u := ⟨k.1.trans h.1, h.2.trans k.2⟩

theorem State.get_of_regs {s t : State} (h : t.regs = s.regs) (m : Loc) : t.get m = s.get m := State.get_of_reg (by unfold State.reg; rw [h])

theorem Kept.of_regs {s t : State} (h : t.regs = s.regs) : Kept s t := fun m _ => State.get_of_regs h m
theorem AboveKept.kept {s t : State} (h : AboveKept s t) : Kept s t := fun m hm => h m hm.ge
theorem HostGrows.of_host {s t : State} (h : t.host = s.host) : HostGrows s t := by rw [HostGrows, h]; exact ⟨rfl, List.prefix_rfl⟩

theorem kept_set {s : State} {l : Loc} (n : Nat) (h : ∀ m, KeptLoc m → m.addr = l.addr → l.Beside m) (hfit : l.lo + l.width ≤ 64) : Kept s (s.set l n) := fun m hm => by
  by_cases haddr : m.addr = l.addr
  · exact s.get_set_beside n (h m hm haddr) hfit
  · exact s.get_set_ne l m n haddr

/-! #### Counts -/

/-- The counter bank of a pier lies below every kept field. -/
theorem aboveKept_countPier (s : State) (l code : Nat) (v : Nat → Nat) : AboveKept s (s.countQ 2 (pierOf l) code v) := fun m hm => by
  have hp := pierOf_lt l
  refine State.get_of_reg (bankOnly_countQ s 2 (pierOf l) code v _ (.inr ?_))
  simp only [bankBase, Reg.PIER_PMC_ID]
  omega

theorem kept_countHds (s : State) (code v : Nat) : Kept s (s.count 3 0 code v) := fun m hm => by
  obtain ⟨-, h⟩ | ⟨q, h, -⟩ := hm
  · exact (noted_count s 3 0 code v (by decide)).get m h
  · refine State.get_of_reg (bankOnly_countQ s 3 0 code _ _ (.inr ?_))
    rw [h]
    simp only [bankBase, Reg.HDS_PMC_ID, Reg.HDS_QP_STATUS]
    omega

theorem HostGrows.ite {s t u : State} {c : Prop} [Decidable c] (h : HostGrows s t) (k : HostGrows s u) : HostGrows s (if c then t else u) := by
  split <;> assumption

theorem hostGrows_sendMsi (s : State) (v : Nat) : HostGrows s (s.sendMsi v) := ⟨rfl, List.prefix_append _ _⟩

theorem hostGrows_pendingVec (s : State) (l : List Nat) : HostGrows s { s with host := { s.host with pendingVec := l } } := ⟨rfl, List.prefix_rfl⟩

theorem hostGrows_raiseVec (s : State) (v : Nat) : HostGrows s (s.raiseVec v) := by
  unfold State.raiseVec
  exact .ite ((hostGrows_pendingVec s _).trans (hostGrows_sendMsi _ v)) (hostGrows_pendingVec s _)

theorem hostGrows_set (s : State) (l : Loc) (n : Nat) : HostGrows s (s.set l n) := .of_host rfl

theorem hostGrows_pmcOverflow (s : State) (b n : Nat) : HostGrows s (s.pmcOverflow b n) := by
  have hoff : HostGrows s (if (s.set (pmcOvf b n) 1).flag (pmcOvfFrz b) then (s.set (pmcOvf b n) 1).set (pmcEn b) 0 else s.set (pmcOvf b n) 1) :=
    .ite (.of_host rfl) (.of_host rfl)
  unfold State.pmcOverflow
  exact .ite (hoff.trans (hostGrows_raiseVec _ _)) hoff

theorem hostGrows_pmcAdd (s : State) (b n v : Nat) : HostGrows s (s.pmcAdd b n v) := by
  unfold State.pmcAdd
  have hcount := hostGrows_set s (pmcCnt b n) (s.get (pmcCnt b n) + v)
  have hchain (x : Nat) := hcount.trans (hostGrows_set _ (pmcCnt b (n + 1)) x)
  exact .ite hcount (.ite (.ite (.ite (hchain _) ((hchain _).trans (hostGrows_pmcOverflow _ _ _))) hcount)
    (hcount.trans (hostGrows_pmcOverflow _ _ _)))

theorem hostGrows_countQ (s : State) (kind inst code : Nat) (v : Nat → Nat) : HostGrows s (s.countQ kind inst code v) := by
  unfold State.countQ
  exact List.foldlRecOn (List.range 6) _ (b := s) (motive := HostGrows s) (.of_host rfl)
    fun u hu n _ => .ite (hu.trans (hostGrows_pmcAdd _ _ _ _)) hu

/-! #### Notes -/

theorem kept_evEnqueue (s : State) (o : Occ) : Kept s (s.evEnqueue o) := by
  have hlost : Kept s (s.sat (evSevLost s.evr o.sev) 1) := by
    have hr := evr_le s
    have haddr : (evSevLost s.evr o.sev).addr = Reg.EVR_SEVLOST s.evr := by unfold evSevLost; split <;> rfl
    intro m hm
    refine s.get_set_ne _ m _ ?_
    rw [haddr]
    obtain ⟨-, h⟩ | ⟨q, h, -⟩ := hm
    · intro heq
      rw [heq, show Reg.EVR_SEVLOST s.evr = 0x7f430000000 + s.evr * 0x200000 + 0x40 by unfold Reg.EVR_SEVLOST; omega,
        noteReg_evr _ _ hr (by decide)] at h
      cases h
    · rw [h]; unfold Reg.HDS_QP_STATUS Reg.EVR_SEVLOST; omega
  have hover (u : State) : Kept u (u.inc Reg.AON_EVINTAKE_OVERFLOW 1) := by
    refine kept_set _ (fun m hm haddr => ?_) (by decide)
    obtain ⟨-, h⟩ | ⟨q, -, h⟩ := hm
    · rw [haddr] at h; exact absurd h (by decide)
    · exact h
  unfold State.evEnqueue
  split
  · split
    · exact .of_regs rfl
    · exact hlost
  · split
    · exact Kept.trans (.of_regs rfl) (hover _)
    · exact .of_regs rfl

theorem kept_occur (s : State) (code src : Nat) (data : List Byte) : Kept s (s.occur code src data) := by
  have hlost (u : State) (l : Loc) (n : Nat) (hl : l.addr = Reg.EVR_LOST u.evr) : Kept u (u.set l n) := fun m hm => by
    have hr := evr_le u
    refine u.get_set_ne _ m _ ?_
    rw [hl]
    obtain ⟨-, h⟩ | ⟨q, h, -⟩ := hm
    · intro heq
      rw [heq, show Reg.EVR_LOST u.evr = 0x7f430000000 + u.evr * 0x200000 + 0x38 by unfold Reg.EVR_LOST; omega,
        noteReg_evr _ _ hr (by decide)] at h
      cases h
    · rw [h]; unfold Reg.HDS_QP_STATUS Reg.EVR_LOST; omega
  unfold State.occur State.occurSev
  dsimp only
  split
  · exact hlost s _ _ rfl
  · split
    · exact kept_evEnqueue s _
    · split
      · exact Kept.trans (.of_regs rfl) (kept_evEnqueue _ _)
      · exact Kept.trans (.of_regs rfl) (hlost _ _ _ rfl)

theorem hostGrows_ev (s : State) (x : EventState) : HostGrows s { s with ev := x } := .of_host rfl

theorem hostGrows_evEnqueue (s : State) (o : Occ) : HostGrows s (s.evEnqueue o) := by
  unfold State.evEnqueue State.sat State.inc
  exact .ite (.ite (hostGrows_ev s _) (hostGrows_set s _ _)) (.ite ((hostGrows_ev s _).trans (hostGrows_set _ _ _)) (hostGrows_ev s _))

theorem hostGrows_occur (s : State) (code src : Nat) (data : List Byte) : HostGrows s (s.occur code src data) := by
  unfold State.occur State.occurSev State.sat State.inc
  exact .ite (hostGrows_set s _ _) (.ite (hostGrows_evEnqueue s _)
    (.ite ((hostGrows_ev s _).trans (hostGrows_evEnqueue _ _)) ((hostGrows_ev s _).trans (hostGrows_set _ _ _))))

/-! #### The three relations along an access -/

theorem accessRel_above : AccessRel AboveKept where
  trans := AboveKept.trans
  quiet hr _ _ := fun m _ => State.get_of_regs hr m
  pier s l n _ hl := fun m hm => s.get_set_ne l m n (by omega)
  countQ s l code v := aboveKept_countPier s l code v

theorem accessRel_kept : AccessRel Kept where
  trans := Kept.trans
  quiet hr _ _ := .of_regs hr
  pier s l n _ hl := fun m hm => s.get_set_ne l m n (by have := hm.ge; omega)
  countQ s l code v := (aboveKept_countPier s l code v).kept

theorem accessRel_hostGrows : AccessRel HostGrows where
  trans := HostGrows.trans
  quiet _ _ hh := .of_host hh
  pier s l n _ _ := hostGrows_set s l n
  countQ s _ code v := hostGrows_countQ s 2 _ code v

theorem kept_memRead (s : State) (a n : Nat) (nal : Bool) : Kept s (s.memRead a n nal).2 := accessRel_kept.memRead kept_occur s a n nal
theorem kept_memWrite (s : State) (a : Nat) (d : List Byte) (nal : Bool) : Kept s (s.memWrite a d nal).2 := accessRel_kept.memWrite kept_occur s a d nal

end Sys2Proof.Machine
end

section
open Sys2Proof Sys2Proof.Machine

namespace Sys2Proof.Machine

/-! ### A range within one line, written and read back (R28, R172, R180) -/

theorem piecesOf_line {a n : Nat} (hn : n ≠ 0) (hfit : a % 64 + n ≤ 64) : piecesOf a n = [(lineOf a, a % 64, n)] := by
  rw [piecesOf, linePieces_succ _ _ hn, show min (64 - a % 64) n = n by omega, Nat.sub_self, linePieces_zero]

theorem writePending_met (s : State) (l k : Nat) : (s.met l).writePending k = s.writePending k := by
  have hlm := lm_lcError s.drawn l ⟨Config.upsetArray s.free % 3, Nat.mod_lt _ (by decide)⟩
  unfold State.met
  exact (writePending_of_wbuf (by rw [hlm]) k).trans (writePending_of_wbuf (s := s) (t := s.drawn) rfl k)

theorem writePending_mergeDone {l off : Nat} {data : List Byte} {nal : Bool} {r : Option (List Byte) × Nat × State}
    (h : (mergeDone l off data nal r).1 = true) : (mergeDone l off data nal r).2.writePending l = true := by
  unfold mergeDone at h ⊢
  split at h
  · exact writePending_writeAlloc _ (writePending_lineStore _ l off data)
  · cases h

/-- A partial write that the slice performs leaves its line waiting for its write to DRAM. -/
theorem writePending_lineWrite {s : State} {l off : Nat} {data : List Byte} {nal : Bool} (h : (s.lineWrite l off data nal).1 = true) :
    (s.lineWrite l off data nal).2.writePending l = true := by
  rw [State.lineWrite_eq] at h ⊢
  split at h
  next hc =>
    rw [if_pos hc]
    exact writePending_writeAlloc _ (writePending_lineStore _ l off data)
  next hc =>
    rw [if_neg hc]
    exact writePending_mergeDone h

/-- A line whose write to DRAM waits is read as memory holds it. -/
theorem State.lineRead_pending {s : State} {l : Nat} (nal : Bool) (h : s.writePending l = true) : (s.lineRead l nal).1 = some (s.lineBytes l) := by
  have hmet := (lmStep_met s l).lineBytes l
  have hcount := lmStep_count (s.met l) l 0x004 1
  have hpending : ((s.met l).count 2 (pierOf l) 0x004 1).writePending l = true := by
    rw [(alike_count (s.met l) l 0x004 1).writePending, writePending_met, h]
  unfold State.lineRead
  rw [State.sliceRead_eq]
  split
  · rw [hmet]
  · unfold State.missRead
    rw [if_pos hpending, hcount.lineBytes, hmet]

/-- A line read as memory holds it: a line of a bowl, or one whose write to DRAM waits. -/
def State.Settled (s : State) (l : Nat) : Prop := dramLine l = true → s.writePending l = true

/-- A range within one line that is settled is read as memory holds it. -/
theorem State.memRead_settled {s : State} {a n : Nat} (hn : n ≠ 0) (hfit : a % 64 + n ≤ 64) (hmapped : rangeHole a n = none)
    (h : s.Settled (lineOf a)) : (s.memRead a n false).1 = some (s.bytes a n) := by
  unfold State.memRead
  rw [State.rangeRead_of_mapped false hmapped, piecesOf_line hn hfit, List.foldl_cons, List.foldl_nil, readPiece]
  cases hdram : dramLine (lineOf a) with
  | true =>
    have hread := State.lineRead_pending false (h hdram)
    simp only [if_true, hread, List.nil_append, State.slice_lineBytes s hfit]
  | false => simp only [Bool.false_eq_true, if_false, List.nil_append, State.slice_lineBytes s hfit]

/-- A range within one line that a write has stored is settled. -/
theorem State.settled_memWrite {s : State} {a : Nat} {data : List Byte} (hn : data.length ≠ 0) (hfit : a % 64 + data.length ≤ 64)
    (h : (s.memWrite a data false).1 = true) : rangeHole a data.length = none ∧ (s.memWrite a data false).2.Settled (lineOf a) := by
  cases hhole : rangeHole a data.length with
  | some e =>
    rw [State.memWrite_of_hole false hhole] at h
    cases h
  | none =>
    refine ⟨rfl, fun hdram => ?_⟩
    have hpiece := State.memWrite_piece (s := s) false hhole (piecesOf_line hn hfit) hdram
    rw [hpiece] at h ⊢
    exact writePending_lineWrite h

/-- A number within one line that a write has stored is read back. -/
theorem State.memRead_memWrite {s : State} {a n v : Nat} (hn : n ≠ 0) (hfit : a % 64 + n ≤ 64) (hv : v < 256 ^ n)
    (h : (s.memWrite a (leBytes n v) false).1 = true) :
    (s.memWrite a (leBytes n v) false).2.num a n = v
      ∧ ∀ u, Alike (s.memWrite a (leBytes n v) false).2 u → ∃ d, (u.memRead a n false).1 = some d ∧ leNat d = v := by
  have hlen : (leBytes n v).length = n := length_leBytes n v
  have hstored := ((memWrite_spec s a (leBytes n v) false).2.2 h).num hv
  obtain ⟨hhole, hsettled⟩ := State.settled_memWrite (by rw [hlen]; exact hn) (by rw [hlen]; exact hfit) h
  rw [hlen] at hhole
  refine ⟨hstored, fun u hu => ⟨_, State.memRead_settled hn hfit hhole fun hdram => (hu.writePending _).trans (hsettled hdram), ?_⟩⟩
  rw [hu.bytes]
  exact hstored

/-! ### The KV pool (R212) -/

theorem MemStep.hds {s t : State} (h : MemStep s t) : t.hds = s.hds := h.field State.hds fun _ _ _ _ _ _ _ => rfl

theorem MemStep.unreached {s t : State} (h : MemStep s t) : Unreached s t :=
  ⟨h.field State.pending fun _ _ _ _ _ _ _ => rfl, h.field State.now fun _ _ _ _ _ _ _ => rfl, h.field State.tap fun _ _ _ _ _ _ _ => rfl⟩

theorem memStep_memWrite (s : State) (a : Nat) (d : List Byte) (nal : Bool) : MemStep s (s.memWrite a d nal).2 := (memWrite_spec s a d nal).1

/-- A register of the headstock below its banks, the program slots and the queue pairs is kept. -/
theorem keptLoc_hds {m : Loc} (h : 0x7f100000000 ≤ m.addr) (h' : m.addr < 0x7f101000000) : KeptLoc m := by
  refine .inl ⟨h, ?_⟩
  rw [Bool.eq_false_iff]
  unfold noteReg Reg.AON_EVINTAKE
  simp only [ne_eq, Bool.or_eq_true, decide_eq_true_eq]
  omega

theorem keptLoc_kvpool : KeptLoc Reg.HDS_KVPOOL_ADDR := keptLoc_hds (by decide) (by decide)

theorem State.poolPush_hds {s : State} {a : Nat} (h : s.hds.poolTop < s.get Reg.HDS_KVFREE_SIZE) :
    (s.poolPush a).hds = { s.hds with poolTop := s.hds.poolTop + 1 } := by
  unfold State.poolPush
  rw [if_pos h]
  exact congrArg (fun x : HdsState => { x with poolTop := s.hds.poolTop + 1 }) (memStep_memWrite s _ _ false).hds

/-- The top entry of the pool, once its line is read. -/
theorem State.poolPop_of_some {s : State} {d : List Byte} (h : (s.memRead (s.get Reg.HDS_KVPOOL_ADDR + 8 * (s.hds.poolTop - 1)) 8 false).1 = some d) :
    s.poolPop.1 = some (leNat d) ∧ s.poolPop.2.hds = { s.hds with poolTop := s.hds.poolTop - 1 } := by
  have hread := (memStep_memRead s (s.get Reg.HDS_KVPOOL_ADDR + 8 * (s.hds.poolTop - 1)) 8 false).hds
  unfold State.poolPop
  generalize s.memRead (s.get Reg.HDS_KVPOOL_ADDR + 8 * (s.hds.poolTop - 1)) 8 false = r at h hread
  dsimp only
  rw [h, ← hread]
  exact ⟨rfl, rfl⟩

/-- An address returned to the pool is the next one taken. -/
theorem State.poolPop_poolPush {s : State} {addr : Nat} (haddr : addr < 256 ^ 8) (hroom : s.hds.poolTop < s.get Reg.HDS_KVFREE_SIZE)
    (halign : (s.get Reg.HDS_KVPOOL_ADDR + 8 * s.hds.poolTop) % 8 = 0)
    (hwrite : (s.memWrite (s.get Reg.HDS_KVPOOL_ADDR + 8 * s.hds.poolTop) (leBytes 8 addr) false).1 = true) :
    (s.poolPush addr).num (s.get Reg.HDS_KVPOOL_ADDR + 8 * s.hds.poolTop) 8 = addr
      ∧ (s.poolPush addr).poolPop.1 = some addr ∧ (s.poolPush addr).poolPop.2.hds = s.hds := by
  obtain ⟨hnum, hback⟩ := State.memRead_memWrite (s := s) (by decide) (by omega) haddr hwrite
  have hpush : Alike (s.memWrite (s.get Reg.HDS_KVPOOL_ADDR + 8 * s.hds.poolTop) (leBytes 8 addr) false).2 (s.poolPush addr)
      ∧ Kept s (s.poolPush addr) := by
    unfold State.poolPush
    rw [if_pos hroom]
    exact ⟨⟨rfl, rfl, rfl, rfl⟩, (kept_memWrite s _ _ false).trans (.of_regs rfl)⟩
  have hhds := State.poolPush_hds (a := addr) hroom
  generalize s.poolPush addr = p at hpush hhds
  obtain ⟨halike, hkept⟩ := hpush
  obtain ⟨d, hd, hval⟩ := hback p halike
  refine ⟨(halike.num _ 8).trans hnum, ?_⟩
  have htop : p.get Reg.HDS_KVPOOL_ADDR + 8 * (p.hds.poolTop - 1) = s.get Reg.HDS_KVPOOL_ADDR + 8 * s.hds.poolTop := by
    rw [hkept _ keptLoc_kvpool, hhds]
    rfl
  obtain ⟨htaken, hafter⟩ := State.poolPop_of_some (s := p) (by rw [htop]; exact hd)
  exact ⟨by rw [htaken, hval], by rw [hafter, hhds]; rfl⟩

/-! ### The size of the pool -/

theorem memStep_slotTable (s : State) : MemStep s s.slotTable.2 := by
  unfold State.slotTable
  exact List.foldlRecOn (List.range _) _ (b := ([], s)) (motive := fun acc : List (Nat × Option SlotRow) × State => MemStep s acc.2) (MemStep.refl s)
    fun acc hacc n _ => hacc.trans (memStep_memRead acc.2 _ 32 false)

theorem memStep_slotsBusy (s : State) : MemStep s s.slotsBusy.2 := memStep_slotTable s

/-- The headstock's own state is another. -/
def State.withHds (s : State) (x : HdsState) : State := { s with hds := x }

theorem State.get_withHds (s : State) (x : HdsState) (l : Loc) : (s.withHds x).get l = s.get l := rfl
theorem State.hds_withHds (s : State) (x : HdsState) : (s.withHds x).hds = x := rfl
theorem State.withHds_withHds (s : State) (x y : HdsState) : (s.withHds x).withHds y = s.withHds y := rfl
theorem State.unreached_withHds (s : State) (x : HdsState) : Unreached s (s.withHds x) := ⟨rfl, rfl, rfl⟩
theorem State.alike_withHds (s : State) (x : HdsState) : Alike s (s.withHds x) := ⟨rfl, rfl, rfl, rfl⟩
theorem State.mem_withHds (s : State) (x : HdsState) : (s.withHds x).mem = s.mem := rfl
theorem State.unreached_set (s : State) (l : Loc) (k : Nat) : Unreached s (s.set l k) := ⟨rfl, rfl, rfl⟩

/-- A pool size that is taken (R212). -/
def State.poolSized (u : State) (v : Nat) : State :=
  (u.set Reg.HDS_KVFREE_SIZE v).withHds { (u.set Reg.HDS_KVFREE_SIZE v).hds with poolTop := (u.set Reg.HDS_KVFREE_SIZE v).get Reg.HDS_KVFREE_SIZE }

section
variable (u : State) {v : Nat} (hv : v < 16777216)
include hv

theorem State.get_kvSize : (u.set Reg.HDS_KVFREE_SIZE v).get Reg.HDS_KVFREE_SIZE = v :=
  (u.get_set Reg.HDS_KVFREE_SIZE v (by decide)).trans (Nat.mod_eq_of_lt hv)

theorem State.get_poolSized : (u.poolSized v).get Reg.HDS_KVFREE_SIZE = v := by
  rw [State.poolSized, State.get_withHds, u.get_kvSize hv]

theorem State.hds_poolSized : (u.poolSized v).hds = { u.hds with poolTop := v } := by
  rw [State.poolSized, State.hds_withHds, u.get_kvSize hv, State.hds_set]

end

theorem State.poolSized_only (u : State) (v : Nat) : RegsOnly [Reg.HDS_KVFREE] u ((u.poolSized v).withHds u.hds) := by
  have hset : RegsOnly [Reg.HDS_KVFREE] u (u.set Reg.HDS_KVFREE_SIZE v) := RegsOnly.set u v List.mem_cons_self
  rw [State.poolSized, State.withHds_withHds]
  unfold State.withHds
  rw [hset.hds_eq]
  exact hset

theorem State.kvSizeWrite_eq (s : State) (v : Nat) :
    s.kvSizeWrite v = if s.slotsBusy.1 then s.slotsBusy.2 else s.slotsBusy.2.poolSized v := rfl

theorem State.unreached_poolSized (u : State) (v : Nat) : Unreached u (u.poolSized v) :=
  (u.unreached_set _ _).trans (State.unreached_withHds _ _)

/-! ### Program slots (R205, R206) -/

theorem find?_filter_ne {V : Type} (m : List (Nat × V)) (k : Nat) : (m.filter (·.1 != k)).find? (·.1 == k) = none :=
  List.find?_eq_none.2 fun e he => by simpa using (List.mem_filter.1 he).2

/-- Every instruction cache is empty once all are invalidated. -/
theorem State.icache_clearIcaches (s : State) (i : Nat) : (s.clearIcaches.spindle i).icache = [] := by
  unfold State.clearIcaches State.spindle
  dsimp only
  induction s.spn with
  | nil => rfl
  | cons e m ih =>
    rw [List.filterMap_cons]
    split
    · exact ih
    next e' he =>
      split at he
      · cases he
      · obtain rfl := Option.some.inj he
        unfold smapGet
        split
        · rfl
        · exact ih

theorem keptLoc_prog (n : Fin 64) (lo w : Nat) : KeptLoc ⟨Reg.HDS_PROG n, lo, w⟩ :=
  keptLoc_hds (by unfold Reg.HDS_PROG; dsimp only; omega) (by unfold Reg.HDS_PROG; dsimp only; omega)

/-- The state in which a program slot's header is read: the slot no longer waits for its check. -/
def State.checked (s : State) (n : Nat) : State := s.withHds { s.hds with checking := s.hds.checking.filter (· != n) }

/-- The flags of a slot whose header passed (R206). -/
def State.programMarked (s : State) (n : Nat) : State := (s.set (Reg.HDS_PROG_VALID n) 1).set (Reg.HDS_PROG_BAD n) 0

/-- A slot whose header passed (R206). -/
def State.programGood (u : State) (n : Nat) (hdr : ProgHeader) : State :=
  (u.clearIcaches.withHds { u.clearIcaches.hds with programs := u.clearIcaches.hds.programs ++ [(n, hdr)] }).programMarked n

/-- A slot whose header failed or could not be read (R206). -/
def State.programBad (u : State) (n : Nat) : State := (u.set (Reg.HDS_PROG_BAD n) 1).occur 0x0602 0 (leBytes 1 n)

section
variable (u : State) (n : Fin 64)

theorem State.programMarked_flags : (u.programMarked n).flag (Reg.HDS_PROG_VALID n) = true ∧ (u.programMarked n).flag (Reg.HDS_PROG_BAD n) = false := by
  have hvalid : (u.programMarked n).get (Reg.HDS_PROG_VALID n) = 1 :=
    (State.get_set_apart _ _ 49 1 48 1 0 (by decide) (by decide)).trans (State.get_set_same _ _ 48 1 1 (by decide))
  have hbad : (u.programMarked n).get (Reg.HDS_PROG_BAD n) = 0 := State.get_set_same _ _ 49 1 0 (by decide)
  rw [State.flag, State.flag, hvalid, hbad]
  exact ⟨rfl, rfl⟩

theorem State.programBad_noted : Noted (u.set (Reg.HDS_PROG_BAD n) 1) (u.programBad n) := noted_occur _ _ _ _

theorem State.programBad_flags :
    (u.programBad n).flag (Reg.HDS_PROG_BAD n) = true ∧ (u.programBad n).flag (Reg.HDS_PROG_VALID n) = u.flag (Reg.HDS_PROG_VALID n) := by
  have hnote := kept_occur (u.set (Reg.HDS_PROG_BAD n) 1) 0x0602 0 (leBytes 1 n)
  have hbad : (u.programBad n).get (Reg.HDS_PROG_BAD n) = 1 :=
    (hnote _ (keptLoc_prog n 49 1)).trans (State.get_set_same _ _ 49 1 1 (by decide))
  have hvalid : (u.programBad n).get (Reg.HDS_PROG_VALID n) = u.get (Reg.HDS_PROG_VALID n) :=
    (hnote _ (keptLoc_prog n 48 1)).trans (State.get_set_apart u _ 49 1 48 1 1 (by decide) (by decide))
  rw [State.flag, State.flag, State.flag, hbad, hvalid]
  exact ⟨rfl, rfl⟩

theorem State.programBad_only : RegsBut [Reg.HDS_PROG n] u (u.programBad n) :=
  (regsBut_set u 1 List.mem_cons_self).trans ((u.programBad_noted n).regsBut _)

theorem State.programBad_hds : (u.programBad n).hds = u.hds := by
  rw [(u.programBad_noted n).field State.hds fun _ _ _ => rfl, State.hds_set]

theorem State.programBad_mem : (u.programBad n).mem = u.mem := by
  rw [(u.programBad_noted n).field State.mem fun _ _ _ => rfl, State.mem_set]

theorem State.programBad_unreached : Unreached u (u.programBad n) := (u.unreached_set _ _).trans (u.programBad_noted n).unreached

end

/-! ### The check of a program's header -/

section
variable {s : State} (n : Fin 64)

/-- What follows the reading of a header at address `a` (R206). -/
def headerRead (n a : Nat) (r : Option (List Byte) × State) : State :=
  match r.1 with
  | some d => if headerOk a d then r.2.programGood n (parseHeader a d) else r.2.programBad n
  | none => r.2.programBad n

theorem headerRead_good {n a : Nat} {r : Option (List Byte) × State} {d : List Byte} (hd : r.1 = some d) (hok : headerOk a d = true) :
    headerRead n a r = r.2.programGood n (parseHeader a d) := by
  unfold headerRead
  rw [hd]
  exact if_pos hok

theorem headerRead_bad {n a : Nat} {r : Option (List Byte) × State} (h : r.1.any (headerOk a) = false) : headerRead n a r = r.2.programBad n := by
  unfold headerRead
  split
  next d hd =>
    rw [hd] at h
    exact if_neg (by rw [show headerOk a d = false from h]; exact Bool.false_ne_true)
  · rfl

theorem exec_programCheckDone (hrun : s.running = true) : exec (.programCheckDone n) s = .next (s.keeping (
    if !s.hds.checking.contains n.val then s
    else headerRead n (s.get (Reg.HDS_PROG_ADDR n)) (if s.get (Reg.HDS_PROG_ADDR n) % 64 = 0 ∧ s.get (Reg.HDS_PROG_ADDR n) + 64 ≤ dramEnd
      then (s.checked n).memRead (s.get (Reg.HDS_PROG_ADDR n)) 64 false else (none, s.checked n)))) := by
  have hc : exec (.programCheckDone n) s = execProgramCheckDone n s := rfl
  rw [hc, execProgramCheckDone, State.run_running _ _ hrun]
  rfl

theorem spindle_setReg (s : State) (l : Loc) (k i : Nat) : (s.set l k).spindle i = s.spindle i := rfl
theorem spindle_withHds (s : State) (x : HdsState) (i : Nat) : (s.withHds x).spindle i = s.spindle i := rfl
theorem hds_clearIcaches (s : State) : s.clearIcaches.hds = s.hds := rfl
theorem mem_clearIcaches (s : State) : s.clearIcaches.mem = s.mem := rfl
theorem unreached_clearIcaches (s : State) : Unreached s s.clearIcaches := ⟨rfl, rfl, rfl⟩

/-- The header's line, read in the state where the slot no longer waits. -/
theorem State.memRead_checked (s : State) (n a : Nat) :
    ((s.checked n).memRead a 64 false).1 = (s.memRead a 64 false).1 ∧ ((s.checked n).memRead a 64 false).2.mem = (s.memRead a 64 false).2.mem
      ∧ ((s.checked n).memRead a 64 false).2.hds = { s.hds with checking := s.hds.checking.filter (· != n) }
      ∧ Unreached s ((s.checked n).memRead a 64 false).2 ∧ Kept s ((s.checked n).memRead a 64 false).2 := by
  have hsame := (s.alike_withHds { s.hds with checking := s.hds.checking.filter (· != n) }).memRead a 64 false
  have hstep := memStep_memRead (s.checked n) a 64 false
  exact ⟨hsame.answer, hsame.state.mem, hstep.hds, (s.unreached_withHds _).trans hstep.unreached,
    Kept.trans (t := s.checked n) (.of_regs rfl) (kept_memRead _ a 64 false)⟩

/-- What a passed check leaves. -/
theorem State.programGood_spec (u : State) (hdr : ProgHeader) : let t := u.programGood n hdr
    t.flag (Reg.HDS_PROG_VALID n) = true ∧ t.flag (Reg.HDS_PROG_BAD n) = false
      ∧ t.hds = { u.hds with programs := u.hds.programs ++ [(n.val, hdr)] } ∧ t.mem = u.mem ∧ Unreached u t ∧ ∀ i, (t.spindle i).icache = [] := by
  obtain ⟨hvalid, hbad⟩ := (u.clearIcaches.withHds { u.clearIcaches.hds with programs := u.clearIcaches.hds.programs ++ [(n.val, hdr)] }).programMarked_flags n
  refine ⟨hvalid, hbad, ?_, ?_, ?_, fun i => ?_⟩
  · rw [State.programGood, State.programMarked, State.hds_set, State.hds_set, State.hds_withHds, hds_clearIcaches]
  · rw [State.programGood, State.programMarked, State.mem_set, State.mem_set, State.mem_withHds, mem_clearIcaches]
  · rw [State.programGood, State.programMarked]
    exact (unreached_clearIcaches u).trans ((State.unreached_withHds _ _).trans ((State.unreached_set _ _ _).trans (State.unreached_set _ _ _)))
  · rw [State.programGood, State.programMarked, spindle_setReg, spindle_setReg, spindle_withHds, u.icache_clearIcaches]

theorem contains_filter_ne (l : List Nat) (n : Nat) : (l.filter (· != n)).contains n = false := by simp

end

/-! ### A write of a program slot -/

/-- The address of a program slot as a write leaves it: that of a valid slot, or of one in use, stays (R206). -/
def State.progAddressed (s : State) (n : Nat) (v : Word64) : State :=
  if s.flag (Reg.HDS_PROG_VALID n) || s.progUsers n != 0 then s else s.set (Reg.HDS_PROG_ADDR n) v.toNat

/-- The headstock's own state as a write of a program slot leaves it. -/
def progWritten (x : HdsState) (n : Nat) (v : Word64) : HdsState :=
  { x with programs := x.programs.filter (·.1 != n), checking := x.checking.filter (· != n) ++ (if bits v.toNat 48 1 == 1 then [n] else []) }

theorem State.progWrite_eq (s : State) (n : Nat) (v : Word64) :
    s.progWrite n v = ((s.progAddressed n v).withHds (progWritten (s.progAddressed n v).hds n v)).set (Reg.HDS_PROG_VALID n) 0 := rfl

theorem checking_progWritten (x : HdsState) (n : Nat) (v : Word64) : (progWritten x n v).checking.contains n = v.getLsbD 48 := by
  have hbit := bits_bit v 48
  have hlt := bits_lt v.toNat 48 1
  unfold progWritten
  rw [← hbit]
  by_cases hone : bits v.toNat 48 1 = 1
  · simp [hone]
  · have hzero : bits v.toNat 48 1 = 0 := by omega
    simp [hzero]

theorem State.progAddressed_only (s : State) (n : Nat) (v : Word64) : RegsOnly [Reg.HDS_PROG n] s (s.progAddressed n v) := by
  unfold State.progAddressed
  split
  · exact RegsOnly.refl _ s
  · exact RegsOnly.set s _ List.mem_cons_self

theorem State.get_progAddressed (s : State) (n : Nat) (v : Word64) : (s.progAddressed n v).get (Reg.HDS_PROG_ADDR n)
    = if s.flag (Reg.HDS_PROG_VALID n) = true ∨ s.progUsers n ≠ 0 then s.get (Reg.HDS_PROG_ADDR n) else v.toNat % 2 ^ (Reg.HDS_PROG_ADDR n).width := by
  have hcond : (s.flag (Reg.HDS_PROG_VALID n) || s.progUsers n != 0) = true ↔ s.flag (Reg.HDS_PROG_VALID n) = true ∨ s.progUsers n ≠ 0 := by
    rw [Bool.or_eq_true, bne_iff_ne]
  unfold State.progAddressed
  by_cases h : s.flag (Reg.HDS_PROG_VALID n) = true ∨ s.progUsers n ≠ 0
  · rw [if_pos h, if_pos (hcond.2 h)]
  · rw [if_neg h, if_neg (mt hcond.1 h)]
    exact State.get_set_same s _ 0 43 v.toNat (by decide)

theorem RegsOnly.set_withHds {rs : List Nat} {s t : State} (h : RegsOnly rs s t) (x : HdsState) {l : Loc} (k : Nat) (hl : l.addr ∈ rs) :
    RegsOnly rs s { (t.withHds x).set l k with hds := s.hds } ∧ Unreached s ((t.withHds x).set l k) := by
  refine ⟨?_, h.unreached.trans ((State.unreached_withHds t x).trans (State.unreached_set _ l k))⟩
  have hset := h.trans (RegsOnly.set t k hl)
  have hsame : { (t.withHds x).set l k with hds := s.hds } = ({ t.set l k with hds := s.hds } : State) := rfl
  rw [hsame, hset.hds_eq]
  exact hset

section
variable {s : State} (n : Fin 64)

/-- What the check of a header whose line is in DRAM leaves. -/
theorem exec_programCheck_line (hrun : s.running = true) (hcheck : s.hds.checking.contains n.val = true)
    (hplace : s.get (Reg.HDS_PROG_ADDR n) % 64 = 0 ∧ s.get (Reg.HDS_PROG_ADDR n) + 64 ≤ dramEnd) :
    let a := s.get (Reg.HDS_PROG_ADDR n)
    let u := ((s.checked n).memRead a 64 false).2
    (∀ d, (s.memRead a 64 false).1 = some d → headerOk a d = true → exec (.programCheckDone n) s = .next (u.programGood n (parseHeader a d)))
      ∧ ((s.memRead a 64 false).1.any (headerOk a) = false → exec (.programCheckDone n) s = .next (u.programBad n)) := by
  intro a u
  obtain ⟨hans, -, -, hun, -⟩ := s.memRead_checked n.val a
  have hexec : exec (.programCheckDone n) s = .next (s.keeping (headerRead n a ((s.checked n).memRead a 64 false))) := by
    rw [exec_programCheckDone n hrun, hcheck, if_pos hplace]
    rfl
  rw [hexec]
  refine ⟨fun d hd hok => ?_, fun hfail => ?_⟩
  · rw [headerRead_good (hans.trans hd) hok, (hun.trans (u.programGood_spec n (parseHeader a d)).2.2.2.2.1).keeping]
  · rw [headerRead_bad (by rw [hans]; exact hfail), (hun.trans (u.programBad_unreached n)).keeping]

/-- What the check of a header that is not a line of DRAM leaves (R206). -/
theorem exec_programCheck_nowhere (hrun : s.running = true) (hcheck : s.hds.checking.contains n.val = true)
    (hplace : ¬ (s.get (Reg.HDS_PROG_ADDR n) % 64 = 0 ∧ s.get (Reg.HDS_PROG_ADDR n) + 64 ≤ dramEnd)) :
    exec (.programCheckDone n) s = .next ((s.checked n).programBad n) := by
  have hchecked : Unreached s (s.checked n) := s.unreached_withHds _
  have hun : Unreached s ((s.checked n).programBad n) := hchecked.trans ((s.checked n).programBad_unreached n)
  have hexec : exec (.programCheckDone n) s = .next (s.keeping (headerRead n (s.get (Reg.HDS_PROG_ADDR n)) (none, s.checked n))) := by
    rw [exec_programCheckDone n hrun, hcheck, if_neg hplace, Bool.not_true, if_neg Bool.false_ne_true]
  rw [hexec, headerRead_bad (r := (none, s.checked n)) rfl, hun.keeping]

end

end Sys2Proof.Machine

/-- Settles O34: an access to memory changes no register of the headstock (`kept_memRead`), a returned address is read back from its line, which
waits for its write to DRAM (`State.poolPop_poolPush`), and a size is taken as `State.poolSized` says. -/
theorem programsAndPool : Obligations.ProgramsAndPool := by
  unfold Obligations.ProgramsAndPool
  intro s hrun
  have hbyte {u t : State} (h : t.mem = u.mem) : MemSame u t := fun a => congrArg (smapGet memByte · a) h
  refine ⟨fun n v => ?_, fun n hnone => ?_, fun n hcheck => ?_, fun addr => ⟨fun hroom => ⟨?_, State.poolPush_hds hroom, ?_⟩, fun hfull => ?_⟩,
    fun v hfree => ?_, fun v hbusy => ?_⟩
  · have hc : exec (.hdsProgWrite n v) s = execHdsProgWrite n v s := rfl
    obtain ⟨honly, hun⟩ := (s.progAddressed_only n v).set_withHds (progWritten (s.progAddressed n v).hds n v) (l := Reg.HDS_PROG_VALID n) 0 List.mem_cons_self
    rw [hc, execHdsProgWrite, State.run_running _ _ hrun, s.progWrite_eq, hun.keeping]
    refine ⟨_, rfl, ?_, ?_, ?_, ?_, honly⟩
    · exact congrArg (· != 0) (State.get_set_same _ _ 48 1 0 (by decide))
    · unfold State.program
      rw [State.hds_set, State.hds_withHds]
      exact congrArg (Option.map _) (find?_filter_ne _ _)
    · rw [State.hds_set, State.hds_withHds, checking_progWritten]
    · refine (State.get_set_apart _ _ 48 1 0 43 0 (by decide) (by decide)).trans ?_
      rw [State.get_withHds]
      exact s.get_progAddressed n v
  · rw [exec_programCheckDone n hrun, hnone]
    rfl
  · have hcontains := contains_filter_ne s.hds.checking n.val
    obtain ⟨hans, hmem, hhds, -, hkept⟩ := s.memRead_checked n.val (s.get (Reg.HDS_PROG_ADDR n))
    by_cases hplace : s.get (Reg.HDS_PROG_ADDR n) % 64 = 0 ∧ s.get (Reg.HDS_PROG_ADDR n) + 64 ≤ dramEnd
    · obtain ⟨hgood, hbad⟩ := exec_programCheck_line n hrun hcheck hplace
      generalize ((s.checked n.val).memRead (s.get (Reg.HDS_PROG_ADDR n)) 64 false).2 = u at hmem hhds hkept hgood hbad
      have hprog : u.hds.programs = s.hds.programs := by rw [hhds]
      obtain ⟨hbadbit, hbadvalid⟩ := u.programBad_flags n
      refine ⟨?_, fun _ _ hok hnone => ?_, fun _ _ hfail => ⟨_, hbad hfail, hbadbit, ?_, ?_, ?_⟩, fun hnot => absurd hplace (by omega)⟩
      · cases hany : (s.memRead (s.get (Reg.HDS_PROG_ADDR n)) 64 false).1.any (headerOk (s.get (Reg.HDS_PROG_ADDR n))) with
        | false => exact ⟨_, hbad hany, by rw [u.programBad_hds, hhds, hcontains], .inr hbadbit⟩
        | true =>
          obtain ⟨d, hd, hok⟩ := (Option.any_eq_true _ _).1 hany
          obtain ⟨hvalid, -, hafter, -⟩ := u.programGood_spec n (parseHeader (s.get (Reg.HDS_PROG_ADDR n)) d)
          exact ⟨_, hgood d hd hok, by rw [hafter, hhds, hcontains], .inl hvalid⟩
      · obtain ⟨d, hd, hok⟩ := (Option.any_eq_true _ _).1 hok
        obtain ⟨hvalid, hbadoff, hafter, hsame, -, hicache⟩ := u.programGood_spec n (parseHeader (s.get (Reg.HDS_PROG_ADDR n)) d)
        refine ⟨_, hgood d hd hok, hvalid, hbadoff, ?_, hicache, hbyte (hsame.trans hmem)⟩
        unfold State.program at hnone ⊢
        rw [hafter, hd, hprog, List.find?_append, Option.map_eq_none_iff.1 hnone, List.find?_cons_of_pos (by simp)]
        rfl
      · unfold State.program
        rw [u.programBad_hds, hprog]
      · rw [hbadvalid, State.flag, State.flag, hkept (Reg.HDS_PROG_VALID n) (keptLoc_prog n 48 1)]
      · exact hbyte ((u.programBad_mem n).trans hmem)
    · have hexec := exec_programCheck_nowhere n hrun hcheck hplace
      obtain ⟨hbadbit, -⟩ := (s.checked n.val).programBad_flags n
      refine ⟨⟨_, hexec, ?_, .inr hbadbit⟩, fun h h' => absurd ⟨h, h'⟩ hplace, fun h h' => absurd ⟨h, h'⟩ hplace,
        fun _ => ⟨_, hexec, hbadbit, hbyte ((s.checked n.val).programBad_mem n), (s.checked n.val).programBad_only n⟩⟩
      rw [(s.checked n.val).programBad_hds]
      exact hcontains
  · have hc : exec (.kvReturn addr) s = execKvReturn addr s := rfl
    rw [hc, execKvReturn, State.run_running _ _ hrun]
  · rintro a rfl halign hwrite
    obtain ⟨hnum, hpop, hhds⟩ := State.poolPop_poolPush (Nat.lt_trans addr.isLt (by decide)) hroom halign hwrite
    exact ⟨hnum, fun _ => ⟨hpop, hhds⟩⟩
  · have hc : exec (.kvReturn addr) s = execKvReturn addr s := rfl
    rw [hc, execKvReturn, State.run_running _ _ hrun, State.poolPush, if_neg (Nat.not_lt.2 hfull)]
    rfl
  · have hc : exec (.kvPoolSizeWrite v) s = execKvPoolSizeWrite v s := rfl
    have hstep := memStep_slotsBusy s
    have hsize : s.kvSizeWrite v = s.slotsBusy.2.poolSized v := by
      rw [s.kvSizeWrite_eq, hfree, if_neg Bool.false_ne_true]
    rw [hc, execKvPoolSizeWrite, State.run_running _ _ hrun, hsize, (hstep.unreached.trans (s.slotsBusy.2.unreached_poolSized v)).keeping]
    refine ⟨_, rfl, State.get_poolSized _ v.isLt, ?_, ?_⟩
    · rw [State.hds_poolSized _ v.isLt, hstep.hds]
    · rw [← hstep.hds]
      exact s.slotsBusy.2.poolSized_only v
  · have hc : exec (.kvPoolSizeWrite v) s = execKvPoolSizeWrite v s := rfl
    rw [hc, execKvPoolSizeWrite, State.run_running _ _ hrun, s.kvSizeWrite_eq, if_pos hbusy]
end

section
open Sys2Proof Sys2Proof.Machine

namespace Sys2Proof.Machine

/-! ### A request as the headstock's operations change it (R213, R227, R228) -/

theorem State.req_updReq (s : State) (h : Nat) {f : Request → Request} (hf : ∀ r, (f r).handle = r.handle) : (s.updReq h f).req h = (s.req h).map f :=
  find?_map_if (key := Request.handle) hf s.hds.requests

theorem State.get_updReq (s : State) (h : Nat) (f : Request → Request) (l : Loc) : (s.updReq h f).get l = s.get l := rfl

theorem State.req_keeping (s t : State) (h : Nat) : (s.keeping t).req h = t.req h := rfl

theorem State.req_of_hds {s t : State} (h : t.hds = s.hds) (k : Nat) : t.req k = s.req k := by
  unfold State.req
  rw [h]

/-- Request `h` stays, and keeps what `P` says of it. -/
def ReqKeeps (h : Nat) (P : Request → Request → Prop) (s t : State) : Prop := ∀ r, s.req h = some r → ∃ r', t.req h = some r' ∧ P r r'

/-- A request with no more than the reads asked for and answered changed. -/
def SameLookup (r r' : Request) : Prop := r' = { r with asked := r'.asked, answers := r'.answers }

/-- A request with no more than a cause of ending added. -/
def SameButCause (r r' : Request) : Prop := r' = { r with cause := r'.cause }

theorem SameLookup.refl (r : Request) : SameLookup r r := rfl
theorem SameButCause.refl (r : Request) : SameButCause r r := rfl

theorem SameLookup.trans {r r' r'' : Request} (h : SameLookup r r') (k : SameLookup r' r'') : SameLookup r r'' := by
  unfold SameLookup at *; rw [k, h]

theorem SameButCause.trans {r r' r'' : Request} (h : SameButCause r r') (k : SameButCause r' r'') : SameButCause r r'' := by
  unfold SameButCause at *; rw [k, h]

section
variable {h : Nat} {P : Request → Request → Prop}

theorem ReqKeeps.of_hds {s t : State} (hrefl : ∀ r, P r r) (heq : t.hds = s.hds) : ReqKeeps h P s t := fun r hr =>
  ⟨r, (State.req_of_hds heq h).trans hr, hrefl r⟩

theorem ReqKeeps.trans {s t u : State} (htrans : ∀ {r r' r''}, P r r' → P r' r'' → P r r'') (hst : ReqKeeps h P s t) (htu : ReqKeeps h P t u) :
    ReqKeeps h P s u := fun r hr => by
  obtain ⟨r', hr', hP⟩ := hst r hr
  obtain ⟨r'', hr'', hP'⟩ := htu r' hr'
  exact ⟨r'', hr'', htrans hP hP'⟩

theorem reqKeeps_updReq (s : State) {f : Request → Request} (hf : ∀ r, (f r).handle = r.handle) (hP : ∀ r, P r (f r)) :
    ReqKeeps h P s (s.updReq h f) := fun r hr => ⟨f r, by rw [s.req_updReq h hf, hr]; rfl, hP r⟩

end

theorem hds_memRead (s : State) (a n : Nat) (nal : Bool) : (s.memRead a n nal).2.hds = s.hds := (memStep_memRead s a n nal).hds
theorem hds_memWrite (s : State) (a : Nat) (d : List Byte) (nal : Bool) : (s.memWrite a d nal).2.hds = s.hds := (memStep_memWrite s a d nal).hds

theorem hds_remoteIssue (s : State) (owner : RemoteOwner) (fkind g len aop : Nat) (body : List Byte) :
    (s.remoteIssue owner fkind g len aop body).hds = s.hds := by
  unfold State.remoteIssue
  split <;> rfl

/-- What a lookup or an import asks for and has answered changes nothing else of its request. -/
theorem lookup_prefixPump (fuel : Nat) (s : State) (h : Nat) : ReqKeeps h SameLookup s (State.prefixPump fuel s h) := by
  have hasked (u v : State) (hv : v.hds = u.hds) (f : Request → Request) (hf : ∀ r, SameLookup r (f r)) : ReqKeeps h SameLookup u (v.updReq h f) :=
    ReqKeeps.trans SameLookup.trans (.of_hds SameLookup.refl hv) (reqKeeps_updReq v (fun r => by rw [hf r]) hf)
  induction fuel generalizing s with
  | zero => exact .of_hds SameLookup.refl rfl
  | succ fuel ih =>
    rw [State.prefixPump]
    split
    · exact .of_hds SameLookup.refl rfl
    · dsimp only
      split
      · exact .of_hds SameLookup.refl rfl
      · split
        · refine ReqKeeps.trans SameLookup.trans ?_ (ih _)
          exact hasked s _ (hds_memRead s _ _ _) _ fun _ => rfl
        · split
          · refine ReqKeeps.trans SameLookup.trans ?_ (ih _)
            exact hasked s _ (hds_remoteIssue s _ _ _ _ _ _) _ fun _ => rfl
          · exact .of_hds SameLookup.refl rfl

theorem lookup_prefixGo (s : State) (h : Nat) : ReqKeeps h SameLookup s (s.prefixGo h) := by
  unfold State.prefixGo
  split
  · exact .of_hds SameLookup.refl rfl
  · exact lookup_prefixPump _ s h

/-! ### The writes of an import -/

/-- A step of an import: request `h` gains no more than a cause of ending, and the headstock's registers stay. -/
def ImportStep (h : Nat) (s t : State) : Prop := ReqKeeps h SameButCause s t ∧ Kept s t

theorem ImportStep.refl (h : Nat) (s : State) : ImportStep h s s := ⟨.of_hds SameButCause.refl rfl, .of_regs rfl⟩

theorem ImportStep.trans {h : Nat} {s t u : State} (hst : ImportStep h s t) (htu : ImportStep h t u) : ImportStep h s u :=
  ⟨hst.1.trans SameButCause.trans htu.1, hst.2.trans htu.2⟩

theorem importStep_hdsPut (h : Nat) (s : State) (a : Nat) (d : List Byte) : ImportStep h s (s.hdsPut h a d) := by
  have hwrite : ImportStep h s (s.memWrite a d false).2 := ⟨.of_hds SameButCause.refl (hds_memWrite s a d false), kept_memWrite s a d false⟩
  unfold State.hdsPut
  dsimp only
  split
  · exact hwrite
  · refine hwrite.trans ⟨reqKeeps_updReq _ (fun r => ?_) fun r => ?_, .of_regs rfl⟩
    · split <;> rfl
    · split <;> rfl

theorem importStep_copyRecords (h : Nat) (s : State) (r : Request) (hdr : ProgHeader) (b : Nat) (bundle : List Byte) :
    ImportStep h s (s.copyRecords h r hdr b bundle) :=
  List.foldlRecOn (List.range _) _ (b := s) (motive := ImportStep h s) (ImportStep.refl h s) fun u hu _ _ => hu.trans (importStep_hdsPut h u _ _)

theorem importStep_setBlocks (h : Nat) (s : State) (n : Nat) (l : List (Nat × Nat × Bool)) : ImportStep h s (s.setBlocks n l) :=
  ⟨fun r hr => ⟨r, hr, SameButCause.refl r⟩, .of_regs rfl⟩

/-- The block of an import that block `x` of the match is (R228). -/
def State.importBlock (h : Nat) (r : Request) (s : State) (x : (Nat × List Byte) × Nat) : State :=
  let g := if r.pdir.testBit 1 then x.1.1 ||| 2 ^ 59 else x.1.1
  ((s.hdsPut h (r.btaddr + 8 * x.2) (leBytes 8 g)).copyRecords h r r.hdr x.2 x.1.2).setBlocks r.slot
    ((x.2, g, false) :: ((s.hdsPut h (r.btaddr + 8 * x.2) (leBytes 8 g)).slotBlocks r.slot))

theorem importStep_importBlock (h : Nat) (r : Request) (s : State) (x : (Nat × List Byte) × Nat) : ImportStep h s (State.importBlock h r s x) :=
  ((importStep_hdsPut h s _ _).trans (importStep_copyRecords h _ r _ _ _)).trans (importStep_setBlocks h _ _ _)

/-- The state in which an import of `got` has written its blocks and MATCHED of its context. -/
def State.importWritten (s : State) (h : Nat) (r : Request) (got : List (Nat × List Byte)) : State :=
  let u := got.zipIdx.foldl (State.importBlock h r) s
  u.hdsPut h (u.ctxAddr h + 132) (leBytes 4 (64 * got.length))

theorem importStep_importWritten (h : Nat) (s : State) (r : Request) (got : List (Nat × List Byte)) : ImportStep h s (s.importWritten h r got) :=
  ImportStep.trans (List.foldlRecOn got.zipIdx _ (b := s) (motive := ImportStep h s) (ImportStep.refl h s)
    fun u hu x _ => hu.trans (importStep_importBlock h r u x)) (importStep_hdsPut h _ _ _)

/-- The counts of an import of `m` blocks. -/
def State.importCounted (s : State) (m : Nat) : State := (s.inc Reg.HDS_PDIRSTAT_MATCHED m).count 3 0 0x008 m

/-- An import of `m` blocks has ended (R213). -/
def importDone (m : Nat) (r : Request) : Request :=
  { r with phase := .done, answers := [], asked := 0, imported := m, matched := 64 * m, reserved := r.reserved - m }

theorem hds_importCounted (s : State) (m : Nat) : (s.importCounted m).hds = s.hds :=
  ((noted_count (s.inc Reg.HDS_PDIRSTAT_MATCHED m) 3 0 0x008 m (by decide)).field State.hds fun _ _ _ => rfl).trans (s.hds_set _ _)

theorem get_importCounted (s : State) (m : Nat) :
    (s.importCounted m).get Reg.HDS_PDIRSTAT_MATCHED = (s.get Reg.HDS_PDIRSTAT_MATCHED + m) % 2 ^ Reg.HDS_PDIRSTAT_MATCHED.width :=
  (kept_countHds (s.inc Reg.HDS_PDIRSTAT_MATCHED m) 0x008 m _ (keptLoc_hds (by decide) (by decide))).trans (s.get_set _ _ (by decide))

/-- A lookup has found its run of blocks, and the import begins (R228). -/
def lookupDone (found : List (Nat × Nat)) (r : Request) : Request := { r with phase := .importing, answers := [], asked := 0, found := found }

/-- What the expiry of a request's flush delay does (R202). -/
def State.flushDue (s : State) (h : Nat) (r : Request) : State :=
  match r.pending with
  | [] => s
  | t :: _ => if t.2 + 1000 * s.get (Reg.HDS_QP_CTL_FLUSH r.qp) ≤ s.now ∧ r.streamed ≠ 0 then s.tokenDue h else s

section
variable {s : State} {h : Fin 8192} {r : Request}

theorem exec_prefixLookup_eq (hrun : s.running = true) (hr : s.req h = some r) : exec (.prefixLookup h) s = .next (s.keeping (
    if r.phase ≠ .looking ∨ r.ended ∨ r.answers.length < lookupBlocks r then s
    else (s.updReq h (lookupDone (matchRun r r.keys (lookupBlocks r) 0))).prefixGo h)) := by
  have hc : exec (.prefixLookup h) s = execPrefixLookup h s := rfl
  rw [hc, execPrefixLookup, State.run_running _ _ hrun, hr]
  rfl

theorem exec_prefixImport_eq (hrun : s.running = true) (hr : s.req h = some r) : exec (.prefixImport h) s = .next (s.keeping (
    if r.phase ≠ .importing ∨ r.ended ∨ r.answers.length < (bundlePieces r).length then s
    else (((s.importWritten h r (bundlesRead r r.hdr r.found 0)).importCounted (bundlesRead r r.hdr r.found 0).length).updReq h
      (importDone (bundlesRead r r.hdr r.found 0).length)))) := by
  have hc : exec (.prefixImport h) s = execPrefixImport h s := rfl
  rw [hc, execPrefixImport, State.run_running _ _ hrun, hr]
  rfl

theorem exec_flushDelayExpiry_eq (hrun : s.running = true) (hr : s.req h = some r) : exec (.flushDelayExpiry h) s = .next (s.keeping (s.flushDue h r)) := by
  have hc : exec (.flushDelayExpiry h) s = execFlushDelayExpiry h s := rfl
  rw [hc, execFlushDelayExpiry, State.run_running _ _ hrun, hr]
  rfl

end

/-! ### Token entries (R202) -/

/-- A token entry of a request as it becomes due. -/
def State.tokenEntry (s : State) (h : Nat) (r : Request) : DueEntry :=
  { qp := r.qp, order := r.order, since := s.now, handle := some h, tag := r.entry.tag, kind := 0, code := 0, detail := 0, seq := r.slot, gen := 0,
    toks := [], matched := 0 }

theorem State.tokenDue_new {s : State} {h : Nat} {r : Request} (hr : s.req h = some r) (hpending : r.pending ≠ [])
    (hnone : s.hds.due.any (fun d => d.handle == some h) = false) :
    s.tokenDue h = { s with hds := { s.hds with due := s.hds.due ++ [s.tokenEntry h r] } } := by
  unfold State.tokenDue
  rw [hr]
  dsimp only
  rw [if_neg (by simp [hnone, hpending])]
  rfl

theorem State.tokenDue_due {s : State} {h : Nat} (hdue : s.hds.due.any (fun d => d.handle == some h) = true) : s.tokenDue h = s := by
  unfold State.tokenDue
  split
  · rfl
  · dsimp only
    rw [if_pos (by rw [hdue]; rfl)]

/-- Before its time, with no tokens to carry, or with an entry due already, the expiry does nothing. -/
theorem State.flushDue_stays {s : State} {h : Nat} {r : Request} (hnot : s.hds.due.any (fun d => d.handle == some h) = true ∨ r.pending = []
    ∨ r.streamed = 0 ∨ ∃ k l, r.pending = k :: l ∧ s.now < k.2 + 1000 * s.get (Reg.HDS_QP_CTL_FLUSH r.qp)) : s.flushDue h r = s := by
  unfold State.flushDue
  split
  · rfl
  next t l hpending =>
    rcases hnot with hdue | hnil | hstream | ⟨k, l', hk, htime⟩
    · rw [State.tokenDue_due hdue, ite_self]
    · rw [hnil] at hpending; cases hpending
    · rw [if_neg fun h => h.2 hstream]
    · rw [hpending] at hk
      obtain ⟨rfl, rfl⟩ := List.cons.inj hk
      rw [if_neg fun h => Nat.not_le.2 htime h.1]

/-! ### The entry that is written next (R202) -/

/-- An entry is written after entry `d`, whichever was listed first. -/
def DueEntry.After (d x : DueEntry) : Prop := d.since < x.since ∨ (d.since = x.since ∧ d.order < x.order)

/-- The entry of two that is written first. -/
def firstDue (b : Option DueEntry) (d : DueEntry) : Option DueEntry :=
  match b with
  | none => some d
  | some c => if d.since < c.since ∨ (d.since = c.since ∧ d.order < c.order) then some d else some c

theorem State.nextDue_eq (s : State) (q : Nat) : s.nextDue q = (s.hds.due.filter (·.qp == q)).foldl firstDue none := rfl

theorem firstDue_before {d : DueEntry} {b : Option DueEntry} (h : ∀ c, b = some c → d.After c) : firstDue b d = some d := by
  cases b with
  | none => rfl
  | some c => exact if_pos (h c rfl)

theorem foldl_firstDue_after {d : DueEntry} {l : List DueEntry} (h : ∀ x ∈ l, d.After x) {b : Option DueEntry} (hb : ∀ c, b = some c → d.After c) :
    ∀ c, l.foldl firstDue b = some c → d.After c := by
  induction l generalizing b with
  | nil => exact hb
  | cons x l ih =>
    refine ih (fun y hy => h y (List.mem_cons_of_mem _ hy)) fun c hc => ?_
    cases b with
    | none => obtain rfl := Option.some.inj hc; exact h _ List.mem_cons_self
    | some e =>
      rw [firstDue] at hc
      split at hc
      · obtain rfl := Option.some.inj hc; exact h _ List.mem_cons_self
      · exact hb c hc

theorem foldl_firstDue_stays {d : DueEntry} {l : List DueEntry} (h : ∀ x ∈ l, d.since < x.since ∨ (d.since = x.since ∧ d.order ≤ x.order)) :
    l.foldl firstDue (some d) = some d := by
  induction l with
  | nil => rfl
  | cons x l ih =>
    have hx := h x List.mem_cons_self
    rw [List.foldl_cons, firstDue, if_neg (by omega)]
    exact ih fun y hy => h y (List.mem_cons_of_mem _ hy)

/-- The entry before which no other of its queue pair comes is written next, and it is the one that leaves the list. -/
theorem State.nextDue_of_first {s : State} {q : Nat} {pre post : List DueEntry} {d : DueEntry} (hdue : s.hds.due = pre ++ d :: post) (hq : d.qp = q)
    (hpre : ∀ x ∈ pre, x.qp = q → d.After x) (hpost : ∀ x ∈ post, x.qp = q → d.since < x.since ∨ (d.since = x.since ∧ d.order ≤ x.order)) :
    s.nextDue q = some d ∧ s.hds.due.erase d = pre ++ post := by
  have hfilter {l : List DueEntry} {P : DueEntry → Prop} (h : ∀ x ∈ l, x.qp = q → P x) : ∀ x ∈ l.filter (·.qp == q), P x := fun x hx =>
    h x (List.mem_filter.1 hx).1 (beq_iff_eq.1 (List.mem_filter.1 hx).2)
  have hfirst := foldl_firstDue_after (hfilter hpre) (b := none) fun c hc => by cases hc
  have hnot : d ∉ pre := fun hd => by have := hpre d hd hq; unfold DueEntry.After at this; omega
  constructor
  · rw [s.nextDue_eq, hdue, List.filter_append, List.filter_cons_of_pos (by rw [hq]; exact beq_self_eq_true q), List.foldl_append, List.foldl_cons,
      firstDue_before hfirst]
    exact foldl_firstDue_stays (hfilter hpost)
  · rw [hdue, List.erase_append_right _ hnot, List.erase_cons_head]

theorem State.nextDue_none {s : State} {q : Nat} (h : ∀ d ∈ s.hds.due, d.qp ≠ q) : s.nextDue q = none := by
  rw [s.nextDue_eq, List.filter_eq_nil_iff.2 fun d hd => by simpa using h d hd]
  rfl

/-! ### A completion entry is written (R201 to R203, R528, R532) -/

/-- Where the next completion entry of a queue pair goes. -/
def State.cqPlace (s : State) (q : Nat) : Nat := s.get (Reg.HDS_QP_CQ_ADDR q) + 64 * s.get (Reg.HDS_QP_STATUS_CQTAIL q)

/-- The frame that carries a completion entry to the host. -/
def completionFrame (a : Nat) (body : List Byte) : HostFrame := { akind := 4, cstat := 0, len := 64, atag := 0, addr := a % 2 ^ 64, body }

/-- A frame joins those that wait for the host. -/
def State.hostSend (s : State) (f : HostFrame) : State := { s with host := { s.host with vc1 := s.host.vc1 ++ [f] } }

/-- The bytes of an entry are written to DRAM, or go to the host. -/
def State.entryWritten (s : State) (d : DueEntry) : State :=
  if s.flag (Reg.HDS_QP_CTL_CQHOST d.qp) then s.hostSend (completionFrame (s.cqPlace d.qp) (s.completionBytes d))
  else (s.memWrite (s.cqPlace d.qp) (s.completionBytes d) false).2

/-- CQTAIL moves on, and the phase turns at the ring's end. -/
def State.cqAdvance (u : State) (q t : Nat) : State :=
  let v := u.set (Reg.HDS_QP_STATUS_CQTAIL q) t
  if t = 0 then { v with hds := { v.hds with phase := alSet v.hds.phase q (1 - alGet 1 v.hds.phase q) } } else v

/-- The entry is counted, and the interrupt that IRQMODE asks for is raised. -/
def State.cqNotify (u : State) (q kind : Nat) : State :=
  let w := u.count 3 0 0x005 1
  if 2 ≤ w.get (Reg.HDS_QP_CTL_IRQMODE q) ∨ (w.get (Reg.HDS_QP_CTL_IRQMODE q) = 1 ∧ kind = 1) then w.raiseVec (16 + q % 496) else w

theorem State.putCompletion_eq (s : State) (d : DueEntry) :
    s.putCompletion d = ((s.entryWritten d).cqAdvance d.qp ((s.get (Reg.HDS_QP_STATUS_CQTAIL d.qp) + 1) % s.cqSize d.qp)).cqNotify d.qp d.kind := rfl

/-- What the writing of an entry leaves of the headstock. -/
theorem State.entryWritten_spec (s : State) (d : DueEntry) : let u := s.entryWritten d
    u.hds = s.hds ∧ Unreached s u ∧ Kept s u ∧ HostGrows s u
      ∧ (s.flag (Reg.HDS_QP_CTL_CQHOST d.qp) = false → u.mem = (s.memWrite (s.cqPlace d.qp) (s.completionBytes d) false).2.mem)
      ∧ (s.flag (Reg.HDS_QP_CTL_CQHOST d.qp) = true → u.mem = s.mem
          ∧ u.host.vc1 = s.host.vc1 ++ [completionFrame (s.cqPlace d.qp) (s.completionBytes d)]) := by
  intro u
  cases hhost : s.flag (Reg.HDS_QP_CTL_CQHOST d.qp) with
  | true =>
    have hu : u = s.hostSend (completionFrame (s.cqPlace d.qp) (s.completionBytes d)) := if_pos hhost
    rw [hu]
    exact ⟨rfl, ⟨rfl, rfl, rfl⟩, .of_regs rfl, ⟨rfl, List.prefix_append _ _⟩, (nomatch ·), fun _ => ⟨rfl, rfl⟩⟩
  | false =>
    have hu : u = (s.memWrite (s.cqPlace d.qp) (s.completionBytes d) false).2 := if_neg (by rw [hhost]; exact Bool.false_ne_true)
    have hstep := memStep_memWrite s (s.cqPlace d.qp) (s.completionBytes d) false
    rw [hu]
    exact ⟨hstep.hds, hstep.unreached, kept_memWrite s _ _ _, accessRel_hostGrows.memWrite hostGrows_occur s _ _ _, fun _ => rfl, (nomatch ·)⟩

theorem keptLoc_qp {m : Loc} (h : 0x7f108000000 ≤ m.addr) (h' : m.addr < 0x7f200080000) : KeptLoc m :=
  .inl ⟨by omega, noteReg_hds (by omega) h'⟩

theorem State.host_withHds (s : State) (x : HdsState) : (s.withHds x).host = s.host := rfl

/-- What is next at CQTAIL, and the phase. -/
theorem State.cqAdvance_spec (u : State) (q t : Nat) : let w := u.cqAdvance q t
    w.get (Reg.HDS_QP_STATUS_CQTAIL q) = t % 2 ^ (Reg.HDS_QP_STATUS_CQTAIL q).width
      ∧ alGet 1 w.hds.phase q = (if t = 0 then 1 - alGet 1 u.hds.phase q else alGet 1 u.hds.phase q)
      ∧ w.hds.due = u.hds.due ∧ w.mem = u.mem ∧ w.host = u.host ∧ Unreached u w ∧ ∀ l : Loc, l.addr ≠ Reg.HDS_QP_STATUS q → w.get l = u.get l := by
  intro w
  have htail : (u.set (Reg.HDS_QP_STATUS_CQTAIL q) t).get (Reg.HDS_QP_STATUS_CQTAIL q) = t % 2 ^ (Reg.HDS_QP_STATUS_CQTAIL q).width :=
    State.get_set_same u _ 32 16 t (by decide)
  have hother (l : Loc) (hl : l.addr ≠ Reg.HDS_QP_STATUS q) : (u.set (Reg.HDS_QP_STATUS_CQTAIL q) t).get l = u.get l := u.get_set_ne _ l t hl
  by_cases ht : t = 0
  · have hw : w = (u.set (Reg.HDS_QP_STATUS_CQTAIL q) t).withHds { (u.set (Reg.HDS_QP_STATUS_CQTAIL q) t).hds with
        phase := alSet (u.set (Reg.HDS_QP_STATUS_CQTAIL q) t).hds.phase q (1 - alGet 1 (u.set (Reg.HDS_QP_STATUS_CQTAIL q) t).hds.phase q) } := if_pos ht
    rw [hw, u.hds_set, if_pos ht, State.get_withHds, State.hds_withHds, State.mem_withHds, State.host_withHds]
    exact ⟨htail, alGet_set 1 _ q _, rfl, u.mem_set _ _, u.host_set _ _, (u.unreached_set _ _).trans (State.unreached_withHds _ _),
      fun l hl => (State.get_withHds _ _ l).trans (hother l hl)⟩
  · have hw : w = u.set (Reg.HDS_QP_STATUS_CQTAIL q) t := if_neg ht
    rw [hw, if_neg ht, u.hds_set]
    exact ⟨htail, rfl, rfl, u.mem_set _ _, u.host_set _ _, u.unreached_set _ _, hother⟩

/-- The vector of a queue pair is pending while the host link is held (R534). -/
theorem State.raiseVec_held {s : State} (v : Nat) (h : s.abtHeld = true) : (s.raiseVec v).host.pendingVec.contains v = true := by
  have hheld (l : List Nat) : ({ s with host := { s.host with pendingVec := l } } : State).abtHeld = true := h
  unfold State.raiseVec
  dsimp only
  rw [hheld, if_neg (by simp)]
  dsimp only
  split
  · assumption
  · simp

theorem hostGrows_count (s : State) (kind inst code v : Nat) : HostGrows s (s.count kind inst code v) := hostGrows_countQ s kind inst code _

/-- What the note of an entry leaves. -/
theorem State.cqNotify_spec (u : State) (q kind : Nat) : let w := u.cqNotify q kind
    w.hds = u.hds ∧ w.mem = u.mem ∧ Unreached u w ∧ Kept u w ∧ HostGrows u w
      ∧ (u.get (Reg.HDS_QP_CTL_IRQMODE q) = 1 → KeptLoc (Reg.HDS_QP_CTL_IRQMODE q) → kind = 1 → u.abtHeld = true →
          w.host.pendingVec.contains (16 + q % 496) = true) := by
  intro w
  have hnote := noted_count u 3 0 0x005 1 (by decide)
  have hcount := kept_countHds u 0x005 1
  have hgrow : HostGrows u (u.count 3 0 0x005 1) := hostGrows_count u 3 0 0x005 1
  have hw : w = if 2 ≤ (u.count 3 0 0x005 1).get (Reg.HDS_QP_CTL_IRQMODE q) ∨ ((u.count 3 0 0x005 1).get (Reg.HDS_QP_CTL_IRQMODE q) = 1 ∧ kind = 1)
      then (u.count 3 0 0x005 1).raiseVec (16 + q % 496) else u.count 3 0 0x005 1 := rfl
  generalize u.count 3 0 0x005 1 = x at hnote hcount hgrow hw
  have hraise := hnote.trans (noted_raiseVec x (16 + q % 496))
  have hnoted : Noted u w := by
    rw [hw]
    exact Noted.ite hraise hnote
  refine ⟨hnoted.field State.hds fun _ _ _ => rfl, hnoted.field State.mem fun _ _ _ => rfl, hnoted.unreached, ?_, ?_, fun hmode hloc hkind hheld => ?_⟩
  · rw [hw]
    split
    · exact fun m hm => (get_raiseVec x _ m).trans (hcount m hm)
    · exact hcount
  · rw [hw]
    exact .ite (hgrow.trans (hostGrows_raiseVec x _)) hgrow
  · have hmode' : x.get (Reg.HDS_QP_CTL_IRQMODE q) = 1 := (hcount _ hloc).trans hmode
    rw [hw, if_pos (.inr ⟨hmode', hkind⟩)]
    refine State.raiseVec_held _ ?_
    rw [← hheld]
    unfold State.abtHeld
    rw [hgrow.1, hcount _ (.inl ⟨by decide, by decide⟩)]

theorem exec_completionEntryWrite_eq {s : State} (q : Fin 4096) (hrun : s.running = true) : exec (.completionEntryWrite q) s = .next (s.keeping (
    if s.cqFull q then s
    else match s.nextDue q with
      | none => s
      | some d =>
        match d.handle with
        | some h => (s.withHds { s.hds with due := s.hds.due.erase d }).putTokens d h
        | none => (s.withHds { s.hds with due := s.hds.due.erase d }).putCompletion d)) := by
  have hc : exec (.completionEntryWrite q) s = execCompletionEntryWrite q s := rfl
  rw [hc, execCompletionEntryWrite, State.run_running _ _ hrun]
  rfl

theorem State.flag_withHds (s : State) (x : HdsState) (l : Loc) : (s.withHds x).flag l = s.flag l := rfl
theorem State.cqSize_withHds (s : State) (x : HdsState) (q : Nat) : (s.withHds x).cqSize q = s.cqSize q := rfl
theorem State.abtHeld_withHds (s : State) (x : HdsState) : (s.withHds x).abtHeld = s.abtHeld := rfl

/-- The bytes of an entry and its place are the same whatever other entries are due. -/
theorem State.entry_withDue (s : State) (l : List DueEntry) (d : DueEntry) :
    (s.withHds { s.hds with due := l }).completionBytes d = s.completionBytes d ∧ (s.withHds { s.hds with due := l }).cqPlace d.qp = s.cqPlace d.qp := ⟨rfl, rfl⟩

/-- The writing of a final entry: the positions, the phase, the bytes and the interrupt (R201 to R203, R528, R532). -/
theorem State.putCompletion_spec (s : State) (q : Fin 4096) {d : DueEntry} (hq : d.qp = q) :
    let t := s.putCompletion d
    let next := (s.get (Reg.HDS_QP_STATUS_CQTAIL q) + 1) % s.cqSize q
    Unreached s t ∧ t.hds.due = s.hds.due
      ∧ t.get (Reg.HDS_QP_STATUS_CQTAIL q) = next % 2 ^ (Reg.HDS_QP_STATUS_CQTAIL q).width
      ∧ alGet 1 t.hds.phase q.val = (if next = 0 then 1 - alGet 1 s.hds.phase q.val else alGet 1 s.hds.phase q.val)
      ∧ (s.flag (Reg.HDS_QP_CTL_CQHOST q) = false → t.mem = (s.memWrite (s.cqPlace q) (s.completionBytes d) false).2.mem)
      ∧ (s.flag (Reg.HDS_QP_CTL_CQHOST q) = true → t.mem = s.mem
          ∧ ∃ rest, t.host.vc1 = s.host.vc1 ++ completionFrame (s.cqPlace q) (s.completionBytes d) :: rest)
      ∧ (s.get (Reg.HDS_QP_CTL_IRQMODE q) = 1 → d.kind = 1 → s.abtHeld = true → t.host.pendingVec.contains (16 + q.val % 496) = true) := by
  intro t next
  have ht : t = ((s.entryWritten d).cqAdvance d.qp ((s.get (Reg.HDS_QP_STATUS_CQTAIL d.qp) + 1) % s.cqSize d.qp)).cqNotify d.qp d.kind := s.putCompletion_eq d
  obtain ⟨hhds, hun, hkept, hgrow, hdram, hhost⟩ := s.entryWritten_spec d
  rw [hq] at ht hdram hhost
  generalize s.entryWritten d = u at ht hhds hun hkept hgrow hdram hhost
  obtain ⟨htail, hphase, hdue, hmem, hsame, hun', hget⟩ := u.cqAdvance_spec q next
  generalize hw : u.cqAdvance q next = w at htail hphase hdue hmem hsame hun' hget
  have ht' : t = w.cqNotify q d.kind := by rw [ht, ← hw]
  obtain ⟨khds, kmem, kun, kkept, kgrow, kvec⟩ := w.cqNotify_spec q d.kind
  rw [ht', khds, kmem, hdue, hmem, hhds]
  have hloc (l : Loc) (hl : l.addr = Reg.HDS_QP_STATUS q ∨ l.addr = Reg.HDS_QP_CTL q) : KeptLoc l :=
    keptLoc_qp (by rcases hl with hl | hl <;> rw [hl] <;> simp only [Reg.HDS_QP_STATUS, Reg.HDS_QP_CTL] <;> omega)
      (by rcases hl with hl | hl <;> rw [hl] <;> simp only [Reg.HDS_QP_STATUS, Reg.HDS_QP_CTL] <;> omega)
  refine ⟨hun.trans (hun'.trans kun), rfl, (kkept _ (hloc _ (.inl rfl))).trans htail, hphase.trans (by rw [hhds]), hdram, fun h => ?_, fun hmode hkind hheld => ?_⟩
  · obtain ⟨hm, hv⟩ := hhost h
    obtain ⟨rest, hrest⟩ := kgrow.2
    exact ⟨hm, rest, by rw [← hrest, hsame, hv, List.append_assoc]; rfl⟩
  · have hirq := hloc (Reg.HDS_QP_CTL_IRQMODE q) (.inr rfl)
    have hctl : (Reg.HDS_QP_CTL_IRQMODE q).addr ≠ Reg.HDS_QP_STATUS q := (qpCtl_ne q q).1
    have hlink : (Reg.LNK_STATUS_STATE 10).addr ≠ Reg.HDS_QP_STATUS q := by
      simp only [Reg.LNK_STATUS_STATE, Reg.LNK_STATUS, Reg.HDS_QP_STATUS]; omega
    refine kvec ((hget _ hctl).trans ((hkept _ hirq).trans hmode)) hirq hkind ?_
    rw [← hheld]
    unfold State.abtHeld
    rw [hsame, hgrow.1, hget _ hlink, hkept _ (.inl ⟨by decide, by decide⟩)]

/-- As `State.putCompletion_spec`, with the entry out of the list of those that are due. -/
theorem State.putCompletion_withDue (s : State) (q : Fin 4096) (l : List DueEntry) {d : DueEntry} (hq : d.qp = q) :
    let t := (s.withHds { s.hds with due := l }).putCompletion d
    let next := (s.get (Reg.HDS_QP_STATUS_CQTAIL q) + 1) % s.cqSize q
    Unreached s t ∧ t.hds.due = l
      ∧ t.get (Reg.HDS_QP_STATUS_CQTAIL q) = next % 2 ^ (Reg.HDS_QP_STATUS_CQTAIL q).width
      ∧ alGet 1 t.hds.phase q.val = (if next = 0 then 1 - alGet 1 s.hds.phase q.val else alGet 1 s.hds.phase q.val)
      ∧ (s.flag (Reg.HDS_QP_CTL_CQHOST q) = false → t.mem = (s.memWrite (s.cqPlace q) (s.completionBytes d) false).2.mem)
      ∧ (s.flag (Reg.HDS_QP_CTL_CQHOST q) = true → t.mem = s.mem
          ∧ ∃ rest, t.host.vc1 = s.host.vc1 ++ completionFrame (s.cqPlace q) (s.completionBytes d) :: rest)
      ∧ (s.get (Reg.HDS_QP_CTL_IRQMODE q) = 1 → d.kind = 1 → s.abtHeld = true → t.host.pendingVec.contains (16 + q.val % 496) = true) := by
  intro t next
  obtain ⟨hun, hleft, htail, hphase, hdram, hhost, hvec⟩ := (s.withHds { s.hds with due := l }).putCompletion_spec q hq
  obtain ⟨hbytes, hplace⟩ := s.entry_withDue l d
  have halike := (s.alike_withHds { s.hds with due := l }).memWrite (s.cqPlace q) (s.completionBytes d) false
  rw [hq] at hplace
  rw [State.hds_withHds] at hleft
  rw [State.get_withHds, State.cqSize_withHds] at htail
  rw [State.get_withHds, State.cqSize_withHds, State.hds_withHds] at hphase
  rw [State.flag_withHds, hbytes, hplace] at hdram
  rw [State.flag_withHds, hbytes, hplace, State.mem_withHds, State.host_withHds] at hhost
  rw [State.get_withHds, State.abtHeld_withHds] at hvec
  exact ⟨(s.unreached_withHds _).trans hun, hleft, htail, hphase, fun h => (hdram h).trans halike.state.mem, hhost, hvec⟩

end Sys2Proof.Machine

/-- Settles O36: a lookup keeps its request through its reads (`lookup_prefixGo`), an import adds no more than a cause of ending
(`importStep_importWritten`), and the entry that comes first (`State.nextDue_of_first`) is written as `State.putCompletion_spec` says. -/
theorem prefixAndCompletions : Obligations.PrefixAndCompletions := by
  unfold Obligations.PrefixAndCompletions
  intro s hrun
  refine ⟨fun h r hr => ⟨fun hphase hended hall => ?_, fun hnot => ?_, fun hphase hended hall => ?_, fun hnot => ?_,
    fun k l hpending htime hstream hnone => ?_, fun hnot => ?_⟩, fun q => ⟨fun hfull => ?_, fun hroom hnone => ?_, ?_⟩⟩
  · rw [exec_prefixLookup_eq hrun hr, if_neg (by simp [hphase, hended, hall])]
    generalize matchRun r r.keys (lookupBlocks r) 0 = found
    have hdone : (s.updReq h (lookupDone found)).req h = some (lookupDone found r) := by
      rw [s.req_updReq h (f := lookupDone found) fun _ => rfl, hr, Option.map_some]
    obtain ⟨r', hr', hsame⟩ := lookup_prefixGo (s.updReq h (lookupDone found)) h _ hdone
    exact ⟨_, r', rfl, (State.req_keeping _ _ h).trans hr', by rw [hsame, lookupDone], by rw [hsame, lookupDone]⟩
  · rw [exec_prefixLookup_eq hrun hr, if_pos hnot]
    rfl
  · rw [exec_prefixImport_eq hrun hr, if_neg (by simp [hphase, hended, hall])]
    generalize bundlesRead r r.hdr r.found 0 = got
    obtain ⟨hreq, hkept⟩ := importStep_importWritten h s r got
    obtain ⟨r', hr', hsame⟩ := hreq r hr
    have hcounted : ((s.importWritten h r got).importCounted got.length).req h = some r' := (State.req_of_hds (hds_importCounted _ _) h).trans hr'
    have hdone := State.req_updReq ((s.importWritten h r got).importCounted got.length) h (f := importDone got.length) fun _ => rfl
    rw [hcounted, Option.map_some] at hdone
    refine ⟨_, importDone got.length r', rfl, (State.req_keeping _ _ h).trans hdone, rfl, rfl, rfl, ?_, ?_, ?_⟩
    · rw [importDone, hsame]
    · rw [importDone, hsame]
    · have hmatched := get_importCounted (s.importWritten h r got) got.length
      rw [hkept _ (keptLoc_hds (by decide) (by decide))] at hmatched
      rw [State.get_keeping, State.get_updReq, hmatched]
  · rw [exec_prefixImport_eq hrun hr, if_pos hnot]
    rfl
  · rw [exec_flushDelayExpiry_eq hrun hr, State.flushDue, hpending]
    dsimp only
    rw [if_pos ⟨htime, hstream⟩, State.tokenDue_new hr (by rw [hpending]; exact List.cons_ne_nil _ _) hnone]
    exact ⟨_, _, rfl, rfl, rfl, rfl, rfl, rfl⟩
  · rw [exec_flushDelayExpiry_eq hrun hr, State.flushDue_stays hnot]
    rfl
  · rw [exec_completionEntryWrite_eq q hrun, if_pos hfull]
    rfl
  · rw [exec_completionEntryWrite_eq q hrun, if_neg (by rw [hroom]; exact Bool.false_ne_true), State.nextDue_none hnone]
    rfl
  · intro pre d post hdue hroom hq hhandle hpre hpost
    obtain ⟨hnext, herase⟩ := State.nextDue_of_first hdue hq hpre hpost
    obtain ⟨hun, hleft, htail, hphase, hdram, hhost, hvec⟩ := s.putCompletion_withDue q (pre ++ post) hq
    rw [exec_completionEntryWrite_eq q hrun, if_neg (by rw [hroom]; exact Bool.false_ne_true), hnext]
    dsimp only
    rw [hhandle]
    dsimp only
    rw [herase, hun.keeping]
    refine ⟨_, rfl, hleft, htail, hphase, hdram, fun h => ?_, hvec⟩
    obtain ⟨hmem, rest, hvc1⟩ := hhost h
    exact ⟨fun a => congrArg (smapGet memByte · a) hmem, _, rest, hvc1, rfl, rfl, rfl, rfl⟩
end

section
open Sys2Proof Sys2Proof.Machine

namespace Sys2Proof.Machine

/-! ### What the headstock does for a service instruction (R221 to R224) -/

/-- The spindles, what no operation reaches and the instances stay as they are. -/
structure ServiceStep (s t : State) : Prop where
  spn : SpnSame s t
  unreached : Unreached s t
  insts : t.hds.insts = s.hds.insts

theorem ServiceStep.refl (s : State) : ServiceStep s s := ⟨SpnSame.refl s, ⟨rfl, rfl, rfl⟩, rfl⟩

theorem ServiceStep.trans {s t u : State} (h : ServiceStep s t) (k : ServiceStep t u) : ServiceStep s u :=
  ⟨h.spn.trans k.spn, h.unreached.trans k.unreached, k.insts.trans h.insts⟩

theorem ServiceStep.ite {s t u : State} {c : Prop} [Decidable c] (h : ServiceStep s t) (k : ServiceStep s u) : ServiceStep s (if c then t else u) := by
  split <;> assumption

theorem MemStep.serviceStep {s t : State} (h : MemStep s t) : ServiceStep s t := ⟨h.spnSame, h.unreached, by rw [h.hds]⟩

theorem serviceStep_hds (s : State) {x : HdsState} (h : x.insts = s.hds.insts) : ServiceStep s { s with hds := x } := ⟨rfl, ⟨rfl, rfl, rfl⟩, h⟩

theorem serviceStep_updReq (s : State) (h : Nat) (f : Request → Request) : ServiceStep s (s.updReq h f) := serviceStep_hds s rfl

theorem serviceStep_endCause (s : State) (h code detail reason : Nat) : ServiceStep s (s.endCause h code detail reason) := serviceStep_updReq s h _

theorem serviceStep_reportStop (s : State) (h : Nat) : ServiceStep s (s.reportStop h) := serviceStep_updReq s h _

theorem serviceStep_memRead (s : State) (a n : Nat) (nal : Bool) : ServiceStep s (s.memRead a n nal).2 := (memStep_memRead s a n nal).serviceStep

theorem serviceStep_hdsPut (s : State) (h a : Nat) (d : List Byte) : ServiceStep s (s.hdsPut h a d) := by
  have hwrite := (memStep_memWrite s a d false).serviceStep
  unfold State.hdsPut
  exact .ite hwrite (hwrite.trans (serviceStep_endCause _ _ _ _ _))

theorem serviceStep_poolPop (s : State) : ServiceStep s s.poolPop.2 := by
  have hread := memStep_memRead s (s.get Reg.HDS_KVPOOL_ADDR + 8 * (s.hds.poolTop - 1)) 8 false
  unfold State.poolPop
  dsimp only
  split
  · exact hread.serviceStep.trans (serviceStep_hds _ rfl)
  · exact hread.serviceStep

theorem serviceStep_setBlocks (s : State) (n : Nat) (l : List (Nat × Nat × Bool)) : ServiceStep s (s.setBlocks n l) := serviceStep_hds s rfl

theorem serviceStep_tokenDue (s : State) (h : Nat) : ServiceStep s (s.tokenDue h) := by
  unfold State.tokenDue
  split
  · exact .refl s
  · exact .ite (.refl s) (serviceStep_hds s rfl)

theorem serviceStep_appendToken (s : State) (h tok : Nat) : ServiceStep s (s.appendToken h tok).2 := by
  unfold State.appendToken
  split
  · exact .refl s
  · dsimp only
    have hwritten (r : Request) (u : State) (hu : ServiceStep s u) (a b : Nat) (d e : List Byte) :
        ServiceStep s (((u.hdsPut h a d).hdsPut h b e).slotNtok r.slot r.ntok) :=
      ((hu.trans (serviceStep_hdsPut u h a d)).trans (serviceStep_hdsPut _ h b e)).trans (memStep_memWrite _ _ _ false).serviceStep
    exact .ite ((hwritten _ _ (serviceStep_updReq s h _) _ _ _ _).trans (serviceStep_tokenDue _ h)) (hwritten _ _ (serviceStep_updReq s h _) _ _ _ _)

theorem serviceStep_kvBlock (s : State) (h b : Nat) : ServiceStep s (s.kvBlock h b).2 := by
  unfold State.kvBlock
  dsimp only
  split
  · exact .refl s
  · split
    · exact .refl s
    · split
      · have hread := serviceStep_memRead s
        split
        · exact hread _ _ _
        · exact (hread _ _ _).trans (serviceStep_endCause _ _ _ _ _)
      · split
        · exact .refl s
        · have hpop := serviceStep_poolPop s
          split
          · exact hpop.trans (serviceStep_endCause _ _ _ _ _)
          · exact ((hpop.trans (serviceStep_updReq _ _ _)).trans (serviceStep_setBlocks _ _ _)).trans (serviceStep_hdsPut _ _ _ _)

theorem ServiceStep.goesOn {s t : State} {x : Gang} (h : ServiceStep s t) (hgoes : GoesOn s x) : GoesOn t x :=
  hgoes.of_inst (fun set => by unfold State.inst; rw [h.insts]) rfl

/-! ### The issue of a service instruction -/

section
variable {i : Fin 288} {g : Fin 256} {s v : State} {x : Gang} {o : SpnOp} {word : Nat} {w : IWord}

/-- A service instruction gives its result to the enabled threads, and its gang goes on in what the headstock has done. -/
theorem Poised.exec_service {c : Instr} {pair : Bool} {n : Nat} {f : Nat → Nat} (h : Poised s i g o x word w) (hc : exec c s = s.run fun s => s.issue i g o)
    (hacts : x.skips o w = false)
    (hbody : bodyOf o s i x w = .done { v.updGang i x.gang (fun y => y.putAll (x.enabled w) w.dst pair f) with free := n })
    (hspn : SpnSame s v) (hun : Unreached s v) (hgoes : GoesOn v x) (hheld : x.held = []) :
    ∃ t z, exec c s = .next t ∧ t.gang i g = some z ∧ z.pc = x.pc + 1 ∧ t.mem = v.mem ∧ t.hds = v.hds ∧ t.free = n
      ∧ ∀ th n, z.reg th n = (x.putAll (x.enabled w) w.dst pair f).reg th n := by
  have hg : x.gang = g := gang_number h.resident
  have halone (y : Gang) : RegsAlone y (y.putAll (x.enabled w) w.dst pair f) := regsAlone_putAll y _ _ _ _
  unfold RegsAlone at halone
  rw [hg] at hbody
  have hgang := gang_updGang v i g (f := fun y => y.putAll (x.enabled w) w.dst pair f) (fun y => by rw [halone y]) ((gang_of_spn hspn i g).trans h.resident)
  have hput : (x.putAll (x.enabled w) w.dst pair f).held = [] := by rw [halone x]; exact hheld
  have hset : (x.putAll (x.enabled w) w.dst pair f).set = x.set := by rw [halone x]
  obtain ⟨hpending, hnow, htap⟩ := hun
  obtain ⟨t, ht, honward, -⟩ := h.exec_done hc i.isLt hacts hbody (Unreached.keeping ⟨hpending, hnow, htap⟩) hgang (hgoes.of_inst (fun _ => rfl) hset)
  obtain ⟨z, hz, hsame⟩ := honward.gang
  exact ⟨t, z, ht, hz, hsame.pc, (honward.quiet hput).1, honward.field State.hds fun _ _ _ _ _ _ _ => rfl,
    honward.field State.free fun _ _ _ _ _ _ _ => rfl, hsame.reg⟩

/-- A pair is written at an even register alone (R93). -/
theorem pairDst_lt {latency : Bool} (h : legalOp (iwordOf word) latency = some o) (hpair : ∀ w, o.writes w = [(w.dst, true)]) :
    (iwordOf word).dst + 1 < 128 := by
  have hlt := iwordOf_dst_lt word
  unfold legalOp at h
  split at h
  · cases h
  next o' ho =>
    split at h
    · cases h
    next heven =>
      have hop : o' = o := by
        split at h
        · cases h
        · split at h
          · cases h
          · exact Option.some.inj h
      subst hop
      have : (iwordOf word).dst % 2 ≠ 1 := by
        intro hodd
        exact heven (by simp [hpair, hodd])
      omega

/-! ### SAMPLE and EMIT (R203, R222, R223) -/

theorem statusWord_stop (tok : Nat) {reason : Nat} (h : reason ≠ 0) : statusWord tok reason = tok % 2 ^ 20 + reason * 2 ^ 24 + 2 ^ 31 := by
  unfold statusWord
  rw [if_neg h]

theorem svcBegin_none (f : Nat → Issued) (h : s.svcRequest x.set w = none) :
    svcBegin s i x w f = .done (s.svcStop i x.gang (x.enabled w) w.dst 6) := by
  unfold svcBegin
  rw [h]

theorem svcBegin_ended (f : Nat → Issued) {h reason : Nat} (hreq : s.svcRequest x.set w = some h) (hend : s.endReason h = some reason) :
    svcBegin s i x w f = .done ((s.reportStop h).svcStop i x.gang (x.enabled w) w.dst reason) := by
  unfold svcBegin
  rw [hreq]
  dsimp only
  rw [hend]

theorem svcBegin_live (f : Nat → Issued) {h : Nat} (hreq : s.svcRequest x.set w = some h) (hend : s.endReason h = none)
    (hblocked : s.tokenBlocked h = false) : svcBegin s i x w f = f h := by
  unfold svcBegin
  rw [hreq]
  dsimp only
  rw [hend]
  dsimp only
  rw [hblocked, if_neg Bool.false_ne_true]

/-- SAMPLE and EMIT: the command, the operation, and that each begins as the other does. -/
theorem tokenOps_issue {e : Instr × SpnOp} (he : e ∈ [(Instr.sample i g, SpnOp.sample), (.emit i g, .emit)]) :
    (exec e.1 s = s.run fun s => s.issue i g e.2) ∧ ∃ f, bodyOf e.2 s i x w = svcBegin s i x w f := by
  obtain rfl | rfl : e = (.sample i g, .sample) ∨ e = (.emit i g, .emit) := by simpa using he
  · exact ⟨rfl, _, rfl⟩
  · exact ⟨rfl, _, rfl⟩

/-- A STOP status ends the instruction. -/
theorem Poised.exec_stop {c : Instr} {reason : Nat} (h : Poised s i g o x word w) (hc : exec c s = s.run fun s => s.issue i g o)
    (hacts : x.skips o w = false) (hbody : bodyOf o s i x w = .done (v.svcStop i x.gang (x.enabled w) w.dst reason))
    (hstep : ServiceStep s v) (hfree : v.free = s.free) (hmem : v.mem = s.mem) (hgoes : GoesOn s x) (hheld : x.held = []) (hreason : reason ≠ 0) :
    ∃ t z, exec c s = .next t ∧ t.gang i g = some z ∧ z.pc = x.pc + 1 ∧ t.hds = v.hds ∧ MemSame s t ∧ t.free = s.free + 1
      ∧ ∀ th n, n < 128 → z.reg th n = if th ∈ x.enabled w ∧ n = w.dst
          then (Config.freeNat s.free % 2 ^ 20 + reason * 2 ^ 24 + 2 ^ 31) % 2 ^ 32 else x.reg th n := by
  have hdst : w.dst < 128 := by rw [h.fields]; exact iwordOf_dst_lt word
  obtain ⟨t, z, ht, hz, hpc, hm, hhds, hf, hreg⟩ := h.exec_service (v := v) (pair := false) (n := v.free + 1)
    (f := fun _ => statusWord v.fresh reason) hc hacts hbody hstep.spn hstep.unreached (hstep.goesOn hgoes) hheld
  refine ⟨t, z, ht, hz, hpc, hhds, fun a => congrArg (smapGet memByte · a) (hm.trans hmem), by rw [hf, hfree], fun th n hn => ?_⟩
  rw [hreg, Gang.reg_putAll _ _ _ _ hn hdst, statusWord_stop _ hreason, State.fresh, hfree]

/-! ### SAMPLE whose logits are read (R222, R225) -/

/-- The logits that a SAMPLE waits for. -/
def sampleOf (i : Nat) (x : Gang) (w : IWord) (h : Nat) : SampleOp :=
  { spindle := i, gang := x.gang, pc := x.pc, handle := h, addr := x.pair (x.lead w) w.src1, v := x.reg (x.lead w) w.src2, dst := w.dst,
    enabled := x.enabled w }

/-- A SAMPLE joins those that wait for their logits. -/
def State.sampling (s : State) (o : SampleOp) : State := { s with hds := { s.hds with samples := s.hds.samples ++ [o] } }

section
variable {h : Nat} (hreq : s.svcRequest x.set w = some h) (hend : s.endReason h = none) (hblocked : s.tokenBlocked h = false)
include hreq hend hblocked

theorem bodySample_range (hv : x.reg (x.lead w) w.src2 = 0 ∨ 1048576 < x.reg (x.lead w) w.src2) :
    bodySample s i x w = .done (((s.endCause h 0x0f 0 5).reportStop h).svcStop i x.gang (x.enabled w) w.dst 5) := by
  unfold bodySample
  rw [svcBegin_live _ hreq hend hblocked]
  exact if_pos hv

variable (hv : x.reg (x.lead w) w.src2 ≠ 0) (hmax : x.reg (x.lead w) w.src2 ≤ 1048576)
include hv hmax

theorem bodySample_misaligned (halign : x.pair (x.lead w) w.src1 % 64 ≠ 0) :
    bodySample s i x w = .fault s 0x06 0 (x.pair (x.lead w) w.src1) := by
  unfold bodySample
  rw [svcBegin_live _ hreq hend hblocked]
  dsimp only
  rw [if_neg (by omega), if_pos halign]

theorem bodySample_taken (halign : x.pair (x.lead w) w.src1 % 64 = 0)
    (hplace : x.pair (x.lead w) w.src1 + 4 * x.reg (x.lead w) w.src2 ≤ dramEnd) :
    bodySample s i x w = .done ((s.sampling (sampleOf i x w h)).updGang i x.gang fun y => y.withWait .unit) := by
  have hgood : operandBad i (x.pair (x.lead w) w.src1) (4 * x.reg (x.lead w) w.src2) true = none := by
    unfold operandBad
    rw [if_pos rfl, if_pos ⟨by omega, hplace⟩]
  unfold bodySample
  rw [svcBegin_live _ hreq hend hblocked]
  dsimp only
  rw [if_neg (by omega), if_neg (not_not.2 halign), hgood]
  rfl

end

/-- A gang that waits for its unit goes on behind the instruction, and nothing but the spindle changes beside what the unit took. -/
theorem Poised.exec_unit {c : Instr} (h : Poised s i g o x word w) (hc : exec c s = s.run fun s => s.issue i g o) (hacts : x.skips o w = false)
    (hbody : bodyOf o s i x w = .done (v.updGang i x.gang fun y => y.withWait .unit)) (hspn : SpnSame s v) (hun : Unreached s v) :
    ∃ t z, exec c s = .next t ∧ SpnOnly v t ∧ At t i g x (x.pc + 1) ∧ t.gang i g = some z ∧ z.wait = .unit := by
  have hg : x.gang = g := gang_number h.resident
  have hgang : (v.updGang i x.gang fun y => y.withWait .unit).gang i g = some (x.withWait .unit) := by
    rw [hg]
    exact gang_updGang v i g (Gang.gang_withWait .unit) ((gang_of_spn hspn i g).trans h.resident)
  obtain ⟨honly, -, hz⟩ := State.issuedHead_steps (o := o) (w := w) (word := word) (off := 1) hg hgang
  have hsame := (v.updGang i x.gang fun y => y.withWait .unit).goOn_sameThreads i x o w 1 (x.withWait .unit)
  have hcommit := State.tryCommit_waiting hz (by rw [hsame.wait]; exact GangWait.noConfusion)
  have hissue : s.issue i g o = (v.updGang i x.gang fun y => y.withWait .unit).issuedHead i x o w word 1 := by
    rw [h.issue_done hacts hbody, State.issued_eq, hg]
    rw [hg] at hcommit
    rw [hcommit, ite_self]
  have honlyV := SpnOnly.trans (spnOnly_updGang v i x.gang fun y => y.withWait .unit) honly
  generalize (v.updGang i x.gang fun y => y.withWait .unit).issuedHead i x o w word 1 = t at honlyV hz hissue
  have hkeep : s.keeping t = t := by
    refine Unreached.keeping (hun.trans ?_)
    unfold SpnOnly at honlyV
    rw [honlyV]
    exact ⟨rfl, rfl, rfl⟩
  refine ⟨t, _, ?_, honlyV, ⟨_, hz, hsame.pc, hsame.set, hsame.active, hsame.nregs, hsame.reg, hsame.pred⟩, hz, hsame.wait⟩
  rw [hc, State.run_running _ _ h.runs, hissue, hkeep]

/-! ### EMIT and KVB (R221, R224) -/

theorem bodyEmit_live {h : Nat} (hreq : s.svcRequest x.set w = some h) (hend : s.endReason h = none) (hblocked : s.tokenBlocked h = false) :
    bodyEmit s i x w = .done ((s.appendToken h (x.reg (x.lead w) w.src1 % 2 ^ 20)).2.svcStatus i x.gang (x.enabled w) w.dst
      (s.appendToken h (x.reg (x.lead w) w.src1 % 2 ^ 20)).1) := by
  unfold bodyEmit
  exact svcBegin_live _ hreq hend hblocked

/-- The block that KVB asks for. -/
def State.kvbAnswer (s : State) (x : Gang) (w : IWord) : Nat × State :=
  match s.svcRequest x.set w with
  | none => (2 ^ 64 - 1, s)
  | some h => s.kvBlock h (x.reg (x.lead w) w.src1)

theorem bodyKvb_eq (s : State) (i : Nat) (x : Gang) (w : IWord) :
    bodyKvb s i x w = .done ((s.kvbAnswer x w).2.updGang i x.gang fun y => y.putAll (x.enabled w) w.dst true fun _ => (s.kvbAnswer x w).1) := by
  unfold bodyKvb State.kvbAnswer
  cases s.svcRequest x.set w <;> rfl

theorem serviceStep_kvbAnswer (s : State) (x : Gang) (w : IWord) : ServiceStep s (s.kvbAnswer x w).2 := by
  unfold State.kvbAnswer
  split
  · exact .refl s
  · exact serviceStep_kvBlock s _ _

end

/-! ### The logits are read (R99, R222, R225) -/

theorem spnSame_sampleRead (s : State) (i a n : Nat) : SpnSame s (s.sampleRead i a n).2 := by
  unfold State.sampleRead
  refine List.foldlRecOn (piecesOf a n) _ (b := (.ok [], s)) (motive := fun acc : Except Nat (List Byte) × State => SpnSame s acc.2) (SpnSame.refl s)
    fun acc hacc x _ => ?_
  dsimp only
  split
  · exact hacc
  · have hread := hacc.trans (spnSame_lineReplay acc.2 i x.1 false false false)
    split <;> exact hread

/-- A drawn token goes to the enabled threads, and the gang goes on as its group commits. -/
theorem State.tokenDrawn_onward {v : State} {i g : Nat} {x : Gang} {ts : List Nat} {dst st : Nat} (hi : i < 288) (hx : v.gang i g = some x)
    (hgoes : GoesOn v x) (hheld : x.held = []) (hdst : dst < 128) :
    ∃ z, ((v.svcStatus i g ts dst st).tryCommit i g).gang i g = some z ∧ z.wait = x.wait ∧ z.pc = x.pc
      ∧ ((v.svcStatus i g ts dst st).tryCommit i g).mem = v.mem ∧ ((v.svcStatus i g ts dst st).tryCommit i g).hds = v.hds
      ∧ ∀ th n, n < 128 → z.reg th n = if th ∈ ts ∧ n = dst then st % 2 ^ 32 else x.reg th n := by
  have halone (y : Gang) : RegsAlone y (y.putAll ts dst false fun _ => st) := regsAlone_putAll y _ _ _ _
  unfold RegsAlone at halone
  have hgang : (v.svcStatus i g ts dst st).gang i g = some (x.putAll ts dst false fun _ => st) :=
    gang_updGang v i g (f := fun y => y.putAll ts dst false fun _ => st) (fun y => by rw [halone y]) hx
  have hput : (x.putAll ts dst false fun _ => st).held = [] := by rw [halone x]; exact hheld
  have hset : (x.putAll ts dst false fun _ => st).set = x.set := by rw [halone x]
  have honward := State.tryCommit_onward hi hgang (hgoes.of_inst (fun _ => rfl) hset)
  obtain ⟨z, hz, hsame⟩ := honward.gang
  refine ⟨z, hz, by rw [hsame.wait, halone x], by rw [hsame.pc, halone x], (honward.quiet hput).1, honward.field State.hds fun _ _ _ _ _ _ _ => rfl,
    fun th n hn => ?_⟩
  rw [hsame.reg, Gang.reg_putAll _ _ _ _ hn hdst]

/-- A SAMPLE whose logits are read leaves those that wait. -/
def State.sampleEnds (s : State) (i g : Nat) (o : SampleOp) : State :=
  ({ s with hds := { s.hds with samples := s.hds.samples.filter (· != o) } } : State).updGang i g fun y => { y with wait := .running }

theorem exec_sampleLogitsRead_drawn {s u : State} {i : Fin 288} {g : Fin 256} {o : SampleOp} {x : Gang} {d : List Byte} {r : Request} {tok : Nat}
    (hrun : s.running = true) (ho : (s.hds.samples.find? fun o => o.spindle == i.val && o.gang == g.val) = some o)
    (havail : s.memAvail o.addr (4 * o.v) = true) (hx : s.gang i g = some x) (hwait : x.wait = .unit) (hend : s.endReason o.handle = none)
    (hread : (s.sampleEnds i g o).sampleRead i o.addr (4 * o.v) = (.ok d, u)) (hr : u.req o.handle = some r)
    (htok : drawToken u.free r.entry ((List.range o.v).map fun k => leAt d (4 * k) 4) = some tok) :
    exec (.sampleLogitsRead i g) s = .next (s.keeping ((((u.drawnBy (2 + o.v)).appendToken o.handle tok).2.svcStatus i g o.enabled o.dst
      ((u.drawnBy (2 + o.v)).appendToken o.handle tok).1).tryCommit i g)) := by
  have hc : exec (.sampleLogitsRead i g) s = execSampleLogitsRead i g s := rfl
  have hgang : ({ s with hds := { s.hds with samples := s.hds.samples.filter (· != o) } } : State).gang i g = some x := hx
  have hreason : (s.sampleEnds i g o).endReason o.handle = none := hend
  unfold State.sampleEnds at hread hreason
  rw [hc, execSampleLogitsRead, State.run_running _ _ hrun, ho]
  dsimp only
  rw [havail, Bool.not_true, if_neg Bool.false_ne_true, hgang]
  dsimp only
  rw [if_neg (not_not.2 hwait), hreason]
  dsimp only
  rw [hread]
  dsimp only
  rw [hr]
  dsimp only [Option.map_some]
  rw [htok]

end Sys2Proof.Machine

/-- Settles O29: what the headstock does for the instruction leaves the spindles and the instances alone (`ServiceStep`), so the gang goes on in it
with its result (`Poised.exec_service`), or waits for its logits (`Poised.exec_unit`). -/
theorem serviceInstructions : Obligations.ServiceInstructions := by
  unfold Obligations.ServiceInstructions
  refine ⟨fun i g s x word w hen hheld hloads hgoes => ⟨?_, ?_, ?_, ?_, ?_⟩, ?_⟩
  · intro e he h hnone
    obtain ⟨hc, f, hf⟩ := tokenOps_issue (s := s) (x := x) (w := w) he
    exact h.exec_stop (v := s) hc (Gang.skips_of_enabled hen) (hf.trans (svcBegin_none f hnone)) (.refl s) rfl rfl hgoes hheld (by decide)
  · intro hd reason e he h hreq hend hreason
    obtain ⟨hc, f, hf⟩ := tokenOps_issue (s := s) (x := x) (w := w) he
    obtain ⟨t, z, ht, hz, hpc, hhds, hmem, -, hreg⟩ := h.exec_stop hc (Gang.skips_of_enabled hen) (hf.trans (svcBegin_ended f hreq hend))
      (serviceStep_reportStop s hd) rfl rfl hgoes hheld hreason
    exact ⟨t, z, ht, hz, hpc, hmem, hhds, hreg⟩
  · intro hd h hreq hend hblocked hgoesR
    have hdst : w.dst < 128 := by rw [h.fields]; exact iwordOf_dst_lt word
    have hstep := serviceStep_appendToken s hd (x.reg (x.lead w) w.src1 % 2 ^ 20)
    obtain ⟨t, z, ht, hz, hpc, hmem, hhds, -, hreg⟩ := h.exec_service (c := .emit i g) rfl (Gang.skips_of_enabled hen) (bodyEmit_live hreq hend hblocked)
      hstep.spn hstep.unreached hgoesR hheld
    exact ⟨t, z, ht, hz, hpc, hmem, hhds, fun th n hn => by rw [hreg, Gang.reg_putAll _ _ _ _ hn hdst]⟩
  · intro hd h hreq hend hblocked
    refine ⟨fun hv hmax halign hplace => ?_, fun hv => ?_, fun hv hmax halign => ?_⟩
    · obtain ⟨t, z, ht, honly, hat, hz, hwait⟩ := h.exec_unit (c := .sample i g) rfl (Gang.skips_of_enabled hen)
        (bodySample_taken hreq hend hblocked hv hmax halign hplace) rfl ⟨rfl, rfl, rfl⟩
      unfold SpnOnly at honly
      have hhds : t.hds = (s.sampling (sampleOf i x w hd)).hds := by rw [honly]
      refine ⟨t, z, sampleOf i x w hd, ht, ?_, hhds, hz, hwait, hat, rfl, rfl, rfl, rfl, rfl, rfl, rfl⟩
      rw [hhds]
      exact honly
    · obtain ⟨t, z, ht, hz, hpc, hhds, hmem, -⟩ := h.exec_stop (c := .sample i g) rfl (Gang.skips_of_enabled hen) (bodySample_range hreq hend hblocked hv)
        ((serviceStep_endCause s hd 0x0f 0 5).trans (serviceStep_reportStop _ hd)) rfl rfl hgoes hheld (by decide)
      exact ⟨t, z, ht, hz, hpc, hmem, hhds⟩
    · exact h.exec_fault (c := .sample i g) rfl (Gang.skips_of_enabled hen) (bodySample_misaligned hreq hend hblocked hv hmax halign)
  · intro h
    have hstep := serviceStep_kvbAnswer s x w
    have hdst : w.dst + 1 < 128 := by
      have hlegal := h.legal
      rw [h.fields] at hlegal ⊢
      exact pairDst_lt hlegal fun _ => rfl
    obtain ⟨t, z, ht, hz, hpc, hmem, hhds, -, hreg⟩ := h.exec_service (c := .kvb i g) rfl (Gang.skips_of_enabled hen) (bodyKvb_eq s i x w) hstep.spn hstep.unreached
      (hstep.goesOn hgoes) hheld
    exact ⟨t, z, ht, hz, hpc, hmem, hhds, fun th n hn => by rw [hreg, Gang.reg_putAll_pair _ _ _ _ hn hdst]; rfl⟩
  · intro i g s hrun o ho havail x hx hwait hheld hgoes hdst hend s1 d u hread r hr tok htok hgoesT
    have hstep := serviceStep_appendToken (u.drawnBy (2 + o.v)) o.handle tok
    have hspn : SpnSame (s.sampleEnds i g o) u := by
      have h := spnSame_sampleRead (s.sampleEnds i g o) i o.addr (4 * o.v)
      rw [show (s.sampleEnds i g o).sampleRead i o.addr (4 * o.v) = (.ok d, u) from hread] at h
      exact h
    have hfirst : (s.sampleEnds i g o).gang i g = some { x with wait := .running } :=
      gang_updGang _ i g (f := fun y => { y with wait := .running }) (fun _ => rfl) hx
    have hgang := (gang_of_spn (hspn.trans hstep.spn) i g).trans hfirst
    obtain ⟨z, hz, hzwait, hpc, hmem, hhds, hreg⟩ := State.tokenDrawn_onward (ts := o.enabled) (dst := o.dst)
      (st := ((u.drawnBy (2 + o.v)).appendToken o.handle tok).1) i.isLt hgang (hgoesT.of_inst (fun _ => rfl) rfl) hheld hdst
    exact ⟨_, z, _, _, exec_sampleLogitsRead_drawn hrun ho havail hx hwait hend hread hr htok, hz, hzwait, hpc, rfl, hmem, hhds, hreg⟩
end

section
open Sys2Proof Sys2Proof.Machine

namespace Sys2Proof.Machine

/-! ### What the headstock does with a request leaves the submission positions alone -/

/-- SQHEAD of every queue pair has its value. -/
def HeadKept (s t : State) : Prop := ∀ q, t.get (Reg.HDS_QP_STATUS_SQHEAD q) = s.get (Reg.HDS_QP_STATUS_SQHEAD q)

theorem keptLoc_qpStatus {q : Nat} {m : Loc} (haddr : m.addr = Reg.HDS_QP_STATUS q) (h : Reg.AON_EVINTAKE_OVERFLOW.Beside m) : KeptLoc m :=
  .inr ⟨q, haddr, h⟩

theorem keptLoc_sqHead (q : Nat) : KeptLoc (Reg.HDS_QP_STATUS_SQHEAD q) :=
  keptLoc_qpStatus rfl (.inr (.inl (by simp [Reg.HDS_QP_STATUS_SQHEAD, Reg.AON_EVINTAKE_OVERFLOW])))

theorem keptLoc_qpErr (q : Nat) : KeptLoc (Reg.HDS_QP_STATUS_ERR q) :=
  keptLoc_qpStatus rfl (.inr (.inr (by simp [Reg.HDS_QP_STATUS_ERR, Reg.AON_EVINTAKE_OVERFLOW])))

theorem Kept.head {s t : State} (h : Kept s t) : HeadKept s t := fun q => h _ (keptLoc_sqHead q)

theorem HeadKept.of_regs {s t : State} (h : t.regs = s.regs) : HeadKept s t := (Kept.of_regs h).head
theorem HeadKept.refl (s : State) : HeadKept s s := fun _ => rfl
theorem HeadKept.trans {s t u : State} (h : HeadKept s t) (k : HeadKept t u) : HeadKept s u := fun q => (k q).trans (h q)

theorem HeadKept.ite {s t u : State} {c : Prop} [Decidable c] (h : HeadKept s t) (k : HeadKept s u) : HeadKept s (if c then t else u) := by
  split <;> assumption

theorem HeadKept.foldl {α : Type} (l : List α) {f : State → α → State} (hf : ∀ s x, HeadKept s (f s x)) (s : State) : HeadKept s (l.foldl f s) :=
  List.foldlRecOn l f (b := s) (motive := HeadKept s) (.refl s) fun t ht x _ => ht.trans (hf t x)

/-- A field below the queue pairs is none of their positions. -/
theorem headKept_set (s : State) (l : Loc) (n : Nat) (h : l.addr < 0x7f108000000) : HeadKept s (s.set l n) := fun q => by
  refine s.get_set_ne l _ n ?_
  simp only [Reg.HDS_QP_STATUS_SQHEAD, Reg.HDS_QP_STATUS]
  omega

theorem headKept_hds (s : State) (x : HdsState) : HeadKept s { s with hds := x } := .of_regs rfl
theorem headKept_setBlocks (s : State) (n : Nat) (l : List (Nat × Nat × Bool)) : HeadKept s (s.setBlocks n l) := .of_regs rfl
theorem headKept_updReq (s : State) (h : Nat) (f : Request → Request) : HeadKept s (s.updReq h f) := .of_regs rfl
theorem headKept_pubTo (s : State) (h b : Nat) (st : PubStep) (e : Nat) : HeadKept s (s.pubTo h b st e) := .of_regs rfl
theorem headKept_memRead (s : State) (a n : Nat) (nal : Bool) : HeadKept s (s.memRead a n nal).2 := (kept_memRead s a n nal).head
theorem headKept_memWrite (s : State) (a : Nat) (d : List Byte) (nal : Bool) : HeadKept s (s.memWrite a d nal).2 := (kept_memWrite s a d nal).head
theorem headKept_slotNtok (s : State) (n v : Nat) : HeadKept s (s.slotNtok n v) := headKept_memWrite s _ _ _
theorem headKept_slotState (s : State) (n v : Nat) : HeadKept s (s.slotState n v) := headKept_memWrite s _ _ _
theorem headKept_hdsPut (s : State) (h a : Nat) (d : List Byte) : HeadKept s (s.hdsPut h a d) := (importStep_hdsPut h s a d).2.head

theorem regs_remoteIssue (s : State) (owner : RemoteOwner) (fkind g len aop : Nat) (body : List Byte) :
    (s.remoteIssue owner fkind g len aop body).regs = s.regs := by
  unfold State.remoteIssue
  split <;> rfl

theorem headKept_poolPush (s : State) (a : Nat) : HeadKept s (s.poolPush a) := by
  unfold State.poolPush
  exact .ite ((headKept_memWrite s _ _ _).trans (headKept_hds _ _)) (.refl s)

theorem headKept_freeSlot (s : State) (n : Nat) : HeadKept s (s.freeSlot n) := by
  unfold State.freeSlot
  exact (((HeadKept.foldl _ (fun u b => headKept_poolPush u _) s).trans (headKept_setBlocks _ n _)).trans (headKept_slotNtok _ n 0)).trans (headKept_slotState _ n 0)

theorem headKept_requestGone (s : State) (h : Nat) : HeadKept s (s.requestGone h) := by
  unfold State.requestGone
  split
  · exact .refl s
  next r _ =>
    have hslot : HeadKept s (if r.entry.flags.testBit 0 then (s.slotNtok r.slot r.ntok).slotState r.slot 2 else s.freeSlot r.slot) :=
      .ite ((headKept_slotNtok s _ _).trans (headKept_slotState _ _ _)) (headKept_freeSlot s _)
    exact hslot.trans (headKept_hds _ _)

/-! #### Publication (R229) -/

theorem headKept_writeBundle (s : State) (h : Nat) (r : Request) (b blockAddr : Nat) : HeadKept s (s.writeBundle h r b blockAddr).2 := by
  unfold State.writeBundle
  refine List.foldlRecOn _ _ (b := (true, s)) (motive := fun acc => HeadKept s acc.2) (.refl s) fun acc hacc lh _ => ?_
  split
  · exact hacc
  · have hread := hacc.trans (headKept_memRead acc.2 (recordAddr r r.hdr lh b) (2 * r.hdr.dim) false)
    dsimp only
    split
    · exact hread.trans (headKept_hdsPut _ _ _ _)
    · exact hread

theorem headKept_pubAnswer (s : State) (h order b : Nat) (d : Option (List Byte)) : HeadKept s (s.pubAnswer h order b d) := by
  unfold State.pubAnswer
  split
  · exact .refl s
  · split
    · split
      · exact .refl s
      · split
        · exact headKept_pubTo s _ _ _ _
        · dsimp only
          split
          · exact .refl s
          · split
            · exact headKept_pubTo s _ _ _ _
            · split
              · exact headKept_pubTo s _ _ _ _
              · exact (headKept_set s Reg.HDS_PDIRSTAT_FULLBKT _ (by decide)).trans (headKept_pubTo _ _ _ _ _)
          · exact .ite (headKept_pubTo s _ _ _ _) (headKept_pubTo s _ _ _ _)
          · exact headKept_pubTo s _ _ _ _
          · exact (headKept_setBlocks s _ _).trans (headKept_pubTo _ _ _ _ _)
    · exact .refl s

theorem headKept_pubRun (fuel : Nat) (s : State) (h : Nat) : HeadKept s (State.pubRun fuel s h) := by
  induction fuel generalizing s with
  | zero => exact .refl s
  | succ fuel ih =>
    rw [State.pubRun]
    split
    · exact .refl s
    · split
      · split
        · exact headKept_requestGone s h
        · split
          · exact (headKept_pubTo s _ _ _ _).trans (ih _)
          · dsimp only
            split
            · have hbundle := headKept_writeBundle s h
              exact (HeadKept.ite ((hbundle _ _ _).trans (headKept_pubTo _ _ _ _ _)) ((hbundle _ _ _).trans (headKept_pubTo _ _ _ _ _))).trans (ih _)
            · split
              · refine HeadKept.trans ?_ (ih _)
                refine HeadKept.trans ?_ (headKept_pubAnswer _ _ _ _ _)
                split
                · exact headKept_memRead s _ _ _
                · exact (accessRel_kept.lineAtomic kept_occur s _ _ _ _).head
                · exact headKept_memWrite s _ _ _
              · exact .ite (.of_regs (regs_remoteIssue s _ _ _ _ _ _)) (.refl s)
      · exact headKept_requestGone s h

theorem headKept_pubGo (s : State) (h : Nat) : HeadKept s (s.pubGo h) := by
  unfold State.pubGo
  split
  · exact .refl s
  · exact .ite (.refl s) (headKept_pubRun _ s h)

theorem headKept_pubStart (s : State) (h : Nat) : HeadKept s (s.pubStart h) := by
  unfold State.pubStart
  split
  · exact .refl s
  next r _ =>
    have hkeys : HeadKept s (s.requestKeys r (r.entry.plen / 64)).2 := headKept_memRead s _ _ _
    dsimp only
    split
    · exact (hkeys.trans (headKept_updReq _ h _)).trans (headKept_pubGo _ h)
    · exact hkeys.trans (headKept_requestGone _ h)

/-! #### The end of a request, and the stop of what runs it (R75, R199, R217) -/

theorem headKept_endRequest (s : State) (h : Nat) : HeadKept s (s.endRequest h) := by
  unfold State.endRequest
  split
  · exact .refl s
  next r _ =>
    extract_lets r' dropped pushed code publish ended
    have hended : HeadKept s ended := .of_regs rfl
    exact .ite (hended.trans (headKept_pubStart ended h)) (hended.trans (headKept_requestGone ended h))

theorem regs_attachAll (s : State) (set : Nat) (ready : Request → Bool) : (s.attachAll set ready).2.regs = s.regs := by
  unfold State.attachAll
  refine List.foldlRecOn _ _ (b := (([] : List Nat), s)) (motive := fun acc => acc.2.regs = s.regs) rfl fun acc hacc r _ => ?_
  dsimp only
  split <;> exact hacc

theorem regs_orphan (s : State) (set : Nat) : (s.orphan set).regs = s.regs := by
  unfold State.orphan
  exact List.foldlRecOn (s.spindlesOf set) _ (b := s) (motive := fun u : State => u.regs = s.regs) rfl fun u hu _ _ => hu

theorem headKept_instCheck (s : State) (set : Nat) : HeadKept s (s.instCheck set) := by
  unfold State.instCheck
  split
  · exact .refl s
  next n _ =>
    split
    · extract_lets hs orphaned h' removed ended a
      have horphaned : HeadKept s orphaned := .of_regs (regs_orphan s n.set)
      have hended : HeadKept orphaned ended := (headKept_hds orphaned _).trans (.foldl hs (fun u h => headKept_endRequest u h) removed)
      have hattached : HeadKept ended ((a.2.launch set n.prog n.hdr none).writeBatch set a.1) :=
        ((HeadKept.of_regs (regs_attachAll ended set _)).trans (headKept_hds a.2 _)).trans (headKept_memWrite _ _ _ _)
      exact horphaned.trans (.ite (hended.trans hattached) hended)
    · exact .refl s

theorem headKept_dropGang (s : State) (i g : Nat) : HeadKept s (s.dropGang i g) := .of_regs rfl

/-- At a boundary gangs leave, and nothing is counted. -/
theorem headKept_stopAtBoundary (s : State) (set : Nat) : HeadKept s (s.stopAtBoundary set false) := by
  unfold State.stopAtBoundary
  refine HeadKept.foldl _ (fun u k => HeadKept.foldl _ (fun v x => ?_) u) s
  rw [Bool.false_and, if_neg Bool.false_ne_true]
  exact .ite (headKept_dropGang v k x.gang) (.refl v)

theorem headKept_stopInst (s : State) (set : Nat) : HeadKept s (s.stopInst set false) := by
  unfold State.stopInst
  exact ((headKept_hds s _).trans (headKept_stopAtBoundary _ set)).trans (headKept_instCheck _ set)

theorem headKept_cancelRequest (s : State) (r : Request) : HeadKept s (s.cancelRequest r) := by
  unfold State.cancelRequest
  extract_lets sampling caused
  have hcaused : HeadKept s caused := .ite (headKept_updReq s _ _) (headKept_updReq s _ _)
  refine .ite (.refl s) ?_
  split
  · exact hcaused
  · exact .ite (hcaused.trans (headKept_stopInst _ _)) (.ite hcaused (hcaused.trans (headKept_endRequest _ _)))

end Sys2Proof.Machine
end

section
open Sys2Proof Sys2Proof.Machine

namespace Sys2Proof.Machine

/-! ### The start of a lookup or of a batch changes little of a request -/

/-- A request with no more changed than its lookup, its place in the batch table, and a cause of ending. -/
def SameAdmission (r r' : Request) : Prop :=
  r' = { r with asked := r'.asked, answers := r'.answers, cause := r'.cause, attached := r'.attached, batch := r'.batch, phase := r'.phase,
                pdir := r'.pdir, keys := r'.keys }

theorem SameAdmission.refl (r : Request) : SameAdmission r r := rfl

theorem SameAdmission.trans {r r' r'' : Request} (h : SameAdmission r r') (k : SameAdmission r' r'') : SameAdmission r r'' := by
  unfold SameAdmission at *; rw [k, h]

theorem SameLookup.admission {r r' : Request} (h : SameLookup r r') : SameAdmission r r' := by
  unfold SameLookup at h; rw [h]; rfl

theorem SameButCause.admission {r r' : Request} (h : SameButCause r r') : SameAdmission r r' := by
  unfold SameButCause at h; rw [h]; rfl

theorem ReqKeeps.mono {h : Nat} {P Q : Request → Request → Prop} {s t : State} (hPQ : ∀ {r r'}, P r r' → Q r r') (hst : ReqKeeps h P s t) :
    ReqKeeps h Q s t := fun r hr => by
  obtain ⟨r', hr', hP⟩ := hst r hr
  exact ⟨r', hr', hPQ hP⟩

theorem ReqKeeps.admissionTrans {h : Nat} {s t u : State} (hst : ReqKeeps h SameAdmission s t) (htu : ReqKeeps h SameAdmission t u) :
    ReqKeeps h SameAdmission s u := hst.trans SameAdmission.trans htu

/-- A change of one request keeps what it keeps of that request, of every request. -/
theorem reqKeeps_updReq_any {h : Nat} {P : Request → Request → Prop} (s : State) (j : Nat) {f : Request → Request}
    (hf : ∀ r, (f r).handle = r.handle) (hrefl : ∀ r, P r r) (hP : ∀ r, P r (f r)) : ReqKeeps h P s (s.updReq j f) := fun r hr => by
  refine ⟨if r.handle = j then f r else r, ?_, by split; exacts [hP r, hrefl r]⟩
  have hsame : ((fun x : Request => x.handle == h) ∘ fun x => if x.handle = j then f x else x) = fun x => x.handle == h := by
    funext x
    simp only [Function.comp_apply]
    split
    · rw [hf]
    · rfl
  unfold State.req State.updReq
  rw [List.find?_map, hsame]
  exact congrArg (Option.map _) hr

/-- A step of an admission: request `h` is not changed by more than its lookup and its place, the headstock's registers and what runs on the sets stay. -/
structure EntryStep (h : Nat) (s t : State) : Prop where
  req : ReqKeeps h SameAdmission s t
  kept : Kept s t
  insts : t.hds.insts = s.hds.insts

section
variable {h : Nat}

theorem EntryStep.refl (s : State) : EntryStep h s s := ⟨.of_hds SameAdmission.refl rfl, .of_regs rfl, rfl⟩

theorem EntryStep.trans {s t u : State} (hst : EntryStep h s t) (htu : EntryStep h t u) : EntryStep h s u :=
  ⟨hst.req.admissionTrans htu.req, hst.kept.trans htu.kept, htu.insts.trans hst.insts⟩

theorem EntryStep.of_hds {s t : State} (hds : t.hds = s.hds) (hkept : Kept s t) : EntryStep h s t :=
  ⟨.of_hds SameAdmission.refl hds, hkept, by rw [hds]⟩

theorem EntryStep.inst {s t : State} (hst : EntryStep h s t) (set : Nat) : t.inst set = s.inst set := by
  unfold State.inst; rw [hst.insts]

theorem entryStep_memRead (s : State) (a n : Nat) (nal : Bool) : EntryStep h s (s.memRead a n nal).2 :=
  .of_hds (hds_memRead s a n nal) (kept_memRead s a n nal)

theorem entryStep_memWrite (s : State) (a : Nat) (d : List Byte) (nal : Bool) : EntryStep h s (s.memWrite a d nal).2 :=
  .of_hds (hds_memWrite s a d nal) (kept_memWrite s a d nal)

theorem entryStep_updReq (s : State) (j : Nat) {f : Request → Request} (hf : ∀ r, SameAdmission r (f r)) : EntryStep h s (s.updReq j f) :=
  ⟨reqKeeps_updReq_any s j (fun r => by rw [hf r]) SameAdmission.refl hf, .of_regs rfl, rfl⟩

theorem entryStep_endCause (s : State) (j code detail reason : Nat) : EntryStep h s (s.endCause j code detail reason) :=
  entryStep_updReq s j fun r => by split <;> rfl

theorem entryStep_hdsPut (s : State) (j a : Nat) (d : List Byte) : EntryStep h s (s.hdsPut j a d) := by
  unfold State.hdsPut
  dsimp only
  split
  · exact entryStep_memWrite s a d false
  · exact (entryStep_memWrite s a d false).trans (entryStep_endCause _ _ _ _ _)

theorem entryStep_prefixPump (fuel : Nat) (s : State) (j : Nat) : EntryStep h s (State.prefixPump fuel s j) := by
  induction fuel generalizing s with
  | zero => exact .refl s
  | succ fuel ih =>
    rw [State.prefixPump]
    split
    · exact .refl s
    · dsimp only
      split
      · exact .refl s
      · split
        · refine ((entryStep_memRead s _ _ _).trans (entryStep_updReq _ j ?_)).trans (ih _)
          exact fun _ => rfl
        · split
          · refine ((EntryStep.of_hds (hds_remoteIssue s _ _ _ _ _ _) (.of_regs (regs_remoteIssue s _ _ _ _ _ _))).trans
              (entryStep_updReq _ j ?_)).trans (ih _)
            exact fun _ => rfl
          · exact .refl s

theorem entryStep_prefixGo (s : State) (j : Nat) : EntryStep h s (s.prefixGo j) := by
  unfold State.prefixGo
  split
  · exact .refl s
  · exact entryStep_prefixPump _ s j

theorem entryStep_prefixStart (s : State) (j : Nat) : EntryStep h s (s.prefixStart j) := by
  unfold State.prefixStart
  split
  · exact .refl s
  next r _ =>
    have hkeys : EntryStep h s (s.requestKeys r (lookupBlocks r)).2 := entryStep_memRead s _ _ _
    dsimp only
    split
    · refine (hkeys.trans (entryStep_updReq _ j ?_)).trans (entryStep_prefixGo _ j)
      exact fun _ => rfl
    · exact hkeys.trans (entryStep_endCause _ _ _ _ _)

theorem entryStep_attachAll (s : State) (set : Nat) (ready : Request → Bool) : EntryStep h s (s.attachAll set ready).2 := by
  unfold State.attachAll
  refine List.foldlRecOn _ _ (b := (([] : List Nat), s)) (motive := fun acc => EntryStep h s acc.2) (.refl s) fun acc hacc r _ => ?_
  dsimp only
  split
  · refine hacc.trans (entryStep_updReq _ _ ?_)
    exact fun _ => rfl
  · exact hacc

theorem entryStep_writeBatch (s : State) (set : Nat) (newly : List Nat) : EntryStep h s (s.writeBatch set newly) := entryStep_memWrite s _ _ _

end

/-! ### An entry is admitted (R208 to R211, R213, R218, R220) -/

/-- The request that an admitted entry becomes. -/
def admitted (q order : Nat) (e : SubEntry) (d : SetDef) (prog : Nat) (hdr : ProgHeader) (slot : Nat) (row : SlotRow) (prior blocks h : Nat)
    (look : Bool) : Request :=
  { handle := h, qp := q, order, entry := e, set := d.set, prog, hdr, slot, prior, ntok := prior + e.plen, gen := 0,
    matched := 0, reserved := blocks, btaddr := row.btaddr, sumbase := row.sumbase, btmax := row.btmax, pending := [],
    cause := none, reported := false, cancel := false, ended := false, batch := none, attached := d.mode == 0,
    phase := if look then .looking else .done, pdir := 0, keys := [], answers := [], asked := 0, found := [], imported := 0,
    publishing := none }

/-- A request joins those that run. -/
def State.joined (s : State) (r : Request) : State := { s with hds := { s.hds with requests := s.hds.requests ++ [r] } }

/-- A request has joined, and its slot and its context are written. -/
def State.admitWritten (s : State) (r : Request) : State :=
  let u := ((s.joined r).slotState r.slot 1).slotNtok r.slot r.ntok
  u.hdsPut r.handle (u.ctxAddr r.handle) (contextBytes r)

/-- An admission is counted. -/
def State.admitCounted (s : State) : State := (s.inc Reg.HDS_ADMIT_ADMITTED 1).count 3 0 0x002 1

/-- The program that an admitted request runs on is launched on its set, unless it runs there already. -/
def State.admitLaunched (s : State) (d : SetDef) (prog : Nat) (hdr : ProgHeader) (h : Nat) : State :=
  if d.mode = 0 then s.launch d.set prog hdr (some h)
  else if (s.inst d.set).isSome then s
  else
    let a := s.attachAll d.set fun _ => true
    (a.2.launch d.set prog hdr none).writeBatch d.set a.1

/-- The lookup of an admitted request begins when it asks for one. -/
def State.admitLooked (s : State) (look : Bool) (h : Nat) : State := if look then s.prefixStart h else s

section
variable {s : State} {q order : Nat} {e : SubEntry} {d : SetDef} {prog : Nat} {hdr : ProgHeader} {slot : Nat} {row : SlotRow} {prior blocks h : Nat}

/-- The entry asks for a lookup of its prompt. -/
def State.looks (s : State) (e : SubEntry) : Bool := e.opc == 1 && e.flags.testBit 1 && s.flag Reg.HDS_PDIR_EN

theorem State.enterEntry_eq (hfree : lowestFree 8192 (s.hds.requests.map (·.handle)) = some h) :
    s.enterEntry q order e d prog hdr slot row prior blocks =
      (((s.admitWritten (admitted q order e d prog hdr slot row prior blocks h (s.looks e))).admitCounted.admitLaunched d prog hdr h).admitLooked
        (s.looks e) h) := by
  unfold State.enterEntry
  rw [hfree]
  rfl

/-- A request whose handle was free is found under it. -/
theorem State.req_joined {r : Request} (h : r.handle ∉ s.hds.requests.map (·.handle)) : (s.joined r).req r.handle = some r := by
  have hnone : s.hds.requests.find? (·.handle == r.handle) = none := by
    rw [List.find?_eq_none]
    exact fun x hx hx' => h (List.mem_map.2 ⟨x, hx, beq_iff_eq.1 hx'⟩)
  unfold State.req State.joined
  dsimp only
  rw [List.find?_append, hnone, Option.none_or]
  exact List.find?_cons_of_pos (beq_self_eq_true _)

theorem entryStep_admitWritten (s : State) (r : Request) : EntryStep h (s.joined r) (s.admitWritten r) :=
  ((entryStep_memWrite _ _ _ _).trans (entryStep_memWrite _ _ _ _)).trans (entryStep_hdsPut _ _ _ _)

theorem hds_admitCounted (s : State) : s.admitCounted.hds = s.hds :=
  ((noted_count (s.inc Reg.HDS_ADMIT_ADMITTED 1) 3 0 0x002 1 (by decide)).field State.hds fun _ _ _ => rfl).trans (s.hds_set _ _)

theorem get_admitCounted (s : State) :
    s.admitCounted.get Reg.HDS_ADMIT_ADMITTED = (s.get Reg.HDS_ADMIT_ADMITTED + 1) % 2 ^ Reg.HDS_ADMIT_ADMITTED.width :=
  (kept_countHds (s.inc Reg.HDS_ADMIT_ADMITTED 1) 0x002 1 _ (keptLoc_hds (by decide) (by decide))).trans (s.get_set _ _ (by decide))

theorem headKept_admitCounted (s : State) : HeadKept s s.admitCounted :=
  (headKept_set s Reg.HDS_ADMIT_ADMITTED _ (by decide)).trans (kept_countHds _ 0x002 1).head

theorem State.kept_launch (s : State) (set : Nat) (r : Option Nat) : Kept s (s.launch set prog hdr r) := .of_regs rfl

theorem admitLaunched_keeps (s : State) (d : SetDef) : ReqKeeps h SameAdmission s (s.admitLaunched d prog hdr h) ∧ Kept s (s.admitLaunched d prog hdr h) := by
  have hlaunch (u : State) (r : Option Nat) : ReqKeeps h SameAdmission u (u.launch d.set prog hdr r) ∧ Kept u (u.launch d.set prog hdr r) :=
    ⟨fun r hr => ⟨r, hr, .refl r⟩, u.kept_launch d.set _⟩
  have hstep {u v : State} (hu : EntryStep h u v) : ReqKeeps h SameAdmission u v ∧ Kept u v := ⟨hu.req, hu.kept⟩
  have htrans {u v w : State} (huv : ReqKeeps h SameAdmission u v ∧ Kept u v) (hvw : ReqKeeps h SameAdmission v w ∧ Kept v w) :
      ReqKeeps h SameAdmission u w ∧ Kept u w := ⟨huv.1.admissionTrans hvw.1, huv.2.trans hvw.2⟩
  unfold State.admitLaunched
  split
  · exact hlaunch s _
  · split
    · exact hstep (.refl s)
    · exact htrans (htrans (hstep (entryStep_attachAll s d.set _)) (hlaunch _ none)) (hstep (entryStep_writeBatch _ d.set _))

/-- A set that runs nothing runs what is launched. -/
theorem State.inst_launch {set : Nat} {r : Option Nat} (hnone : s.inst set = none) :
    ∃ n, (s.launch set prog hdr r).inst set = some n ∧ n.request = r ∧ n.prog = prog ∧ n.stopping = false := by
  refine ⟨{ set, prog, hdr, request := r, first := true, launched := [], stopping := false }, ?_, rfl, rfl, rfl⟩
  unfold State.inst at hnone ⊢
  unfold State.launch
  dsimp only
  rw [List.find?_append, hnone, Option.none_or]
  exact List.find?_cons_of_pos (beq_self_eq_true set)

theorem entryStep_admitLooked (s : State) (look : Bool) : EntryStep h s (s.admitLooked look h) := by
  unfold State.admitLooked
  split
  · exact entryStep_prefixStart s h
  · exact .refl s

/-- What an admission leaves: the request under its handle, what runs it in latency mode, and the count (R208, R213, R230). -/
theorem State.enterEntry_spec (hfree : lowestFree 8192 (s.hds.requests.map (·.handle)) = some h) :
    let t := s.enterEntry q order e d prog hdr slot row prior blocks
    (∃ r, t.req h = some r ∧ SameAdmission (admitted q order e d prog hdr slot row prior blocks h (s.looks e)) r)
      ∧ (d.mode = 0 → s.inst d.set = none → ∃ n, t.inst d.set = some n ∧ n.request = some h ∧ n.prog = prog ∧ n.stopping = false)
      ∧ t.get Reg.HDS_ADMIT_ADMITTED = (s.get Reg.HDS_ADMIT_ADMITTED + 1) % 2 ^ Reg.HDS_ADMIT_ADMITTED.width
      ∧ HeadKept s t := by
  intro t
  have ht : t = _ := State.enterEntry_eq hfree
  rw [ht]
  clear_value t
  generalize hr : admitted q order e d prog hdr slot row prior blocks h (s.looks e) = r
  have hhandle : r.handle = h := by rw [← hr]; rfl
  have hjoined : (s.joined r).req h = some r := by
    rw [← hhandle]
    exact State.req_joined (by rw [hhandle]; exact lowestFree_unused hfree)
  have hwritten : EntryStep h (s.joined r) (s.admitWritten r) := entryStep_admitWritten s r
  have hkept : Kept s (s.admitWritten r) := Kept.trans (.of_regs rfl) hwritten.kept
  have hinst : ∀ set, (s.admitWritten r).inst set = s.inst set := hwritten.inst
  generalize s.admitWritten r = w at hwritten hkept hinst
  have hcounted := get_admitCounted w
  have hcountedHds := hds_admitCounted w
  have hcountedHead := headKept_admitCounted w
  generalize w.admitCounted = c at hcounted hcountedHds hcountedHead
  have hinstC : ∀ set, c.inst set = s.inst set := fun set => by rw [← hinst]; unfold State.inst; rw [hcountedHds]
  obtain ⟨hlaunched, hlaunchedKept⟩ := admitLaunched_keeps (prog := prog) (hdr := hdr) (h := h) c d
  have hlaunchedInst (hmode : d.mode = 0) (hnone : s.inst d.set = none) :
      ∃ n, (c.admitLaunched d prog hdr h).inst d.set = some n ∧ n.request = some h ∧ n.prog = prog ∧ n.stopping = false := by
    unfold State.admitLaunched
    rw [if_pos hmode]
    exact State.inst_launch ((hinstC _).trans hnone)
  generalize c.admitLaunched d prog hdr h = l at hlaunched hlaunchedKept hlaunchedInst
  have hlooked := entryStep_admitLooked (h := h) l (s.looks e)
  generalize l.admitLooked (s.looks e) h = v at hlooked
  have hreqC : ReqKeeps h SameAdmission w c := .of_hds SameAdmission.refl hcountedHds
  have hreq : ReqKeeps h SameAdmission (s.joined r) v := ((hwritten.req.admissionTrans hreqC).admissionTrans hlaunched).admissionTrans hlooked.req
  have hadmit : KeptLoc Reg.HDS_ADMIT_ADMITTED := keptLoc_hds (by decide) (by decide)
  refine ⟨hreq r hjoined, fun hmode hnone => ?_, ?_, ((hkept.head.trans hcountedHead).trans hlaunchedKept.head).trans hlooked.kept.head⟩
  · rw [hlooked.inst]
    exact hlaunchedInst hmode hnone
  · rw [hlooked.kept _ hadmit, hlaunchedKept _ hadmit, hcounted, hkept _ hadmit]

end

end Sys2Proof.Machine
end

section
open Sys2Proof Sys2Proof.Machine

namespace Sys2Proof.Machine

/-! ### Entries that complete, and entries that wait -/

/-- The completion entry of a submission entry that no request stands for (R201, R575). -/
def State.overEntry (s : State) (q order : Nat) (e : SubEntry) (code detail seq : Nat) : DueEntry :=
  { qp := q, order, since := s.now, handle := none, tag := e.tag, kind := 1, code, detail, seq, gen := 0, toks := [], matched := 0 }

/-- An entry becomes due. -/
def State.dueToo (s : State) (x : DueEntry) : State := { s with hds := { s.hds with due := s.hds.due ++ [x] } }

theorem State.completeEntry_eq (s : State) (q order : Nat) (e : SubEntry) (code detail seq : Nat) :
    s.completeEntry q order e code detail seq =
      if code = 5 ∨ code = 6 then ((s.dueToo (s.overEntry q order e code detail seq)).sat Reg.HDS_ADMIT_NOTADMIT 1).count 3 0 0x004 1
      else s.dueToo (s.overEntry q order e code detail seq) := rfl

theorem State.get_dueToo (s : State) (x : DueEntry) (l : Loc) : (s.dueToo x).get l = s.get l := rfl

/-- What a completion leaves: the entry is due, and a refusal is counted (R201, R230). -/
theorem State.completeEntry_spec (s : State) (q order : Nat) (e : SubEntry) (code detail seq : Nat) :
    let t := s.completeEntry q order e code detail seq
    t.hds = { s.hds with due := s.hds.due ++ [s.overEntry q order e code detail seq] } ∧ t.mem = s.mem ∧ HeadKept s t
      ∧ (code = 5 → t.get Reg.HDS_ADMIT_NOTADMIT = min (s.get Reg.HDS_ADMIT_NOTADMIT + 1) (2 ^ Reg.HDS_ADMIT_NOTADMIT.width - 1)) := by
  intro t
  have ht : t = _ := s.completeEntry_eq q order e code detail seq
  have hget := s.get_dueToo (s.overEntry q order e code detail seq) Reg.HDS_ADMIT_NOTADMIT
  have hdue : (s.dueToo (s.overEntry q order e code detail seq)).hds = { s.hds with due := s.hds.due ++ [s.overEntry q order e code detail seq] } ∧
      (s.dueToo (s.overEntry q order e code detail seq)).mem = s.mem ∧ HeadKept s (s.dueToo (s.overEntry q order e code detail seq)) :=
    ⟨rfl, rfl, headKept_hds s _⟩
  rw [ht]
  clear_value t
  generalize s.dueToo (s.overEntry q order e code detail seq) = u at hget hdue
  obtain ⟨hhds, hmem, hhead⟩ := hdue
  split
  · have hset : HeadKept u (u.sat Reg.HDS_ADMIT_NOTADMIT 1) := headKept_set u Reg.HDS_ADMIT_NOTADMIT _ (by decide)
    have hsat := u.get_sat Reg.HDS_ADMIT_NOTADMIT 1 (by decide)
    have hsatMem : (u.sat Reg.HDS_ADMIT_NOTADMIT 1).mem = u.mem ∧ (u.sat Reg.HDS_ADMIT_NOTADMIT 1).hds = u.hds := ⟨u.mem_set _ _, u.hds_set _ _⟩
    generalize u.sat Reg.HDS_ADMIT_NOTADMIT 1 = v at hset hsat hsatMem
    have hnote := noted_count v 3 0 0x004 1 (by decide)
    have hkept := kept_countHds v 0x004 1
    refine ⟨(hnote.field State.hds fun _ _ _ => rfl).trans (hsatMem.2.trans hhds), (hnote.field State.mem fun _ _ _ => rfl).trans (hsatMem.1.trans hmem),
      (hhead.trans hset).trans hkept.head, fun _ => ?_⟩
    rw [hkept _ (keptLoc_hds (by decide) (by decide)), hsat, hget]
  next hcode => exact ⟨hhds, hmem, hhead, fun h => absurd (.inl h) hcode⟩

section
variable (s : State) (q order : Nat) (e : SubEntry) (code detail seq : Nat)

theorem State.due_completeEntry :
    (s.completeEntry q order e code detail seq).hds.due = s.hds.due ++ [s.overEntry q order e code detail seq] := by
  rw [(s.completeEntry_spec q order e code detail seq).1]

theorem State.requests_completeEntry : (s.completeEntry q order e code detail seq).hds.requests = s.hds.requests := by
  rw [(s.completeEntry_spec q order e code detail seq).1]

theorem State.deferred_completeEntry : (s.completeEntry q order e code detail seq).hds.deferred = s.hds.deferred := by
  rw [(s.completeEntry_spec q order e code detail seq).1]

theorem State.mem_completeEntry : (s.completeEntry q order e code detail seq).mem = s.mem := (s.completeEntry_spec q order e code detail seq).2.1

theorem headKept_completeEntry : HeadKept s (s.completeEntry q order e code detail seq) := (s.completeEntry_spec q order e code detail seq).2.2.1

theorem memSame_completeEntry : MemSame s (s.completeEntry q order e code detail seq) := fun a =>
  congrArg (smapGet memByte · a) (s.mem_completeEntry q order e code detail seq)

theorem State.notAdmit_completeEntry : (s.completeEntry q order e 5 detail seq).get Reg.HDS_ADMIT_NOTADMIT =
    min (s.get Reg.HDS_ADMIT_NOTADMIT + 1) (2 ^ Reg.HDS_ADMIT_NOTADMIT.width - 1) := (s.completeEntry_spec q order e 5 detail seq).2.2.2 rfl

/-- An entry as it waits on the deferral list. -/
def State.waiting : Deferred := { qp := q, order, entry := e, time := s.now }

/-- The KIND 2 entry that says so (R216). -/
def State.waitEntry : DueEntry :=
  { qp := q, order, since := s.now, handle := none, tag := e.tag, kind := 2, code := 0, detail := 0, seq := if e.opc = 2 then e.seq else noSeq,
    gen := 0, toks := [], matched := 0 }

/-- An entry joins the deferral list. -/
def State.listed : State :=
  { s with hds := { s.hds with deferred := s.hds.deferred ++ [s.waiting q order e], due := s.hds.due ++ [s.waitEntry q order e] } }

theorem State.settle_defer_eq :
    s.settle q order e .defer = if 4096 ≤ s.hds.deferred.length then s.completeEntry q order e 5 0 (s.endSeq e) else (s.listed q order e).count 3 0 0x003 1 :=
  rfl

theorem State.settle_over (code : Nat) : s.settle q order e (.over code) = s.completeEntry q order e code 0 (s.endSeq e) := rfl

theorem State.settle_enter (d : SetDef) (prog : Nat) (hdr : ProgHeader) (slot : Nat) (row : SlotRow) (prior blocks : Nat) :
    s.settle q order e (.enter d prog hdr slot row prior blocks) = s.enterEntry q order e d prog hdr slot row prior blocks := rfl

/-- What the deferral of an entry leaves. -/
theorem State.settle_defer_room (hroom : s.hds.deferred.length < 4096) : let t := s.settle q order e .defer
    t.hds.deferred = s.hds.deferred ++ [s.waiting q order e] ∧ t.hds.due = s.hds.due ++ [s.waitEntry q order e] ∧ t.mem = s.mem ∧ HeadKept s t := by
  intro t
  have ht : t = _ := s.settle_defer_eq q order e
  rw [ht, if_neg (Nat.not_le.2 hroom)]
  have hlisted : (s.listed q order e).hds = { s.hds with deferred := s.hds.deferred ++ [s.waiting q order e], due := s.hds.due ++ [s.waitEntry q order e] } ∧
      (s.listed q order e).mem = s.mem ∧ HeadKept s (s.listed q order e) := ⟨rfl, rfl, headKept_hds s _⟩
  clear ht
  clear_value t
  generalize s.listed q order e = u at hlisted
  obtain ⟨hhds, hmem, hhead⟩ := hlisted
  have hnote := noted_count u 3 0 0x003 1 (by decide)
  have hcount : (u.count 3 0 0x003 1).hds = u.hds := hnote.field State.hds fun _ _ _ => rfl
  rw [hcount, hhds]
  exact ⟨rfl, rfl, (hnote.field State.mem fun _ _ _ => rfl).trans hmem, hhead.trans (kept_countHds u 0x003 1).head⟩

end

/-! ### The judgement of an entry reads, and does no more (R211, R213 to R216) -/

/-- A step that does no more than read memory. -/
structure OnlyReads (s t : State) : Prop where
  mem : MemStep s t
  kept : Kept s t

theorem OnlyReads.refl (s : State) : OnlyReads s s := ⟨.refl s, .of_regs rfl⟩
theorem OnlyReads.trans {s t u : State} (h : OnlyReads s t) (k : OnlyReads t u) : OnlyReads s u := ⟨h.mem.trans k.mem, h.kept.trans k.kept⟩
theorem OnlyReads.hds {s t : State} (h : OnlyReads s t) : t.hds = s.hds := h.mem.hds
theorem reads_memRead (s : State) (a n : Nat) (nal : Bool) : OnlyReads s (s.memRead a n nal).2 := ⟨memStep_memRead s a n nal, kept_memRead s a n nal⟩
theorem reads_slotRead (s : State) (n : Nat) : OnlyReads s (s.slotRead n).2 := reads_memRead s _ 32 false

theorem reads_slotTable (s : State) : OnlyReads s s.slotTable.2 := by
  unfold State.slotTable
  exact List.foldlRecOn (List.range _) _ (b := ([], s)) (motive := fun acc : List (Nat × Option SlotRow) × State => OnlyReads s acc.2) (.refl s)
    fun acc hacc n _ => hacc.trans (reads_slotRead acc.2 n)

theorem reads_namedSlot (s : State) (n : Nat) : OnlyReads s (s.namedSlot n).2 := by
  unfold State.namedSlot
  split
  · exact .refl s
  · dsimp only
    split <;> exact reads_slotRead s n

theorem reads_judge (s : State) (q : Nat) (e : SubEntry) : OnlyReads s (s.judge q e).2 := by
  unfold State.judge
  split
  · exact .refl s
  · split
    · have htable := reads_slotTable s
      dsimp only
      split
      · exact htable
      · split <;> exact htable
    · have hslot := reads_namedSlot s e.seq
      dsimp only
      split
      · exact hslot
      · exact hslot
      · split <;> exact hslot

/-- An entry whose deadline has passed is over. -/
theorem State.judge_late {s : State} {e : SubEntry} (q : Nat) (hdeadline : e.deadline ≠ 0) (hpast : e.deadline < s.ft) : s.judge q e = (.over 6, s) := by
  unfold State.judge
  rw [if_pos ⟨hdeadline, hpast⟩]

theorem headKept_enterEntry (s : State) (q order : Nat) (e : SubEntry) (d : SetDef) (prog : Nat) (hdr : ProgHeader) (slot : Nat) (row : SlotRow)
    (prior blocks : Nat) : HeadKept s (s.enterEntry q order e d prog hdr slot row prior blocks) := by
  cases hfree : lowestFree 8192 (s.hds.requests.map (·.handle)) with
  | none =>
    unfold State.enterEntry
    rw [hfree]
    exact .refl s
  | some h => exact (State.enterEntry_spec hfree).2.2.2

theorem headKept_settle (s : State) (q order : Nat) (e : SubEntry) (v : Verdict) : HeadKept s (s.settle q order e v) := by
  match v with
  | .over code => exact headKept_completeEntry s q order e code 0 _
  | .enter d prog hdr slot row prior blocks => exact headKept_enterEntry s q order e d prog hdr slot row prior blocks
  | .defer =>
    by_cases hroom : s.hds.deferred.length < 4096
    · exact (s.settle_defer_room q order e hroom).2.2.2
    · rw [s.settle_defer_eq, if_pos (Nat.not_lt.1 hroom)]
      exact headKept_completeEntry s q order e 5 0 _

section
variable {s : State} {q order : Nat} {e : SubEntry}

theorem State.takeEntry_malformed {off : Nat} (h : malformed e (s.heldTokens e) = some off) :
    s.takeEntry q order e = s.completeEntry q order e 0x0c off (s.endSeq e) := by
  unfold State.takeEntry
  rw [h]

theorem State.takeEntry_judged (h : malformed e (s.heldTokens e) = none) {v : Verdict} (hv : (s.judge q e).1 = v) :
    s.takeEntry q order e = (s.judge q e).2.settle q order e v := by
  unfold State.takeEntry
  rw [h, ← hv]

end

theorem headKept_takeEntry (s : State) (q order : Nat) (e : SubEntry) : HeadKept s (s.takeEntry q order e) := by
  cases h : malformed e (s.heldTokens e) with
  | some off =>
    rw [State.takeEntry_malformed h]
    exact headKept_completeEntry s q order e _ _ _
  | none =>
    rw [State.takeEntry_judged h rfl]
    exact (reads_judge s q e).kept.head.trans (headKept_settle _ q order e _)

/-! ### FREE (R200, R211) -/

section
variable {s : State} {q order : Nat} {e : SubEntry}

theorem State.freeEntry_unreadable (h : (s.namedSlot e.seq).1 = .unreadable) :
    s.freeEntry q order e = (s.namedSlot e.seq).2.completeEntry q order e 8 0 noSeq := by
  unfold State.freeEntry
  dsimp only
  rw [h]

theorem State.freeEntry_notHeld (h : (s.namedSlot e.seq).1 = .notHeld) :
    s.freeEntry q order e = (s.namedSlot e.seq).2.completeEntry q order e 0x0d 0 noSeq := by
  unfold State.freeEntry
  dsimp only
  rw [h]

theorem State.freeEntry_held {row : SlotRow} (h : (s.namedSlot e.seq).1 = .held row) :
    s.freeEntry q order e = ((s.namedSlot e.seq).2.freeSlot e.seq).completeEntry q order e 0x10 0 e.seq := by
  unfold State.freeEntry
  dsimp only
  rw [h]

end

theorem due_poolPush (s : State) (a : Nat) : (s.poolPush a).hds.due = s.hds.due := by
  by_cases h : s.hds.poolTop < s.get Reg.HDS_KVFREE_SIZE
  · rw [State.poolPush_hds h]
  · unfold State.poolPush
    rw [if_neg h]

theorem due_freeSlot (s : State) (n : Nat) : (s.freeSlot n).hds.due = s.hds.due := by
  have hpushed : (((s.slotBlocks n).filter (·.2.2)).foldl (fun u b => u.poolPush (gLocal b.2.1)) s).hds.due = s.hds.due :=
    List.foldlRecOn ((s.slotBlocks n).filter (·.2.2)) _ (b := s) (motive := fun u : State => u.hds.due = s.hds.due) rfl
      fun u hu b _ => (due_poolPush u _).trans hu
  unfold State.freeSlot State.slotNtok State.slotState
  dsimp only
  generalize ((s.slotBlocks n).filter (·.2.2)).foldl (fun u b => u.poolPush (gLocal b.2.1)) s = u at hpushed
  rw [hds_memWrite, hds_memWrite]
  exact hpushed

theorem headKept_freeEntry (s : State) (q order : Nat) (e : SubEntry) : HeadKept s (s.freeEntry q order e) := by
  have hread := (reads_namedSlot s e.seq).kept.head
  cases h : (s.namedSlot e.seq).1 with
  | unreadable =>
    rw [State.freeEntry_unreadable h]
    exact hread.trans (headKept_completeEntry _ q order e _ _ _)
  | notHeld =>
    rw [State.freeEntry_notHeld h]
    exact hread.trans (headKept_completeEntry _ q order e _ _ _)
  | held row =>
    rw [State.freeEntry_held h]
    exact (hread.trans (headKept_freeSlot _ e.seq)).trans (headKept_completeEntry _ q order e _ _ _)

/-! ### The first of a list by some measure -/

/-- `f` keeps what it has or takes the next, and takes the first of all. -/
def Picks {α : Type} (f : Option α → α → Option α) : Prop := ∀ b x, f b x = some x ∨ (f b x = b ∧ b.isSome = true)

theorem Picks.mem_of_foldl {α : Type} {f : Option α → α → Option α} (hf : Picks f) {l : List α} {y : α} (h : l.foldl f none = some y) : y ∈ l := by
  have hmem := List.foldlRecOn l f (b := none) (motive := fun b => ∀ y, b = some y → y ∈ l) (fun _ h => by cases h) fun b hb x hx y hy => by
    obtain h | ⟨h, -⟩ := hf b x
    · obtain rfl := Option.some.inj (h.symm.trans hy)
      exact hx
    · exact hb y (h ▸ hy)
  exact hmem y h

theorem Picks.exists_of_foldl {α : Type} {f : Option α → α → Option α} (hf : Picks f) {l : List α} (h : l ≠ []) : ∃ y ∈ l, l.foldl f none = some y := by
  obtain ⟨x, l, rfl⟩ := List.exists_cons_of_ne_nil h
  have hsome : ((x :: l).foldl f none).isSome = true := by
    rw [List.foldl_cons]
    refine List.foldlRecOn l f (b := f none x) (motive := fun b => b.isSome = true) ?_ fun b hb y _ => ?_
    · obtain h | ⟨-, h⟩ := hf none x
      · rw [h]; rfl
      · cases h
    · obtain h | ⟨h, -⟩ := hf b y
      · rw [h]; rfl
      · rw [h]; exact hb
  obtain ⟨y, hy⟩ := Option.isSome_iff_exists.1 hsome
  exact ⟨y, hf.mem_of_foldl hy, hy⟩

/-! ### CANCEL (R199) -/

/-- The earlier read of two. -/
def firstRead (b : Option (Nat × Option Request)) (x : Nat × Option Request) : Option (Nat × Option Request) :=
  match b with
  | none => some x
  | some c => if x.1 < c.1 then some x else some c

theorem picks_firstRead : Picks firstRead := fun b x => by
  cases b with
  | none => exact .inl rfl
  | some c =>
    unfold firstRead
    dsimp only
    split
    · exact .inl rfl
    · exact .inr ⟨rfl, rfl⟩

/-- The requests of a queue pair with a TAG, running or deferred, by the place in the read order. -/
def State.tagged (s : State) (q t : Nat) : List (Nat × Option Request) :=
  (s.hds.requests.filter fun r => r.qp == q && r.entry.tag == t).map (fun r => (r.order, some r))
    ++ (s.hds.deferred.filter fun d => d.qp == q && d.entry.tag == t).map fun d => (d.order, (none : Option Request))

/-- The deferred entry with place `o` in the read order is dropped. -/
def State.dropOrder (s : State) (o : Nat) : State := { s with hds := { s.hds with deferred := s.hds.deferred.filter (·.order != o) } }

/-- CANCEL of what was read first with the TAG. -/
def State.cancelFirst (s : State) (q order : Nat) (e : SubEntry) : Option (Nat × Option Request) → State
  | none => s.completeEntry q order e 0x11 0 noSeq
  | some (_, some r) => (s.cancelRequest r).completeEntry q order e 0x10 0 noSeq
  | some (o, none) =>
    match s.hds.deferred.find? (fun d => d.order == o) with
    | none => s
    | some d => ((s.dropOrder o).completeEntry q o d.entry 0x04 0 ((s.dropOrder o).endSeq d.entry)).completeEntry q order e 0x10 0 noSeq

section
variable {s : State} {q order : Nat} {e : SubEntry}

theorem State.cancelEntry_eq :
    s.cancelEntry q order e = s.cancelFirst q order e ((s.tagged q (e.seq % 65536)).foldl firstRead none) := rfl

theorem State.cancelEntry_of_none (h : s.tagged q (e.seq % 65536) = []) : s.cancelEntry q order e = s.completeEntry q order e 0x11 0 noSeq := by
  rw [State.cancelEntry_eq, h]
  rfl

theorem State.tagged_eq_nil {t : Nat} (hrun : ∀ r ∈ s.hds.requests, ¬ (r.qp = q ∧ r.entry.tag = t))
    (hwait : ∀ d ∈ s.hds.deferred, ¬ (d.qp = q ∧ d.entry.tag = t)) : s.tagged q t = [] := by
  unfold State.tagged
  rw [List.filter_eq_nil_iff.2 (by simpa using hrun), List.filter_eq_nil_iff.2 (by simpa using hwait)]
  rfl

theorem State.tagged_ne_nil {t : Nat} (h : (∃ r ∈ s.hds.requests, r.qp = q ∧ r.entry.tag = t) ∨ ∃ d ∈ s.hds.deferred, d.qp = q ∧ d.entry.tag = t) :
    s.tagged q t ≠ [] := by
  unfold State.tagged
  rw [Ne, List.append_eq_nil_iff, List.map_eq_nil_iff, List.map_eq_nil_iff, List.filter_eq_nil_iff, List.filter_eq_nil_iff]
  rintro ⟨hrun, hwait⟩
  obtain ⟨r, hr, hqp, htag⟩ | ⟨d, hd, hqp, htag⟩ := h
  · exact hrun r hr (by simp [hqp, htag])
  · exact hwait d hd (by simp [hqp, htag])

/-- A place of a deferred entry is that of one on the list. -/
theorem State.find_tagged {o t : Nat} (h : (o, none) ∈ s.tagged q t) : ∃ d, s.hds.deferred.find? (fun d => d.order == o) = some d := by
  unfold State.tagged at h
  obtain h | h := List.mem_append.1 h
  · obtain ⟨r, -, hr⟩ := List.mem_map.1 h
    cases hr
  · obtain ⟨d, hd, heq⟩ := List.mem_map.1 h
    refine Option.isSome_iff_exists.1 (List.find?_isSome.2 ⟨d, (List.mem_filter.1 hd).1, ?_⟩)
    rw [← (Prod.mk.inj heq).1]
    exact beq_self_eq_true _

/-- A CANCEL that found its request or entry is done (R199). -/
theorem State.due_cancelFirst {x : Nat × Option Request} {t : Nat} (h : x ∈ s.tagged q t) :
    ∃ l y, (s.cancelFirst q order e (some x)).hds.due = l ++ [y] ∧ y.code = 0x10 ∧ y.qp = q := by
  obtain ⟨o, _ | r⟩ := x
  · obtain ⟨d, hd⟩ := State.find_tagged h
    unfold State.cancelFirst
    dsimp only
    rw [hd]
    exact ⟨_, _, State.due_completeEntry _ q order e 0x10 0 noSeq, rfl, rfl⟩
  · exact ⟨_, _, State.due_completeEntry _ q order e 0x10 0 noSeq, rfl, rfl⟩

end

theorem headKept_cancelEntry (s : State) (q order : Nat) (e : SubEntry) : HeadKept s (s.cancelEntry q order e) := by
  by_cases hnil : s.tagged q (e.seq % 65536) = []
  · rw [State.cancelEntry_of_none hnil]
    exact headKept_completeEntry s q order e _ _ _
  · obtain ⟨⟨o, _ | r⟩, -, hx⟩ := picks_firstRead.exists_of_foldl hnil
    · rw [State.cancelEntry_eq, hx]
      unfold State.cancelFirst
      dsimp only
      split
      · exact .refl s
      · exact ((headKept_hds s _).trans (headKept_completeEntry _ _ _ _ _ _ _)).trans (headKept_completeEntry _ _ _ _ _ _ _)
    · rw [State.cancelEntry_eq, hx]
      exact (headKept_cancelRequest s r).trans (headKept_completeEntry _ _ _ _ _ _ _)

end Sys2Proof.Machine
end

section
open Sys2Proof Sys2Proof.Machine

namespace Sys2Proof.Machine

/-! ### The deferral list (R214, R216) -/

/-- Entry `k` leaves the deferral list. -/
def State.dropAt (s : State) (k : Nat) : State := { s with hds := { s.hds with deferred := s.hds.deferred.eraseIdx k } }

theorem State.hds_dropAt (s : State) (k : Nat) : (s.dropAt k).hds = { s.hds with deferred := s.hds.deferred.eraseIdx k } := rfl

/-- The entry of two that is settled first. -/
def State.firstDeferred (s : State) (b : Option (Deferred × Nat)) (d : Deferred × Nat) : Option (Deferred × Nat) :=
  match b with
  | none => some d
  | some c => if s.prioOf c.1.qp < s.prioOf d.1.qp then some d else some c

theorem State.picks_firstDeferred (s : State) : Picks s.firstDeferred := fun b d => by
  cases b with
  | none => exact .inl rfl
  | some c =>
    unfold State.firstDeferred
    dsimp only
    split
    · exact .inl rfl
    · exact .inr ⟨rfl, rfl⟩

section
variable {s : State} {k : Nat} {d : Deferred}

/-- The entry that is settled next need not wait. -/
theorem State.judge_nextDeferred (hk : s.nextDeferred = some k) (hd : s.hds.deferred[k]? = some d) : (s.judge d.qp d.entry).1 ≠ .defer := by
  have heq : s.nextDeferred = if !s.flag Reg.HDS_CTL_ENABLE then none
      else ((s.hds.deferred.zipIdx.filter fun d => (s.judge d.1.qp d.1.entry).1 != .defer).foldl s.firstDeferred none).map (·.2) := rfl
  rw [heq] at hk
  split at hk
  · cases hk
  · obtain ⟨⟨x, j⟩, hx, rfl⟩ := Option.map_eq_some_iff.1 hk
    obtain ⟨hmem, hready⟩ := List.mem_filter.1 (s.picks_firstDeferred.mem_of_foldl hx)
    obtain rfl : x = d := Option.some.inj ((List.mem_zipIdx_iff_getElem?.1 hmem).symm.trans hd)
    exact bne_iff_ne.1 hready

theorem State.settleDeferred_ready (dflt : Option Nat) (hd : s.hds.deferred[k]? = some d) (hready : (s.judge d.qp d.entry).1 ≠ .defer) :
    s.settleDeferred k dflt = ((s.judge d.qp d.entry).2.dropAt k).settle d.qp d.order d.entry (s.judge d.qp d.entry).1 := by
  unfold State.settleDeferred
  rw [hd]
  dsimp only
  split
  next h => exact absurd h hready
  next h => exact absurd h hready
  · rfl

theorem State.settleDeferred_waits (code : Nat) (hd : s.hds.deferred[k]? = some d) (hwaits : (s.judge d.qp d.entry).1 = .defer) :
    s.settleDeferred k (some code) = ((s.judge d.qp d.entry).2.dropAt k).completeEntry d.qp d.order d.entry code 0
      (((s.judge d.qp d.entry).2.dropAt k).endSeq d.entry) := by
  unfold State.settleDeferred
  rw [hd]
  dsimp only
  rw [hwaits]
  rfl

/-- A deferred entry that completes. -/
theorem State.completeEntry_dropAt {u : State} (hu : u.hds = s.hds) (q order : Nat) (e : SubEntry) (code detail seq : Nat) :
    let t := (u.dropAt k).completeEntry q order e code detail seq
    t.hds.deferred = s.hds.deferred.eraseIdx k ∧ t.hds.due = s.hds.due ++ [(u.dropAt k).overEntry q order e code detail seq]
      ∧ t.hds.requests = s.hds.requests ∧ MemSame u t := by
  intro t
  refine ⟨(State.deferred_completeEntry _ q order e code detail seq).trans ?_, (State.due_completeEntry _ q order e code detail seq).trans ?_,
    (State.requests_completeEntry _ q order e code detail seq).trans ?_, memSame_completeEntry (u.dropAt k) q order e code detail seq⟩
  · rw [State.hds_dropAt, hu]
  · rw [State.hds_dropAt, hu]
  · rw [State.hds_dropAt, hu]

theorem exec_deferredAdmission_none (hrun : s.running = true) (hnone : s.nextDeferred = none) : exec .deferredAdmission s = .next (s.keeping s) := by
  have hc : exec .deferredAdmission s = execDeferredAdmission s := rfl
  rw [hc, execDeferredAdmission, State.run_running _ _ hrun, hnone]

theorem exec_deferredAdmission_some (hrun : s.running = true) (hk : s.nextDeferred = some k) :
    exec .deferredAdmission s = .next (s.keeping (s.settleDeferred k none)) := by
  have hc : exec .deferredAdmission s = execDeferredAdmission s := rfl
  rw [hc, execDeferredAdmission, State.run_running _ _ hrun, hk]

end

section
variable {s : State} {k : Fin 4096} {d : Deferred}

theorem exec_deferLimitExpiry_eq (hrun : s.running = true) (hd : s.hds.deferred[k.val]? = some d) : exec (.deferLimitExpiry k) s = .next (s.keeping (
    if s.now < d.time + s.deferLimit then s
    else if s.flag Reg.HDS_CTL_ENABLE then s.settleDeferred k (some 5)
    else (s.dropAt k).completeEntry d.qp d.order d.entry 5 0 ((s.dropAt k).endSeq d.entry))) := by
  have hc : exec (.deferLimitExpiry k) s = execDeferLimitExpiry k s := rfl
  rw [hc, execDeferLimitExpiry, State.run_running _ _ hrun, hd]
  rfl

theorem exec_deadlineExpiry_eq (hrun : s.running = true) (hd : s.hds.deferred[k.val]? = some d) : exec (.deadlineExpiry k) s = .next (s.keeping (
    if d.entry.deadline ≠ 0 ∧ d.entry.deadline < s.ft then s.settleDeferred k (some 6) else s)) := by
  have hc : exec (.deadlineExpiry k) s = execDeadlineExpiry k s := rfl
  rw [hc, execDeadlineExpiry, State.run_running _ _ hrun, hd]

end

/-! ### The next entry of a queue pair is read (R192 to R194) -/

/-- ERR stands, and the positions stay. -/
theorem State.set_qpErr (u : State) (q : Nat) :
    (u.set (Reg.HDS_QP_STATUS_ERR q) 1).flag (Reg.HDS_QP_STATUS_ERR q) = true
      ∧ (u.set (Reg.HDS_QP_STATUS_ERR q) 1).get (Reg.HDS_QP_STATUS_SQHEAD q) = u.get (Reg.HDS_QP_STATUS_SQHEAD q) := by
  constructor
  · rw [State.flag, u.get_set _ 1 (by simp [Reg.HDS_QP_STATUS_ERR])]
    rfl
  · exact u.get_set_beside 1 (.inr (.inl (by simp [Reg.HDS_QP_STATUS_ERR, Reg.HDS_QP_STATUS_SQHEAD]))) (by simp [Reg.HDS_QP_STATUS_ERR])

theorem State.get_lastErrSet_code (v : State) (q pos : Nat) {code : Nat} (hcode : code < 256) : (v.lastErrSet q code pos).get Reg.HDS_LASTERR_CODE = code := by
  have hcode' : code % 2 ^ 8 = code := by omega
  simp (disch := decide) only [Reg.HDS_LASTERR_CODE, Reg.HDS_LASTERR_QP, Reg.HDS_LASTERR_POS, Reg.HDS_LASTERR_VALID, State.lastErrSet,
    State.get_set_apart, State.get_set_same, hcode']

/-- What stops a queue pair leaves ERR, LASTERR and the position (R193, R194). -/
theorem State.qpError_stops (u : State) (q : Nat) {code : Nat} (pos : Nat) (hcode : code < 256) : let t := u.qpError q code pos
    t.flag (Reg.HDS_QP_STATUS_ERR q) = true ∧ t.get Reg.HDS_LASTERR_CODE = code ∧ t.get (Reg.HDS_QP_STATUS_SQHEAD q) = u.get (Reg.HDS_QP_STATUS_SQHEAD q)
      ∧ MemSame u t := by
  intro t
  obtain ⟨herr, hhead⟩ := u.set_qpErr q
  have hmem : MemSame u (u.set (Reg.HDS_QP_STATUS_ERR q) 1) := fun a => congrArg (smapGet memByte · a) (u.mem_set _ 1)
  have ht : t = (u.set (Reg.HDS_QP_STATUS_ERR q) 1).lastErr q code pos := rfl
  clear_value t
  generalize u.set (Reg.HDS_QP_STATUS_ERR q) 1 = v at herr hhead hmem ht
  have hnote : Kept (v.lastErrSet q code pos) t := by rw [ht]; exact kept_occur _ _ _ _
  have hnoteMem : MemSame (v.lastErrSet q code pos) t := by rw [ht]; exact (v.lastErr_noted q code pos).memSame
  have hrecord := v.lastErrSet_only q code pos
  have hcoded := v.get_lastErrSet_code q pos hcode
  generalize v.lastErrSet q code pos = w at hnote hnoteMem hrecord hcoded
  have hstatus (m : Loc) (haddr : m.addr = Reg.HDS_QP_STATUS q) : w.get m = v.get m :=
    State.get_of_reg (hrecord.2 _ (by rw [haddr]; simpa using qpStatus_ne_lastErr q))
  refine ⟨?_, (hnote _ (keptLoc_hds (by decide) (by decide))).trans hcoded, ?_, (hmem.trans hrecord.memSame).trans hnoteMem⟩
  · rw [State.flag, hnote _ (keptLoc_qpErr q), hstatus _ rfl]
    exact herr
  · exact ((hnote _ (keptLoc_sqHead q)).trans (hstatus _ rfl)).trans hhead

/-- The entry at SQHEAD of a queue pair. -/
def State.sqPlace (s : State) (q : Nat) : Nat := s.get (Reg.HDS_QP_SQ_ADDR q) + 128 * s.get (Reg.HDS_QP_STATUS_SQHEAD q)

section
variable {s u : State} {q : Nat} {kind : Nat → Bool} {f : State → Nat → Nat → SubEntry → State} {d : List Byte}

/-- With no queue pair next, or in a shutdown, no entry is read. -/
theorem State.readEntry_none (h : s.nextQp = none ∨ s.pwr.shutdown.isSome = true) : s.readEntry kind f = s := by
  have hnone : (if s.pwr.shutdown.isSome then none else s.nextQp) = none := by
    obtain h | h := h
    · rw [h, ite_self]
    · rw [if_pos h]
  unfold State.readEntry
  rw [hnone]

/-- A successful read of the entry leaves the position, the ring's size and the headstock's own state. -/
theorem State.memRead_entry (hread : s.memRead (s.sqPlace q) 128 false = (some d, u)) :
    u.get (Reg.HDS_QP_STATUS_SQHEAD q) = s.get (Reg.HDS_QP_STATUS_SQHEAD q) ∧ u.sqSize q = s.sqSize q ∧ u.hds = s.hds := by
  have habove := accessRel_above.memRead_some s (s.sqPlace q) 128 false (d := d) (by rw [hread])
  have hhds := hds_memRead s (s.sqPlace q) 128 false
  rw [hread] at habove hhds
  refine ⟨habove _ (keptLoc_sqHead q).ge, ?_, hhds⟩
  unfold State.sqSize
  rw [habove (Reg.HDS_QP_SQ_SQLOG q) (by simp only [Reg.HDS_QP_SQ_SQLOG, Reg.HDS_QP_SQ]; omega)]

section
variable (hshut : s.pwr.shutdown = none) (hq : s.nextQp = some q)
include hshut hq

theorem State.readEntry_next : (if s.pwr.shutdown.isSome then none else s.nextQp) = some q := by
  rw [hshut, hq]
  rfl

theorem State.readEntry_unreadable (hread : (s.memRead (s.sqPlace q) 128 false).1 = none) :
    s.readEntry kind f = (s.memRead (s.sqPlace q) 128 false).2.qpError q 5 (s.get (Reg.HDS_QP_STATUS_SQHEAD q)) := by
  unfold State.sqPlace at *
  unfold State.readEntry
  rw [State.readEntry_next hshut hq]
  dsimp only
  rw [hread]

theorem State.readEntry_other (hread : s.memRead (s.sqPlace q) 128 false = (some d, u)) (hkind : kind (parseEntry d).opc = false) :
    s.readEntry kind f = s := by
  unfold State.sqPlace at hread
  unfold State.readEntry
  rw [State.readEntry_next hshut hq]
  dsimp only
  rw [hread]
  dsimp only
  rw [hkind]
  rfl

theorem State.readEntry_of_kind (hread : s.memRead (s.sqPlace q) 128 false = (some d, u)) (hkind : kind (parseEntry d).opc = true) :
    s.readEntry kind f = f (entryRead q u) q s.hds.nextOrder (parseEntry d) := by
  obtain ⟨hhead, hsize, hhds⟩ := State.memRead_entry hread
  unfold State.sqPlace at hread
  unfold State.readEntry entryRead
  rw [State.readEntry_next hshut hq]
  dsimp only
  rw [hread]
  dsimp only
  rw [hkind, hhead, hsize, State.hds_set, hhds]
  rfl

end

/-- SQHEAD is past the entry that was read. -/
theorem State.head_entryRead (q : Nat) (u : State) :
    (entryRead q u).get (Reg.HDS_QP_STATUS_SQHEAD q)
      = (u.get (Reg.HDS_QP_STATUS_SQHEAD q) + 1) % u.sqSize q % 2 ^ (Reg.HDS_QP_STATUS_SQHEAD q).width := by
  have hset := u.get_set (Reg.HDS_QP_STATUS_SQHEAD q) ((u.get (Reg.HDS_QP_STATUS_SQHEAD q) + 1) % u.sqSize q) (by simp [Reg.HDS_QP_STATUS_SQHEAD])
  unfold entryRead
  generalize u.set (Reg.HDS_QP_STATUS_SQHEAD q) ((u.get (Reg.HDS_QP_STATUS_SQHEAD q) + 1) % u.sqSize q) = v at hset
  exact (((headKept_hds v _).trans (kept_countHds _ 0x001 1).head) q).trans hset

end

/-- The instructions that read an entry, the kinds they take, and what they do with it. -/
def entryRows : List (Instr × (Nat → Bool) × (State → Nat → Nat → SubEntry → State)) :=
  [(.newC, (fun o => o == 1 || o == 0 || decide (4 < o)), State.takeEntry), (.extend, (· == 2), State.takeEntry),
   (.cancel, (· == 3), State.cancelEntry), (.freeC, (· == 4), State.freeEntry)]

theorem entryRows_exec {c : Instr × (Nat → Bool) × (State → Nat → Nat → SubEntry → State)} (hc : c ∈ entryRows) :
    (∀ s, exec c.1 s = s.run fun s => s.readEntry c.2.1 c.2.2) ∧ ∀ s q order e, HeadKept s (c.2.2 s q order e) := by
  simp only [entryRows, List.mem_cons, List.not_mem_nil, or_false] at hc
  obtain rfl | rfl | rfl | rfl := hc
  · exact ⟨fun _ => rfl, headKept_takeEntry⟩
  · exact ⟨fun _ => rfl, headKept_takeEntry⟩
  · exact ⟨fun _ => rfl, headKept_cancelEntry⟩
  · exact ⟨fun _ => rfl, headKept_freeEntry⟩

end Sys2Proof.Machine
end

section
open Sys2Proof Sys2Proof.Machine

namespace Sys2Proof.Machine

/-! ### What NEW, EXTEND, CANCEL and FREE do with the entry they read (R197 to R201) -/

section
variable {s : State} {q : Nat} {c : Instr × (Nat → Bool) × (State → Nat → Nat → SubEntry → State)} {d : List Byte} {u : State}

theorem entryRows_exec_eq (hc : c ∈ entryRows) (hrun : s.running = true) : exec c.1 s = .next (s.keeping (s.readEntry c.2.1 c.2.2)) := by
  rw [(entryRows_exec hc).1, State.run_running _ _ hrun]

theorem State.keeping_self (s : State) : s.keeping s = s := Unreached.keeping ⟨rfl, rfl, rfl⟩

/-- Without an entry that may be read nothing happens. -/
theorem entryRows_idle (hc : c ∈ entryRows) (hrun : s.running = true) (h : s.nextQp = none ∨ s.pwr.shutdown.isSome = true) :
    exec c.1 s = .next s := by
  rw [entryRows_exec_eq hc hrun, State.readEntry_none h, State.keeping_self]

variable (hc : c ∈ entryRows) (hrun : s.running = true) (hshut : s.pwr.shutdown = none) (hq : s.nextQp = some q)
include hc hrun hshut hq

/-- An entry of the instruction's kind is carried out, and SQHEAD is past it. -/
theorem entryRows_takes (hread : s.memRead (s.sqPlace q) 128 false = (some d, u)) (hkind : c.2.1 (parseEntry d).opc = true) :
    ∃ t, exec c.1 s = .next t ∧ t = s.keeping (c.2.2 (entryRead q u) q s.hds.nextOrder (parseEntry d))
      ∧ t.get (Reg.HDS_QP_STATUS_SQHEAD q)
          = (s.get (Reg.HDS_QP_STATUS_SQHEAD q) + 1) % s.sqSize q % 2 ^ (Reg.HDS_QP_STATUS_SQHEAD q).width := by
  obtain ⟨hhead, hsize, -⟩ := State.memRead_entry hread
  have hkept := (entryRows_exec hc).2 (entryRead q u) q s.hds.nextOrder (parseEntry d)
  refine ⟨_, (entryRows_exec_eq hc hrun).trans (by rw [State.readEntry_of_kind hshut hq hread hkind]), rfl, ?_⟩
  rw [State.get_keeping, hkept q, State.head_entryRead, hhead, hsize]

theorem entryRows_leaves (hread : s.memRead (s.sqPlace q) 128 false = (some d, u)) (hkind : c.2.1 (parseEntry d).opc = false) :
    exec c.1 s = .next s := by
  rw [entryRows_exec_eq hc hrun, State.readEntry_other hshut hq hread hkind, State.keeping_self]

/-- An entry that cannot be read stops its queue pair, and stays. -/
theorem entryRows_unreadable (hread : (s.memRead (s.sqPlace q) 128 false).1 = none) :
    ∃ t, exec c.1 s = .next t ∧ t.flag (Reg.HDS_QP_STATUS_ERR q) = true ∧ t.get Reg.HDS_LASTERR_CODE = 5
      ∧ t.get (Reg.HDS_QP_STATUS_SQHEAD q) = s.get (Reg.HDS_QP_STATUS_SQHEAD q) ∧ MemSame (s.memRead (s.sqPlace q) 128 false).2 t := by
  have hexec := entryRows_exec_eq hc hrun
  have hkept := headKept_memRead s (s.sqPlace q) 128 false q
  have hstops := (s.memRead (s.sqPlace q) 128 false).2.qpError_stops q (s.get (Reg.HDS_QP_STATUS_SQHEAD q)) (code := 5) (by decide)
  rw [State.readEntry_unreadable hshut hq hread] at hexec
  generalize (s.memRead (s.sqPlace q) 128 false).2.qpError q 5 (s.get (Reg.HDS_QP_STATUS_SQHEAD q)) = t at hexec hstops
  obtain ⟨herr, hcode, hhead, hmem⟩ := hstops
  exact ⟨_, hexec, herr, hcode, hhead.trans hkept, hmem⟩

end

/-- A deferred entry that completes is off the list, and its completion is due. -/
theorem deferred_completes {s u : State} {k : Nat} (hu : u.hds = s.hds) (q order : Nat) (e : SubEntry) (code detail seq : Nat) :
    ∃ t y, (.next (s.keeping ((u.dropAt k).completeEntry q order e code detail seq)) : Out) = .next t ∧ t.hds.deferred = s.hds.deferred.eraseIdx k
      ∧ t.hds.due = s.hds.due ++ [y] ∧ y.code = code ∧ y.kind = 1 ∧ y.qp = q ∧ y.order = order ∧ t.hds.requests = s.hds.requests ∧ MemSame u t := by
  obtain ⟨hlist, hdue, hreqs, hmem⟩ := State.completeEntry_dropAt (k := k) hu q order e code detail seq
  have hentry : ((u.dropAt k).overEntry q order e code detail seq).code = code ∧ ((u.dropAt k).overEntry q order e code detail seq).kind = 1 ∧
      ((u.dropAt k).overEntry q order e code detail seq).qp = q ∧ ((u.dropAt k).overEntry q order e code detail seq).order = order := ⟨rfl, rfl, rfl, rfl⟩
  generalize (u.dropAt k).overEntry q order e code detail seq = y at hdue hentry
  generalize (u.dropAt k).completeEntry q order e code detail seq = t at hlist hdue hreqs hmem
  obtain ⟨hcode, hkind, hqp, horder⟩ := hentry
  exact ⟨s.keeping t, y, rfl, hlist, hdue, hcode, hkind, hqp, horder, hreqs, hmem⟩

end Sys2Proof.Machine

/-- Settles O35: an entry is read at SQHEAD, which every way of carrying it out keeps; what becomes of it is the judgement's verdict, and a deferred
entry is judged again. -/
theorem admissionOfEntries : Obligations.AdmissionOfEntries := by
  unfold Obligations.AdmissionOfEntries
  refine ⟨⟨?_, ?_, ?_⟩, ?_⟩
  · intro s q hrun hshut hq
    refine fun c hc => ⟨fun d u hread => ⟨entryRows_takes hc hrun hshut hq hread, entryRows_leaves hc hrun hshut hq hread⟩,
      entryRows_unreadable hc hrun hshut hq⟩
  · intro s hrun hidle c hc
    obtain ⟨r, hr, rfl⟩ := List.mem_map.1 (show c ∈ entryRows.map (·.1) from hc)
    exact entryRows_idle hr hrun hidle
  · intro s q order e
    have hjudged := reads_judge s q e
    refine ⟨fun off hoff => ?_, fun hgood => ⟨fun hv hroom => ?_, fun hv hfull => ?_, fun set prog hdr slot row prior blocks hv h hfree => ?_⟩,
      fun h => ?_, fun h => ?_, fun row h => ?_, fun hrun hwait => ?_, fun h => ?_⟩
    · rw [State.takeEntry_malformed hoff]
      exact ⟨_, s.due_completeEntry q order e _ _ _, rfl, rfl, rfl, rfl, rfl, s.requests_completeEntry q order e _ _ _,
        memSame_completeEntry s q order e _ _ _⟩
    · rw [State.takeEntry_judged hgood hv]
      obtain ⟨hlist, hdue, hmem, -⟩ := (s.judge q e).2.settle_defer_room q order e hroom
      rw [hlist, hdue, hjudged.hds]
      exact ⟨_, _, rfl, rfl, rfl, rfl, hjudged.mem.unreached.2.1, rfl, rfl, rfl, fun a => congrArg (smapGet memByte · a) hmem⟩
    · rw [State.takeEntry_judged hgood hv, State.settle_defer_eq, if_pos hfull, State.due_completeEntry, State.notAdmit_completeEntry, hjudged.hds,
        hjudged.kept _ (keptLoc_hds (by decide) (by decide))]
      exact ⟨_, rfl, rfl, rfl, rfl⟩
    · rw [State.takeEntry_judged hgood hv, State.settle_enter]
      rw [← hjudged.hds] at hfree
      obtain ⟨⟨r, hr, hsame⟩, hinst, hcount, -⟩ := State.enterEntry_spec (q := q) (order := order) (e := e) (d := set) (prog := prog) (hdr := hdr)
        (slot := slot) (row := row) (prior := prior) (blocks := blocks) hfree
      refine ⟨r, hr, ?_⟩
      rw [hsame, hcount, hjudged.kept _ (keptLoc_hds (by decide) (by decide))]
      refine ⟨rfl, rfl, rfl, rfl, rfl, rfl, rfl, rfl, rfl, rfl, rfl, fun hmode hnone => hinst hmode ?_, rfl⟩
      rw [← hnone]
      unfold State.inst
      rw [hjudged.hds]
    · rw [State.freeEntry_notHeld h, State.due_completeEntry, (reads_namedSlot s e.seq).hds]
      exact ⟨_, rfl, rfl, memSame_completeEntry _ q order e _ _ _⟩
    · rw [State.freeEntry_unreadable h, State.due_completeEntry, (reads_namedSlot s e.seq).hds]
      exact ⟨_, rfl, rfl⟩
    · rw [State.freeEntry_held h, State.due_completeEntry, due_freeSlot, (reads_namedSlot s e.seq).hds]
      exact ⟨_, rfl, rfl, rfl, State.mem_completeEntry _ q order e _ _ _⟩
    · rw [State.cancelEntry_of_none (State.tagged_eq_nil hrun hwait)]
      exact ⟨_, s.due_completeEntry q order e _ _ _, rfl, s.requests_completeEntry q order e _ _ _⟩
    · obtain ⟨x, hx, hhit⟩ := picks_firstRead.exists_of_foldl (State.tagged_ne_nil h)
      rw [State.cancelEntry_eq, hhit]
      exact State.due_cancelFirst hx
  · intro s hrun
    refine ⟨fun hnone => ?_, fun k hk d hd => ⟨?_, State.judge_nextDeferred hk hd⟩, fun k d hd htime => ⟨fun hends => ?_, fun hready hen => ?_⟩,
      fun k d hd htime => ?_, fun k d hd hset hpast => ?_, fun k d hd hnot => ?_⟩
    · rw [exec_deferredAdmission_none hrun hnone, State.keeping_self]
    · rw [exec_deferredAdmission_some hrun hk, State.settleDeferred_ready none hd (State.judge_nextDeferred hk hd), State.dropAt]
    · rw [exec_deferLimitExpiry_eq hrun hd, if_neg (Nat.not_lt.2 htime)]
      cases hen : s.flag Reg.HDS_CTL_ENABLE with
      | true =>
        rw [if_pos rfl, State.settleDeferred_waits 5 hd (hends.resolve_right (by rw [hen]; decide))]
        obtain ⟨t, y, ht, hlist, hdue, hcode, hkind, hqp, horder, hreqs, -⟩ := deferred_completes (s := s) (k := k.val) (reads_judge s d.qp d.entry).hds
          d.qp d.order d.entry 5 0 (((s.judge d.qp d.entry).2.dropAt k).endSeq d.entry)
        exact ⟨t, y, ht, hlist, hdue, hcode, hkind, hqp, horder, hreqs, fun h => by cases h⟩
      | false =>
        rw [if_neg Bool.false_ne_true]
        obtain ⟨t, y, ht, hlist, hdue, hcode, hkind, hqp, horder, hreqs, hmem⟩ := deferred_completes (s := s) (k := k.val) (u := s) rfl
          d.qp d.order d.entry 5 0 ((s.dropAt k).endSeq d.entry)
        exact ⟨t, y, ht, hlist, hdue, hcode, hkind, hqp, horder, hreqs, fun _ => hmem⟩
    · rw [exec_deferLimitExpiry_eq hrun hd, if_neg (Nat.not_lt.2 htime), if_pos hen, State.settleDeferred_ready (some 5) hd hready, State.dropAt,
        (reads_judge s d.qp d.entry).hds]
    · rw [exec_deferLimitExpiry_eq hrun hd, if_pos htime, State.keeping_self]
    · have hjudge := State.judge_late d.qp hset hpast
      rw [exec_deadlineExpiry_eq hrun hd, if_pos ⟨hset, hpast⟩, State.settleDeferred_ready (some 6) hd (by rw [hjudge]; exact fun h => by cases h), hjudge]
      obtain ⟨t, y, ht, hlist, hdue, hcode, hkind, hqp, horder, hreqs, hmem⟩ := deferred_completes (s := s) (k := k.val) (u := s) rfl
        d.qp d.order d.entry 6 0 ((s.dropAt k).endSeq d.entry)
      exact ⟨t, y, ht, hlist, hdue, hcode, hkind, hqp, horder, hmem, hreqs⟩
    · rw [exec_deadlineExpiry_eq hrun hd, if_neg (by omega), State.keeping_self]
end
